-- ==== Sys2Proof/Word.lean ====
section
/-! DEFINITION. The 18-bit word, the unit of memory and of every register (spec/00_scope.md R8, R9), and its plainest
arithmetic. -/

namespace Sys2Proof

/-- The 18-bit word. -/
abbrev Word := BitVec 18

/-- A byte of a serial frame, a flash structure or a lane (00 R8). -/
abbrev Byte := BitVec 8

/-- The word of a natural number, modulo 2^18. -/
def wordOf (n : Nat) : Word := BitVec.ofNat 18 n

/-- The word of an integer in two's complement (00 R9). -/
def wordOfInt (i : Int) : Word := BitVec.ofInt 18 i

end Sys2Proof
end

