-- ==== Sys2Proof/Syntax.lean ====
section
/-! DEFINITION. The commands of the block: `Instr`, one constructor per row of spec/opcode_table.json,
with the operands the row's rule names. A row that is a register write carries its writer and the word written; a row
that is an event of the part or of its surroundings carries what the surroundings decide (a measured count, a level, a
received byte). Units follow the spec: ports, streams, channels, ranks, cores, sessions and rings by number. -/

namespace Sys2Proof

/-- Who makes an access: a host session 0 to 7 (12 R394), a core VC0 to VC3 (01 R27), or the test access port, whose
debug access has the rights of a core (15 R521). -/
inductive Writer where
  | ses (s : Fin 8)
  | core (c : Fin 4)
  | tap
  deriving DecidableEq, Repr

/-- The requester of a Quire access (11 R376): a rank loading or storing a channel's context, a core, a host session,
or the Blotter. -/
inductive QReq where
  | rank (r : Fin 8) (c : Fin 512)
  | core (c : Fin 4)
  | host (s : Fin 8)
  | blotter
  deriving DecidableEq, Repr

/-- The first wrong read of a Blotter march (11 R384): the word of the region, its failing data bits and its failing
check bits. -/
structure MarchFail where
  word : Fin 64
  data : BitVec 18
  check : BitVec 6
  deriving DecidableEq, Repr

/-- How the flash answers a boot (15 R489, R497, R498): the time of the boot in ms, the parts whose reads end with TIMEOUT
(`UpdSt.mute` numbers them) and the record writes that do. -/
structure BootRun where
  ms : Word
  mute : BitVec 10
  bad : BitVec 4
  deriving DecidableEq, Repr

/-- The commands (see the module's comment). -/
inductive Instr where
  /-- REGISTER_WRITE (R16): A write to a register word that has no row of its own is checked in order and then applied whole or refused whole. -/
  | registerWrite (w : Writer) (a : BitVec 24) (v : Word)
  /-- PAGE_LOCK_TAKE (R37): A session writes LOCK.HELD = 1 while HELD = 0 and becomes OWNER of the page. -/
  | pageLockTake (w : Writer) (pg : BitVec 10)
  /-- PAGE_LOCK_RELEASE (R37): The holder or the supervisor writes LOCK.HELD = 0, and HELD and OWNER become 0. -/
  | pageLockRelease (w : Writer) (pg : BitVec 10)
  /-- FEED_ENABLE (R49): A write of FEEDn.CTRL.EN = 1 enables the port after the PRATE and clock-pair checks, leaving the lane OFF. -/
  | feedEnable (w : Writer) (p : Fin 8) (v : Word)
  /-- FEED_DISABLE (R58): A write of FEEDn.CTRL.EN = 0 sends the lane to OFF, refused while an enabled stream maps the port. -/
  | feedDisable (w : Writer) (p : Fin 8) (v : Word)
  /-- LANE_TRAIN (R55): A write of CTRL.TRAIN = 1 starts lane training from WAITCLK and starts the TTMO timer. -/
  | laneTrain (w : Writer) (p : Fin 8) (v : Word)
  /-- WAITCLK_COUNT_DONE (R55): After 8192 port-clock cycles the measured period is checked against the implied clock, giving SWEEP or FAIL with CONFIG. -/
  | waitclkCountDone (p : Fin 8) (inTol : Bool)
  /-- WAITCLK_GAP (R55): A gap of 2 µs without a clock edge in WAITCLK restarts the period count from 0. -/
  | waitclkGap (p : Fin 8)
  /-- SWEEP_DONE (R55): After the 64 delay steps are tested, DSTEP is chosen and the lane goes to ALIGN, or to FAIL with TIMEOUT when the longest run is under 8. -/
  | sweepDone (p : Fin 8) (ok : BitVec 64)
  /-- ALIGN_DONE (R55): After 64 matching words WROT is set and the 1024-word confirmation begins. -/
  | alignDone (p : Fin 8)
  /-- TRAIN_CONFIRM_DONE (R55): After 1024 consecutive correct words the lane enters LOCKED, raises LOCK and stops the timer. -/
  | trainConfirmDone (p : Fin 8)
  /-- TRAIN_TIMEOUT (R56): When LOCKED is not reached within TTMO ms of TRAIN, the lane goes to FAIL, ERR records TIMEOUT and TFAIL is raised. -/
  | trainTimeout (p : Fin 8)
  /-- LANE_GO (R57): A write of CTRL.GO = 1 in LOCKED arms the switch to data. -/
  | laneGo (w : Writer) (p : Fin 8) (v : Word)
  /-- LANE_WORD (R57): A lane word arrives; it is tested during training, switches an armed LOCKED lane to DATA, or carries samples into the conditioning chain. -/
  | laneWord (p : Fin 8) (b : BitVec 8)
  /-- CLOCK_LOSS (R58): No port-clock edge for 2 µs sends both ports of the pair to DOWN and raises CLKLOSS. -/
  | clockLoss (m : Fin 4)
  /-- NOTCH_ADAPT (R65): Every 2^UDIV samples an adapting notch evaluates g and steps θ by sign(g)·2^STEP. -/
  | notchAdapt (p : Fin 8) (k : Fin 4)
  /-- BLANKER_LIMIT (R68): When the blanked count in a frame reaches the duty limit, blanking stops for the frame, BLKS.SAT is set and BLKSAT is raised. -/
  | blankerLimit (p : Fin 8)
  /-- SUBSTREAM_FREQ_WRITE (R70): A write of FRLs stages F together with the held FRHs for the next frame boundary. -/
  | substreamFreqWrite (w : Writer) (p : Fin 8) (sub : Fin 2) (v : Word)
  /-- CLOCK_GATE_END (R59): At the end of a gate of CKGATE × 1024 reference cycles the edge count is placed in CKHm and CKLm. -/
  | clockGateEnd (m : Fin 4) (count : BitVec 36)
  /-- STREAM_ENABLE (R75): A write of SMAPn.EN = 1 enables a stream after the duplicate and Feed buffer budget checks. -/
  | streamEnable (w : Writer) (n : Fin 16) (v : Word)
  /-- STREAM_DISABLE (R79): A write of SMAPn.EN = 0 disables a stream unless a channel or capture holds it; VALID becomes 0 and SVCHG is raised. -/
  | streamDisable (w : Writer) (n : Fin 16) (v : Word)
  /-- SPECTRUM_RECORD_TICK (R81): At each RATE tick a spectrum monitor that has completed AVG blocks writes a record to its ring or drops it. -/
  | spectrumRecordTick (m : Fin 8) (blocksDone : Bool) (t0 : BitVec 16)
  /-- AGC_UPDATE (R85): Every UPD × 0.25 ms the AUTO AGC loop compares AOCC with its target and adjusts DUTY, raising AGCLIM when clamped. -/
  | agcUpdate (p : Fin 8)
  /-- RFSPI_TRANSFER (R86): A write of ROUTE.CTRL.RFGO = 1 asserts the chip select and starts one RF SPI transfer. -/
  | rfspiTransfer (w : Writer) (v : Word)
  /-- RFSPI_READY (R86): RFSPI_DI goes high while the master waits for ready, and shifting begins. -/
  | rfspiReady
  /-- RFSPI_READY_TIMEOUT (R86): When RFSPI_DI is not high within RFRDY.TMO µs, the chip select is released, RFTMO is raised and TIMEOUT is recorded. -/
  | rfspiReadyTimeout
  /-- RFSPI_DONE (R86): At the end of shifting the chip select is released, RFBUSY clears and RFDONE is raised. -/
  | rfspiDone (rx : BitVec 64)
  /-- PROGRAM_VALIDATE (R101): A write of PCTL.VALID = 1 validates an LFSR program after its consistency checks. -/
  | programValidate (w : Writer) (p : Fin 32) (v : Word)
  /-- PROGRAM_INVALIDATE (R101): A write of PCTL.VALID = 0 invalidates a program unless its use count is above 0. -/
  | programInvalidate (w : Writer) (p : Fin 32) (v : Word)
  /-- REGION_VALIDATE (R104): A write of RCTL.VALID = 1 validates a region descriptor after its checks. -/
  | regionValidate (w : Writer) (r : Fin 64) (v : Word)
  /-- REGION_INVALIDATE (R104): A write of RCTL.VALID = 0 invalidates a descriptor unless its use count is above 0. -/
  | regionInvalidate (w : Writer) (r : Fin 64) (v : Word)
  /-- EXEMPLAR_WRITE (R105): A host or core write into Exemplar memory is checked for in-use coverage and parity, and refusals are recorded with BADH and BADL. -/
  | exemplarWrite (w : Writer) (o : BitVec 19) (v : Word)
  /-- RETARGET (R110): A write of CTRL.RETGO = 1 starts switching every selector that names OLD over to NEW. -/
  | retarget (w : Writer) (v : Word)
  /-- TMBL_WRITE (R113): A write of TMBL applies the TMBOC mask together with the held TMBH. -/
  | tmblWrite (w : Writer) (v : Word)
  /-- CONTEXT_WRITE (R126): A write to a channel context word is checked against its access class and the channel state. -/
  | contextWrite (w : Writer) (viaQuire : Bool) (c : Fin 512) (k : Fin 64) (v : Word)
  /-- CHANNEL_ADMIT (R120): A write of CHc.CTRL.ADM passes the admission checks, sets APEND and queues a request to the Ductus. -/
  | channelAdmit (w : Writer) (c : Fin 512)
  /-- ADMISSION_DECISION (R163): The Ductus takes the next queued request, repeats the checks, selects a rank and offset and admits or refuses the channel. -/
  | admissionDecision
  /-- CHANNEL_DISABLE (R121): A write of CHc.CTRL.DIS is accepted and the channel becomes OFF at the next frame boundary. -/
  | channelDisable (w : Writer) (c : Fin 512)
  /-- CHANNEL_TRACK (R118): A write of CTRL.TRK moves a channel from SEARCHING-HANDOFF to TRACKING and raises CHTRK. -/
  | channelTrack (w : Writer) (c : Fin 512)
  /-- CHANNEL_DROP (R118): A write of CTRL.DROP moves a channel from TRACKING to SEARCHING-HANDOFF and raises CHHOF. -/
  | channelDrop (w : Writer) (c : Fin 512)
  /-- PHASE_SET_ARM (R134): A write of SCTL.GO = 1 arms a phase set from the staging words and sets SPEND. -/
  | phaseSetArm (w : Writer) (c : Fin 512) (v : Word)
  /-- UPDATE_COMMIT (R135): A write of UCTL with SEL bits commits an NCO update, classified on time or LATE by its acceptance time. -/
  | updateCommit (w : Writer) (c : Fin 512) (v : Word)
  /-- FRAME_BOUNDARY (R155): Every 400000 NPLL cycles a Ductus frame boundary falls, FNUM advances and the boundary actions of all units take place. -/
  | frameBoundary (stamps : List (BitVec 64))
  /-- RANK_SLOT (R158): A rank begins a slot and correlates one band of the channel's previous-frame samples. -/
  | rankSlot (r : Fin 8) (slot : Fin 3125)
  /-- WINDOW_WRITE (R172): A write of DUCT.WIN stages a new closure window pending the next frame boundary. -/
  | windowWrite (w : Writer) (v : Word)
  /-- RANK_DISABLE (R174): A write of RANKn.CTRL.EN = 0 puts an ENABLED rank in DRAINING, or an ENABLING rank back to DISABLED. -/
  | rankDisable (w : Writer) (r : Fin 8) (v : Word)
  /-- RANK_ENABLE (R176): A write of RANKn.CTRL.EN = 1 to a DISABLED rank sets ENABLING. -/
  | rankEnable (w : Writer) (r : Fin 8) (v : Word)
  /-- INKWELL_WRITE (R183): A host or core write to an Inkwell word is refused while a capture or running job holds it. -/
  | inkwellWrite (w : Writer) (o : BitVec 22) (v : Word)
  /-- CAPTURE_GO (R185): A write of INKW.CTRL.GOe = 1 arms capture engine e and invalidates overlapped descriptions. -/
  | captureGo (w : Writer) (e : Fin 2) (v : Word)
  /-- CAPTURE_STOP (R188): A write of STOPe = 1 ends a running capture at the next word or returns an ARMED engine to IDLE. -/
  | captureStop (w : Writer) (e : Fin 2) (v : Word)
  /-- CAPTURE_DONE (R188): After LEN words, or at a stop's word boundary, the engine enters DONE or STOPPED, writes its description and raises CDONE. -/
  | captureDone (e : Fin 2)
  /-- JOB_RING_CONFIG (R196): A write of SCRP.JRk connects a job ring to a result ring at a priority, with consumer and producer checks. -/
  | jobRingConfig (w : Writer) (k : Fin 8) (v : Word)
  /-- JOB_START (R197): The Scriptorium starts the chosen head job on a free pipeline, reads its descriptor and checks it. -/
  | jobStart
  /-- JOB_EXTRACTION_DONE (R198): After the last block the pipeline finishes extraction of the peaks and looks for record room. -/
  | jobExtractionDone (pipe : Fin 2)
  /-- JOB_COMMIT (R206): The Scriptorium finds room for the whole result record, reserves it and writes the COMPLETE record. -/
  | jobCommit (pipe : Fin 2)
  /-- RECORD_ROOM_TIMEOUT (R206): A record that finds no room within RTMO ms is dropped and the job ends FAILED with TIMEOUT. -/
  | recordRoomTimeout (pipe : Fin 2)
  /-- JOB_ABORT (R205): A write of CTRL.ABGO = 1 starts an abort scan of the selected JR entry. -/
  | jobAbort (w : Writer) (v : Word)
  /-- ABORT_SCAN_DONE (R205): At the end of the abort scan ABSTAT reports the count, and ABORT_LATE is recorded when none was aborted. -/
  | abortScanDone
  /-- JOB_ABORT_STOP (R205): A running aborted job stops at the end of its step and ends ABORTED. -/
  | jobAbortStop (pipe : Fin 2)
  /-- HANDOFF (R208): A write of CTRL.HOGO = 1 hands a peak to a channel, computing FC, FK and a phase set. -/
  | handoff (w : Writer) (v : Word)
  /-- CACHE_WRITE (R204): A write of SCRP.CACHE resizes and invalidates the code-spectrum cache. -/
  | cacheWrite (w : Writer) (v : Word)
  /-- WORKING_RAM_WRITE (R204): A host or core write to Scriptorium working RAM, refused while a pipeline is busy, invalidates the cache. -/
  | workingRamWrite (w : Writer) (o : BitVec 20) (v : Word)
  /-- RXT_WRAP (R217): RXT wraps modulo 2^48 ns, WRAPC adds 1 and WRAP is raised. -/
  | rxtWrap
  /-- RXT_SECOND (R420): At each RXT that is a multiple of 10^9 ns TICK.SEC is set. -/
  | rxtSecond
  /-- RXT_CAPTURE (R218): A write of TIME.CTRL.CAPT = 1 copies the current RXT into RXTC. -/
  | rxtCapture (w : Writer) (v : Word)
  /-- TDISC_CLEAR (R219): A write of TDCLR = 1 while TLOCK = 1 clears TDISC. -/
  | tdiscClear (w : Writer) (v : Word)
  /-- REBUILT_CLEAR (R245): A write of RBCLR = 1 clears STAT.REBUILT. -/
  | rebuiltClear (w : Writer) (v : Word)
  /-- MAP_GO (R221): A write of CTRL.MAPGO = 1 sets MAPPEND for the staged system time map. -/
  | mapGo (w : Writer) (v : Word)
  /-- MAP_APPLY (R221): At the first whole millisecond at least 10 µs after MAPGO, the staged map is put in force and MAPAPL is raised. -/
  | mapApply
  /-- PERIODIC_ENABLE (R223): A write of MEAS.CTRL.PEN = 1 starts periodic latch epochs after its checks. -/
  | periodicEnable (w : Writer) (v : Word)
  /-- PERIODIC_EPOCH (R223): A periodic latch instant falls and, when accepted, starts a latch and sets TICK.EPOCH. -/
  | periodicEpoch
  /-- SNAP (R223): A write of MEAS.CTRL.SNAP = 1 starts a command latch at the cycle of acceptance. -/
  | snap (w : Writer) (v : Word)
  /-- LATCH_COMMIT (R229): The latch record of all running channels is committed to LRING, LSEQ adds 1, LAST is set and LDONE is raised. -/
  | latchCommit
  /-- TP_APPLY (R235): A write of TP.CTRL.APPLYn = 1 takes the staged settings and sets APENDn. -/
  | tpApply (w : Writer) (n : Fin 4) (v : Word)
  /-- TP_APPLY_TAKE_EFFECT (R235): At T_sw, 10 µs after APPLY, the new settings govern the output and APENDn returns to 0. -/
  | tpApplyTakeEffect (n : Fin 4)
  /-- TP_ACTIVE_EDGE (R234): An active edge of a time pulse falls, LASTn is written and TPEDGEn is raised. -/
  | tpActiveEdge (n : Fin 4)
  /-- TP_INACTIVE_EDGE (R234): WIDTH after the active edge the pulse ends at its inactive level. -/
  | tpInactiveEdge (n : Fin 4)
  /-- HAIRLINE_CALIBRATE (R238): A write of CTRL.HCGO = 1 starts a Hairline calibration run. -/
  | hairlineCalibrate (w : Writer) (v : Word)
  /-- HAIRLINE_CAL_DONE (R238): The calibration run writes all four HTAB tables, clears HCBUSY and raises HCDONE. -/
  | hairlineCalDone (taps : List (BitVec 13))
  /-- EVENT_EDGE (R240): A selected edge on EVn is timestamped, writes ELASTn, raises EVEDGEn and enters the FIFO or is lost. -/
  | eventEdge (n : Fin 8) (rising : Bool) (tap : Fin 40)
  /-- EVENT_FIFO_MOVE (R240): The event unit moves a FIFO entry to ring ERING as a six-word record. -/
  | eventFifoMove
  /-- RTC_CAL_GO (R243): A write of CTRL.RCGO = 1 starts counting RCN RTC ticks against RXT. -/
  | rtcCalGo (w : Writer) (v : Word)
  /-- RTC_CAL_DONE (R243): After RCN ticks the span is written to RCSPAN, RCBUSY clears and CALDONE is raised. -/
  | rtcCalDone (span : BitVec 54)
  /-- CALPL_WRITE (R243): A write of CALPL applies CALP together with the held CALPH. -/
  | calplWrite (w : Writer) (v : Word)
  /-- RCPL_WRITE (R243): A write of RCPL applies RCP together with the held RCPH. -/
  | rcplWrite (w : Writer) (v : Word)
  /-- RXT_REBUILD (R245): At the first RTC tick after TPLL lock at wake, RXT is rebuilt from the tick counts, WRAPC, UNC and REBUILT are set and REBUILD is raised. -/
  | rxtRebuild
  /-- BUNDLE_ISSUE (R268): A Vemel core issues one bundle of 1 to 6 syllables, whose syllables all read their sources at issue. -/
  | bundleIssue (c : Fin 4)
  /-- INTERRUPT_ENTRY (R285): At a boundary with an eligible level and IE = 1 the core drains, saves PC and SR and vectors to the handler. -/
  | interruptEntry (c : Fin 4)
  /-- IDLE_WAKE (R288): A core waiting in IDLE with IE = 0 resumes issue when a level becomes eligible. -/
  | idleWake (c : Fin 4)
  /-- TRAP_ENTRY (R291): An illegal instruction, fetch error, divide by zero or software trap drains and enters its vector, saving TRA and TSR. -/
  | trapEntry (c : Fin 4)
  /-- CORE_RESET (R298): A write of CORE.CTRL.CRST = 1 resets the core registers, PC and reservation. -/
  | coreReset (w : Writer) (c : Fin 4) (v : Word)
  /-- CORE_RESET_DONE (R298): After 16 cycles the core enters RUNNING at vector 0 or HALTED. -/
  | coreResetDone (c : Fin 4)
  /-- CORE_RUN (R299): A write of RUN = 1 while HALTED resumes issue at PC. -/
  | coreRun (w : Writer) (c : Fin 4) (v : Word)
  /-- CORE_HALT (R299): A write of RUN = 0 halts the core at the next boundary after a drain and raises HALTD. -/
  | coreHalt (w : Writer) (c : Fin 4) (v : Word)
  /-- CORE_STEP (R299): A write of CTRL.STEP = 1 in HALTED issues one bundle, drains and halts. -/
  | coreStep (w : Writer) (c : Fin 4) (v : Word)
  /-- BREAKPOINT_HALT (R300): The core reaches the bundle at BRKPT.ADDR with BPEN = 1, halts before it and raises BRK. -/
  | breakpointHalt (c : Fin 4)
  /-- CORE_REGISTER_WRITE (R302): A write of RDAT2 in HALTED or DHALT writes the selected register from the held words. -/
  | coreRegisterWrite (w : Writer) (c : Fin 4) (v : Word)
  /-- CORE_PC_WRITE (R302): A write of CORE.PC in HALTED sets the next bundle address. -/
  | corePcWrite (w : Writer) (c : Fin 4) (v : Word)
  /-- SWEV_SET (R304): A write of CORE.SWEV.SET raises the core page event SWEV. -/
  | swevSet (w : Writer) (c : Fin 4)
  /-- RUBRIC_MICROWORD_WRITE (R334): A write of UDL writes the microword at UADR from UDH and UDL and advances UADR. -/
  | rubricMicrowordWrite (w : Writer) (v : Word)
  /-- RUBRIC_ENTRY_WRITE (R334): A write of DENTc_e sets a Rubric decode entry after its checks and sets WR. -/
  | rubricEntryWrite (w : Writer) (c : Fin 4) (e : Fin 16) (v : Word)
  /-- QUIESCE_REQUEST (R335): A write of QREQc = 1 stops issue of bundles holding X3 syllables on core c. -/
  | quiesceRequest (w : Writer) (c : Fin 4) (v : Word)
  /-- QUIESCE_DONE (R335): When the Rubric unit finishes its last microword, QDONEc becomes 1 and QDc is raised. -/
  | quiesceDone (c : Fin 4)
  /-- QUIESCE_RELEASE (R335): A write of QREQc = 0 clears QDONEc and lets waiting bundles issue. -/
  | quiesceRelease (w : Writer) (c : Fin 4) (v : Word)
  /-- L_NOP (R345): L-mode no operation. -/
  | lNop
  /-- L_RET (R345): L-mode return to RA. -/
  | lRet
  /-- L_RTI (R345): L-mode return from interrupt. -/
  | lRti
  /-- L_IDLE (R345): L-mode wait for an eligible level. -/
  | lIdle
  /-- L_EI (R345): L-mode sets SR.IE. -/
  | lEi
  /-- L_DI (R345): L-mode clears SR.IE. -/
  | lDi
  /-- L_REGISTER_OPERATION (R345): L-mode LR instruction performs the X1 operation selected by FN on D0–D7. -/
  | lRegisterOperation
  /-- L_ADDI (R345): L-mode add immediate. -/
  | lAddi
  /-- L_LDI (R345): L-mode load immediate. -/
  | lLdi
  /-- L_CMPI (R345): L-mode compare immediate. -/
  | lCmpi
  /-- L_SHLI (R345): L-mode logical left shift by CNT. -/
  | lShli
  /-- L_SHRI (R345): L-mode logical right shift by CNT. -/
  | lShri
  /-- L_ASRI (R345): L-mode arithmetic right shift by CNT. -/
  | lAsri
  /-- L_LDW (R345): L-mode direct load through the DX-18 bank map. -/
  | lLdw
  /-- L_STW (R345): L-mode direct store through the DX-18 bank map. -/
  | lStw
  /-- L_LDP (R345): L-mode pointer load. -/
  | lLdp
  /-- L_STP (R345): L-mode pointer store. -/
  | lStp
  /-- L_LPI (R345): L-mode loads a pointer with a 16-bit offset. -/
  | lLpi
  /-- L_LAP (R345): L-mode adds an immediate to a pointer modulo 2^16. -/
  | lLap
  /-- L_MPY (R345): L-mode multiply into an accumulator. -/
  | lMpy
  /-- L_MAC (R345): L-mode multiply-accumulate. -/
  | lMac
  /-- L_MSU (R345): L-mode multiply-subtract. -/
  | lMsu
  /-- L_EXT (R345): L-mode accumulator extraction. -/
  | lExt
  /-- L_EXH (R345): L-mode accumulator high part to D. -/
  | lExh
  /-- L_LDH (R345): L-mode load accumulator high part. -/
  | lLdh
  /-- L_CLRA (R345): L-mode clear accumulator. -/
  | lClra
  /-- L_MOVA (R345): L-mode copy the other accumulator. -/
  | lMova
  /-- L_ADDA (R345): L-mode add the other accumulator. -/
  | lAdda
  /-- L_NEGA (R345): L-mode negate the accumulator. -/
  | lNega
  /-- L_B (R345): L-mode relative conditional branch. -/
  | lB
  /-- L_JMP (R345): L-mode absolute jump. -/
  | lJmp
  /-- L_CALL (R345): L-mode absolute call writing RA. -/
  | lCall
  /-- L_MFL (R345): L-mode move from an L-mode register to D. -/
  | lMfl
  /-- L_MTL (R345): L-mode move from D to an L-mode register. -/
  | lMtl
  /-- L_ILLEGAL_HALT (R346): An illegal L-mode instruction or fetch error halts VC0 without issue and raises TRAP, ILLOP and the window ERR. -/
  | lIllegalHalt
  /-- LEGACY_DSP_RUN (R353): A write of LCTL.DRUN runs or halts VC0 in L-mode. -/
  | legacyDspRun (w : Writer) (v : Word)
  /-- LEGACY_DSP_RESET (R353): A write of LCTL.DRST resets VC0. -/
  | legacyDspReset (w : Writer) (v : Word)
  /-- LEGACY_FIFO_CLEAR (R358): A write of LCTL.FCLR discards every waiting legacy dump record. -/
  | legacyFifoClear (w : Writer) (v : Word)
  /-- LEGACY_POWER_DOWN (R363): A write of LPWR.SLP = 1 commands SLEEP with the personality's settings. -/
  | legacyPowerDown (w : Writer) (v : Word)
  /-- LEGACY_SNAP (R359): A write of LSNAP.GO is a command latch trigger with SRC = 3. -/
  | legacySnap (w : Writer) (v : Word)
  /-- LEGACY_MAILBOX_HOST_WRITE (R353): A host write of LMBH sets MBH and HOSTM. -/
  | legacyMailboxHostWrite (q : Fin 8) (v : Word)
  /-- LEGACY_MAILBOX_DSP_READ (R353): A VC0 read of LMBH clears MBH. -/
  | legacyMailboxDspRead
  /-- LEGACY_MAILBOX_DSP_WRITE (R353): A VC0 write of LMBD sets MBD and DSPM. -/
  | legacyMailboxDspWrite (v : Word)
  /-- LEGACY_MAILBOX_HOST_READ (R353): A host read of LMBD clears MBD. -/
  | legacyMailboxHostRead (q : Fin 8)
  /-- LEGACY_MEMORY_ADDRESS_WRITE (R354): A write of LMAH or LMAL sets the memory port address and starts a read-ahead. -/
  | legacyMemoryAddressWrite (w : Writer) (low : Bool) (v : Word)
  /-- LEGACY_READAHEAD_COMPLETE (R354): The one-word read-ahead of the memory port completes. -/
  | legacyReadaheadComplete
  /-- LEGACY_MEMORY_PORT_READ (R354): A fresh read of LMDAT returns the word and advances OFS. -/
  | legacyMemoryPortRead (q : Fin 8)
  /-- LEGACY_MEMORY_PORT_WRITE (R354): A write of LMDAT posts a store and advances OFS. -/
  | legacyMemoryPortWrite (w : Writer) (v : Word)
  /-- LEGACY_DUMP_FIFO_READ (R358): A fresh read of LDFIFO returns the next word of the DX-18 dump record and advances past a finished record. -/
  | legacyDumpFifoRead (q : Fin 8)
  /-- LEGACY_SAMPLE_ENABLE (R360): A write of LSCTL.EN = 1 configures FEED0 and SMAP0 for DXR and starts training. -/
  | legacySampleEnable (w : Writer) (v : Word)
  /-- LEGACY_CHANNEL_ENABLE (R356): A write of LCCTL.EN = 1 writes the channel context, requests admission and arms a phase set. -/
  | legacyChannelEnable (w : Writer) (c : Fin 48) (v : Word)
  /-- LEGACY_CHANNEL_DISABLE (R356): A write of LCCTL.EN = 0 writes DIS to the channel. -/
  | legacyChannelDisable (w : Writer) (c : Fin 48) (v : Word)
  /-- LEGACY_CARRIER_WRITE (R357): A write of LCARL applies the carrier word, staging or committing an update. -/
  | legacyCarrierWrite (w : Writer) (c : Fin 48) (v : Word)
  /-- LEGACY_CODE_WRITE (R357): A write of LCODL applies the code word after its range check, staging or committing an update. -/
  | legacyCodeWrite (w : Writer) (c : Fin 48) (v : Word)
  /-- LEGACY_CODE_SET (R356): A write of LCSET while EN = 1 arms a phase set. -/
  | legacyCodeSet (w : Writer) (c : Fin 48) (v : Word)
  /-- LEGACY_UART_WRITE (R361): A write of LUDAT loads a character to send on a legacy UART. -/
  | legacyUartWrite (w : Writer) (u : Fin 2) (v : Word)
  /-- LEGACY_UART_READ (R361): A fresh read of LUDAT returns and removes the held character. -/
  | legacyUartRead (q : Fin 8) (u : Fin 2)
  /-- LEGACY_TP_APPLY (R362): A write of LTPCTL applies TP0 from the legacy pulse words. -/
  | legacyTpApply (w : Writer) (v : Word)
  /-- LTPOFL_WRITE (R362): A write of LTPOFL applies the legacy offset together with the held LTPOFH. -/
  | ltpoflWrite (w : Writer) (v : Word)
  /-- ECC_WRITEBACK (R370): A memory writes back a corrected word in its next free cycle unless a write has overtaken it. -/
  | eccWriteback
  /-- QUIRE_ACCESS_TIMEOUT (R376): A Quire access not completed within QTMO cycles ends with TIMEOUT, recorded in QTMOR and QTMOA. -/
  | quireAccessTimeout (q : QReq) (o : BitVec 15)
  /-- BLOTTER_BORROW (R380): After GAP the Blotter borrows the next eligible 64-word region, saves it and starts its march. -/
  | blotterBorrow
  /-- BLOTTER_BORROW_DONE (R380): The march completes, the region is written back and the sweep advances, counting SWCNT at its end. -/
  | blotterBorrowDone (fail : Option MarchFail)
  /-- BLOTTER_ABORT (R383): An access or other cause aborts a borrow and starts the restore from the shadow. -/
  | blotterAbort
  /-- BLOTTER_RESTORE_DONE (R383): The restore ends, waiting accesses proceed, ABTC adds 1 and BABT is raised. -/
  | blotterRestoreDone
  /-- BLOTTER_RESTART (R379): A write of BLOT.CTRL.RESTART = 1 aborts any borrow and begins a new sweep. -/
  | blotterRestart (w : Writer) (v : Word)
  /-- EXCLUSION_APPLY (R382): A write of XCTL applies the held range bounds and enable to the selected exclusion range. -/
  | exclusionApply (w : Writer) (v : Word)
  /-- LOST_ACKNOWLEDGE (R388): A write of 1 to a bank's LOST bit acknowledges it and restores normal access. -/
  | lostAcknowledge (w : Writer) (high : Bool) (v : Word)
  /-- HOST_BUS_READ (R401): A host read cycle on the parallel bus is answered from the shadow or read-ahead window with an HTAG. -/
  | hostBusRead (cs0 : Bool) (cs1 : Bool) (wrLow : Bool) (a : BitVec 24)
  /-- HOST_BUS_WRITE (R400): A host write cycle latched at the rising strobe is placed in the session's posting buffer. -/
  | hostBusWrite (cs0 : Bool) (cs1 : Bool) (rdLow : Bool) (a : BitVec 24) (v : Word)
  /-- POSTED_WRITE_PERFORM (R405): The write at the head of a session's posting buffer is performed and checked. -/
  | postedWritePerform (q : Fin 8)
  /-- SHADOW_REFILL (R403): After a home domain reaches PSTATE 2 the device refills the shadow of its pages. -/
  | shadowRefill (d : Fin 16)
  /-- READAHEAD_POINTER_WRITE (R404): A write of RAPL applies the window pointer and starts a prefetch of 64 words. -/
  | readaheadPointerWrite (q : Fin 8) (v : Word)
  /-- PREFETCH_COMPLETE (R404): The prefetch has fetched all 64 window words. -/
  | prefetchComplete (q : Fin 8)
  /-- PREFETCH_TIMEOUT (R404): Words still unfetched RATMO µs after the start end the prefetch with TMO and TIMEOUT. -/
  | prefetchTimeout (q : Fin 8) (got : Fin 64)
  /-- SPI_READ_FRAME (R406): An SPI frame with OP 0 reads NW words and returns them with HTAG. -/
  | spiReadFrame (n : Fin 2) (a : BitVec 24) (nw : Fin 64)
  /-- SPI_WRITE_FRAME (R406): An SPI frame with OP 1 posts NW words, after a CRC match when CRCEN = 1. -/
  | spiWriteFrame (n : Fin 2) (a : BitVec 24) (ws : List (BitVec 24)) (crc : BitVec 16)
  /-- SPI_STATUS_FRAME (R406): An SPI frame with OP 2 returns the status byte and performs no access. -/
  | spiStatusFrame (n : Fin 2)
  /-- SPI_OP_REFUSED (R406): An SPI frame with OP 3 is refused with RANGE. -/
  | spiOpRefused (n : Fin 2)
  /-- SPI_PARTIAL_FRAME (R407): A frame ending inside a byte or word discards the incomplete word, adds to FERRC and raises FERRn. -/
  | spiPartialFrame (n : Fin 2) (write : Bool) (a : BitVec 24) (ws : List Word)
  /-- SPI_CLOCK_IDLE_TIMEOUT (R407): SPIn_CK idle for STMO µs with CS low ends the frame as partial and records TIMEOUT. -/
  | spiClockIdleTimeout (n : Fin 2) (write : Bool) (a : BitVec 24) (ws : List Word)
  /-- ILUHI_READ (R412): An Iluhi READ frame reads NW words and is answered with a READ response. -/
  | iluhiRead (l : Fin 4) (seq : BitVec 8) (payload : List (BitVec 8))
  /-- ILUHI_WRITE (R412): An Iluhi WRITE frame posts NW words and is answered with the first refusal code or 0. -/
  | iluhiWrite (l : Fin 4) (seq : BitVec 8) (payload : List (BitVec 8))
  /-- ILUHI_PING (R412): An Iluhi PING frame is answered with the session number and status byte. -/
  | iluhiPing (l : Fin 4) (seq : BitVec 8) (payload : List (BitVec 8))
  /-- ILUHI_UNKNOWN_TYPE (R412): A frame of an unknown TYPE or wrong length is answered with ERROR, code RANGE. -/
  | iluhiUnknownType (l : Fin 4) (typ : BitVec 8) (seq : BitVec 8) (payload : List (BitVec 8))
  /-- ILUHI_FRAME_DISCARD (R409): A frame with character errors, bad length or bad FCS is discarded and ILCRC adds 1. -/
  | iluhiFrameDiscard (l : Fin 4)
  /-- ILUHI_GAP_TIMEOUT (R409): A gap of LTMO ms between bytes discards the frame in progress. -/
  | iluhiGapTimeout (l : Fin 4)
  /-- ILUHI_PUSH (R414): With the transmitter idle the link sends up to 64 words of the event or delivery ring as a push frame. -/
  | iluhiPush (l : Fin 4)
  /-- ILUHI_PUSH_SENT (R414): When the push frame's closing flag is sent, CIDX moves past its words. -/
  | iluhiPushSent (l : Fin 4)
  /-- SESSION_ENABLE (R408): A write of SESn.SCTL.EN enables a serial session after format and drain checks, or ends it. -/
  | sessionEnable (w : Writer) (q : Fin 8) (v : Word)
  /-- PERMISSION_MASK_WRITE (R396): The supervisor writes the PMASK of another session. -/
  | permissionMaskWrite (w : Writer) (q : Fin 8) (v : Word)
  /-- DOORBELL_SET (R399): A write of DBSET sets the same bits in DBELL. -/
  | doorbellSet (w : Writer) (q : Fin 8) (v : Word)
  /-- RING_CONFIG (R417): A write of RCFG enables, configures or reassigns a ring, resetting indices on enable. -/
  | ringConfig (w : Writer) (r : Fin 64) (v : Word)
  /-- RING_INDEX_WRITE (R418): The assigned producer or consumer moves PIDX or CIDX within the fill limits. -/
  | ringIndexWrite (w : Writer) (r : Fin 64) (prod : Bool) (v : Word)
  /-- SWSET_WRITE (R420): A write of SWSETL or SWSETH sets software event bits. -/
  | swsetWrite (w : Writer) (high : Bool) (v : Word)
  /-- TIMER_LOAD (R421): A write of TMCFGk with EN = 1 loads timer k with TMPERk. -/
  | timerLoad (w : Writer) (k : Fin 6) (v : Word)
  /-- TIMER_EXPIRY (R421): Timer k expires, sets TMST bit k and reloads or stops. -/
  | timerExpiry (k : Fin 6)
  /-- ROUTE_WRITE (R422): A write of ROUTEk routes source k to a core level, a pin and a session event ring. -/
  | routeWrite (w : Writer) (k : Fin 192) (v : Word)
  /-- EVENT_RECORD_WRITE (R424): The event controller writes an event record for a source rise into the session's event ring, or drops it. -/
  | eventRecordWrite
  /-- DELIVERY_RECORD (R425): The delivery engine copies the next source-ring record into each subscribing session's ring and consumes it. -/
  | deliveryRecord
  /-- SER_RX_CHARACTER (R438): The receiver completes a character and stores its holding word in RXD, overrunning when RXD is full. -/
  | serRxCharacter (n : Fin 4) (data : BitVec 9) (par : Bool) (stop : Bool)
  /-- SER_BREAK (R442): A line held low through a whole character is stored as a break character and BRKE is raised. -/
  | serBreak (n : Fin 4)
  /-- SER_XOFF_RECEIVED (R444): A received XOFF with TXF = 1 sets TXP and is not stored. -/
  | serXoffReceived (n : Fin 4)
  /-- SER_XON_RECEIVED (R444): A received XON with TXF = 1 clears TXP and is not stored. -/
  | serXonReceived (n : Fin 4)
  /-- SER_RXD_READ (R438): A fresh read of RXD returns the holding word and empties the register. -/
  | serRxdRead (w : Writer) (n : Fin 4)
  /-- SER_TXD_WRITE (R439): A write of TXD loads the transmit holding register. -/
  | serTxdWrite (w : Writer) (n : Fin 4) (v : Word)
  /-- SER_TX_START (R439): With the shifter empty the holding register moves into the shifter and THRE is raised. -/
  | serTxStart (n : Fin 4)
  /-- SER_TX_CHARACTER_DONE (R439): The transmit shifter finishes a character, raising TXIDLE when both registers are empty. -/
  | serTxCharacterDone (n : Fin 4)
  /-- SER_CONFIG_WRITE (R437): A write of CFG makes a new character format pending for each direction. -/
  | serConfigWrite (w : Writer) (n : Fin 4) (v : Word)
  /-- SER_BAUD_WRITE (R435): A write of BAUDF makes N and F pending together. -/
  | serBaudWrite (w : Writer) (n : Fin 4) (v : Word)
  /-- SER_SEND_BREAK (R443): A write of CTRL.SBRK drives the line low after the current character, or releases it. -/
  | serSendBreak (w : Writer) (n : Fin 4) (v : Word)
  /-- SER_FLOW_WRITE (R445): A write of FLOW enables or disables flow control, sending XON when RXF is cleared with XOFFS = 1. -/
  | serFlowWrite (w : Writer) (n : Fin 4) (v : Word)
  /-- SER_FLOW_CHARACTER_SEND (R445): At the next transmitter boundary the due XON or XOFF is sent ahead of data and XOFFS changes. -/
  | serFlowCharacterSend (n : Fin 4)
  /-- SER_FLOW_TIMEOUT (R444): TXP held for TMO ms records TIMEOUT and raises FLTMO. -/
  | serFlowTimeout (n : Fin 4)
  /-- SER_DRAIN_ENABLE (R447): A write of DRN enables or disables the receive drain and transmit feed. -/
  | serDrainEnable (w : Writer) (n : Fin 4) (v : Word)
  /-- SER_DRAIN_MOVE (R448): The receive drain moves a character from RXD into RXRING, or sets RFULL when the ring is full. -/
  | serDrainMove (n : Fin 4)
  /-- SER_FEED_TAKE (R449): The transmit feed moves the word at CIDX of TXRING into the empty holding register. -/
  | serFeedTake (n : Fin 4)
  /-- SLOW_RX_CHARACTER (R453): The slow-clock receiver completes a character in SLEEP and tests it against the address registers. -/
  | slowRxCharacter (u : Fin 2) (data : BitVec 9) (par : Bool) (stop : Bool)
  /-- DOMAIN_SWITCH_OFF (R460): A write of DCTLd.ON = 0 signs retained banks and powers the domain down. -/
  | domainSwitchOff (w : Writer) (d : Fin 16) (v : Word)
  /-- DOMAIN_IDLE_EXPIRY (R460): A domain's idle timer expires and switches the domain off. -/
  | domainIdleExpiry (d : Fin 16)
  /-- DOMAIN_POWER_UP (R461): A write of DCTLd.ON = 1 starts the power-up of a domain. -/
  | domainPowerUp (w : Writer) (d : Fin 16) (v : Word)
  /-- DOMAIN_ON (R461): After switch, PLL lock and bank check the domain reaches PSTATE 2. -/
  | domainOn (d : Fin 16)
  /-- WAKE_ON_DEMAND_TIMEOUT (R463): An access stalled for WTMO µs completes with TIMEOUT and WODTMO is raised. -/
  | wakeOnDemandTimeout (c : Fin 4)
  /-- DEVICE_STATE_GO (R465): A write of PWR.CTRL.GO commands entry to a lower device state, or ends DOZE. -/
  | deviceStateGo (w : Writer) (v : Word)
  /-- DEVICE_IDLE_TIMER_EXPIRY (R465): A device idle timer expires and requests entry to the next state. -/
  | deviceIdleTimerExpiry (k : Fin 4)
  /-- ENTRY_WAIT_TIMEOUT (R43): A commanded entry still waiting 100 ms after the command is refused with BUSY and ENTREF is raised. -/
  | entryWaitTimeout
  /-- DOZE_ENTRY (R467): The device gates each core at its next boundary and enters DOZE. -/
  | dozeEntry
  /-- DOZE_EXIT (R467): A DOZE wake source returns every core to its previous state within 4 cycles. -/
  | dozeExit
  /-- SLEEP_ENTRY (R468): After the waits of R466 the device drains, signs, powers down domains, stops TIME and enters SLEEP. -/
  | sleepEntry
  /-- SLEEP_EXIT (R470): A wake event powers the regulator and domains back up and returns the device to RUN. -/
  | sleepExit
  /-- BACKUP_ENTRY (R471): The device switches off every domain except AON and BKP and releases the update lock. -/
  | backupEntry
  /-- DORMANT_ENTRY (R471): As BACKUP entry, and BKP also powers down. -/
  | dormantEntry
  /-- BACKUP_EXIT (R471): A wake event powers up every domain and starts the boot ROM with cause 4 or 5. -/
  | backupExit
  /-- WAKE_PIN (R475): A filtered active level on an enabled WAKEn is a wake event, or raises WKEV in RUN and DOZE. -/
  | wakePin (n : Fin 8) (level : Bool)
  /-- RTC_ALARM (R476): The RTC counter equals ALM with ALM0.EN = 1, giving a wake event or ALARM. -/
  | rtcAlarm
  /-- ALM2_WRITE (R476): A write of ALM2 applies the alarm together with the held ALM0 and ALM1. -/
  | alm2Write (w : Writer) (v : Word)
  /-- RTC_SOURCE_WRITE (R477): A write of RTCCTL.SRC makes a change of RTC source due. -/
  | rtcSourceWrite (w : Writer) (v : Word)
  /-- RTC_FALLBACK (R477): No crystal edge for 4 RC periods with AUTOFB = 1 makes a switch to the RC due and raises RTCSW. -/
  | rtcFallback
  /-- RTC_SOURCE_CHANGE (R477): A due change of RTC source takes effect at a tick edge and its switch tick is logged. -/
  | rtcSourceChange
  /-- XTAL_OK (R477): After 1024 consecutive crystal cycles XTOK becomes 1. -/
  | xtalOk
  /-- PLL_UNLOCK (R478): A PLL's phase error exceeds the limit at 4 reference edges; LOCK clears, UNLK is raised and ULKC adds 1. -/
  | pllUnlock (k : Fin 4)
  /-- PLL_RELOCK (R478): After 1024 edges within limits a PLL is locked again. -/
  | pllRelock (k : Fin 4)
  /-- BACKUP_STORE_READ (R484): A fresh read of BKD returns the backup-store word at BKA and advances BKA. -/
  | backupStoreRead (w : Writer)
  /-- BACKUP_STORE_WRITE (R484): A write of BKD stores the word at BKA and advances BKA. -/
  | backupStoreWrite (w : Writer) (v : Word)
  /-- WARM_RESTART (R502): A write of RST.CTRL.WARM = 1 ends sessions, resets the domains of cause 3 and reruns boot steps 3 to 9. -/
  | warmRestart (w : Writer) (v : Word)
  /-- RESET_ASSERT (R479): RST_N held low for 10 µs resets the device, samples the straps and starts the boot. -/
  | resetAssert
  /-- POWER_ON_RESET (R479): VBAT falling below VPORF or being applied resets every domain with cause 0. -/
  | powerOnReset
  /-- BROWN_OUT (R474): The AON rail falls below VBOR, resetting AON and BKP with BOR = 1 and restarting the device. -/
  | brownOut
  /-- SUPPLY_FALL (R543): VDD_CORE or VDD_IO18 out of range outside BACKUP and DORMANT resets every domain outside AON and BKP as cause 1. -/
  | supplyFall
  /-- PWREN_RETRY (R542): When the rails are not in range 50 ms after PWREN rises, PWREN is driven low for 10 ms and raised again. -/
  | pwrenRetry
  /-- BOOT_SEQUENCE (R498): The boot ROM sets up clocks and flash, selects and checks a Folio, loads components and settings and starts the cores. -/
  | bootSequence (run : BootRun)
  /-- REFCLK_MEASURE_TIMEOUT (R488): XTOK not becoming 1 within 1 s of boot step 1 stops the boot in the recovery state with TIMEOUT. -/
  | refclkMeasureTimeout
  /-- TRIAL_TIMER_EXPIRY (R505): TRIALT reaches 0 on trial, sets TEXP, wakes the device and requests a warm restart. -/
  | trialTimerExpiry
  /-- HEALTH_CONFIRM (R506): A write of UPD.CTRL.CONFIRM with the key confirms the trial image and raises CONFDONE. -/
  | healthConfirm (w : Writer) (v : Word)
  /-- ROLLBACK_FUSE_PROGRAM (R507): The device blows rollback fuses until the count equals the confirmed image's SVN. -/
  | rollbackFuseProgram
  /-- UPDATE_LOCK_TAKE (R508): A write of ULOCK.HELD = 1 while free takes the update lock. -/
  | updateLockTake (w : Writer) (v : Word)
  /-- UPDATE_LOCK_RELEASE (R508): The owner or supervisor writes ULOCK.HELD = 0 to release the update lock. -/
  | updateLockRelease (w : Writer) (v : Word)
  /-- UPDATE_LOCK_EXPIRY (R508): 30 s without an accepted owner write releases the update lock and raises LKEXP. -/
  | updateLockExpiry
  /-- BLOCK_WRITE (R509): A write of CTRL.BGO = 1 checks the block CRC and starts erasing and programming the block in the inactive Folio. -/
  | blockWrite (w : Writer) (v : Word)
  /-- BLOCK_WRITE_DONE (R509): The block flash operation ends, BSTAT and BCNT are set, BDONE or BFAIL is raised and FBUSY clears. -/
  | blockWriteDone (ok : Bool)
  /-- ACTIVATE (R510): A write of CTRL.ACTGO = 1 starts writing a record that names the inactive Folio on trial. -/
  | activate (w : Writer) (v : Word)
  /-- ACTIVATE_DONE (R510): The activation record write completes, the lock is released and ACTDONE is raised. -/
  | activateDone (ok : Bool)
  /-- CLASS_P_SETTINGS_WRITE (R516): A write of CTRL.SPWR = 1 writes the Class P area to flash as a new copy. -/
  | classPSettingsWrite (w : Writer) (v : Word)
  /-- CLASS_N_SETTINGS_WRITE (R516): A write of CTRL.SNWR = 1 writes the Class N area to flash as a new copy. -/
  | classNSettingsWrite (w : Writer) (v : Word)
  /-- CLASS_N_DISCARD (R515): A write of CTRL.NDISC = 1 writes an empty Class N copy and sets SETST.NDISC. -/
  | classNDiscard (w : Writer) (v : Word)
  /-- SETTINGS_WRITE_DONE (R516): A settings flash write ends, FBUSY clears and SETDONE is raised. -/
  | settingsWriteDone (ok : Bool)
  /-- FLASH_TIMEOUT (R489): A flash operation not finished within FTMO ms ends with TIMEOUT. -/
  | flashTimeout
  /-- OTP_WRITE (R518): A write of LCS.CTRL.OTPWR = 1 starts blowing the held bits into an OTP row. -/
  | otpWrite (w : Writer) (v : Word)
  /-- OTP_WRITE_DONE (R518): The OTP programming ends and OTPDONE is raised. -/
  | otpWriteDone
  /-- LIFECYCLE_ADVANCE (R519): A write of LCS.CTRL.ADV starts blowing the next life-cycle group. -/
  | lifecycleAdvance (w : Writer) (v : Word)
  /-- LIFECYCLE_ADVANCE_DONE (R519): The group counts as blown, LCST and test rights change and LCCHG is raised. -/
  | lifecycleAdvanceDone
  /-- RETURN_TOKEN (R520): A write of LCS.CTRL.RTGO = 1 starts checking the RETURN token in shared RAM. -/
  | returnToken (w : Writer) (v : Word)
  /-- RETURN_TOKEN_DONE (R520): The token check ends by blowing the RETURN group and raising RTDONE, or by raising RTFAIL. -/
  | returnTokenDone
  /-- RST_N_RELEASE (R2): The rising edge of RST_N samples PERSONA[1:0] and BOOTSRC[1:0] and lets the boot ROM start from step 1. -/
  | rstNRelease (pins : BitVec 2) (bootpins : BitVec 2)
  /-- CRYSTAL_FAILURE (R477): The RTC crystal fails and STAT.XTOK becomes 0. -/
  | crystalFailure
  /-- RETENTION_MONITOR_TRIP (R387): The AON supply monitor of a retained bank trips while its domain is off, so the bank is marked LOST with MON set at power-up. -/
  | retentionMonitorTrip (b : Fin 26)
  /-- POWER_RAILS_IN_RANGE (R542): After PWREN rises at exit from BACKUP or DORMANT, the monitors find VDD_CORE and VDD_IO18 within range and the exit continues. -/
  | powerRailsInRange
  /-- TAP_DEBUG_ACCESS (R521): Through the test access port, where the life-cycle state allows it, debug access reads and writes the device map with the rights of a core. -/
  | tapDebugAccess (write : Bool) (a : BitVec 24) (v : Word)
  deriving DecidableEq, Repr

end Sys2Proof
end

