-- ==== Sys2Proof/Config.lean ====
section
/-! DEFINITION. What the manual leaves open: free values, constants with no body, so that nothing proved about the model
rests on a number chosen here. Each is named in the assumption log. -/

namespace Sys2Proof.Config

/-- The free value taken at a count of `State.freeCtr` (log 1): spectrum bins, and every other value for
which the manual states no result. -/
opaque freeNat : Nat → Nat

/-- What a read of an undefined memory word returns (11 R372, log 2): by the number of losses of memory contents, the
word's key, and the count of `State.freeCtr`, since successive reads need not agree. -/
opaque memWord : Nat → Nat → Nat → Word

/-- What such a read reports, modulo 3: nothing, a correctable or an uncorrectable error (11 R372, log 2). -/
opaque memErr : Nat → Nat → Nat → Nat

/-- The content of a flash byte that no command has written: the board's flash (15 R490, log 8). -/
opaque flashByte : Nat → Byte


/-- The half-band filter of real input (02 R61, log 4), from the mixed samples, newest first. -/
opaque halfBand : List (Rat × Rat) → Rat × Rat

/-- The low-pass filter of a sub-stream (02 R71, log 4): from DEC, the bandwidth code and the samples, newest first. The rule
gives its passband edge, BW's fraction of port rate / DEC, and no coefficients. -/
opaque lowPass : Nat → Nat → List (Rat × Rat) → Rat × Rat

/-- The quantiser step after one evaluation of the scale loop (02 R73, log 4): from the step, the components above half
of full scale, the components counted, and QTGT. -/
opaque scaleStep : Rat → Nat → Nat → Nat → Rat

/-- The group delay of the low-pass filter of a path in 1/16 port-sample periods (02 R71, log 4), from DEC and BW. -/
opaque pathDelay : Nat → Nat → Nat

/-- The group delay of the half-band filter in the same units (02 R61, R71, log 4). -/
opaque halfBandDelay : Nat

/-- What the rounding of the 24-bit intermediate values adds to a point of an inverse transform of a search (06 R192, log 11), from
the wiped block, the bins of rotation, the replica and the cell. The rule gives the intermediate values neither a scale nor a place. -/
opaque searchErr : List (Rat × Rat) → Int → List Int → Nat → Rat × Rat

/-- The Amiern vendor key, X then Y, which the boot ROM holds (15 R520, R521, log 14). -/
opaque vendorKey : List Byte

end Sys2Proof.Config
end

