-- ==== Sys2Proof/Machine/State.lean ====
section
/-! DEFINITION. The state of the YN5120 as plain data: the words of every register page, the memories, the units'
state that no register shows, the pins, and the queue of waiting commands. Every field is named in INVENTORY.md with
its rule and its reset value. -/

namespace Sys2Proof.Machine

/-- A sparse table: pairs of a key and a value, keys strictly rising. What an unlisted key reads as is said where a
table is used. -/
abbrev Store (α : Type) := List (Nat × α)

/-- The reasons for which the model stops. No command of this block ends in a fault: every path of every rule gives an
effect. The one constructor keeps the type inhabited for the interface. -/
inductive Fault where
  /-- Raised by nothing: the device never stops on a command (00 R16, R22). Safe. -/
  | none
  deriving DecidableEq, Repr

/-- The reasons for which a command has no meaning. -/
inductive Refusal where
  /-- A command that this model gives no meaning yet, by its mnemonic. Raised by the dispatcher alone. Safe. -/
  | notModelled (mnemonic : String)
  deriving DecidableEq, Repr

/-- The personalities (00 R2, 10 R339). -/
inductive Persona where
  | native | legacy | dual
  deriving DecidableEq, Repr

/-- The device states (14 R459 to R471). -/
inductive DevState where
  | run | doze | sleep | backup | dormant
  deriving DecidableEq, Repr

/-- The pins whose level the model holds (16 R526 to R542), and the personality that the straps gave. -/
structure Pins where
  persona : Persona          -- 00 R2: sampled at the rising edge of RST_N
  personaPins : BitVec 2     -- PERSONA[1:0] as sampled
  bootsrcPins : BitVec 2     -- BOOTSRC[1:0] as sampled
  rstN : Bool                -- RST_N
  pwren : Bool               -- PWREN (16 R542)
  wake : BitVec 8            -- filtered levels of WAKE7..WAKE0 (14 R475)
  busOut : Option (Word × BitVec 2)   -- HD and HTAG of the last host bus cycle, none while not driven (12 R400, R401)
  deriving DecidableEq, Repr

/-- One adapting notch (02 R64 to R66). -/
structure Notch where
  x1I : Rat
  x1Q : Rat
  x2I : Rat
  x2Q : Rat
  y1I : Rat
  y1Q : Rat
  y2I : Rat
  y2Q : Rat
  px : Rat                 -- sum of |x|^2 in the frame (R66)
  py : Rat                 -- sum of |y|^2 in the frame
  n : Nat                  -- samples since the last evaluation of g (R65)
  deriving DecidableEq, Repr

/-- One sub-stream path of a Feed (02 R70 to R73). -/
structure SubPath where
  f : BitVec 36                  -- frequency in force
  fPend : Option (BitVec 36)     -- frequency that the next frame boundary applies
  ph : Nat                       -- phase of the frequency shift, units of 2^-36 cycle
  dec : Nat                      -- input samples since the last output sample
  blk : Bool                     -- one of them was blanked
  hist : List (Rat × Rat)        -- samples in the low-pass filter, newest first
  step : Rat                     -- quantiser step
  sclN : Nat                     -- components counted for the scale loop
  sclHit : Nat                   -- components above half of full scale
  deriving DecidableEq, Repr

/-- One spectrum monitor (02 R81). -/
structure SpecMon where
  block : List (Rat × Rat)       -- samples of the block under way, newest first
  blocks : Nat                   -- blocks completed of the AVG under way
  sums : List Rat                -- squared bin magnitudes summed over them
  first : Nat                    -- RXT × 2^16 of the first sample of the first of them
  done : Option (Nat × List Rat) -- the last AVG blocks completed since the previous record: first sample's RXT × 2^16, means
  deriving DecidableEq, Repr

/-- The state of one Feed that no register shows (02 R55 to R85). -/
structure Feed where
  goArmed : Bool           -- GO accepted, the switch to data waits (R57)
  timerOn : Bool           -- the TTMO timer runs (R55, R56)
  confirming : Bool        -- step 6: the 1024-word confirmation (R55)
  wordCnt : Nat            -- words matched (R55)
  rotCand : BitVec 8       -- word rotations that still match (R55)
  dcI : Rat                -- R62
  dcQ : Rat
  realN : BitVec 2         -- index n of the real-input shift (R61)
  realHist : List (Rat × Rat)    -- samples in the half-band filter, newest first (R61)
  notch : Vector Notch 4
  blkMean : Rat            -- R67
  blkLine : List ((Rat × Rat) × Bool)  -- delay line of 32 samples, newest first, with the blanking mark (R67)
  blkPost : Nat            -- samples still to blank
  blkHits : Nat            -- samples blanked in the frame (R68)
  frameN : Nat             -- samples seen in the frame
  blkStop : Bool           -- blanking stopped for the frame (R68)
  sub : Vector SubPath 2
  agcHits : Nat            -- components above half scale since the last evaluation (R85)
  agcTotal : Nat
  duty : Nat               -- DUTY in force of AGCn (R83)
  spec : SpecMon           -- its spectrum monitor (R81)
  deriving DecidableEq, Repr

/-- A conditioned sample in the Feed buffer: requantised components, blanking tag, validity (02 R72, R76). -/
structure Sample where
  i : Int
  q : Int
  blanked : Bool
  valid : Bool
  deriving DecidableEq, Repr

/-- One stream ST0 to ST15 (02 R74 to R79). -/
structure Stream where
  next : Nat                     -- index of the next sample
  buf : List Sample              -- contents of the Feed buffer, newest first
  prev : Option (Nat × Nat)      -- previous frame stamp: sample index, RXT × 2^16
  cur : Option (Nat × Nat)       -- latest frame stamp
  units : Nat                    -- Feed buffer units held
  zeroAt : Nat                   -- RXT.NS up to which blanked zeros have been written outside DATA (R78)
  zeroFrame : Bool               -- a frame boundary fell there
  zeroRem : Nat                  -- part of a zero sample due, as kHz × ns
  deriving DecidableEq, Repr

/-- The RF SPI master (02 R86). -/
structure RfSpi where
  waiting : Bool           -- waits for ready
  cs : Option (Fin 4)      -- RFSPI_CSn_N driven low
  mode : Fin 4             -- SPI mode of the transfer: clock polarity and phase
  out : List Bool          -- bits driven on RFSPI_DO in the transfer, first bit first
  deriving DecidableEq, Repr

/-- A phase set (04 R134; 06 R209): the values that the start sample loads. -/
structure PhaseSet where
  atNs : Nat               -- RXT of the GO write
  chip : Nat               -- SCHIP
  frac : Nat               -- SFR, chips × 2^35
  sec : Nat                -- SSEC
  siph : Nat               -- SIPH
  hand : Option (Nat × Nat × Nat × Nat)  -- a handoff: FC, FK, CPH of the peak, RXT0 × 2^16 (06 R209)
  deriving DecidableEq, Repr

/-- One complex tap of a tap store, with the marks of a component held at its limit (04 R131, R146). -/
structure Tap where
  i : Int
  q : Int
  iHeld : Bool
  qHeld : Bool
  deriving DecidableEq, Repr

/-- The state of one channel that its page and context do not show (04, 05). -/
structure Chan where
  reqBy : Option Writer    -- requester of the pending admission (R120)
  disPend : Bool           -- DIS accepted (R121)
  ps : Option PhaseSet     -- phase set armed, waiting for its boundary (R134)
  load : Option (Nat × Option PhaseSet)  -- sample at which a new run begins: a phase set, or a resumption (R123)
  on : Bool                -- a run is under way: samples are correlated
  nextS : Nat              -- next stream sample to correlate
  rank : Nat               -- CPLACE (R164)
  off : Nat
  d : Nat                  -- slots held (R161)
  fklim : Nat              -- R160
  effNs : Nat              -- RXT of the decision (R163)
  resume : Bool            -- resumes at the boundary at which its slots take effect (R118, R123)
  commitNs : Nat           -- RXT of the run start or of the last commit of the run (R167)
  commitW : Nat            -- closure window in force then, in µs
  commits : Nat            -- boundaries of the run that have been committed or dropped (R168)
  updAt : Nat              -- boundary of the run that applies the pending update
  updStart : Bool          -- the pending update waits for the start sample of the next run (R134)
  updDue : Bool            -- its boundary has passed: the next sample applies it (R135)
  updBy : Option Writer    -- its writer; none: the legacy window
  ran : Bool               -- a run has begun since the channel left OFF
  intN : Nat               -- samples in the integration
  blkN : Nat               -- blanked samples in it (R147)
  iph0 : Nat               -- IPH and SPOS at integration start (R147)
  spos0 : Nat
  invShown : Bool          -- the last dump carried INV (R150)
  taps : List Tap          -- tap-store entry (R131); empty: restarts with the next sample
  startPos : Nat           -- stream position of the last start sample (10 R359)
  deriving DecidableEq, Repr

/-- A schedule row (05 R158, R166): channel, rank, offset, slots. -/
structure TabRow where
  ch : Nat
  rank : Nat
  off : Nat
  d : Nat
  deriving DecidableEq, Repr

/-- The Ductus (05). -/
structure Duct where
  admQ : List Nat          -- requests waiting (R163)
  shadow : List TabRow     -- slots held by channels (R166)
  force : List TabRow      -- tables in force
  ovr : List Nat           -- streams that have overrun in this frame (R162)
  deriving DecidableEq, Repr

/-- The Exemplar's own state (03 R110, R113). -/
structure Exemplar where
  tmb : BitVec 33          -- TMBOC mask in force
  retOld : Nat
  retNew : Nat
  deriving DecidableEq, Repr

/-- One capture engine (06 R185 to R189). -/
structure Capture where
  start : Nat              -- first stream sample
  written : Nat            -- words written
  group : List Sample      -- stream samples of the output sample under way, oldest first (R187)
  acc : List (Nat × Bool)  -- samples of the word being packed, oldest first: four bits, blanked
  nextS : Nat              -- next stream sample
  inv : Bool
  stopReq : Bool
  fiN : Nat                -- capture rate of the last capture begun: fiN / fiD kHz (R187)
  fiD : Nat
  deriving DecidableEq, Repr

/-- The phases of a Scriptorium job (06 R197, R198, R206). -/
inductive JobPhase where
  | running | extracted | waitRoom
  deriving DecidableEq, Repr

/-- A job on a pipeline (06 R197 to R206). -/
structure Job where
  jr : Nat                 -- JR entry
  desc : List Word         -- descriptor words
  pipes : List Nat         -- pipelines held
  phase : JobPhase
  outcome : Nat            -- 0 COMPLETE, 1 ABORTED, 2 FAILED, once extracted
  abort : Bool             -- stops at the end of its step
  lo : Nat                 -- Inkwell words that it reads: first, one after the last
  hi : Nat
  plen : Nat               -- primary length of its code, as at its start (R195)
  replica : List Int       -- its replica: N reference levels (R191)
  inv : Bool               -- INV, rate (kHz, as fiN / fiD) and RXT0 of its capture, as at its start
  fiN : Nat
  fiD : Nat
  rxt0 : Nat
  record : List Word       -- result record, once extracted
  deriving DecidableEq, Repr

/-- The Scriptorium (06). -/
structure Script where
  jobs : List Job
  cache : List (List Nat × List Int)   -- spectra held, most recently used first: key and replica (R203)
  last : Nat               -- JR entry that started last (R197)
  pair : Option Nat        -- JR entry whose head, a job with PAIR = 1, was chosen and waits for both pipelines (R197)
  abCount : Nat            -- jobs aborted by the scan in progress (R205)
  abJr : Nat
  abBy : Option Writer
  deriving DecidableEq, Repr

/-- The timebase (07 R214 to R246; 14 R476, R477). -/
structure TimeSt where
  ns : Nat                 -- RXT.NS, below 2^48
  frac : Nat               -- RXT.FRAC, below 2^16
  on : Bool                -- TIME runs
  mapAt : Nat              -- instant at which the staged map is applied, ns on the extended scale (R221)
  refExt : Nat             -- RXT of the last map application on the extended scale, × 2^16 (R234)
  calp : Nat               -- R243 values in force
  rcp : Nat
  kept : Bool              -- BKP holds the RXT of a stop (R244, R247)
  n1 : Nat                 -- RTC ticks counted on each source while stopped
  n2 : Nat
  slSwitched : Bool        -- the source switched during the sleep (R246)
  rtc : Nat                -- RTC counter, 48 bits
  rtcSrc : Bool            -- false: crystal
  rtcDue : Option Bool
  rtcAcc : Nat             -- MODEL'S OWN: nominal phase of the RTC tick
  alm : Nat                -- alarm in force
  almOn : Bool
  deriving DecidableEq, Repr

/-- A latch in progress (07 R224, R229). -/
structure Latch where
  src : Nat
  evin : Nat
  t : Nat                  -- t_L × 2^16 modulo 2^64
  sv : Bool
  td : Bool
  reb : Bool
  wrapc : Word
  own : Bool               -- the measurement latch produced LRING at the trigger
  lost : Bool              -- LRING has lost its producer assignment since (R229)
  deriving DecidableEq, Repr

/-- The measurement latch (07 R223 to R233). -/
structure Meas where
  lastT : Option Int       -- t_L of the previous accepted trigger on the extended scale, × 2^16
  penNs : Nat              -- RXT at the acceptance of PEN, ns on the extended scale
  epochAt : Option Nat     -- RXT of the last periodic instant since then, on that scale
  cur : Option Latch
  entries : Store (List Word)    -- staging buffer: entries by channel
  legacy : Store (List Word)     -- legacy values of the last latch by channel (10 R359)
  legWant : Bool           -- the legacy window takes the values of the latch in progress
  legT : Nat               -- t_L of the latch that the legacy values belong to
  deriving DecidableEq, Repr

/-- Settings of one time pulse (07 R234 to R237). -/
structure TpSet where
  mode : Nat
  pol : Bool
  period : Nat             -- ns
  phase : Nat              -- ns
  phf : Nat                -- × 25 ps
  width : Nat              -- ns
  dly : Int                -- ps
  deriving DecidableEq, Repr

/-- One time pulse (07 R234 to R237). Times are in ns on the extended scale. -/
structure TpSt where
  cur : TpSet
  staged : TpSet           -- settings taken by an APPLY
  applyAt : Nat            -- T_sw, ns on the extended scale
  level : Bool             -- pin level
  pulse : Option (Bool × Rat × Int)    -- pulse in progress: the POL it began with, its end's RXT target, its DLY in ps
  lastEnd : Option Rat     -- placed end of the previous pulse
  doneTick : Option Int    -- tick of the last grid instant that was emitted or suppressed
  polAt : Option Rat       -- instant at which a new POL takes effect
  tabOld : List Word       -- HTAB before the writes of its last writing cycle (R238)
  tabAt : Nat              -- that cycle, ns on the extended scale
  deriving DecidableEq, Repr

/-- An event entry in the event unit's FIFO (07 R240). -/
structure EvEntry where
  input : Nat
  rising : Bool
  ovr : Bool
  seq : Word
  t : Nat                  -- RXT × 2^16
  deriving DecidableEq, Repr

/-- Event inputs and event controller (07 R240; 12 R422 to R425). -/
structure EventSt where
  fifo : List EvEntry
  lost : Bool
  rises : List (Nat × Nat × Bool × Nat)  -- rises waiting for their record: source, session, TV, RXT × 2^16
  tmLoad : Store Nat                -- µs loaded into timer k (12 R421)
  deriving DecidableEq, Repr

/-- The states of a core (08 R297 to R300). -/
inductive CoreMode where
  | running | halted | idle | reset | dhalt | gated
  deriving DecidableEq, Repr

/-- One Vemel core (08 R257 to R304). -/
structure Core where
  mode : CoreMode
  pc : BitVec 17
  d : Vector Word 16
  ac : Vector (BitVec 44) 8
  p : Vector (BitVec 24) 16
  bs : Vector (BitVec 24) 16
  ln : Vector Word 16
  k : Vector Word 8
  sr : Word
  pg : BitVec 8
  ra : BitVec 17
  ira : BitVec 17
  isr : Word
  tra : BitVec 17
  tsr : Word
  tcs : Word
  lc : Vector Word 3
  lb : Vector (BitVec 17) 3
  le : Vector (BitVec 17) 3
  inflight : List (Nat × Nat × Nat)   -- register number, value, bundles until it lands (R275)
  resv : Option Nat        -- reservation (09 R315)
  trap : Option (Nat × BitVec 17 × BitVec 17)   -- trap that the next entry takes: TCS, TRA, the offending bundle (R291)
  stepping : Bool
  haltReq : Bool
  noBreak : Bool           -- the next bundle does not break (R300)
  inBlock : Bool           -- a block operation is under way at its bundle (09 R326, R328)
  bcnt : Nat               -- bundles issued, modulo 2^36
  stallW : Option (BitVec 24 × Word)   -- a write stalled by a domain that is off (14 R462)
  wod : Bool               -- an access stalls (14 R462)
  wodTmo : Bool            -- the stalled access timed out (14 R463)
  begun : Bool             -- the bundle at PC is in issue and has stalled (R285, 14 R462)
  qTmo : Option Nat        -- Quire word whose access timed out (11 R376)
  rubLeft : Nat            -- microwords left in the Rubric unit (09 R329)
  shadow : Bool            -- load shadow (10 R347)
  gatedFrom : CoreMode     -- state before DOZE (14 R467)
  deriving DecidableEq, Repr

/-- The Blotter and the retention logic (11). -/
structure Blot where
  borrow : Option (Nat × Nat × List Word)   -- memory, region, shadow words (R380)
  restoring : Bool
  next : Nat × Nat         -- sweep position (R379)
  skip : List (Nat × Nat)  -- regions skipped until the next sweep (R383)
  excl : Store (Nat × Nat) -- exclusion ranges by 8 × memory + index, enabled ones (R382)
  held : BitVec 26         -- banks retained, their monitors armed (R386)
  signed : BitVec 26       -- retained banks whose signature was computed (R386)
  mon : BitVec 26          -- supply monitors that have tripped (R387)
  eccBad : Store Bool      -- words of any memory whose check bits do not match; true: uncorrectable (R369)
  wb : List Nat            -- corrections waiting for their write-back (R370)
  deriving DecidableEq, Repr

/-- One session (12 R394 to R414). -/
structure Ses where
  post : List (BitVec 24 × Word)   -- posting buffer, at most 16 (R405)
  win : Nat                -- window pointer applied (R404)
  winSet : Bool
  winLost : List Nat       -- window words fetched from a bank marked LOST (11 R388)
  evOvr : Bool             -- earlier event records dropped (R424)
  dlvCnt : Nat             -- records offered since EN (R425)
  dlvDrop : Bool           -- a copy was dropped since the previous copy
  lastReq : List (BitVec 8)
  lastResp : List (BitVec 8)
  out : List (BitVec 8)    -- bytes sent last: SPI DO bytes, or Iluhi frames as they stand on the line (R406, R408)
  resp : List (List (BitVec 8))  -- Iluhi responses that wait for the transmitter, oldest first (R414)
  push : Option (Nat × Nat)      -- push frame in progress: ring, words (R414)
  deriving DecidableEq, Repr

/-- Character settings of one direction of a serial port (13 R437). -/
structure SerSet where
  cfg : Word
  n : Nat
  f : Nat
  deriving DecidableEq, Repr

/-- One serial port (13). -/
structure Ser where
  txHold : Option (BitVec 9)
  txShift : Option (BitVec 9)
  rx : SerSet              -- settings taken up by the receiver
  tx : SerSet              -- settings taken up by the transmitter
  appN : Nat               -- N applied by the last write of BAUDF (R435)
  rxPend : Bool
  rxOld : Bool             -- a character that began before the pending setting may still arrive (R437)
  clocked : List Word      -- CFG of each synchronous character sent whose received character is not yet stored (R450)
  txPend : Bool
  sent : List Bool         -- levels on SERn_TX of the last character begun, bit by bit (R433, R450)
  txLine : Bool            -- SERn_TX
  lineLow : Bool           -- held low by SBRK
  flowDue : Option Bool    -- flow character due: some true XON, some false XOFF
  sl : Option Word         -- character of the slow receiver not yet handed over, as a holding word (R454, R455)
  slow : Bool              -- the slow receiver of a wake keeps receiving until the fast receiver takes over (R454)
  deriving DecidableEq, Repr

/-- The power manager (14). -/
structure Pwr where
  st : DevState
  prev : DevState
  dom : Vector (BitVec 2) 16     -- PSTATE of every domain (01 R35)
  refilled : BitVec 16     -- shadow refill complete (12 R403)
  offPend : BitVec 16      -- switch-offs waiting for a drain (R460)
  target : Option DevState -- entry in progress
  cmdBy : Option Writer    -- who commanded the entry in progress; none: an idle timer
  cmdLw : Bool             -- it was commanded through LPWR (10 R363)
  rails : Bool             -- VDD_CORE and VDD_IO18 were found in range since PWREN rose (16 R542)
  ret : BitVec 16          -- domains whose retained banks are held
  onAt : BitVec 16         -- domains on at SLEEP entry
  wakes : Word             -- wake causes latched
  deriving DecidableEq, Repr

/-- A flash operation in progress (15 R489, R509, R510, R516). -/
inductive FlashOp where
  | block (off : Nat) (bytes : List (BitVec 8))
  | activate
  | settings (classN : Bool) (lver : Nat) (payload : List (BitVec 8))
  | discard
  | confirm
  deriving DecidableEq, Repr

/-- Boot, update and life cycle (15). -/
structure Upd where
  warm : Bool              -- warm restart in progress (R502)
  flash : Store (BitVec 8) -- flash bytes; an unlisted byte is the board's (R490)
  mute : BitVec 10         -- parts of the flash whose reads time out in the boot under way (R489, R499; log 23): record copies 0
                           -- and 1, Class P copies, Class N copies, Colophons of Folios A and B, bodies of Folios A and B
  op : Option FlashOp
  cKey : Word              -- last CKEY written (R506)
  otp : Store (BitVec 16)  -- OTP rows (R517)
  lcsOp : Option (Nat × Nat × BitVec 16)   -- OTP operation: kind, row, bits (R518, R519)
  deriving DecidableEq, Repr

/-- The legacy window's state that no window word shows (10). -/
structure Leg where
  w : Store Nat            -- carrier words in force by channel (R357)
  v : Store Nat            -- code words in force
  lcset : Store Nat        -- last LCSET written since EN became 1 (R356)
  stage : Store (BitVec 2) -- NCO words written since the last application
  port : Word              -- memory port value (R354)
  portValid : Bool
  ldPos : Nat              -- word of the record being read (R358)
  ofs : Nat                -- TP0 offset that LTPOFL applied (R362)
  pace : Nat               -- pace counter (R351)
  deriving DecidableEq, Repr

/-- The state of the device (see the module's comment). -/
structure State where
  pending : List Instr     -- MODEL'S OWN: commands waiting, first in first out
  freeCtr : Nat            -- MODEL'S OWN: counter the free values are applied to
  regs : Store Word        -- register words; an unlisted word reads its reset value
  mem : Store Word         -- memory words; an unlisted word is undefined and reads a free value
  memEpoch : Nat           -- MODEL'S OWN: number of times memory contents were lost
  pins : Pins
  time : TimeSt
  ev : EventSt
  capLow : Store Word      -- low words captured by a read of the high word
  ctxShadow : Store Word   -- HIF's shadow of the context words that the Quire lost at its switch-off (12 R403)
  pwm : Nat                -- MODEL'S OWN: ns into the PWM period of the AGC outputs (02 R83)
  feeds : Vector Feed 8
  streams : Vector Stream 16
  rf : RfSpi
  exm : Exemplar
  chans : Store Chan
  duct : Duct
  caps : Vector Capture 2
  scr : Script
  meas : Meas
  tps : Vector TpSt 4
  cores : Vector Core 4
  udh : Store Word         -- UDH held for each writer (09 R338)
  blot : Blot
  sess : Vector Ses 8
  pushSeq : Store (BitVec 8)     -- SEQ of the next push frame of each ring (12 R412); unlisted: 0
  sers : Vector Ser 4
  pwr : Pwr
  upd : Upd
  leg : Leg
  deriving DecidableEq, Repr

/-! ### Reset -/

/-- A notch at reset. -/
def Notch.reset : Notch := ⟨0, 0, 0, 0, 0, 0, 0, 0, 0, 0, 0⟩

/-- A sub-stream path at reset. -/
def SubPath.reset : SubPath := ⟨0, none, 0, 0, false, [], 1, 0, 0⟩

/-- A spectrum monitor at reset. -/
def SpecMon.reset : SpecMon := ⟨[], 0, [], 0, none⟩

/-- A Feed at reset. -/
def Feed.reset : Feed :=
  { goArmed := false, timerOn := false, confirming := false, wordCnt := 0, rotCand := 255, dcI := 0, dcQ := 0,
    realN := 0, realHist := [], notch := Vector.replicate 4 Notch.reset, blkMean := 0, blkLine := [], blkPost := 0,
    blkHits := 0, frameN := 0, blkStop := false, sub := Vector.replicate 2 SubPath.reset, agcHits := 0, agcTotal := 0,
    duty := 0, spec := SpecMon.reset }

/-- A stream at reset. -/
def Stream.reset : Stream := ⟨0, [], none, none, 0, 0, false, 0⟩

/-- A channel at reset. -/
def Chan.reset : Chan :=
  { reqBy := none, disPend := false, ps := none, load := none, on := false, nextS := 0, rank := 0, off := 0, d := 0,
    fklim := 0, effNs := 0, resume := false, commitNs := 0, commitW := 0, commits := 0, updAt := 0,
    updStart := false, updDue := false,
    updBy := none, ran := false, intN := 0, blkN := 0, iph0 := 0, spos0 := 0, invShown := false, taps := [], startPos := 0 }

/-- A capture engine at reset. -/
def Capture.reset : Capture := ⟨0, 0, [], [], 0, false, false, 0, 1⟩

/-- Settings of a time pulse at reset: MODE 0, 1 s, 100 ms (07 R253). -/
def TpSet.reset : TpSet := ⟨0, false, 1000000000, 0, 0, 100000000, 0⟩

/-- A time pulse at reset: at its inactive level. -/
def TpSt.reset : TpSt := ⟨TpSet.reset, TpSet.reset, 0, false, none, none, none, none, [], 0⟩

/-- The timebase at reset (07 R214). -/
def TimeSt.reset : TimeSt :=
  { ns := 0, frac := 0, on := false, mapAt := 0, refExt := 0, calp := 2000000000, rcp := 2048000000, kept := false,
    n1 := 0, n2 := 0, slSwitched := false, rtc := 0, rtcSrc := false, rtcDue := none, rtcAcc := 0,
    alm := 0, almOn := false }

/-- A core at reset (08 R264, R298). -/
def Core.reset : Core :=
  { mode := .reset, pc := 0, d := Vector.replicate 16 0, ac := Vector.replicate 8 0, p := Vector.replicate 16 0,
    bs := Vector.replicate 16 0, ln := Vector.replicate 16 0, k := Vector.replicate 8 0, sr := 0, pg := 0, ra := 0,
    ira := 0, isr := 0, tra := 0, tsr := 0, tcs := 0, lc := Vector.replicate 3 0, lb := Vector.replicate 3 0,
    le := Vector.replicate 3 0, inflight := [], resv := none, trap := none, stepping := false, haltReq := false,
    noBreak := false, inBlock := false, bcnt := 0, stallW := none, wod := false, wodTmo := false, begun := false, qTmo := none,
        rubLeft := 0, shadow := false,
    gatedFrom := .reset }

/-- A session at reset. -/
def Ses.reset : Ses :=
  { post := [], win := 0, winSet := false, winLost := [], evOvr := false, dlvCnt := 0, dlvDrop := false, lastReq := [], lastResp := [],
    out := [], resp := [], push := none }

/-- Character settings at reset: the reset values of CFG, BAUDN and BAUDF (13 R458). -/
def SerSet.reset : SerSet := ⟨0o1000, 108, 8⟩

/-- A serial port at reset. -/
def Ser.reset : Ser :=
  { txHold := none, txShift := none, rx := SerSet.reset, tx := SerSet.reset, appN := 108, rxPend := false, rxOld := false, clocked := [],
    txPend := false, sent := [], txLine := true, lineLow := false, flowDue := none, sl := none, slow := false }

/-- PSTATE of the domains after reset (14 R459): AON, BKP, HIF, PERI, QUIRE, the cores and TIME are on. -/
def domReset : Vector (BitVec 2) 16 :=
  #v[2, 2, 2, 2, 0, 0, 0, 0, 0, 0, 2, 2, 2, 2, 2, 2]

/-- The state right after reset: the straps select NATIVE (log 3), the boot ROM has started (15 R498), no register word
and no memory word has been written. -/
def State.reset : State :=
  { pending := [], freeCtr := 0, regs := [], mem := [], memEpoch := 0,
    pins := { persona := .native, personaPins := 0, bootsrcPins := 0, rstN := true, pwren := true, wake := 255,
              busOut := none },
    time := TimeSt.reset, ev := ⟨[], false, [], []⟩, capLow := [], ctxShadow := [], pwm := 0, feeds := Vector.replicate 8 Feed.reset,
    streams := Vector.replicate 16 Stream.reset, rf := ⟨false, none, 0, []⟩,
    exm := ⟨0b000100000000000000000000001010001, 0, 0⟩, chans := [], duct := ⟨[], [], [], []⟩,
    caps := Vector.replicate 2 Capture.reset, scr := ⟨[], [], 0, none, 0, 0, none⟩, meas := ⟨none, 0, none, none, [], [], false, 0⟩,
    tps := Vector.replicate 4 TpSt.reset, cores := Vector.replicate 4 Core.reset, udh := [],
    blot := { borrow := none, restoring := false, next := (0, 0), skip := [], excl := [], held := 0, signed := 0, mon := 0,
              eccBad := [], wb := [] },
    sess := Vector.replicate 8 Ses.reset, pushSeq := [], sers := Vector.replicate 4 Ser.reset,
    pwr := { st := .run, prev := .run, dom := domReset, refilled := 0b1111110000001111, offPend := 0, target := none,
             cmdBy := none, cmdLw := false, rails := true, ret := 0, onAt := 0, wakes := 0 },
    upd := { warm := false, flash := [], mute := 0, op := none, cKey := 0, otp := [],
             lcsOp := none },
    leg := { w := [], v := [], lcset := [], stage := [], port := 0, portValid := false, ldPos := 0, ofs := 0, pace := 0 } }

end Sys2Proof.Machine
end

