-- ==== Sys2Proof/Machine/RegMap.lean ====
section
/-! DEFINITION. The field maps of the register pages: for every word of every kind of page, which of its bits are
RW, W1C, RC and WO (00 R12) and what they hold after reset. The bits in none of the four masks are read-only or
reserved. One row a word, from the field map of the page's rule. A word that a map repeats (one per port, per stream,
per ring) has one row, found through `normWord`. -/

namespace Sys2Proof.Machine

/-- The kinds of page (01 R41), the legacy window (10 R353) beside them. -/
inductive Kind where
  | dev | pwr | clk | rst | evc | ses | ring | hif | spi | ser | upd | lcs | time | tp | evt | meas | feed | route | spec | duct | rank | exmp | scrp | inkw | quire | blot | retn | core | rubr | legacy | chan | lwin
  deriving DecidableEq, Repr

/-- One word of a field map: the masks of its RW, W1C, RC and WO bits, and its reset value. -/
structure WInfo where
  rw : Nat
  w1c : Nat
  rc : Nat
  wo : Nat
  reset : Nat
  deriving DecidableEq, Repr

/-- A word of which no bit can be written. -/
def WInfo.none : WInfo := ⟨0, 0, 0, 0, 0⟩

/-- Field map of DEV (R6). -/
def devMap : List (Nat × WInfo) :=
  [(16, ⟨0, 0, 0, 0, 0o512010⟩)  /- ID -/]

/-- Field map of PWR (R484). -/
def pwrMap : List (Nat × WInfo) :=
  [(2, ⟨0o16, 0, 0, 1, 0⟩)  /- CTRL -/,
   (4, ⟨0, 0o37, 0, 0, 0⟩)  /- IPEND -/,
   (16, ⟨0, 0, 0, 0, 0o176017⟩)  /- DON -/,
   (18, ⟨0o177774, 0, 0, 0, 0o177774⟩)  /- SLPMASK -/,
   (19, ⟨2, 0, 0, 0, 0⟩)  /- REG -/,
   (20, ⟨0, 0o417777, 0, 0, 0⟩)  /- WKCAUSE -/,
   (21, ⟨0o1777, 0, 0, 0, 0o310⟩)  /- WTMO -/,
   (22, ⟨0o777777, 0, 0, 0, 0o1750⟩)  /- DIT0–DIT3 -/,
   (29, ⟨0o407777, 0, 0, 0, 0⟩)  /- ALM0 -/,
   (30, ⟨0o777777, 0, 0, 0, 0⟩)  /- ALM1 -/,
   (31, ⟨0o777777, 0, 0, 0, 0⟩)  /- ALM2 -/,
   (32, ⟨0o37777, 0, 0, 0, 0⟩)  /- BKA -/,
   (33, ⟨0o777777, 0, 0, 0, 0⟩)  /- BKD -/,
   (48, ⟨0o601777, 0, 0, 0, 0o144⟩)  /- DCTLd -/,
   (64, ⟨0o600377, 0, 0, 0, 1⟩)  /- WKCFGn -/,
   (96, ⟨0o777777, 0, 0, 0, 0⟩)  /- KEEP0–KEEP31 -/]

/-- Field map of CLK (R485). -/
def clkMap : List (Nat × WInfo) :=
  [(4, ⟨0, 0o37, 0, 0, 0⟩)  /- IPEND -/,
   (16, ⟨0o177777, 0, 0, 0, 0⟩)  /- REFKHZ -/,
   (17, ⟨3, 0, 0, 0, 2⟩)  /- RTCCTL -/,
   (18, ⟨0, 0, 0o777777, 0, 0⟩)  /- ULKCp -/]

/-- Field map of RST (R486). -/
def rstMap : List (Nat × WInfo) :=
  [(2, ⟨0, 0, 0, 1, 0⟩)  /- CTRL -/,
   (17, ⟨0, 3, 0, 0, 1⟩)  /- BKPST -/]

/-- Field map of EVC (R431). -/
def evcMap : List (Nat × WInfo) :=
  [(28, ⟨0, 0, 0, 0o777777, 0⟩)  /- SWSETL -/,
   (29, ⟨0, 0, 0, 0o777777, 0⟩)  /- SWSETH -/,
   (30, ⟨0, 0o777777, 0, 0, 0⟩)  /- SWL -/,
   (31, ⟨0, 0o777777, 0, 0, 0⟩)  /- SWH -/,
   (32, ⟨0, 7, 0, 0, 0⟩)  /- TICK -/,
   (33, ⟨0, 0o77, 0, 0, 0⟩)  /- TMST -/,
   (34, ⟨0o600000, 0, 0, 0, 0⟩)  /- TMCFGk -/,
   (35, ⟨0o777777, 0, 0, 0, 0o1750⟩)  /- TMPERk -/,
   (46, ⟨0o377, 0, 0, 0, 0o360⟩)  /- HCFG -/,
   (64, ⟨0o777740, 0, 0, 0, 0⟩)  /- ROUTEk -/]

/-- Field map of SES (R429). -/
def sesMap : List (Nat × WInfo) :=
  [(4, ⟨0, 3, 0, 0, 0⟩)  /- IPEND -/,
   (17, ⟨0o774077, 0, 0, 0, 0o100000⟩)  /- DLV -/,
   (32, ⟨0o400014, 0, 0, 0, 0⟩)  /- +0 SCTL -/,
   (33, ⟨0o177777, 0, 0, 0, 0⟩)  /- +1 PMASK -/,
   (34, ⟨0, 0o400017, 0, 0, 0⟩)  /- +2 ERRW -/,
   (37, ⟨0, 0, 0o777777, 0, 0⟩)  /- +5 ERRC -/,
   (38, ⟨0, 0, 0, 0o777777, 0⟩)  /- +6 DBSET -/,
   (39, ⟨0, 0o777777, 0, 0, 0⟩)  /- +7 DBELL -/,
   (40, ⟨0o400077, 0, 0, 0, 0⟩)  /- +8 EVRING -/,
   (42, ⟨0, 0, 0o777777, 0, 0⟩)  /- +10 EVDRP -/,
   (43, ⟨0o777077, 0, 0, 0, 0o1000⟩)  /- +11 MDEL -/,
   (44, ⟨0, 0, 0o777777, 0, 0⟩)  /- +12 MDRP -/,
   (45, ⟨0o1777, 0, 0, 0, 0o12⟩)  /- +13 LTMO -/,
   (46, ⟨0, 0, 0o777777, 0, 0⟩)  /- +14 ILCRC -/]

/-- Field map of RING (R430). -/
def ringMap : List (Nat × WInfo) :=
  [(32, ⟨0o777770, 0, 0, 0, 0o17770⟩)  /- +0 RCFG -/,
   (33, ⟨0o17777, 0, 0, 0, 0⟩)  /- +1 RBASE -/,
   (34, ⟨0o777777, 0, 0, 0, 0⟩)  /- +2 PIDX -/,
   (35, ⟨0o777777, 0, 0, 0, 0⟩)  /- +3 CIDX -/,
   (37, ⟨0o777777, 0, 0, 0, 1⟩)  /- +5 DWM -/,
   (38, ⟨0o777777, 0, 0, 0, 1⟩)  /- +6 RWM -/,
   (39, ⟨0o14, 0o20, 0, 0, 2⟩)  /- +7 REV -/]

/-- Field map of HIF (R427). -/
def hifMap : List (Nat × WInfo) :=
  [(4, ⟨0, 3, 0, 0, 0⟩)  /- IPEND -/,
   (16, ⟨0, 0, 0o777777, 0, 0⟩)  /- BERRC -/,
   (17, ⟨0, 0, 0o777777, 0, 0⟩)  /- WDRPC -/,
   (32, ⟨0o77, 0, 0, 0, 0⟩)  /- RAPH -/,
   (33, ⟨0o777777, 0, 0, 0, 0⟩)  /- RAPL -/,
   (34, ⟨1, 0, 0, 0, 0⟩)  /- RACTL -/,
   (36, ⟨0o1777, 0, 0, 0, 0o24⟩)  /- RATMO -/]

/-- Field map of SPI (R428). -/
def spiMap : List (Nat × WInfo) :=
  [(4, ⟨0, 0o17, 0, 0, 0⟩)  /- IPEND -/,
   (16, ⟨7, 0, 0, 0, 1⟩)  /- +0 SCFG -/,
   (17, ⟨0o1777, 0, 0, 0, 0o144⟩)  /- +1 STMO -/,
   (19, ⟨0, 0, 0o777777, 0, 0⟩)  /- +3 FERRC -/,
   (20, ⟨0, 0, 0o777777, 0, 0⟩)  /- +4 CRCC -/]

/-- Field map of SER (R458). -/
def serMap : List (Nat × WInfo) :=
  [(2, ⟨7, 0, 0, 0, 0⟩)  /- CTRL -/,
   (3, ⟨0, 0, 0, 0, 0o102⟩)  /- STAT -/,
   (4, ⟨0, 0o777, 0, 0, 0⟩)  /- IPEND -/,
   (16, ⟨0o777700, 0, 0, 0, 0o1000⟩)  /- CFG -/,
   (17, ⟨0o177777, 0, 0, 0, 0o154⟩)  /- BAUDN -/,
   (18, ⟨0o17, 0, 0, 0, 0o10⟩)  /- BAUDF -/,
   (19, ⟨0, 0, 0o777777, 0, 0⟩)  /- RXD -/,
   (20, ⟨0, 0, 0, 0o777, 0⟩)  /- TXD -/,
   (21, ⟨0o607777, 0, 0, 0, 0⟩)  /- DRN -/,
   (22, ⟨0o601777, 0, 0, 0, 0o144⟩)  /- FLOW -/,
   (23, ⟨0o377777, 0, 0, 0, 0o20⟩)  /- XTHR -/,
   (24, ⟨0o777777, 0, 0, 0, 0o40⟩)  /- XONT -/,
   (26, ⟨0, 0, 0o777777, 0, 0⟩)  /- ERRCNT -/,
   (27, ⟨0, 0, 0o777777, 0, 0⟩)  /- OVRC -/,
   (28, ⟨0, 0, 0o777777, 0, 0⟩)  /- BRKC -/,
   (29, ⟨0o777777, 0, 0, 0, 0o240015⟩)  /- SLCFG -/,
   (30, ⟨0o577777, 0, 0, 0, 0o177400⟩)  /- ADR0 -/,
   (31, ⟨0o577777, 0, 0, 0, 0o177400⟩)  /- ADR1 -/]

/-- Field map of UPD (R524). -/
def updMap : List (Nat × WInfo) :=
  [(2, ⟨0, 0, 0, 0o77, 0⟩)  /- CTRL -/,
   (3, ⟨0, 0, 0, 0, 0o40⟩)  /- STAT -/,
   (4, ⟨0, 0o177, 0, 0, 0⟩)  /- IPEND -/,
   (16, ⟨0o400000, 0, 0, 0, 0⟩)  /- ULOCK -/,
   (18, ⟨0o7777, 0, 0, 0, 0⟩)  /- BNUM -/,
   (19, ⟨0o77, 0, 0, 0, 0⟩)  /- BBUFH -/,
   (20, ⟨0o777777, 0, 0, 0, 0⟩)  /- BBUFL -/,
   (21, ⟨0o37777, 0, 0, 0, 0⟩)  /- BCRCH -/,
   (22, ⟨0o777777, 0, 0, 0, 0⟩)  /- BCRCL -/,
   (25, ⟨0o7777, 0, 0, 0, 0o1750⟩)  /- FTMO -/,
   (34, ⟨0, 0o30, 0, 0, 0⟩)  /- SETST -/,
   (38, ⟨0, 0, 0, 0o777777, 0⟩)  /- CKEY -/]

/-- Field map of LCS (R525). -/
def lcsMap : List (Nat × WInfo) :=
  [(2, ⟨0, 0, 0, 7, 0⟩)  /- CTRL -/,
   (4, ⟨0, 0o17, 0, 0, 0⟩)  /- IPEND -/,
   (16, ⟨7, 0, 0, 0, 0⟩)  /- ADVT -/,
   (17, ⟨0o177, 0, 0, 0, 0⟩)  /- OTPA -/,
   (18, ⟨0o177777, 0, 0, 0, 0⟩)  /- OTPD -/,
   (19, ⟨0o77, 0, 0, 0, 0⟩)  /- RTBH -/,
   (20, ⟨0o777777, 0, 0, 0, 0⟩)  /- RTBL -/,
   (30, ⟨0, 0, 0, 0, 0o12422⟩)  /- IDH -/,
   (31, ⟨0, 0, 0, 0, 0o2553⟩)  /- IDL -/]

/-- Field map of TIME (R252). -/
def timeMap : List (Nat × WInfo) :=
  [(2, ⟨0, 0, 0, 0o37, 0⟩)  /- CTRL -/,
   (3, ⟨0, 0, 0, 0, 0o200⟩)  /- STAT -/,
   (4, ⟨0, 0o77, 0, 0, 0⟩)  /- IPEND -/,
   (21, ⟨0o777777, 0, 0, 0, 0⟩)  /- OFS0–OFS3 -/,
   (22, ⟨0o777777, 0, 0, 0, 0⟩)  /- OFS0–OFS3 -/,
   (23, ⟨0o777777, 0, 0, 0, 0⟩)  /- OFS0–OFS3 -/,
   (24, ⟨0o777777, 0, 0, 0, 0⟩)  /- OFS0–OFS3 -/,
   (25, ⟨0o777777, 0, 0, 0, 0⟩)  /- DRFH -/,
   (26, ⟨0o777777, 0, 0, 0, 0⟩)  /- DRFL -/,
   (27, ⟨3, 0, 0, 0, 0⟩)  /- MAPCTL -/,
   (38, ⟨0o777777, 0, 0, 0, 0o200000⟩)  /- RCN -/,
   (42, ⟨0o777777, 0, 0, 0, 0o16715⟩)  /- CALPH -/,
   (43, ⟨0o777777, 0, 0, 0, 0o312000⟩)  /- CALPL -/,
   (44, ⟨0o777777, 0, 0, 0, 0⟩)  /- CALBH -/,
   (45, ⟨0o777777, 0, 0, 0, 0o606500⟩)  /- CALBL -/,
   (46, ⟨0o777777, 0, 0, 0, 0o17204⟩)  /- RCPH -/,
   (47, ⟨0o777777, 0, 0, 0, 0o400000⟩)  /- RCPL -/,
   (48, ⟨0o777777, 0, 0, 0, 0o606⟩)  /- RCBH -/,
   (49, ⟨0o777777, 0, 0, 0, 0o500000⟩)  /- RCBL -/,
   (50, ⟨0o777777, 0, 0, 0, 0⟩)  /- DRBH -/,
   (51, ⟨0o777777, 0, 0, 0, 0⟩)  /- DRBL -/]

/-- Field map of TP (R253). -/
def tpMap : List (Nat × WInfo) :=
  [(2, ⟨0, 0, 0, 0o37, 0⟩)  /- CTRL -/,
   (4, ⟨0, 0o4377, 0, 0, 0⟩)  /- IPEND -/,
   (64, ⟨7, 0, 0, 0, 0⟩)  /- +0 TCTL -/,
   (65, ⟨0o37777, 0, 0, 0, 0o7346⟩)  /- +1 PERH -/,
   (66, ⟨0o777777, 0, 0, 0, 0o545000⟩)  /- +2 PERL -/,
   (67, ⟨0o37777, 0, 0, 0, 0⟩)  /- +3 PHH -/,
   (68, ⟨0o777777, 0, 0, 0, 0⟩)  /- +4 PHL -/,
   (69, ⟨0o77, 0, 0, 0, 0⟩)  /- +5 PHF -/,
   (70, ⟨0o37777, 0, 0, 0, 0o575⟩)  /- +6 WIDH -/,
   (71, ⟨0o777777, 0, 0, 0, 0o360400⟩)  /- +7 WIDL -/,
   (72, ⟨0o777777, 0, 0, 0, 0⟩)  /- +8 DLY -/,
   (73, ⟨0, 0, 0o777777, 0, 0⟩)  /- +9 SKIPC -/,
   (80, ⟨0o17777, 0, 0, 0, 0⟩)  /- +16 to +55 HTAB0–HTAB39 -/]

/-- Field map of EVT (R254). -/
def evtMap : List (Nat × WInfo) :=
  [(4, ⟨0, 0o777, 0, 0, 0⟩)  /- IPEND -/,
   (16, ⟨0o177, 0, 0, 0, 0⟩)  /- ERING -/,
   (18, ⟨0, 0, 0o777777, 0, 0⟩)  /- EOVRC -/,
   (24, ⟨3, 0, 0, 0, 0⟩)  /- ECFGn -/,
   (32, ⟨0o777777, 0, 0, 0, 0⟩)  /- EDLYn -/]

/-- Field map of MEAS (R255). -/
def measMap : List (Nat × WInfo) :=
  [(2, ⟨0o76, 0, 0, 1, 0⟩)  /- CTRL -/,
   (4, ⟨0, 7, 0, 0, 0⟩)  /- IPEND -/,
   (16, ⟨0o1777, 0, 0, 0, 0o144⟩)  /- PER -/,
   (17, ⟨0o1777, 0, 0, 0, 0⟩)  /- PHASE -/,
   (18, ⟨1, 0, 0, 0, 0⟩)  /- ALIGN -/,
   (19, ⟨0o77, 0, 0, 0, 0⟩)  /- LRING -/,
   (20, ⟨0o77, 0, 0, 0, 0⟩)  /- MRING -/,
   (22, ⟨0, 0, 0o777777, 0, 0⟩)  /- LSKIPC -/,
   (23, ⟨0, 0, 0o777777, 0, 0⟩)  /- LDROPC -/]

/-- Field map of FEED (R89). -/
def feedMap : List (Nat × WInfo) :=
  [(2, ⟨1, 0, 0, 6, 0⟩)  /- CTRL -/,
   (4, ⟨0, 0o177, 0, 0, 0⟩)  /- IPEND -/,
   (16, ⟨0o67, 0, 0, 0, 3⟩)  /- FMT -/,
   (17, ⟨0o777777, 0, 0, 0, 0⟩)  /- PRATE -/,
   (18, ⟨0o177, 0, 0, 0, 0o12⟩)  /- TTMO -/,
   (19, ⟨0, 0, 0o777777, 0, 0⟩)  /- LERR -/,
   (20, ⟨0o177, 0, 0, 0, 0o116⟩)  /- DC -/,
   (21, ⟨0o777777, 0, 0, 0, 0o200000⟩)  /- IQG -/,
   (22, ⟨0o777777, 0, 0, 0, 0⟩)  /- IQP -/,
   (23, ⟨0o777777, 0, 0, 0, 0o101106⟩)  /- NCk -/,
   (24, ⟨0o777777, 0, 0, 0, 0⟩)  /- NTk -/,
   (35, ⟨0o777777, 0, 0, 0, 0o140214⟩)  /- BLK0 -/,
   (36, ⟨0o777777, 0, 0, 0, 0o64020⟩)  /- BLK1 -/,
   (38, ⟨0o777777, 0, 0, 0, 0⟩)  /- FRHs -/,
   (39, ⟨0o777777, 0, 0, 0, 0⟩)  /- FRLs -/,
   (40, ⟨0o377777, 0, 0, 0, 0o65201⟩)  /- SCTLs -/,
   (46, ⟨0o777777, 0, 0, 0, 0o4110⟩)  /- ACTL -/,
   (47, ⟨0o1777, 0, 0, 0, 0⟩)  /- ADUTY -/,
   (48, ⟨0o1777, 0, 0, 0, 0o524⟩)  /- ATGT -/,
   (49, ⟨0o1777, 0, 0, 0, 0⟩)  /- AMIN -/,
   (50, ⟨0o1777, 0, 0, 0, 0o1777⟩)  /- AMAX -/]

/-- Field map of ROUTE (R90). -/
def routeMap : List (Nat × WInfo) :=
  [(2, ⟨1, 0, 0, 2, 1⟩)  /- CTRL -/,
   (4, ⟨0, 7, 0, 0, 0⟩)  /- IPEND -/,
   (16, ⟨0o400017, 0, 0, 0, 0⟩)  /- SMAPn -/,
   (34, ⟨0o7777, 0, 0, 0, 0o1750⟩)  /- CKGATE -/,
   (43, ⟨0o777777, 0, 0, 0, 0o717⟩)  /- RFCTL -/,
   (44, ⟨0o1777, 0, 0, 0, 0o144⟩)  /- RFRDY -/,
   (45, ⟨0o777777, 0, 0, 0, 0⟩)  /- RFTX0–RFTX3 -/,
   (46, ⟨0o777777, 0, 0, 0, 0⟩)  /- RFTX0–RFTX3 -/,
   (47, ⟨0o777777, 0, 0, 0, 0⟩)  /- RFTX0–RFTX3 -/,
   (48, ⟨0o777777, 0, 0, 0, 0⟩)  /- RFTX0–RFTX3 -/]

/-- Field map of SPEC (R91). -/
def specMap : List (Nat × WInfo) :=
  [(4, ⟨0, 0o177777, 0, 0, 0⟩)  /- IPEND -/,
   (16, ⟨0o776177, 0, 0, 0, 0o20012⟩)  /- SPCm -/,
   (17, ⟨0o77, 0, 0, 0, 0⟩)  /- SPRNGm -/,
   (19, ⟨0, 0, 0o777777, 0, 0⟩)  /- SPDRPm -/]

/-- Field map of DUCT (R179). -/
def ductMap : List (Nat × WInfo) :=
  [(2, ⟨1, 0, 0, 0, 0⟩)  /- CTRL -/,
   (4, ⟨0, 7, 0, 0, 0⟩)  /- IPEND -/,
   (16, ⟨0o777, 0, 0, 0, 0o310⟩)  /- WIN -/,
   (17, ⟨0, 0, 0, 0, 0o310⟩)  /- WACT -/,
   (24, ⟨0, 0, 0o777777, 0, 0⟩)  /- LATET -/,
   (25, ⟨0, 0o177777, 0, 0, 0⟩)  /- OVSTR -/,
   (26, ⟨0, 0, 0o777777, 0, 0⟩)  /- OVRC -/,
   (28, ⟨0o777, 0, 0, 0, 0⟩)  /- CSEL -/,
   (33, ⟨0o707777, 0, 0, 0, 0⟩)  /- TSEL -/]

/-- Field map of RANK (R180). -/
def rankMap : List (Nat × WInfo) :=
  [(2, ⟨1, 0, 0, 0, 1⟩)  /- CTRL -/,
   (4, ⟨0, 3, 0, 0, 0⟩)  /- IPEND -/]

/-- Field map of EXMP (R116). -/
def exmpMap : List (Nat × WInfo) :=
  [(2, ⟨0, 0, 0, 1, 0⟩)  /- CTRL -/,
   (4, ⟨0, 7, 0, 0, 0⟩)  /- IPEND -/,
   (16, ⟨0o7777, 0, 0, 0, 0⟩)  /- RETGT -/,
   (17, ⟨0, 0, 0o777777, 0, 0⟩)  /- CERR -/,
   (22, ⟨0o7777, 0, 0, 0, 0o2306⟩)  /- CBW -/,
   (23, ⟨0o77777, 0, 0, 0, 0o4000⟩)  /- TMBH -/,
   (24, ⟨0o777777, 0, 0, 0, 0o121⟩)  /- TMBL -/,
   (32, ⟨0o707777, 0, 0, 0, 0⟩)  /- LPp+0 PCTL -/,
   (33, ⟨0o37777, 0, 0, 0, 0⟩)  /- LPp+1 TAPAH -/,
   (34, ⟨0o777777, 0, 0, 0, 0⟩)  /- LPp+2 TAPAL -/,
   (35, ⟨0o37777, 0, 0, 0, 0⟩)  /- LPp+3 TAPBH -/,
   (36, ⟨0o777777, 0, 0, 0, 0⟩)  /- LPp+4 TAPBL -/,
   (37, ⟨0o77, 0, 0, 0, 0⟩)  /- LPp+5 PERAH -/,
   (38, ⟨0o777777, 0, 0, 0, 0⟩)  /- LPp+6 PERAL -/,
   (39, ⟨0o77, 0, 0, 0, 0⟩)  /- LPp+7 PERBH -/,
   (40, ⟨0o777777, 0, 0, 0, 0⟩)  /- LPp+8 PERBL -/,
   (41, ⟨0o77, 0, 0, 0, 0⟩)  /- LPp+9 CLENH -/,
   (42, ⟨0o777777, 0, 0, 0, 0⟩)  /- LPp+10 CLENL -/,
   (416, ⟨0o770377, 0, 0, 0, 0⟩)  /- RDr+0 RCTL -/,
   (417, ⟨0o77777, 0, 0, 0, 0⟩)  /- RDr+1 BASE -/,
   (418, ⟨0o77777, 0, 0, 0, 0⟩)  /- RDr+2 STRIDE -/,
   (419, ⟨0o777777, 0, 0, 0, 0⟩)  /- RDr+3 LENL -/]

/-- Field map of SCRP (R212). -/
def scrpMap : List (Nat × WInfo) :=
  [(2, ⟨1, 0, 0, 6, 1⟩)  /- CTRL -/,
   (4, ⟨0, 0o37, 0, 0, 0⟩)  /- IPEND -/,
   (16, ⟨0o17, 0, 0, 0, 4⟩)  /- CACHE -/,
   (17, ⟨0, 0, 0o777777, 0, 0⟩)  /- CHIT -/,
   (18, ⟨0, 0, 0o777777, 0, 0⟩)  /- CMISS -/,
   (19, ⟨0o1777, 0, 0, 0, 0o144⟩)  /- RTMO -/,
   (20, ⟨0o707777, 0, 0, 0, 0⟩)  /- JRk -/,
   (28, ⟨0, 0, 0o777777, 0, 0⟩)  /- JCNT -/,
   (29, ⟨0, 0, 0o777777, 0, 0⟩)  /- ACNT -/,
   (30, ⟨0, 0, 0o777777, 0, 0⟩)  /- FCNT -/,
   (31, ⟨0, 0, 0o777777, 0, 0⟩)  /- RDRC -/,
   (32, ⟨0o17, 0, 0, 0, 0⟩)  /- ABSEL -/,
   (33, ⟨0o777777, 0, 0, 0, 0⟩)  /- ABTAG -/,
   (35, ⟨0o777, 0, 0, 0, 0⟩)  /- HOCHAN -/,
   (36, ⟨0o1777, 0, 0, 0, 0⟩)  /- HOSEL -/,
   (37, ⟨0o777777, 0, 0, 0, 0⟩)  /- HOPTR -/,
   (38, ⟨0o777777, 0, 0, 0, 0⟩)  /- HOTAG -/,
   (39, ⟨0o777777, 0, 0, 0, 0⟩)  /- HOFCH, HOFCL -/,
   (40, ⟨0o777777, 0, 0, 0, 0⟩)  /- HOFCH, HOFCL -/,
   (41, ⟨0o777777, 0, 0, 0, 0⟩)  /- HOFKH, HOFKL -/,
   (42, ⟨0o777777, 0, 0, 0, 0⟩)  /- HOFKH, HOFKL -/,
   (43, ⟨0o37777, 0, 0, 0, 0⟩)  /- HOCDRH -/,
   (44, ⟨0o777777, 0, 0, 0, 0⟩)  /- HOCDRL -/]

/-- Field map of INKW (R213). -/
def inkwMap : List (Nat × WInfo) :=
  [(2, ⟨0, 0, 0, 0o17, 0⟩)  /- CTRL -/,
   (4, ⟨0, 0o17, 0, 0, 0⟩)  /- IPEND -/,
   (16, ⟨0o777000, 0, 0, 0, 0⟩)  /- +0 CCFG -/,
   (17, ⟨0o17, 0, 0, 0, 0⟩)  /- +1 CBASEH -/,
   (18, ⟨0o777777, 0, 0, 0, 0⟩)  /- +2 CBASEL -/,
   (19, ⟨0o37, 0, 0, 0, 0⟩)  /- +3 CLENH -/,
   (20, ⟨0o777777, 0, 0, 0, 0⟩)  /- +4 CLENL -/,
   (21, ⟨0o777777, 0, 0, 0, 0⟩)  /- +5 CFRM -/]

/-- Field map of QUIRE (R391). -/
def quireMap : List (Nat × WInfo) :=
  [(4, ⟨0, 1, 0, 0, 0⟩)  /- IPEND -/,
   (16, ⟨0o1777, 0, 0, 0, 0o400⟩)  /- QTMO -/,
   (17, ⟨0, 0, 0o777777, 0, 0⟩)  /- QTMOC -/,
   (18, ⟨0, 0o400000, 0, 0, 0⟩)  /- QTMOR -/,
   (28, ⟨0, 0, 0o777777, 0, 0⟩)  /- WBC -/]

/-- Field map of BLOT (R392). -/
def blotMap : List (Nat × WInfo) :=
  [(2, ⟨1, 0, 0, 2, 0⟩)  /- CTRL -/,
   (4, ⟨0, 0o37, 0, 0, 0⟩)  /- IPEND -/,
   (16, ⟨0o37777, 0, 0, 0, 0o37777⟩)  /- MEN -/,
   (17, ⟨0o1777, 0, 0, 0, 0o12⟩)  /- GAP -/,
   (22, ⟨0, 0, 0o777777, 0, 0⟩)  /- ABTC -/,
   (23, ⟨0, 0, 0o777777, 0, 0⟩)  /- SKPC -/,
   (24, ⟨0, 0o400000, 0, 0, 0⟩)  /- FAILM -/,
   (32, ⟨0o367, 0, 0, 0, 0⟩)  /- XSEL -/,
   (33, ⟨0o400000, 0, 0, 0, 0⟩)  /- XCTL -/,
   (34, ⟨0o17, 0, 0, 0, 0⟩)  /- XBH -/,
   (35, ⟨0o777777, 0, 0, 0, 0⟩)  /- XBL -/,
   (36, ⟨0o17, 0, 0, 0, 0⟩)  /- XEH -/,
   (37, ⟨0o777777, 0, 0, 0, 0⟩)  /- XEL -/,
   (64, ⟨0, 0, 0o777777, 0, 0⟩)  /- CECCm -/,
   (65, ⟨0, 0, 0o777777, 0, 0⟩)  /- UECCm -/,
   (66, ⟨0, 0o400000, 0, 0, 0⟩)  /- FEHm -/]

/-- Field map of RETN (R393). -/
def retnMap : List (Nat × WInfo) :=
  [(4, ⟨0, 1, 0, 0, 0⟩)  /- IPEND -/,
   (16, ⟨0o377, 0, 0, 0, 0⟩)  /- RMASKH -/,
   (17, ⟨0o777777, 0, 0, 0, 0⟩)  /- RMASKL -/,
   (18, ⟨0o377, 0, 0, 0, 0⟩)  /- SIGENH -/,
   (19, ⟨0o777777, 0, 0, 0, 0⟩)  /- SIGENL -/,
   (20, ⟨0, 0o377, 0, 0, 0⟩)  /- LOSTH -/,
   (21, ⟨0, 0o777777, 0, 0, 0⟩)  /- LOSTL -/]

/-- Field map of CORE (R304). -/
def coreMap : List (Nat × WInfo) :=
  [(2, ⟨0o61, 0, 0, 6, 0⟩)  /- CTRL -/,
   (3, ⟨0, 0, 0, 0, 1⟩)  /- STAT -/,
   (4, ⟨0, 0o77, 0, 0, 0⟩)  /- IPEND -/,
   (16, ⟨0o377777, 0, 0, 0, 0⟩)  /- PC -/,
   (17, ⟨0o377777, 0, 0, 0, 0⟩)  /- BRKPT -/,
   (20, ⟨0, 0, 0, 1, 0⟩)  /- SWEV -/,
   (21, ⟨0o377, 0, 0, 0, 0⟩)  /- RSEL -/,
   (22, ⟨0o377, 0, 0, 0, 0⟩)  /- RDAT0 -/,
   (23, ⟨0o777777, 0, 0, 0, 0⟩)  /- RDAT1 -/,
   (24, ⟨0o777777, 0, 0, 0, 0⟩)  /- RDAT2 -/,
   (27, ⟨0, 0, 0o777777, 0, 0⟩)  /- STLC -/]

/-- Field map of RUBR (R338). -/
def rubrMap : List (Nat × WInfo) :=
  [(2, ⟨0o17, 0, 0, 0, 0⟩)  /- CTRL -/,
   (4, ⟨0, 0o17, 0, 0, 0⟩)  /- IPEND -/,
   (16, ⟨3, 0, 0, 0, 0⟩)  /- USEL -/,
   (17, ⟨0o777, 0, 0, 0, 0⟩)  /- UADR -/,
   (18, ⟨0o777777, 0, 0, 0, 0⟩)  /- UDH -/,
   (19, ⟨0o777777, 0, 0, 0, 0⟩)  /- UDL -/,
   (20, ⟨0o777777, 0, 0, 0, 0⟩)  /- RVER0–RVER3 -/,
   (21, ⟨0o777777, 0, 0, 0, 0⟩)  /- RVER0–RVER3 -/,
   (22, ⟨0o777777, 0, 0, 0, 0⟩)  /- RVER0–RVER3 -/,
   (23, ⟨0o777777, 0, 0, 0, 0⟩)  /- RVER0–RVER3 -/,
   (32, ⟨0o700777, 0, 0, 0, 0⟩)  /- DENTc_e -/]

/-- Field map of LEGACY (R367). -/
def legacyMap : List (Nat × WInfo) :=
  [(4, ⟨0, 0o17, 0, 0, 0⟩)  /- IPEND -/,
   (16, ⟨0o400377, 0, 0, 0, 0o17⟩)  /- PACE -/,
   (17, ⟨0, 0, 0o777777, 0, 0⟩)  /- POVR -/,
   (18, ⟨0, 0, 0o777777, 0, 0⟩)  /- LWREFC -/]

/-- Field map of CHAN (R154). -/
def chanMap : List (Nat × WInfo) :=
  [(2, ⟨0, 0, 0, 0o17, 0⟩)  /- CTRL -/,
   (4, ⟨0, 0o7777, 0, 0, 0⟩)  /- IPEND -/,
   (20, ⟨0, 0, 0o777777, 0, 0⟩)  /- DDROP -/,
   (21, ⟨0, 0, 0o777777, 0, 0⟩)  /- LATEC -/,
   (22, ⟨0, 0o100000, 0, 0, 0⟩)  /- UPDSTAT -/,
   (24, ⟨0o777777, 0, 0, 0, 0⟩)  /- UFCH -/,
   (25, ⟨0o777777, 0, 0, 0, 0⟩)  /- UFCL -/,
   (26, ⟨0o777777, 0, 0, 0, 0⟩)  /- UFKH -/,
   (27, ⟨0o777777, 0, 0, 0, 0⟩)  /- UFKL -/,
   (28, ⟨0o777777, 0, 0, 0, 0⟩)  /- UCSTEP -/,
   (29, ⟨0o777777, 0, 0, 0, 0⟩)  /- UCPSTEP -/,
   (30, ⟨0, 0, 0, 0o17, 0⟩)  /- UCTL -/,
   (32, ⟨0o77, 0, 0, 0, 0⟩)  /- SCHIPH -/,
   (33, ⟨0o777777, 0, 0, 0, 0⟩)  /- SCHIPL -/,
   (34, ⟨0o377777, 0, 0, 0, 0⟩)  /- SFRH -/,
   (35, ⟨0o777777, 0, 0, 0, 0⟩)  /- SFRL -/,
   (36, ⟨0o17, 0, 0, 0, 0⟩)  /- SSECH -/,
   (37, ⟨0o777777, 0, 0, 0, 0⟩)  /- SSECL -/,
   (38, ⟨0o37, 0, 0, 0o400000, 0⟩)  /- SCTL -/]

/-- Field map of the legacy window (R353, R355, R361, R362). -/
def lwinMap : List (Nat × WInfo) :=
  [(0, ⟨0, 0, 0, 0, 0o221404⟩)  /- LID -/,
   (1, ⟨1, 0, 0, 6, 0⟩)  /- LCTL -/,
   (3, ⟨0, 0o777, 0, 0, 0⟩)  /- LIPND -/,
   (4, ⟨0o777, 0, 0, 0, 0⟩)  /- LHIEN -/,
   (5, ⟨0o777, 0, 0, 0, 0⟩)  /- LDIEN -/,
   (6, ⟨0o777, 0, 0, 0, 0⟩)  /- LDSEL -/,
   (7, ⟨0, 0, 0, 1, 0⟩)  /- LPWR -/,
   (8, ⟨0, 0, 0, 1, 0⟩)  /- LSNAP -/,
   (16, ⟨0o777777, 0, 0, 0, 0⟩)  /- LMBH -/,
   (17, ⟨0o777777, 0, 0, 0, 0⟩)  /- LMBD -/,
   (18, ⟨0o377, 0, 0, 0, 0⟩)  /- LMAH -/,
   (19, ⟨0o177777, 0, 0, 0, 0⟩)  /- LMAL -/,
   (20, ⟨0o777777, 0, 0, 0, 0⟩)  /- LMDAT -/,
   (24, ⟨0o400007, 0, 0, 0, 4⟩)  /- LSCTL -/,
   (25, ⟨0o1777, 0, 0, 0, 0⟩)  /- LSAGC -/,
   (64, ⟨0o777777, 0, 0, 0, 0⟩)  /- +0 LCCTL -/,
   (65, ⟨0o37777, 0, 0, 0, 0⟩)  /- +1 LCARH -/,
   (66, ⟨0o777777, 0, 0, 0, 0⟩)  /- +2 LCARL -/,
   (67, ⟨0o37777, 0, 0, 0, 0⟩)  /- +3 LCODH -/,
   (68, ⟨0o777777, 0, 0, 0, 0⟩)  /- +4 LCODL -/,
   (69, ⟨0, 0, 0, 0o777777, 0⟩)  /- +5 LCSET -/,
   (448, ⟨0o777, 0, 0, 0, 0⟩)  /- +0 LUDAT -/,
   (449, ⟨0, 0, 0, 0, 6⟩)  /- +1 LUSTA -/,
   (450, ⟨0o77, 0, 0, 0, 0o20⟩)  /- +2 LUCFG -/,
   (451, ⟨0o7777, 0, 0, 0, 0o202⟩)  /- +3 LUDIV -/,
   (456, ⟨3, 0, 0, 0, 0⟩)  /- LTPCTL -/,
   (457, ⟨0o7777, 0, 0, 0, 0o1750⟩)  /- LTPPER -/,
   (458, ⟨0o777777, 0, 0, 0, 0o303240⟩)  /- LTPWID -/,
   (459, ⟨0o1777, 0, 0, 0, 0⟩)  /- LTPOFH -/,
   (460, ⟨0o777777, 0, 0, 0, 0⟩)  /- LTPOFL -/,
   (461, ⟨0o17, 0, 0, 0, 0⟩)  /- LTPWIDH -/]

/-- The field map of a kind of page. -/
def Kind.map : Kind → List (Nat × WInfo)
  | .dev => devMap
  | .pwr => pwrMap
  | .clk => clkMap
  | .rst => rstMap
  | .evc => evcMap
  | .ses => sesMap
  | .ring => ringMap
  | .hif => hifMap
  | .spi => spiMap
  | .ser => serMap
  | .upd => updMap
  | .lcs => lcsMap
  | .time => timeMap
  | .tp => tpMap
  | .evt => evtMap
  | .meas => measMap
  | .feed => feedMap
  | .route => routeMap
  | .spec => specMap
  | .duct => ductMap
  | .rank => rankMap
  | .exmp => exmpMap
  | .scrp => scrpMap
  | .inkw => inkwMap
  | .quire => quireMap
  | .blot => blotMap
  | .retn => retnMap
  | .core => coreMap
  | .rubr => rubrMap
  | .legacy => legacyMap
  | .chan => chanMap
  | .lwin => lwinMap

/-- The words a map repeats: from the first to the last word, the block of `n` words at the first repeats. -/
def Kind.folds : Kind → List (Nat × Nat × Nat)
  | .pwr => [(22, 25, 1), (48, 63, 1), (64, 71, 1), (96, 127, 1)]
  | .clk => [(18, 21, 1)]
  | .evc => [(34, 45, 2), (64, 255, 1)]
  | .ses => [(32, 159, 16)]
  | .ring => [(32, 287, 8)]
  | .spi => [(16, 31, 8)]
  | .lcs => [(22, 29, 1)]
  | .tp => [(64, 319, 64), (80, 119, 1)]
  | .evt => [(24, 31, 1), (32, 39, 1), (40, 71, 1)]
  | .feed => [(23, 34, 3), (38, 45, 4)]
  | .route => [(16, 31, 1), (35, 42, 2)]
  | .spec => [(16, 47, 4)]
  | .duct => [(64, 95, 2), (96, 127, 2)]
  | .exmp => [(32, 415, 12), (416, 671, 4), (672, 735, 1), (736, 767, 1)]
  | .scrp => [(20, 27, 1)]
  | .inkw => [(16, 47, 16)]
  | .quire => [(20, 27, 1)]
  | .blot => [(64, 127, 4)]
  | .retn => [(32, 83, 2)]
  | .rubr => [(32, 95, 1)]
  | .lwin => [(64, 447, 8), (448, 455, 4)]
  | _ => []
/-- One fold of a word number. -/
def foldWord (w : Nat) (f : Nat × Nat × Nat) : Nat :=
  if f.1 ≤ w ∧ w ≤ f.2.1 then f.1 + (w - f.1) % f.2.2 else w

/-- The word of the field map that a word of a page repeats. -/
def normWord (k : Kind) (w : Nat) : Nat := k.folds.foldl foldWord w

/-- The entry of a key in a map of words. -/
def lookupW : List (Nat × WInfo) → Nat → WInfo
  | [], _ => WInfo.none
  | (k, i) :: r, w => if k = w then i else lookupW r w

/-- The masks and the reset value of a word (01 R35 for the header words; IEN has a bit for each bit of IPEND). Words 64
to 127 of a channel page are the context, which is memory (04 R126). The link words of sessions 0 to 3 are reserved (12 R429). -/
def wordInfo (k : Kind) (w : Nat) : WInfo :=
  if k = .lwin then lookupW k.map (normWord k w)
  else if w = 1 then ⟨0, 0, 0, 0, 1⟩
  else if w = 5 then ⟨(lookupW k.map 4).w1c, 0, 0, 0, 0⟩
  else if w = 6 then ⟨0, 0o17, 0, 0, 0⟩
  else if w = 8 then ⟨0o10, 0, 0, 0, 0⟩
  else if k = .chan ∧ 64 ≤ w ∧ w < 128 then ⟨0o777777, 0, 0, 0, 0⟩
  else if k = .ses ∧ 32 ≤ w ∧ w < 96 ∧ 13 ≤ w % 16 then WInfo.none
  else lookupW k.map (normWord k w)

/-- The page on which the legacy window's words are kept, outside the pages of the device map (10 R353). -/
def lwinPage : Nat := 2000

/-- The page on which the own words of session `q` of the HIF page are kept (12 R427). -/
def ownPage (q : Nat) : Nat := 3000 + q

/-- The kind of a page and its index among the pages of that kind (01 R41). -/
def pageKind (p : Nat) : Option (Kind × Nat) :=
  if p = 0 then some (.dev, 0) else if p = 1 then some (.pwr, 0) else if p = 2 then some (.clk, 0)
  else if p = 3 then some (.rst, 0) else if p = 4 then some (.evc, 0) else if p = 5 then some (.ses, 0)
  else if p ≤ 7 then some (.ring, p - 6) else if p = 8 then some (.hif, 0) else if p = 9 then some (.spi, 0)
  else if p ≤ 13 then some (.ser, p - 10) else if p = 14 then some (.upd, 0) else if p = 15 then some (.lcs, 0)
  else if p = 16 then some (.time, 0) else if p = 17 then some (.tp, 0) else if p = 18 then some (.evt, 0)
  else if p = 19 then some (.meas, 0) else if p ≤ 27 then some (.feed, p - 20) else if p = 28 then some (.route, 0)
  else if p = 29 then some (.spec, 0) else if p = 30 then some (.duct, 0) else if p ≤ 38 then some (.rank, p - 31)
  else if p = 39 then some (.exmp, 0) else if p = 40 then some (.scrp, 0) else if p = 41 then some (.inkw, 0)
  else if p = 42 then some (.quire, 0) else if p = 43 then some (.blot, 0) else if p = 44 then some (.retn, 0)
  else if p ≤ 48 then some (.core, p - 45) else if p = 49 then some (.rubr, 0) else if p = 50 then some (.legacy, 0)
  else if p < 512 then none else if p < 1024 then some (.chan, p - 512)
  else if p = lwinPage then some (.lwin, 0) else if 3000 ≤ p ∧ p < 3008 then some (.hif, p - 3000)
  else none

/-- The home domain of a page (01 R41). -/
def homeDomain (p : Nat) : Nat :=
  if p ≤ 3 then 0 else if p ≤ 8 then 2 else if p ≤ 13 then 3 else if p = 14 then 2 else if p = 15 then 0
  else if p ≤ 19 then 15 else if p ≤ 23 then 4 else if p ≤ 27 then 5 else if p ≤ 30 then 10 else if p ≤ 34 then 6
  else if p ≤ 38 then 7 else if p = 39 then 10 else if p = 40 then 8 else if p = 41 then 9 else if p = 42 then 10
  else if p = 43 then 2 else if p = 44 then 0 else if p ≤ 48 then 11 + (p - 45) else if p ≤ 50 then 2
  else if p < 1024 then 10 else 2

/-- The permission group of a page (01 R41). -/
def pageGroup (p : Nat) : Nat :=
  if p ≤ 3 then 0 else if p ≤ 7 then 1 else if p ≤ 13 then 2 else if p ≤ 15 then 3 else if p ≤ 19 then 4
  else if p ≤ 29 then 5 else if p ≤ 38 then 6 else if p = 39 then 7 else if p ≤ 41 then 8 else if p ≤ 44 then 9
  else if p ≤ 49 then 10 else if p = 50 then 11 else 12

/-- Domains that are on after reset (14 R459). -/
def domOnReset (d : Nat) : Bool := d ≤ 3 || (10 ≤ d && d ≤ 15)

/-- The reset value of word `w` of page `p`: the field map's, with the values that depend on the index of a port, a
stream, a session or a domain. -/
def resetOf (p w : Nat) : Nat :=
  match pageKind p with
  | none => 0
  | some (k, _) =>
    if w = 0 ∧ p < 1024 then p
    else if k = .route ∧ 16 ≤ w ∧ w ≤ 31 then w - 16
    else if k = .tp ∧ 64 ≤ w ∧ w < 320 ∧ 16 ≤ w % 64 ∧ w % 64 ≤ 55 then 200 * (w % 64 - 16)
    else if k = .ses ∧ 32 ≤ w ∧ w ≤ 80 ∧ w % 16 = 0 then 0o400000
    else if k = .pwr ∧ 48 ≤ w ∧ w ≤ 63 then (if domOnReset (w - 48) then 0o400144 else 0o144)
    else if k = .quire ∧ 20 ≤ w ∧ w ≤ 27 then ([0, 1, 2, 0, 1, 3, 0, 4] : List Nat).getD (w - 20) 0
    else if p < 3000 ∨ 32 ≤ w then (wordInfo k w).reset else 0

/-- The key of word `w` of page `p` in `State.regs`. -/
def pg (p w : Nat) : Nat := p * 1024 + w

/-- The reset value of a register word by its key. -/
def resetWord (key : Nat) : Word := wordOf (resetOf (key / 1024) (key % 1024))

end Sys2Proof.Machine
end

