-- ==== Sys2Proof/Machine/Ops.lean ====
section
/-! DEFINITION. The named operations over the state that every family of commands shares: tables, register words and
fields, memory words, counters, events, error records, rings, free values, the sources of the event controller, and the
end of every command. -/

namespace Sys2Proof.Machine

/-! ### Sparse tables -/

/-- The entry of a key, if listed. -/
def Store.get? {α : Type} : Store α → Nat → Option α
  | [], _ => none
  | (k, v) :: r, x => if k = x then some v else Store.get? r x

/-- Lists a value under a key, in rising order, in place of an earlier value. -/
def Store.put {α : Type} : Store α → Nat → α → Store α
  | [], x, y => [(x, y)]
  | (k, v) :: r, x, y =>
    if x < k then (x, y) :: (k, v) :: r
    else if x = k then (x, y) :: r
    else (k, v) :: Store.put r x y

/-- Takes a key out of the list. -/
def Store.del {α : Type} : Store α → Nat → Store α
  | [], _ => []
  | (k, v) :: r, x => if k = x then r else (k, v) :: Store.del r x

/-- Every key of the table is above `lo`, and the keys rise strictly. -/
def Store.above {α : Type} : Nat → Store α → Bool
  | _, [] => true
  | lo, (k, _) :: r => decide (lo < k) && Store.above k r

/-- The canonical form: keys strictly rising. -/
def Store.wf {α : Type} : Store α → Bool
  | [] => true
  | (k, _) :: r => Store.above k r

/-- The canonical form of the register words: keys strictly rising and no entry at its reset value. -/
def regsWf (t : Store Word) : Bool := Store.wf t && t.all (fun e => e.2 != resetWord e.1)

/-! ### Fields of a word -/

/-- Bits hi to lo of a word, as a number. -/
def fieldOf (v : Word) (hi lo : Nat) : Nat := (v.toNat / 2 ^ lo) % 2 ^ (hi - lo + 1)

/-- Bit i of a word. -/
def bitOf (v : Word) (i : Nat) : Bool := v.toNat.testBit i

/-- A word with bits hi to lo replaced by a number, taken modulo the width of the field. -/
def withField (v : Word) (hi lo n : Nat) : Word :=
  wordOf (v.toNat - fieldOf v hi lo * 2 ^ lo + (n % 2 ^ (hi - lo + 1)) * 2 ^ lo)

/-- 1 for true. -/
def b2n (b : Bool) : Nat := if b then 1 else 0

/-- A signed reading of the low n bits of a number (00 R9). -/
def signedOf (n : Nat) (x : Nat) : Int :=
  if x % 2 ^ n < 2 ^ (n - 1) then (x % 2 ^ n : Nat) else (x % 2 ^ n : Nat) - (2 ^ n : Nat)

/-- The two's complement code of an integer in n bits. -/
def codeOf (n : Nat) (i : Int) : Nat := (i % (2 ^ n : Nat)).toNat

/-- ⌊a / b + 1/2⌋, the rounding of 00 R547. -/
def roundDiv (a b : Int) : Int := (2 * a + b) / (2 * b)

/-- ⌈a / b⌉. -/
def ceilDiv (a b : Nat) : Nat := (a + b - 1) / b

/-! ### Register words -/

/-- The word kept under a key of the register table. -/
def State.reg (s : State) (key : Nat) : Word := (s.regs.get? key).getD (resetWord key)

/-- Keeps a word under a key; the reset value is kept as no entry. -/
def State.setReg (s : State) (key : Nat) (v : Word) : State :=
  { s with regs := if v = resetWord key then s.regs.del key else s.regs.put key v }

/-- Bits hi to lo of a register word. -/
def State.fld (s : State) (key hi lo : Nat) : Nat := fieldOf (s.reg key) hi lo

/-- Bit i of a register word. -/
def State.bit (s : State) (key i : Nat) : Bool := bitOf (s.reg key) i

/-- Replaces bits hi to lo of a register word. -/
def State.setF (s : State) (key hi lo n : Nat) : State := s.setReg key (withField (s.reg key) hi lo n)

/-- Sets or clears bit i of a register word. -/
def State.setB (s : State) (key i : Nat) (b : Bool) : State := s.setF key i i (b2n b)

/-- A value of two words, most significant word first (00 R10). -/
def State.reg2 (s : State) (key : Nat) : Nat := (s.reg key).toNat * 262144 + (s.reg (key + 1)).toNat

/-- Writes a value of two words. -/
def State.setReg2 (s : State) (key n : Nat) : State :=
  (s.setReg key (wordOf (n / 262144))).setReg (key + 1) (wordOf n)

/-- Adds 1 to a count, modulo 2^18. -/
def State.inc (s : State) (key : Nat) : State := s.setReg key (s.reg key + 1)

/-- Adds to a saturating count. -/
def State.addSat (s : State) (key n : Nat) : State :=
  s.setReg key (wordOf (min ((s.reg key).toNat + n) 262143))

/-- Adds 1 to a saturating count. -/
def State.incSat (s : State) (key : Nat) : State := s.addSat key 1

/-- Raises event bit i of a page: its IPEND bit becomes 1 (01 R35, R38). -/
def State.raise (s : State) (p i : Nat) : State := s.setB (pg p 4) i true

/-- What a plain write leaves in a word: RW bits take the value, W1C bits clear where it has a 1, every other bit is kept
(00 R12, R14). -/
def mergeWrite (i : WInfo) (old v : Word) : Word :=
  ((old &&& ~~~ wordOf i.rw) ||| (v &&& wordOf i.rw)) &&& ~~~ (v &&& wordOf i.w1c)

/-! ### Memory words -/

/-- The word of a memory key; an unlisted word is undefined (11 R372). -/
def State.rdMem (s : State) (key : Nat) : Word := (s.mem.get? key).getD (Config.memWord s.memEpoch key s.freeCtr)

/-- Base addresses of the regions of the device map (01 R32). -/
def shramBase : Nat := 0o02000000
/-- See `shramBase`. -/
def quireBase : Nat := 0o04000000
/-- See `shramBase`. -/
def exmpBase : Nat := 0o05000000
/-- See `shramBase`. -/
def scrpBase : Nat := 0o10000000
/-- See `shramBase`. -/
def inkwBase : Nat := 0o20000000
/-- See `shramBase`. -/
def coreBase : Nat := 0o40000000
/-- Key of word a of the backup store in `State.mem` (14 R484). -/
def bkpKey (a : Nat) : Nat := 16777216 + a
/-- Key of the high half of microword u of core c's Rubric store in `State.mem` (09 R330). -/
def rubrKey (c u : Nat) : Nat := 16777216 + 0o200000 + 1024 * c + 2 * u

/-- Key of the tap-store entry of channel c, in memory 15 (R368), for its errors. -/
def tapKey (c : Nat) : Nat := 16777216 + 0o400000 + c
/-- Key of word w of the latch staging buffer, in memory 15. -/
def stagingKey (w : Nat) : Nat := 16777216 + 0o400000 + 512 + w
/-- Key of sample i of stream n in the Feed buffer, memory 14. -/
def bufferKey (n i : Nat) : Nat := 33554432 + 16 * i + n

/-- The memory number and the word offset of a memory key (R368). The Rubric control store belongs to the program memory of
its core. Memories 14 and 15 are units' own: where a value lies in them is not given. -/
def memOf (key : Nat) : Nat × Nat :=
  if 33554432 ≤ key then (14, key - 33554432)
  else if 16777216 + 0o400000 ≤ key then (15, key - (16777216 + 0o400000))
  else if 16777216 + 0o200000 ≤ key then ((key - (16777216 + 0o200000)) / 1024, 262144 + (key - (16777216 + 0o200000)) % 1024)
  else if 16777216 ≤ key then (13, key - 16777216)
  else if coreBase ≤ key then
    let o := key - coreBase
    (o / 524288 + (if o % 524288 < 262144 then 0 else 4), o % 262144)
  else if inkwBase ≤ key then (12, key - inkwBase)
  else if scrpBase ≤ key then (11, key - scrpBase)
  else if exmpBase ≤ key then (10, key - exmpBase)
  else if quireBase ≤ key then (9, key - quireBase)
  else (8, key - shramBase)

/-- Aborts a borrow: the restore of the region begins, and the region is skipped for the sweep (R383). -/
def State.abortBorrow (s : State) : State :=
  match s.blot.borrow with
  | some b => { s with blot := { s.blot with restoring := true, skip := (b.1, b.2.1) :: s.blot.skip.filter (fun x => x != (b.1, b.2.1)) } }
  | none => s

/-- Aborts a borrow whose region holds a word of memory m from offset lo to below hi (R377, R382, R383). -/
def State.abortRange (s : State) (m lo hi : Nat) : State :=
  match s.blot.borrow with
  | some b => if b.1 = m ∧ b.2.1 * 64 < hi ∧ lo < b.2.1 * 64 + 64 then s.abortBorrow else s
  | none => s

/-- Starts the restore of a borrowed region that an access touches (R383). -/
def State.touch (s : State) (key : Nat) : State := s.abortRange (memOf key).1 (memOf key).2 ((memOf key).2 + 1)

/-- An access to the word waits for the restore of a borrowed region: it lies in that region, or in that memory while the
restore runs (R383). -/
def State.memBlocked (s : State) (key : Nat) : Bool :=
  match s.blot.borrow with
  | some b => (memOf key).1 == b.1 && (s.blot.restoring || (memOf key).2 / 64 == b.2.1)
  | none => false

/-- Accesses that must wait for a restore start it (R383); nothing when none must. -/
def State.restoreFor (s : State) (keys : List Nat) : Option State :=
  if keys.any s.memBlocked then some (keys.foldl State.touch s) else none

/-- The words of a unit's own store are written again: they carry no error (R369). -/
def State.fresh (s : State) (p : Nat → Bool) : State :=
  { s with blot := { s.blot with eccBad := s.blot.eccBad.filter fun e => !p e.1, wb := s.blot.wb.filter fun k => !p k } }

/-- A store clears every reservation of the granule that it reaches (09 R315). -/
def Core.clearResv (c : Core) (g : Nat) : Core := if c.resv = some g then { c with resv := none } else c

/-- A write of a memory word: fresh check bits; a waiting write-back of the word is cancelled (11 R369, R370); a
reservation of its granule ends (09 R315). -/
def State.wrMem (s : State) (key : Nat) (v : Word) : State :=
  let t := s.touch key
  { t with mem := t.mem.put key v
           blot := { t.blot with eccBad := t.blot.eccBad.del key, wb := t.blot.wb.filter fun k => k != key }
           cores := t.cores.map fun c => c.clearResv (key / 8) }

/-- Words at consecutive keys. -/
def State.rdMemN (s : State) (key : Nat) : Nat → List Word
  | 0 => []
  | n + 1 => s.rdMem key :: s.rdMemN (key + 1) n

/-- Stores words at consecutive keys. -/
def State.wrMemN (s : State) (key : Nat) : List Word → State
  | [] => s
  | v :: r => (s.wrMem key v).wrMemN (key + 1) r

/-! ### Free values -/

/-- A free value, and the state with the counter advanced (log 1). -/
def State.free (s : State) : Nat × State := (Config.freeNat s.freeCtr, { s with freeCtr := s.freeCtr + 1 })

/-- n free words. -/
def State.freeWords (s : State) : Nat → List Word × State
  | 0 => ([], s)
  | n + 1 =>
    let r := s.free
    let t := r.2.freeWords n
    (wordOf r.1 :: t.1, t.2)

/-! ### Time -/

/-- RXT in units of 2^-16 ns (07 R214). -/
def State.rxt (s : State) : Nat := s.time.ns * 65536 + s.time.frac

/-- The four words of the RXT layout of a time in units of 2^-16 ns (07 R216). -/
def rxtWords (t : Nat) : List Word :=
  [wordOf (t / 65536 / 2 ^ 36 % 4096), wordOf (t / 65536 / 2 ^ 18), wordOf (t / 65536), wordOf (t % 65536)]

/-- The four words of a signed value in the RXT layout (07 R216). -/
def sxtWords (x : Int) : List Word :=
  let n := codeOf 64 x
  [wordOfInt (signedOf 12 (n / 65536 / 2 ^ 36)), wordOf (n / 65536 / 2 ^ 18), wordOf (n / 65536), wordOf (n % 65536)]

/-- Writes four words at consecutive keys. -/
def State.setRegs (s : State) (key : Nat) : List Word → State
  | [] => s
  | v :: r => (s.setReg key v).setRegs (key + 1) r

/-- The unsigned value of four words in the RXT layout, in units of 2^-16 ns. -/
def State.rxtAt (s : State) (key : Nat) : Nat :=
  (((s.reg key).toNat % 4096 * 262144 + (s.reg (key + 1)).toNat) * 262144 + (s.reg (key + 2)).toNat) * 65536
    + (s.reg (key + 3)).toNat % 65536

/-- The difference of two RXT values in ns, modulo 2^48 (07 R217). -/
def rxtDiff (a b : Nat) : Nat := (a + 281474976710656 - b) % 281474976710656

/-! ### Pages, domains, personality -/

/-- PSTATE of a domain (01 R35). -/
def State.pstate (s : State) (d : Nat) : BitVec 2 := (s.pwr.dom.toList.getD d 0)

/-- A domain is on. -/
def State.domOn (s : State) (d : Nat) : Bool := s.pstate d == 2

/-- The part is strapped LEGACY or DUAL. -/
def State.legacyDual (s : State) : Bool := s.pins.persona != .native

/-- A session is present in the personality (12 R394). -/
def State.present (s : State) (q : Nat) : Bool :=
  match s.pins.persona with
  | .native => true
  | .legacy => decide (q < 2)
  | .dual => !(q == 4 || q == 5)

/-- The supervisor session (12 R396). -/
def State.supv (s : State) : Nat := s.fld (pg 5 16) 2 0

/-- A session's mask (12 R396): the supervisor's reads all ones; in LEGACY session 1 has a fixed mask; in the recovery
state every session has one mask (15 R501). -/
def State.maskOf (s : State) (q : Nat) : Nat :=
  if s.bit (pg 14 3) 4 then 0o020012
  else if s.pins.persona = .legacy then (if q = 1 then 0o020010 else 0)
  else if q = s.supv then 0o177777
  else s.fld (pg 5 (33 + 16 * q)) 15 0

/-! ### Rings (12 R415 to R419) -/

/-- The key of word k of ring r. -/
def ringKey (r k : Nat) : Nat := pg (6 + r / 32) (32 + 8 * (r % 32) + k)
/-- The ring is on. -/
def State.ringOn (s : State) (r : Nat) : Bool := s.bit (ringKey r 0) 17
/-- SIZE = 64 × 2^SZ. -/
def State.ringSize (s : State) (r : Nat) : Nat := 64 * 2 ^ s.fld (ringKey r 0) 16 13
/-- The producer's code (R416). -/
def State.ringProd (s : State) (r : Nat) : Nat := s.fld (ringKey r 0) 12 8
/-- The consumer's code. -/
def State.ringCons (s : State) (r : Nat) : Nat := s.fld (ringKey r 0) 7 3
/-- The unit is the assigned producer. -/
def State.prodIs (s : State) (r u : Nat) : Bool := s.ringOn r && s.ringProd r == u
/-- The unit is the assigned consumer. -/
def State.consIs (s : State) (r u : Nat) : Bool := s.ringOn r && s.ringCons r == u
/-- FILL = (PIDX − CIDX) mod 2^18. -/
def State.ringFill (s : State) (r : Nat) : Nat := (s.reg (ringKey r 2) - s.reg (ringKey r 3)).toNat
/-- The free space. -/
def State.ringRoom (s : State) (r : Nat) : Nat := s.ringSize r - s.ringFill r
/-- The memory key of index i. -/
def State.ringAddr (s : State) (r i : Nat) : Nat :=
  shramBase + s.fld (ringKey r 1) 12 0 * 64 + i % s.ringSize r
/-- The words of a ring from index i on. -/
def State.ringRead (s : State) (r i : Nat) : Nat → List Word
  | 0 => []
  | n + 1 => s.rdMem (s.ringAddr r i) :: s.ringRead r (i + 1) n
/-- Stores words in a ring from index i on. -/
def State.ringWrite (s : State) (r i : Nat) : List Word → State
  | [] => s
  | v :: l => (s.wrMem (s.ringAddr r i) v).ringWrite r (i + 1) l
/-- A hardware producer writes a whole record and then moves PIDX. -/
def State.ringPut (s : State) (r : Nat) (ws : List Word) : State :=
  let p := (s.reg (ringKey r 2)).toNat
  (s.ringWrite r p ws).setReg (ringKey r 2) (wordOf (p + ws.length))
/-- The hidden state of port n. -/
def State.ser (s : State) (n : Nat) : Ser := s.sers.toList.getD n Ser.reset

/-- The flow character that the thresholds of port n require, true: XON (13 R445). -/
def State.flowNeeded (s : State) (n : Nat) : Option Bool :=
  let p := 10 + n
  let room := s.ringRoom (s.fld (pg p 21) 5 0)
  if s.bit (pg p 22) 17 = false then none
  else if s.bit (pg p 3) 5 = false ∧ room ≤ s.fld (pg p 23) 16 0 then some false
  else if s.bit (pg p 3) 5 = true ∧ (s.reg (pg p 24)).toNat ≤ room then some true
  else none

/-- The thresholds of port n are looked at when the free space or their settings change; none falls due in a break. -/
def State.flowEval (s : State) (n : Nat) : State :=
  let x := s.ser n
  if x.flowDue.isSome = true ∨ s.bit (pg (10 + n) 2) 2 = true then s
  else { s with sers := s.sers.setIfInBounds n { x with flowDue := s.flowNeeded n } }

/-- The free space of ring r has changed. -/
def State.flowRing (s : State) (r : Nat) : State :=
  (List.range 4).foldl (fun t n => if t.fld (pg (10 + n) 21) 5 0 = r then t.flowEval n else t) s

/-- A hardware consumer moves CIDX past n words; a receive drain of the ring gains free space (13 R445). -/
def State.ringTake (s : State) (r n : Nat) : State :=
  (s.setReg (ringKey r 3) (s.reg (ringKey r 3) + wordOf n)).flowRing r
/-- REV.DATA: FILL ≥ DWM. -/
def State.ringData (s : State) (r : Nat) : Bool := decide ((s.reg (ringKey r 5)).toNat ≤ s.ringFill r)
/-- REV.ROOM: SIZE − FILL ≥ RWM. -/
def State.ringHasRoom (s : State) (r : Nat) : Bool := decide ((s.reg (ringKey r 6)).toNat ≤ s.ringRoom r)
/-- The ring's event (R419). -/
def State.ringEvent (s : State) (r : Nat) : Bool :=
  (s.bit (ringKey r 7) 2 && s.ringData r) || (s.bit (ringKey r 7) 3 && s.ringHasRoom r) || s.bit (ringKey r 7) 4

/-! ### The event controller's sources (12 R420, R422) -/

/-- A page asserts its event while an enabled IPEND bit is set (01 R38). -/
def State.pageEvent (s : State) (p : Nat) : Bool := s.reg (pg p 4) &&& s.reg (pg p 5) != 0

/-- Some channel of group g asserts its event (04 R124). Only a listed word of the register table can be a set IPEND. -/
def State.groupEvent (s : State) (g : Nat) : Bool :=
  s.regs.any fun e => e.1 % 1024 == 4 && e.1 / 1024 / 32 == 16 + g && s.pageEvent (e.1 / 1024)

/-- Source k is asserted (12 R420). -/
def State.asserted (s : State) (k : Nat) : Bool :=
  if k ≤ 50 then s.pageEvent k
  else if k ≤ 66 then s.groupEvent (k - 51)
  else if k ≤ 130 then s.ringEvent (k - 67)
  else if k ≤ 138 then s.fld (pg 5 (34 + 16 * (k - 131))) 3 0 != 0
  else if k ≤ 146 then s.reg (pg 5 (39 + 16 * (k - 139))) != 0
  else if k ≤ 164 then s.bit (pg 4 30) (k - 147)
  else if k ≤ 182 then s.bit (pg 4 31) (k - 165)
  else if k ≤ 188 then s.bit (pg 4 33) (k - 183)
  else if k ≤ 191 then s.bit (pg 4 32) (k - 189)
  else false

/-- The key of ROUTEk (12 R431). -/
def routeKey (k : Nat) : Nat := pg 4 (64 + k)

/-- The sources whose rise goes to an event ring (SEN = 1) and that are asserted in `t` and not in `s`, with the time of
the rise (12 R422, R424). Only a route that is listed in the register table can have SEN = 1. -/
def risesOf (s t : State) : List (Nat × Nat × Bool × Nat) :=
  t.regs.filterMap fun e =>
    if routeKey 0 ≤ e.1 ∧ e.1 ≤ routeKey 191 ∧ bitOf e.2 8 = true ∧ s.asserted (e.1 - routeKey 0) = false
        ∧ t.asserted (e.1 - routeKey 0) = true
    then some (e.1 - routeKey 0, fieldOf e.2 7 5, t.time.on, if t.time.on then t.rxt else 0) else none

/-- Starts the power-up of a domain that is off (14 R461, R462). -/
def State.wakeDom (s : State) (d : Nat) : State :=
  if s.pstate d = 0 ∨ s.pstate d = 3 then
    { s.setB (pg 1 (48 + d)) 17 true with pwr := { s.pwr with dom := s.pwr.dom.setIfInBounds d 1 } }
  else s

/-- A source requests level p of core c (12 R423). -/
def State.levelPending (s : State) (c p : Nat) : Bool :=
  s.regs.any fun e =>
    decide (routeKey 0 ≤ e.1 ∧ e.1 ≤ routeKey 191) && bitOf e.2 17 && fieldOf e.2 16 15 == c && fieldOf e.2 14 12 == p
      && s.asserted (e.1 - routeKey 0)

/-- Level p of core c is pending, or for VC0 a source of the legacy window (12 R423). -/
def State.levelUp (s : State) (c p : Nat) : Bool :=
  s.levelPending c p || (c == 0 && s.legacyDual && s.reg (pg lwinPage 3) &&& s.reg (pg lwinPage 5) != 0)

/-- A core whose domain is off wakes when one of its levels becomes pending (14 R462). -/
def State.wakeLevels (s t : State) : State :=
  if t.pwr.st = .run ∨ t.pwr.st = .doze then
    (List.range 4).foldl (fun u c =>
      if !t.domOn (11 + c) && (List.range 8).any (fun p => t.levelUp c p && !s.levelUp c p) then u.wakeDom (11 + c) else u) t
  else t

/-- The end of a command that took `s` to `t`: the rises it caused wait for their event records, a core whose level became
pending wakes, and the count of the free values moves on, so that the next command meets fresh ones. -/
def settle (s t : State) : State :=
  let u := s.wakeLevels t
  { u with ev := { t.ev with rises := t.ev.rises ++ risesOf s t }, freeCtr := t.freeCtr + 1 }

/-- The outcome of a command that took `s` to `t` (log 35). -/
def done (s t : State) : Host.Outcome State Fault Refusal := .next (settle s t)

/-! ### Error codes and their records (00 R17 to R20, R546; 12 R398) -/

/-- Error codes (00 R20). -/
def eRANGE : Nat := 1
/-- See `eRANGE`. -/
def ePERM : Nat := 2
/-- See `eRANGE`. -/
def eLOCKED : Nat := 3
/-- See `eRANGE`. -/
def eBUSY : Nat := 4
/-- See `eRANGE`. -/
def eSTATE : Nat := 5
/-- See `eRANGE`. -/
def eUNMAPPED : Nat := 6
/-- See `eRANGE`. -/
def eECC : Nat := 7
/-- See `eRANGE`. -/
def eLOST : Nat := 8
/-- See `eRANGE`. -/
def eTIMEOUT : Nat := 9
/-- See `eRANGE`. -/
def eADMIT : Nat := 10
/-- See `eRANGE`. -/
def eLATE : Nat := 11
/-- See `eRANGE`. -/
def eCONFIG : Nat := 12
/-- See `eRANGE`. -/
def eABORTLATE : Nat := 13

/-- Records a code in a page's ERR word with the offset, unless it already holds one (00 R17, R546). -/
def State.pageErr (s : State) (p code off : Nat) : State :=
  if s.fld (pg p 6) 3 0 = 0 then (s.setReg (pg p 6) (wordOf code)).setReg (pg p 7) (wordOf (off % 1024)) else s

/-- An access of a hardware unit meets an off domain: it fails, with STATE in the ERR word of the unit's own page (14 R462; 00 R546). -/
def State.unitFails (s : State) (p : Nat) : State := s.pageErr p eSTATE 2

/-- Records a code in a session's error word, with the address (12 R398). -/
def State.sesErr (s : State) (q code a : Nat) : State :=
  let t := s.incSat (pg 5 (37 + 16 * q))
  if t.fld (pg 5 (34 + 16 * q)) 3 0 = 0 then
    ((t.setF (pg 5 (34 + 16 * q)) 3 0 code).setReg (pg 5 (35 + 16 * q)) (wordOf (a / 262144))).setReg
      (pg 5 (36 + 16 * q)) (wordOf a)
  else t.setB (pg 5 (34 + 16 * q)) 17 true

/-- Records a code in a core's CORE page, OFFSET 0, and raises ERRE (00 R19, R29). -/
def State.coreErr (s : State) (c code : Nat) : State := (s.pageErr (45 + c) code 0).raise (45 + c) 4

/-- Records a code with the writer of the access concerned. The test access port has no error word (15 R521). -/
def State.writerErr (s : State) (w : Writer) (code a : Nat) : State :=
  match w with
  | .ses q => s.sesErr q.val code a
  | .core c => s.coreErr c.val code
  | .tap => s

/-- What a refused write records (00 R17, R19): the page's ERR word, if the address is mapped, and the writer's. -/
def State.recordRefusal (s : State) (w : Writer) (page : Option Nat) (off code a : Nat) : State :=
  let t := match page with
    | some p => s.pageErr p code off
    | none => s
  t.writerErr w code a

end Sys2Proof.Machine
end

