-- ==== Sys2Proof/Machine/Operands.lean ====
section
/-! DEFINITION. The operands of a register write: the stated range of every field (00 R16 check 5), and the word that a
command row writes when it stands for one bit of a word. -/

namespace Sys2Proof.Machine

/-- A field with a stated range: word, high bit, low bit, smallest and largest value. -/
abbrev FieldRange := Nat × Nat × Nat × Nat × Nat

/-- The stated ranges of the fields of a kind of page, from its field map. -/
def Kind.ranges : Kind → List FieldRange
  | .pwr => [(2, 3, 1, 0, 4), (21, 9, 0, 100, 1023), (22, 15, 0, 1, 65535), (48, 9, 0, 1, 1023)]
  | .clk => [(16, 15, 0, 10000, 52000)]
  | .evc => [(35, 17, 0, 1, 262143)]
  | .ses => [(17, 16, 11, 1, 32), (43, 16, 9, 1, 255), (45, 9, 0, 1, 1023)]
  | .ring => [(32, 16, 13, 0, 11)]
  | .hif => [(36, 9, 0, 1, 1023)]
  | .spi => [(17, 9, 0, 1, 1023)]
  | .ser => [(16, 9, 6, 5, 9), (16, 12, 10, 0, 4), (16, 14, 13, 0, 2), (17, 15, 0, 1, 65535), (22, 9, 0, 1, 1023),
      (23, 16, 0, 1, 131071), (24, 17, 0, 1, 131072)]
  | .upd => [(25, 11, 0, 10, 4095)]
  | .lcs => [(16, 2, 0, 1, 3)]
  | .time => [(38, 17, 0, 1, 262143)]
  | .tp => [(69, 5, 0, 0, 39), (80, 12, 0, 0, 7999)]
  | .meas => [(16, 9, 0, 5, 1000), (17, 9, 0, 0, 999)]
  | .feed => [(16, 5, 4, 0, 2), (17, 17, 0, 1000, 124000), (18, 6, 0, 1, 100), (20, 4, 0, 8, 20),
      (21, 17, 0, 0o100000, 0o300000), (23, 15, 12, 4, 12), (23, 11, 8, 0, 8), (23, 7, 4, 0, 8), (23, 3, 0, 3, 15),
      (35, 16, 10, 16, 127), (35, 4, 0, 8, 20), (36, 17, 10, 1, 255), (40, 16, 15, 0, 2), (40, 12, 7, 1, 63),
      (40, 6, 0, 1, 64), (46, 8, 4, 1, 31), (48, 9, 0, 1, 1023)]
  | .route => [(34, 11, 0, 1, 4095), (43, 12, 6, 3, 99), (43, 5, 0, 7, 63), (44, 9, 0, 1, 1023)]
  | .spec => [(16, 15, 10, 1, 63), (16, 6, 0, 1, 100)]
  | .duct => [(16, 8, 0, 50, 400), (33, 11, 0, 0, 3124)]
  | .exmp => [(22, 11, 6, 1, 47), (22, 5, 0, 1, 16), (32, 16, 15, 0, 2), (32, 11, 6, 0, 32), (32, 5, 0, 0, 32),
      (418, 14, 0, 1, 32767)]
  | .scrp => [(16, 3, 0, 1, 8), (19, 9, 0, 1, 1000)]
  | .quire => [(16, 9, 0, 160, 1023)]
  | .blot => [(32, 7, 4, 0, 13)]
  | .legacy => [(16, 7, 0, 2, 255)]
  | .lwin => [(0o30, 2, 0, 1, 4), (450, 5, 4, 0, 2), (450, 3, 2, 0, 2), (451, 11, 0, 1, 4095), (0o711, 11, 0, 1, 4000)]
  | _ => []

/-- Every field of a written word lies in its stated range (00 R16 check 5); IQP is signed (02 R89); the words of
LTMO of sessions 0 to 3 are reserved (12 R429). -/
def inRange (k : Kind) (w : Nat) (v : Word) : Bool :=
  (k.ranges.all fun r =>
    (k == .ses && r.1 == 45 && decide (w < 96)) || decide (normWord k w = r.1 → r.2.2.2.1 ≤ fieldOf v r.2.1 r.2.2.1 ∧
        fieldOf v r.2.1 r.2.2.1 ≤ r.2.2.2.2))
  && !(k == .feed && w == 22 && !(decide (-32768 ≤ v.toInt) && decide (v.toInt ≤ 32767)))

/-- A written word with bit i forced to a value: the word that a command row for that bit writes. -/
def forceBit (v : Word) (i : Nat) (b : Bool) : Word := withField v i i (b2n b)

end Sys2Proof.Machine
end

