-- ==== Sys2Proof/Machine/Guard.lean ====
section
/-! DEFINITION. The one path of a register write (00 R13, R16 to R19; 01 R27, R37; 12 R396, R397, R405; 14 R462): the
checks in their order, the record of a refusal, and the effect. Every command that stands for a register write takes this
path with a `Handler` for its word. -/

namespace Sys2Proof.Machine

/-- What a block says of a write to one of its words: the code of check 4 (0: accepted), check 5 beyond the field's own
ranges, a code that the rule gives after the five checks (0: none), and the state when the write is accepted. -/
structure Handler where
  state : Nat
  range : Bool
  extra : Nat
  result : State

/-- The key of a word of a page for a writer: own words of HIF have a copy for each session (12 R427). -/
def keyFor (w : Writer) (p wd : Nat) : Nat :=
  match w with
  | .ses q => if p = 8 ∧ 32 ≤ wd ∧ wd < 128 then pg (ownPage q.val) wd else pg p wd
  | _ => pg p wd

/-- The kind of a page, for its field map. -/
def kindOf (p : Nat) : Kind := ((pageKind p).map Prod.fst).getD .dev

/-- The state after a plain write: every field takes the written value as its access code says (00 R12). -/
def State.plain (s : State) (w : Writer) (p wd : Nat) (v : Word) : State :=
  s.setReg (keyFor w p wd) (mergeWrite (wordInfo (kindOf p) wd) (s.reg (keyFor w p wd)) v)

/-- The handler of a word that has no rule beyond its field map. -/
def Handler.plain (w : Writer) (p wd : Nat) (v : Word) (s : State) : Handler := ⟨0, true, 0, s.plain w p wd v⟩

/-- A write that check 4 refuses. -/
def Handler.refuse (code : Nat) (s : State) : Handler := ⟨code, true, 0, s⟩

/-- The writer exists: the device is not held in reset, and a session is present and enabled and its home domain is on (12 R394,
R395; 16 R541). -/
def State.writerLive (s : State) (w : Writer) : Bool :=
  s.pins.rstN && match w with
  | .ses q => s.present q.val && s.domOn (if q.val < 2 then 2 else 3) && (decide (q.val < 4) || s.bit (pg 5 (32 + 16 * q.val)) 17)
  | _ => true

/-- An own word of the writing session, for the permission check (12 R397). -/
def ownFor (q p wd : Nat) : Bool :=
  decide (p = 8 ∧ 32 ≤ wd ∧ wd < 128) || decide (p = 5 ∧ 32 + 16 * q ≤ wd ∧ wd < 48 + 16 * q ∧ wd ≠ 33 + 16 * q)

/-- An own word of some session: page locks do not guard it (00 R13), whoever writes it (DEDUCED, log 62). -/
def ownWord (p wd : Nat) : Bool := decide (p = 8 ∧ 32 ≤ wd ∧ wd < 128) || decide (p = 5 ∧ 32 ≤ wd ∧ wd < 160)

/-- The word is a PMASK (12 R429). -/
def isPmask (p wd : Nat) : Bool := decide (p = 5 ∧ 32 ≤ wd ∧ wd < 160 ∧ wd % 16 = 1)

/-- In LEGACY session 0 reaches the legacy window alone (12 R426). -/
def State.windowOnly (s : State) (q : Nat) : Bool := q == 0 && s.pins.persona == .legacy

/-- Check 2 (12 R396, R397); it always passes for a core (01 R27) and for the test access port (15 R521). -/
def State.permitted (s : State) (w : Writer) (p wd : Nat) : Bool :=
  match w with
  | .ses q =>
    if isPmask p wd then q.val == s.supv && s.pins.persona != .legacy
    else (ownFor q.val p wd && !s.windowOnly q.val) || (s.maskOf q.val).testBit (pageGroup p)
  | _ => true

/-- A page is held by a session that is not the writer (01 R37). -/
def State.heldByOther (s : State) (w : Writer) (p : Nat) : Bool :=
  s.bit (pg p 8) 3 &&
    match w with
    | .ses q => s.fld (pg p 8) 2 0 != q.val
    | _ => true

/-- Check 3: a WU field is written while another session holds the page (00 R13). -/
def State.lockedOut (s : State) (w : Writer) (p wd : Nat) : Bool :=
  s.heldByOther w p && !ownWord p wd && (wd == 2 || decide (16 ≤ wd))
    && ((wordInfo (kindOf p) wd).rw ||| (wordInfo (kindOf p) wd).wo) != 0

/-- While the boot ROM runs, a session's write reaches DEV, UPD and LCS only (15 R503). -/
def State.bootRefuses (s : State) (w : Writer) (p : Nat) : Bool :=
  match w with
  | .ses _ => s.bit (pg 14 3) 5 && p != 0 && p != 14 && p != 15
  | _ => false

/-- The first check of 00 R16 that fails, as its code, or 0. Check 1 is the caller's: the page is mapped. A session's
write to a page whose home domain is off fails check 4 (12 R405). -/
def writeRefusal (w : Writer) (p wd : Nat) (v : Word) (h : Handler) (s : State) : Nat :=
  if s.permitted w p wd = false then ePERM
  else if s.lockedOut w p wd = true then eLOCKED
  else if s.domOn (homeDomain p) = false then eSTATE
  else if s.bootRefuses w p = true then eBUSY
  else if h.state ≠ 0 then h.state
  else if inRange (kindOf p) wd v = false ∨ h.range = false then eRANGE
  else h.extra

/-- The device address of a word of a page. -/
def pageAddr (p wd : Nat) : Nat := 0o70000000 + p * 1024 + wd

/-- A core's write to a page whose domain is off wakes the domain and stalls (14 R462). -/
def State.stallWrite (s : State) (c : Fin 4) (p wd : Nat) (v : Word) : State :=
  let t := s.wakeDom (homeDomain p)
  { t with cores := t.cores.set c.val { t.cores[c.val] with stallW := some (BitVec.ofNat 24 (pageAddr p wd), v), wod := true } }

/-- A register write through its one path. -/
def guarded (w : Writer) (p wd : Nat) (v : Word) (h : Handler) (s : State) : State :=
  if s.writerLive w = false then s
  else
    match w with
    | .core c =>
      if s.domOn (homeDomain p) = false then s.stallWrite c p wd v
      else if writeRefusal w p wd v h s = 0 then h.result
      else s.recordRefusal w (some p) wd (writeRefusal w p wd v h s) (pageAddr p wd)
    | _ =>
      if writeRefusal w p wd v h s = 0 then h.result
      else s.recordRefusal w (some p) wd (writeRefusal w p wd v h s) (pageAddr p wd)

/-! ### The header words of every page -/

/-- ERR: CODE and OFFSET become 0 when every set bit of CODE clears (01 R36). -/
def hdrErr (p : Nat) (v : Word) (s : State) : State :=
  let t := s.setReg (pg p 6) (s.reg (pg p 6) &&& ~~~ (v &&& 0o17))
  if t.reg (pg p 6) = 0 then t.setReg (pg p 7) 0 else t

/-- LOCK (01 R37): take, release, refusals (log 41). -/
def lockHandler (w : Writer) (p : Nat) (v : Word) (s : State) : Handler :=
  match w with
  | .ses q =>
    if bitOf v 3 then
      if s.bit (pg p 8) 3 then ⟨eLOCKED, true, 0, s⟩
      else ⟨0, true, 0, s.setReg (pg p 8) (wordOf (8 + q.val))⟩
    else if s.bit (pg p 8) 3 && s.fld (pg p 8) 2 0 != q.val && q.val != s.supv then ⟨eLOCKED, true, 0, s⟩
    else ⟨0, true, 0, s.setReg (pg p 8) 0⟩
  | _ => ⟨eSTATE, true, 0, s⟩

/-- The header words other than CTRL: ERR and LOCK have a rule, the others their field map. -/
def headerHandler (w : Writer) (p wd : Nat) (v : Word) (s : State) : Handler :=
  if wd = 6 then ⟨0, true, 0, hdrErr p v s⟩
  else if wd = 8 then lockHandler w p v s
  else Handler.plain w p wd v s

end Sys2Proof.Machine
end

