-- ==== Sys2Proof/Machine/ChanBase.lean ====
section
/-! DEFINITION. Names for the words of a channel's page and context that more than one family reads (04 R117, R127, R154),
and for the users of a stream. -/

namespace Sys2Proof.Machine

/-- The key of word w of the page of channel c. -/
def chKey (c w : Nat) : Nat := pg (512 + c) w

/-- STATE.STATE of channel c: 0 OFF, 1 ADMITTED, 2 SEARCHING-HANDOFF, 3 TRACKING, 4 PARKED, 5 FAULT (04 R117). -/
def State.chState (s : State) (c : Nat) : Nat := s.fld (chKey c 16) 2 0

/-- The memory key of context word k of channel c (04 R125). -/
def ctxKey (c k : Nat) : Nat := quireBase + 64 * c + k

/-- Context word k of channel c. -/
def State.ctx (s : State) (c k : Nat) : Word := s.rdMem (ctxKey c k)

/-- A field of a context word. -/
def State.ctxF (s : State) (c k hi lo : Nat) : Nat := fieldOf (s.ctx c k) hi lo

/-- A value of two context words. -/
def State.ctx2 (s : State) (c k : Nat) : Nat := (s.ctx c k).toNat * 262144 + (s.ctx c (k + 1)).toNat

/-- Stores a context word. -/
def State.setCtx (s : State) (c k : Nat) (v : Word) : State := s.wrMem (ctxKey c k) v

/-- Replaces a field of a context word. -/
def State.setCtxF (s : State) (c k hi lo n : Nat) : State := s.setCtx c k (withField (s.ctx c k) hi lo n)

/-- Stores a value of two context words. -/
def State.setCtx2 (s : State) (c k n : Nat) : State := (s.setCtx c k (wordOf (n / 262144))).setCtx c (k + 1) (wordOf n)

/-- The stream of channel c. -/
def State.chStream (s : State) (c : Nat) : Nat := s.ctxF c 0 17 14

/-- The channels whose STATE word is listed, in ascending order: every channel that is not OFF is among them. -/
def State.listedChans (s : State) : List Nat :=
  s.regs.filterMap fun e => if e.1 % 1024 = 16 ∧ 512 ≤ e.1 / 1024 ∧ e.1 / 1024 < 1024 then some (e.1 / 1024 - 512) else none

/-- The channels in a state, in ascending order. -/
def State.chansIn (s : State) (p : Nat → Bool) : List Nat := s.listedChans.filter fun c => p (s.chState c)

/-- ADMITTED, SEARCHING-HANDOFF or TRACKING: the channel holds slots (04 R117). -/
def holdsSlots (st : Nat) : Bool := st == 1 || st == 2 || st == 3

/-- SEARCHING-HANDOFF or TRACKING: the channel correlates. -/
def correlates (st : Nat) : Bool := st == 2 || st == 3

/-- The hidden state of channel c. -/
def State.chan (s : State) (c : Nat) : Chan := (s.chans.get? c).getD Chan.reset

/-- Keeps the hidden state of channel c. -/
def State.setChan (s : State) (c : Nat) (x : Chan) : State := { s with chans := s.chans.put c x }

/-- Capture engine e is ARMED or RUN and reads stream n (06 R185). -/
def State.captureReads (s : State) (e n : Nat) : Bool :=
  let st := s.fld (pg 41 3) (3 * e + 2) (3 * e)
  (st == 1 || st == 2) && s.fld (pg 41 (16 + 16 * e)) 17 14 == n

/-- A channel holding slots or a capture uses stream n (02 R79). -/
def State.streamUsed (s : State) (n : Nat) : Bool :=
  (s.chansIn holdsSlots).any (fun c => s.chStream c == n) || s.captureReads 0 n || s.captureReads 1 n

end Sys2Proof.Machine
end

