-- ==== Sys2Proof/Machine/Mem.lean ====
section
/-! DEFINITION. The memories (spec/11): which memory and which retention bank holds a word, a read with its error report,
a write, the signature of a bank, and a core's and a session's access to a memory region. -/

namespace Sys2Proof.Machine

/-- The key of a word by memory number and offset, for the memories that the Blotter sweeps. -/
def memKey (m off : Nat) : Nat :=
  if m < 4 then coreBase + m * 524288 + off
  else if m < 8 then coreBase + (m - 4) * 524288 + 262144 + off
  else if m = 8 then shramBase + off
  else if m = 9 then quireBase + off
  else if m = 10 then exmpBase + off
  else if m = 11 then scrpBase + off
  else if m = 12 then inkwBase + off
  else bkpKey off

/-- Words of a memory that the Blotter sweeps (R368). -/
def memSize (m : Nat) : Nat :=
  if m < 8 then 262144 else if m = 8 then 524288 else if m = 9 then 32768 else if m = 10 then 524288
  else if m = 11 then 1048576 else if m = 12 then 4194304 else 16384

/-- The home domain of a memory (R368). -/
def memDomain (m : Nat) : Nat :=
  if m < 4 then 11 + m else if m < 8 then 7 + m else if m = 8 then 2 else if m = 9 then 10 else if m = 10 then 10
  else if m = 11 then 8 else if m = 12 then 9 else 1

/-- The retention bank of a word, if its memory has banks (R385). -/
def bankOf (key : Nat) : Option Nat :=
  let r := memOf key
  if r.1 < 8 then some r.1 else if r.1 = 8 then some (8 + r.2 / 65536) else if r.1 = 9 then some 16
  else if r.1 = 10 then some (17 + r.2 / 65536) else if r.1 = 13 then some 25 else none

/-- Bit b of a pair of H and L words of the RETN page (R393), by the word of the H half. -/
def State.retnBit (s : State) (w b : Nat) : Bool := if b < 18 then s.bit (pg 44 (w + 1)) b else s.bit (pg 44 w) (b - 18)

/-- Sets bit b of such a pair. -/
def State.setRetnBit (s : State) (w b : Nat) (v : Bool) : State :=
  if b < 18 then s.setB (pg 44 (w + 1)) b v else s.setB (pg 44 w) (b - 18) v

/-- The word lies in a bank marked LOST (R388). -/
def State.lost (s : State) (key : Nat) : Bool :=
  match bankOf key with
  | some b => s.retnBit 20 b
  | none => false

/-- Records an error of a read in the record of memory m, unless it is filled (R370, R371). -/
def State.eccRecord (s : State) (m off : Nat) (unc : Bool) : State :=
  if s.bit (pg 43 (66 + 4 * m)) 17 then s
  else (s.setReg (pg 43 (66 + 4 * m)) (wordOf (131072 + b2n unc * 65536 + off / 262144))).setReg (pg 43 (67 + 4 * m)) (wordOf off)

/-- The check bits of a word: 0 good, 1 a correctable, 2 an uncorrectable error (R369, R372). -/
def State.eccOf (s : State) (key : Nat) : Nat :=
  match s.blot.eccBad.get? key with
  | some u => if u then 2 else 1
  | none => if (s.mem.get? key).isSome ∨ tapKey 0 ≤ key then 0 else Config.memErr s.memEpoch key s.freeCtr % 3

/-- The offset that the error record of a read takes. Where a value of memory 14 or 15 lies in it is open (log 57). -/
def State.eccOffset (s : State) (key : Nat) : Nat :=
  let r := memOf key
  if r.1 = 14 then s.free.1 % 983040 else if r.1 = 15 then s.free.1 % 272392 else r.2

/-- A read of a memory word: the data, the error found, and the counts, events and records it leaves (R370, R371). -/
def State.memRead (s : State) (key : Nat) : Word × Nat × State :=
  let t := s.touch key
  let m := (memOf key).1
  let off := s.eccOffset key
  let e := s.eccOf key
  let t := if e ≠ 0 ∧ 14 ≤ m then t.free.2 else t
  (s.rdMem key, e,
   if e = 1 then
     let u := ((t.incSat (pg 43 (64 + 4 * m))).raise 43 3).eccRecord m off false
     { u with blot := { u.blot with wb := u.blot.wb ++ [key] } }
   else if e = 2 then ((t.incSat (pg 43 (65 + 4 * m))).raise 43 4).eccRecord m off true
   else t)

/-- Reads of consecutive words, with the worst error found. -/
def State.memReadN (s : State) (key : Nat) : Nat → List Word × Nat × State
  | 0 => ([], 0, s)
  | n + 1 =>
    let a := s.memRead key
    let b := a.2.2.memReadN (key + 1) n
    (a.1 :: b.1, max a.2.1 b.2.1, b.2.2)

/-- Reads of n words of ring r from index i on, with the worst error found. -/
def State.ringReadE (s : State) (r i : Nat) : Nat → List Word × Nat × State
  | 0 => ([], 0, s)
  | n + 1 =>
    let a := s.memRead (s.ringAddr r i)
    let b := a.2.2.ringReadE r (i + 1) n
    (a.1 :: b.1, max a.2.1 b.2.1, b.2.2)

/-- One bit into a signature (R386). -/
def sigBit (sig : BitVec 36) (b : Bool) : BitVec 36 :=
  let fb := sig.getLsbD 35 != b
  if fb then (sig <<< 1) ^^^ 0o002563 else sig <<< 1

/-- One word into a signature, from bit 17 down. -/
def sigWord (sig : BitVec 36) (w : Word) : BitVec 36 :=
  (List.range 18).foldl (fun g i => sigBit g (w.getLsbD (17 - i))) sig

/-- The first key and the number of words of a bank's memory part (R385). -/
def bankRange (b : Nat) : Nat × Nat :=
  if b < 4 then (memKey b 0, 262144) else if b < 8 then (memKey b 0, 262144)
  else if b < 16 then (shramBase + (b - 8) * 65536, 65536) else if b = 16 then (quireBase, 32768)
  else if b < 25 then (exmpBase + (b - 17) * 65536, 65536) else (bkpKey 0, 16384)

/-- The signature of a run of memory words. -/
def State.sigRange (s : State) (sig : BitVec 36) (key : Nat) : Nat → BitVec 36
  | 0 => sig
  | n + 1 => s.sigRange (sigWord sig (s.rdMem key)) (key + 1) n

/-- The signature of a bank: for a program memory, the Rubric control store and the 16 decode entries follow (R386). -/
def State.signature (s : State) (b : Nat) : BitVec 36 :=
  let g := s.sigRange (BitVec.allOnes 36) (bankRange b).1 (bankRange b).2
  if b < 4 then
    (List.range 16).foldl (fun g e => sigWord g (s.reg (pg 49 (32 + 16 * b + e)))) (s.sigRange g (rubrKey b 0) 1024)
  else g

/-- A core's load from a memory word (R371, R388). -/
def State.coreMemLoad (s : State) (c key : Nat) : Word × State :=
  if s.lost key then (0, s.coreErr c eLOST)
  else
    let r := s.memRead key
    (r.1, if r.2.1 = 2 then r.2.2.coreErr c eECC else r.2.2)

/-- A session's read of a memory word: data, HTAG (R371, R388). -/
def State.hostMemRead (s : State) (q key a : Nat) : Word × BitVec 2 × State :=
  if s.lost key then (0, 2, s.sesErr q eLOST a)
  else
    let r := s.memRead key
    (r.1, 0, if r.2.1 = 2 then r.2.2.sesErr q eECC a else r.2.2)

/-! ### Address spaces -/

/-- The key of an address for a writer: a core's local window is its own alias block (01 R33). -/
def localKey (w : Writer) (a : Nat) : Nat :=
  match w with
  | .core c => if a < shramBase then coreBase + c.val * 524288 + a else a
  | _ => a

/-- The region of an address: its permission group and home domain (01 R32); none: unmapped. -/
def regionOf (a : Nat) : Option (Nat × Nat) :=
  if a < 0o02000000 then none
  else if a < 0o04000000 then some (13, 2)
  else if a < 0o04100000 then some (15, 10)
  else if a < 0o05000000 then none
  else if a < 0o07000000 then some (15, 10)
  else if a < 0o10000000 then none
  else if a < 0o14000000 then some (14, 8)
  else if a < 0o20000000 then none
  else if a < 0o40000000 then some (14, 9)
  else if a < 0o50000000 then some (10, 11 + (a - 0o40000000) / 524288)
  else if a < 0o70000000 then none
  else if a < 0o70146000 then some (pageGroup ((a - 0o70000000) / 1024), homeDomain ((a - 0o70000000) / 1024))
  else if a < 0o72000000 then none
  else if a < 0o74000000 then some (12, 10)
  else none

/-- The address is that of a register page. -/
def isPageAddr (a : Nat) : Bool := decide (0o70000000 ≤ a)

/-- The region of 01 R32 as a number, for "one memory region" (12 R404). -/
def regionNo (a : Nat) : Nat :=
  if a < 0o04000000 then 1 else if a < 0o05000000 then 2 else if a < 0o10000000 then 3 else if a < 0o20000000 then 4
  else if a < 0o40000000 then 5 else if a < 0o70000000 then 6 + (a - 0o40000000) / 524288 else 16

end Sys2Proof.Machine
end

