-- ==== Sys2Proof/Machine/Exemplar.lean ====
section
/-! DEFINITION. The Exemplar (spec/03): LFSR programs, region descriptors, use counts, the retarget, writes to the code
memory, and the chips and reference levels that the ranks take from it. -/

namespace Sys2Proof.Machine

/-- Key of word k of LFSR program p (R116). -/
def lpKey (p k : Nat) : Nat := pg 39 (32 + 12 * p + k)
/-- Key of word k of region descriptor r. -/
def rdKey (r k : Nat) : Nat := pg 39 (416 + 4 * r + k)
/-- Use count of region r. -/
def State.ruse (s : State) (r : Nat) : Nat := (s.reg (pg 39 (672 + r))).toNat
/-- Use count of program p. -/
def State.puse (s : State) (p : Nat) : Nat := (s.reg (pg 39 (736 + p))).toNat
/-- LEN of region r: 22 bits. -/
def State.rdLen (s : State) (r : Nat) : Nat := s.fld (rdKey r 0) 15 12 * 262144 + (s.reg (rdKey r 3)).toNat
/-- COUNT of region r. -/
def State.rdCount (s : State) (r : Nat) : Nat := s.fld (rdKey r 0) 7 0 + 1
/-- VALID of region r. -/
def State.rdValid (s : State) (r : Nat) : Bool := s.bit (rdKey r 0) 17
/-- VALID of program p. -/
def State.lpValid (s : State) (p : Nat) : Bool := s.bit (lpKey p 0) 17
/-- CLEN of program p. -/
def State.clen (s : State) (p : Nat) : Nat := s.fld (lpKey p 9) 5 0 * 262144 + (s.reg (lpKey p 10)).toNat
/-- A two-word field of program p. -/
def State.lp2 (s : State) (p k : Nat) : Nat := s.reg2 (lpKey p k)

/-- Region r covers word offset o (R103). -/
def State.covers (s : State) (r o : Nat) : Bool :=
  let b := s.fld (rdKey r 1) 14 0
  s.rdValid r && decide (b * 16 ≤ o ∧ o < (b + s.rdCount r * s.fld (rdKey r 2) 14 0) * 16)

/-- Some region in use covers word offset o (R105). -/
def State.exmpInUse (s : State) (o : Nat) : Bool :=
  (List.range 64).any fun r => decide (0 < s.ruse r) && s.covers r o

/-- The tap mask fits its register: no tap at or above its length, the last stage tapped (R101). -/
def tapsOk (l tap : Nat) : Bool := decide (tap < 2 ^ l) && tap.testBit (l - 1)

/-- The checks of a write of PCTL.VALID = 1 (R101). -/
def State.programOk (s : State) (p mode la lb : Nat) : Bool :=
  la != 0 && !(lb == 0 && mode != 1) && tapsOk la (s.lp2 p 1) && (mode == 1 || tapsOk lb (s.lp2 p 3))
    && decide (s.lp2 p 3 < 2 ^ lb) && s.clen p != 0 && !(mode == 2 && s.clen p % 2 == 1)

/-- A change of VALID, or of a word of the code memory, empties the Scriptorium's cache (06 R203). -/
def State.dropCache (s : State) : State := { s with scr := { s.scr with cache := [] } }

/-- A write of word k of program p (R101, R115). -/
def programHandler (w : Writer) (p k : Nat) (v : Word) (s : State) : Handler :=
  let t := s.plain w 39 (32 + 12 * p + k) v
  let held := s.legacyDual && decide (30 ≤ p)
  let was := s.lpValid p
  let en := bitOf v 17
  if k = 0 then
    { state := if held then eSTATE
        else if was = true ∧ en = true ∧ (fieldOf v 16 15 ≠ s.fld (lpKey p 0) 16 15 ∨ fieldOf v 11 0 ≠ s.fld (lpKey p 0) 11 0)
          then eSTATE
        else if en = false ∧ 0 < s.puse p then eBUSY else 0
      range := true
      extra := if was = false ∧ en = true ∧ s.programOk p (fieldOf v 16 15) (fieldOf v 11 6) (fieldOf v 5 0) = false
        then eCONFIG else 0
      result := if was = en then t else t.dropCache }
  else { state := if held = true ∨ (was = true ∧ k ≠ 11) then eSTATE else 0, range := true, extra := 0, result := t }

/-- A write of word k of region descriptor r (R104). -/
def regionHandler (w : Writer) (r k : Nat) (v : Word) (s : State) : Handler :=
  let t := s.plain w 39 (416 + 4 * r + k) v
  let was := s.rdValid r
  let en := bitOf v 17
  let len := fieldOf v 15 12 * 262144 + (s.reg (rdKey r 3)).toNat
  let stride := s.fld (rdKey r 2) 14 0
  if k = 0 then
    { state := if was = true ∧ en = true ∧ v &&& 0o370377 ≠ s.reg (rdKey r 0) &&& 0o370377 then eSTATE
        else if en = false ∧ 0 < s.ruse r then eBUSY else 0
      range := true
      extra := if was = false ∧ en = true ∧ (len = 0 ∨ stride * 256 < len
          ∨ 32768 < s.fld (rdKey r 1) 14 0 + (fieldOf v 7 0 + 1) * stride) then eCONFIG else 0
      result := if was = en then t else t.dropCache }
  else { state := if was then eSTATE else 0, range := true, extra := 0, result := t }

/-! ### The selector of a channel (R93 to R96) -/

/-- Number of components. -/
def State.ncomp (s : State) (c : Nat) : Nat := if bitOf (s.ctx c 0) 13 then 4 else 1
/-- SCMODE of channel c. -/
def State.scmode (s : State) (c : Nat) : Nat := s.ctxF c 0 12 10
/-- Memory key of the block of component k of channel c: components 1 to 3 lie in the extension context (04 R128, R129). -/
def compKey (c k : Nat) : Nat := if k = 0 then ctxKey c 16 else ctxKey (c + 1) (15 * (k - 1))
/-- A field of word o of a component block. -/
def State.comp (s : State) (c k o hi lo : Nat) : Nat := fieldOf (s.rdMem (compKey c k + o)) hi lo
/-- A two-word value of a component block. -/
def State.comp2 (s : State) (c k o : Nat) : Nat :=
  (s.rdMem (compKey c k + o)).toNat % 16384 * 262144 + (s.rdMem (compKey c k + o + 1)).toNat
/-- Component k takes its code from memory. -/
def State.csrc (s : State) (c k : Nat) : Bool := bitOf (s.rdMem (compKey c k)) 17
/-- SECSRC of component k. -/
def State.secsrc (s : State) (c k : Nat) : Nat := s.comp c k 0 16 15
/-- CPROG of component k. -/
def State.cprog (s : State) (c k : Nat) : Nat := s.comp c k 0 9 5
/-- CREG and CIDX of component k. -/
def State.creg (s : State) (c k : Nat) : Nat := s.comp c k 1 17 12
/-- See `State.creg`. -/
def State.cidx (s : State) (c k : Nat) : Nat := s.comp c k 1 11 4
/-- SECREG and SECIDX of component k. -/
def State.secreg (s : State) (c k : Nat) : Nat := s.comp c k 2 17 12
/-- See `State.secreg`. -/
def State.secidx (s : State) (c k : Nat) : Nat := s.comp c k 2 11 4

/-- Length of the primary code of component k. -/
def State.codeLen (s : State) (c k : Nat) : Nat :=
  if s.csrc c k then s.rdLen (s.creg c k) else s.clen (s.cprog c k)

/-- The keys of the use counts that the selector of channel c names (R96). -/
def State.useKeys (s : State) (c : Nat) : List Nat :=
  (List.range (s.ncomp c)).flatMap fun k =>
    [if s.csrc c k then pg 39 (672 + s.creg c k) else pg 39 (736 + s.cprog c k)]
      ++ (if s.secsrc c k = 2 then [pg 39 (672 + s.secreg c k)] else [])

/-- A retarget ends when no selector names OLD (R110). -/
def State.retargetDone (s : State) : State :=
  if s.bit (pg 39 3) 0 = true ∧ s.ruse s.exm.retOld = 0 then (s.setB (pg 39 3) 0 false).raise 39 0 else s

/-- A use count adds 1. The Blotter gives up a region of the words that a descriptor covers when it comes into use (R108; 11 R382,
R383). -/
def State.countUse (s : State) (key : Nat) : State :=
  let r := key - pg 39 672
  let b := s.fld (rdKey r 1) 14 0
  let t := if pg 39 672 ≤ key ∧ key < pg 39 736 ∧ s.reg key = 0 then
      s.abortRange 10 (b * 16) ((b + s.rdCount r * s.fld (rdKey r 2) 14 0) * 16)
    else s
  t.setReg key (t.reg key + 1)

/-- The channel leaves OFF: its use counts add 1 (R96). -/
def State.takeCodes (s : State) (c : Nat) : State := (s.useKeys c).foldl State.countUse s

/-- The channel returns to OFF. -/
def State.dropCodes (s : State) (c : Nat) : State :=
  ((s.useKeys c).foldl (fun t k => t.setReg k (t.reg k - 1)) s).retargetDone

/-- The selector of channel c is consistent (R94, with R145 for SECSRC 3, SCMODE 7 and SCK 0). The chip rate is checked
with FK by the caller. -/
def State.selectorOk (s : State) (c : Nat) : Bool :=
  let n := s.ncomp c
  let m := s.scmode c
  ((List.range n).all fun k =>
      (if s.csrc c k then s.rdValid (s.creg c k) && !s.bit (rdKey (s.creg c k) 0) 16 && decide (s.cidx c k < s.rdCount (s.creg c k))
       else s.lpValid (s.cprog c k))
      && s.secsrc c k != 3
      && (s.secsrc c k != 2 || (s.rdValid (s.secreg c k) && s.bit (rdKey (s.secreg c k) 0) 16
            && decide (s.secidx c k < s.rdCount (s.secreg c k)))))
  && ((n == 4) == (m == 6)) && m != 7
  && !((m == 1 || m == 2) && s.ctxF c 0 9 4 == 0)
  && ((List.range n).all fun k => s.codeLen c k == s.codeLen c 0)

/-- The selector names the OLD region of a running retarget (R94). -/
def State.namesOld (s : State) (c : Nat) : Bool :=
  s.bit (pg 39 3) 0 && (s.useKeys c).any fun k => k == pg 39 (672 + s.exm.retOld)

/-- Switches one region field of a component block from OLD to NEW, moving its use count (R110). A word with an uncorrectable error
keeps its contents (04 R152). -/
def State.switchField (s : State) (key : Nat) : State :=
  let o := s.exm.retOld
  let n := s.exm.retNew
  if fieldOf (s.rdMem key) 17 12 = o ∧ s.eccOf key ≠ 2 then
    ((s.wrMem key (withField (s.rdMem key) 17 12 n)).setReg (pg 39 (672 + o)) (s.reg (pg 39 (672 + o)) - 1)).countUse
      (pg 39 (672 + n))
  else s

/-- Switches every selector field of channel c that names OLD. -/
def State.switchChan (s : State) (c : Nat) : State :=
  (List.range (s.ncomp c)).foldl (fun t k =>
    let t := if t.csrc c k then t.switchField (compKey c k + 1) else t
    if t.secsrc c k = 2 then t.switchField (compKey c k + 2) else t) s

/-- A channel that is in ADMITTED, PARKED or FAULT while a retarget runs is switched at once (R110). -/
def State.retargetNow (s : State) (c : Nat) : State :=
  if s.bit (pg 39 3) 0 then (s.switchChan c).retargetDone else s

/-- A write of CTRL with RETGO (R110). -/
def retargetHandler (w : Writer) (v : Word) (s : State) : Handler :=
  let o := s.fld (pg 39 16) 11 6
  let n := s.fld (pg 39 16) 5 0
  let t := s.plain w 39 2 v
  let u := { t.setB (pg 39 3) 0 true with exm := { t.exm with retOld := o, retNew := n } }
  { state := if bitOf v 0 = true ∧ s.bit (pg 39 3) 0 = true then eBUSY else 0
    range := true
    extra := if bitOf v 0 = true ∧ ¬ (s.rdValid o = true ∧ s.rdValid n = true ∧ s.bit (rdKey o 0) 16 = s.bit (rdKey n 0) 16
        ∧ s.rdLen o = s.rdLen n ∧ s.rdCount o = s.rdCount n ∧ o ≠ n) then eCONFIG else 0
    result := if bitOf v 0 then
        ((u.chansIn fun st => st == 1 || st == 4 || st == 5).foldl (fun x c => x.switchChan c) u).retargetDone
      else t }

/-- A write to a word of the EXMP page (R101, R104, R110, R113). A clear of ERR clears BADH and BADL too (log 44). -/
def exmpHandler (w : Writer) (wd : Nat) (v : Word) (s : State) : Handler :=
  if wd = 2 then retargetHandler w v s
  else if wd = 6 then
    let t := hdrErr 39 v s
    ⟨0, true, 0, if t.reg (pg 39 6) = 0 then (t.setReg (pg 39 20) 0).setReg (pg 39 21) 0 else t⟩
  else if wd = 24 then
    let t := s.plain w 39 24 v
    ⟨0, true, 0, { t with exm := { t.exm with tmb := BitVec.ofNat 33 (s.fld (pg 39 23) 14 0 * 262144 + v.toNat) } }⟩
  else if 32 ≤ wd ∧ wd < 416 then programHandler w ((wd - 32) / 12) ((wd - 32) % 12) v s
  else if 416 ≤ wd ∧ wd < 672 then regionHandler w ((wd - 416) / 4) ((wd - 416) % 4) v s
  else headerHandler w 39 wd v s

/-- PROGRAM_VALIDATE (R101). -/
def execProgramValidate (w : Writer) (p : Fin 32) (v : Word) (s : State) : Host.Outcome State Fault Refusal :=
  done s (guarded w 39 (32 + 12 * p.val) (forceBit v 17 true) (programHandler w p.val 0 (forceBit v 17 true) s) s)

/-- PROGRAM_INVALIDATE (R101). -/
def execProgramInvalidate (w : Writer) (p : Fin 32) (v : Word) (s : State) : Host.Outcome State Fault Refusal :=
  done s (guarded w 39 (32 + 12 * p.val) (forceBit v 17 false) (programHandler w p.val 0 (forceBit v 17 false) s) s)

/-- REGION_VALIDATE (R104). -/
def execRegionValidate (w : Writer) (r : Fin 64) (v : Word) (s : State) : Host.Outcome State Fault Refusal :=
  done s (guarded w 39 (416 + 4 * r.val) (forceBit v 17 true) (regionHandler w r.val 0 (forceBit v 17 true) s) s)

/-- REGION_INVALIDATE (R104). -/
def execRegionInvalidate (w : Writer) (r : Fin 64) (v : Word) (s : State) : Host.Outcome State Fault Refusal :=
  done s (guarded w 39 (416 + 4 * r.val) (forceBit v 17 false) (regionHandler w r.val 0 (forceBit v 17 false) s) s)

/-- RETARGET (R110). -/
def execRetarget (w : Writer) (v : Word) (s : State) : Host.Outcome State Fault Refusal :=
  done s (guarded w 39 2 (forceBit v 0 true) (retargetHandler w (forceBit v 0 true) s) s)

/-- TMBL_WRITE (R113). -/
def execTmblWrite (w : Writer) (v : Word) (s : State) : Host.Outcome State Fault Refusal :=
  done s (guarded w 39 24 v (exmpHandler w 24 v s) s)

/-! ### Writes to the code memory (R105) -/

/-- PH and PL of a word match its chips (R102). -/
def exmpParity (v : Word) : Bool :=
  let x := fun lo => (List.range 8).foldl (fun a i => a != bitOf v (lo + i)) false
  bitOf v 17 == x 8 && bitOf v 16 == x 0

/-- The writer may write a memory region of a permission group; checks of a memory write that every region shares: the
mask, the domain (for a session), a LOST bank (R388). -/
def State.memRefusal (s : State) (w : Writer) (group dom key : Nat) : Nat :=
  match w with
  | .ses q => if (s.maskOf q.val).testBit group = false then ePERM else if s.domOn dom = false then eSTATE
      else if s.lost key then eLOST else 0
  | _ => if s.lost key then eLOST else 0

/-- A core's access to a memory region whose domain is off wakes it and stalls (14 R462). -/
def State.stallMem (s : State) (c : Fin 4) (a dom : Nat) (v : Word) : State :=
  let t := s.wakeDom dom
  { t with cores := t.cores.set c.val { t.cores[c.val] with stallW := some (BitVec.ofNat 24 a, v), wod := true } }

/-- The core of a writer, if its domain-off access stalls. -/
def State.stalls (s : State) (w : Writer) (dom : Nat) : Option (Fin 4) :=
  match w with
  | .core c => if s.domOn dom then none else some c
  | _ => none

/-- Records a refused write to the code memory: EXMP.ERR with BADH and BADL, and the writer's record (R105). -/
def State.exmpRefused (s : State) (w : Writer) (code o : Nat) : State :=
  let t := if s.fld (pg 39 6) 3 0 = 0 then
      ((s.setReg (pg 39 6) (wordOf code)).setReg (pg 39 20) (wordOf (o / 262144))).setReg (pg 39 21) (wordOf o)
    else s
  t.writerErr w code (exmpBase + o)

/-- The refusal of a write to word offset o of the Exemplar memory, or 0. -/
def State.exmpCode (s : State) (w : Writer) (o : Nat) (v : Word) : Nat :=
  let m := s.memRefusal w 15 10 (exmpBase + o)
  if m ≠ 0 then m else if s.exmpInUse o then eBUSY else if exmpParity v then 0 else eRANGE

/-- A write to word offset o of the Exemplar memory. -/
def State.exmpWrite (s : State) (w : Writer) (o : Nat) (v : Word) : State :=
  let m := s.exmpCode w o v
  match s.stalls w 10 with
  | some c => s.stallMem c (exmpBase + o) 10 v
  | none =>
    if m = 0 then (s.wrMem (exmpBase + o) v).dropCache
    else if m = eRANGE then (s.exmpRefused w m o).raise 39 2
    else s.exmpRefused w m o

/-- EXEMPLAR_WRITE (R105). -/
def execExemplarWrite (w : Writer) (o : BitVec 19) (v : Word) (s : State) : Host.Outcome State Fault Refusal :=
  done s (if s.writerLive w then s.exmpWrite w o.toNat v else s)

/-! ### Chips and reference levels -/

/-- f applied n times. -/
def iter {α : Type} (f : α → α) : Nat → α → α
  | 0, x => x
  | n + 1, x => iter f n (f x)

/-- The parity of the ones of a number below 2^32. -/
def parity32 (x : Nat) : Nat := (List.range 32).foldl (fun a i => (a + b2n (x.testBit i)) % 2) 0

/-- One step of a register of length l with taps (R97). -/
def lfsrStep (l tap st : Nat) : Nat := (2 * st + parity32 (st &&& tap)) % 2 ^ l

/-- The output of a register: its last stage. -/
def lfsrOut (l st : Nat) : Nat := b2n (st.testBit (l - 1))

/-- The state of a register at its own index i (R98, R99): INIT at 0 and at every multiple of PER, when PER > 0. -/
def lfsrAt (l tap per init i : Nat) : Nat := iter (lfsrStep l tap) (if per = 0 then i else i % per) (init % 2 ^ l)

/-- The states of registers A and B for chip index x (R98 to R100, 04 R128). -/
def State.jump (s : State) (p initA initB x : Nat) : Nat × Nat :=
  let tdm := s.fld (lpKey p 0) 16 15 == 2
  let ia := if (x + 1) / 2 = s.clen p / 2 then 0 else (x + 1) / 2
  (lfsrAt (s.fld (lpKey p 0) 11 6) (s.lp2 p 1) (s.lp2 p 5) initA (if tdm then ia else x),
   lfsrAt (s.fld (lpKey p 0) 5 0) (s.lp2 p 3) (s.lp2 p 7) initB (if tdm then x / 2 else x))

/-- The states for the chip after index x, from the states for x (R98, R99); the caller reloads at the primary epoch. -/
def State.lfsrNext (s : State) (p initA initB x : Nat) (st : Nat × Nat) : Nat × Nat :=
  let la := s.fld (lpKey p 0) 11 6
  let lb := s.fld (lpKey p 0) 5 0
  let pa := s.lp2 p 5
  let pb := s.lp2 p 7
  let goA := fun i => if pa ≠ 0 ∧ i % pa = 0 then initA % 2 ^ la else lfsrStep la (s.lp2 p 1) st.1
  let goB := fun i => if pb ≠ 0 ∧ i % pb = 0 then initB % 2 ^ lb else lfsrStep lb (s.lp2 p 3) st.2
  if s.fld (lpKey p 0) 16 15 = 2 then
    (if x % 2 = 0 then (if x / 2 + 1 = s.clen p / 2 then initA % 2 ^ la else goA (x / 2 + 1), st.2)
     else (st.1, goB ((x + 1) / 2)))
  else (goA (x + 1), goB (x + 1))

/-- The chip of program p at index x from its states. -/
def State.lfsrChip (s : State) (p x : Nat) (st : Nat × Nat) : Nat :=
  let a := lfsrOut (s.fld (lpKey p 0) 11 6) st.1
  let b := lfsrOut (s.fld (lpKey p 0) 5 0) st.2
  let m := s.fld (lpKey p 0) 16 15
  if m = 0 then (a + b) % 2 else if m = 1 then a else if x % 2 = 0 then a else b

/-- The key of the word that holds chip x of code i of region r (R103). -/
def State.chipKey (s : State) (r i x : Nat) : Nat :=
  exmpBase + (s.fld (rdKey r 1) 14 0 * 16 + i * s.fld (rdKey r 2) 14 0 * 16 + x / 16)

/-- Chip x of code i of region r. -/
def State.memChip (s : State) (r i x : Nat) : Nat := b2n (bitOf (s.rdMem (s.chipKey r i x)) (15 - x % 16))

/-- Secondary length of component k of channel c; 1 when it has none (R93, R111). -/
def State.secLen (s : State) (c k : Nat) : Nat :=
  if s.secsrc c k = 1 then s.comp c k 0 14 10 + 1 else if s.secsrc c k = 2 then s.rdLen (s.secreg c k) else 1

/-- Secondary chip at a position. -/
def State.secChip (s : State) (c k pos : Nat) : Nat :=
  if s.secsrc c k = 1 then b2n ((s.comp2 c k 7).testBit pos)
  else if s.secsrc c k = 2 then s.memChip (s.secreg c k) (s.secidx c k) pos else 0

/-- The level of a chip value. -/
def chipLevel (b : Nat) : Int := if b = 0 then 1 else -1

/-- (−1)^⌊k·u⌋ for a fraction u of 2^35 (R112). -/
def squareWave (k u : Nat) : Int := if k * u / 2 ^ 35 % 2 = 0 then 1 else -1

/-- The real reference for chip level d at index x and fraction u (R112, R113). -/
def State.reference (s : State) (mode sck : Nat) (d : Int) (x u : Nat) : Int :=
  let wa : Int := s.fld (pg 39 22) 11 6
  let wb : Int := s.fld (pg 39 22) 5 0
  if mode = 1 then 32 * d * squareWave sck u
  else if mode = 2 then 32 * d * (if (2 * sck * u + 2 ^ 35) / 2 ^ 36 % 2 = 0 then 1 else -1)
  else if mode = 3 then d * (wa * squareWave 2 u + wb * squareWave 12 u)
  else if mode = 4 then d * (wa * squareWave 2 u - wb * squareWave 12 u)
  else if mode = 5 then (if s.exm.tmb.getLsbD (x % 33) then 32 * d * squareWave 12 u else 32 * d * squareWave 2 u)
  else 32 * d

/-- Twice the subcarrier coefficients of the Galileo interface specification for the eight phases, as a + b·√2: those of the
single signals and those of the product terms (PRESUMED, log 5). -/
def altSingle : List (Int × Int) := [(1, 1), (1, 0), (-1, 0), (-1, -1), (-1, -1), (-1, 0), (1, 0), (1, 1)]

/-- See `altSingle`. -/
def altProduct : List (Int × Int) := [(1, -1), (1, 0), (-1, 0), (-1, 1), (-1, 1), (-1, 0), (1, 0), (1, -1)]

/-- n times a number a + b·√2, added to another. -/
def addRoot (n : Int) (x y : Int × Int) : Int × Int := (y.1 + n * x.1, y.2 + n * x.2)

/-- 4√2 times the AltBOC signal at phase t for the levels of E5a-I, E5a-Q, E5b-I and E5b-Q: real and imaginary part as a + b·√2.
Each sideband is its signal times sc(t) ∓ j·sc(t − 2); the product term of a component is the product of the other three. -/
def altBocSum (e : Int × Int × Int × Int) (t : Nat) : (Int × Int) × (Int × Int) :=
  let side := fun (sc : List (Int × Int)) (ai aq bi bq : Int) (z : (Int × Int) × (Int × Int)) =>
    let a := sc.getD (t % 8) (0, 0)
    let b := sc.getD ((t + 6) % 8) (0, 0)
    (addRoot (ai + bi) a (addRoot (aq - bq) b z.1), addRoot (aq + bq) a (addRoot (bi - ai) b z.2))
  side altProduct (e.2.1 * e.2.2.1 * e.2.2.2) (e.1 * e.2.2.1 * e.2.2.2) (e.1 * e.2.1 * e.2.2.2) (e.1 * e.2.1 * e.2.2.1)
    (side altSingle e.1 e.2.1 e.2.2.1 e.2.2.2 ((0, 0), (0, 0)))

/-- The eight points e^(jπk/4), times 4√2, in the same form. -/
def altBocPoints : List ((Int × Int) × (Int × Int)) :=
  [((0, 4), (0, 0)), ((4, 0), (4, 0)), ((0, 0), (0, 4)), ((-4, 0), (4, 0)), ((0, -4), (0, 0)), ((-4, 0), (-4, 0)),
   ((0, 0), (0, -4)), ((4, 0), (-4, 0))]

/-- The index k of the AltBOC(15,10) look-up table (R114) for four chip values, as bits 3 to 0 of a number, and phase t. -/
def altBocIndex (chips t : Nat) : Nat :=
  let e := fun i => if chips.testBit i then (-1 : Int) else 1
  altBocPoints.idxOf (altBocSum (e 3, e 2, e 1, e 0) t)

/-- The AltBOC point for four chip values at index x and fraction u (R114). -/
def altBocPoint (chips x u : Nat) : Int × Int :=
  let t := (4 * (x % 2) + 12 * u / 2 ^ 35) % 8
  ([(32, 0), (23, 23), (0, 32), (-23, 23), (-32, 0), (-23, -23), (0, -32), (23, -23)] : List (Int × Int)).getD
    (altBocIndex chips t) (32, 0)

/-- The reference of channel c with chip values `chips` (after the secondary codes) at index x and fraction u: complex
for AltBOC, else real. -/
def State.refPoint (s : State) (c : Nat) (chips : List Nat) (x u : Nat) : Int × Int :=
  if s.scmode c = 6 then altBocPoint (chips.foldl (fun a b => 2 * a + b) 0) x u
  else (s.reference (s.scmode c) (s.ctxF c 0 9 4) (chipLevel (chips.headD 0)) x u, 0)

/-- Records a rank read of the Exemplar that met an error (R107). -/
def State.codeErr (s : State) (r o : Nat) : State :=
  let t := if s.reg (pg 39 17) = 0 then (s.setReg (pg 39 18) (wordOf (r * 4 + o / 262144))).setReg (pg 39 19) (wordOf o) else s
  (t.incSat (pg 39 17)).raise 39 1

end Sys2Proof.Machine
end

