-- ==== Sys2Proof/Machine/Capture.lean ====
section
/-! DEFINITION. The capture engines' path from the Feed buffer into the Inkwell (06 R181, R182, R187 to R189). -/

namespace Sys2Proof.Machine

/-- The key of word w of the page of port p (01 R41). -/
def fdKey (p w : Nat) : Nat := pg (20 + p) w

/-- The key of SMAPn. -/
def smapKey (n : Nat) : Nat := pg 28 (16 + n)

/-- The key of word k of capture engine e (06 R213). -/
def capKey (e k : Nat) : Nat := pg 41 (16 + 16 * e + k)

/-- CSTe: 0 IDLE, 1 ARMED, 2 RUN, 3 DONE, 4 STOPPED. -/
def State.cst (s : State) (e : Nat) : Nat := s.fld (pg 41 3) (3 * e + 2) (3 * e)

/-- BASE of engine e. -/
def State.capBase (s : State) (e : Nat) : Nat := s.fld (capKey e 1) 3 0 * 262144 + (s.reg (capKey e 2)).toNat

/-- LEN of engine e. -/
def State.capLen (s : State) (e : Nat) : Nat := s.fld (capKey e 3) 4 0 * 262144 + (s.reg (capKey e 4)).toNat

/-- CDEC of engine e. -/
def State.cdec (s : State) (e : Nat) : Nat := s.fld (capKey e 0) 13 10 + 1

/-- The hidden state of engine e. -/
def State.cap (s : State) (e : Nat) : Capture := s.caps.toList.getD e Capture.reset

/-- Keeps the hidden state of engine e. -/
def State.setCap (s : State) (e : Nat) (x : Capture) : State := { s with caps := s.caps.setIfInBounds e x }

/-- The two bits of a component: sign, magnitude (R187). -/
def capBits (lim : Nat) (v : Int) : Nat := b2n (decide (v < 0)) * 2 + b2n (decide (lim < v.natAbs))

/-- The word of four samples (R181). -/
def capWord (l : List (Nat × Bool)) : Word :=
  let c := fun i => (l.getD i (0, false)).1
  let b := fun i => (l.getD i (0, false)).2
  wordOf (b2n (b 0 || b 1) * 131072 + b2n (b 2 || b 3) * 65536 + c 0 * 4096 + c 1 * 256 + c 2 * 16 + c 3)

/-- One capture output sample from CDEC stream samples (R187, R189). -/
def State.captureSample (s : State) (e : Nat) (l : List Sample) : State :=
  let x := s.cap e
  let st := s.fld (capKey e 0) 17 14
  let q := s.fld (fdKey (s.fld (smapKey st) 3 1) (40 + 4 * s.fld (smapKey st) 0 0)) 16 15
  let lim := s.cdec e * 2 ^ (q + 1)
  let blank := l.any fun a => a.blanked
  let v := if blank then 0
    else capBits lim (l.foldl (fun a b => a + b.i) 0) * 4 + capBits lim (l.foldl (fun a b => a + b.q) 0)
  let acc := x.acc ++ [(v, blank)]
  let x := { x with group := [], inv := x.inv || l.any fun a => !a.valid }
  if acc.length < 4 then s.setCap e { x with acc := acc }
  else (s.wrMem (inkwBase + s.capBase e + x.written) (capWord acc)).setCap e { x with acc := [], written := x.written + 1 }

/-- The blanked zero sample that stands for a stream without samples (02 R78, R189). -/
def zeroSample : Sample := ⟨0, 0, true, false⟩

/-- The capture of engine e goes on: in RUN, LEN words are not yet written, and no stop has reached a word boundary (R188). -/
def State.captureGoes (s : State) (e : Nat) : Bool :=
  s.cst e == 2 && decide ((s.cap e).written < s.capLen e) && !((s.cap e).stopReq && (s.cap e).acc == [])

/-- Engine e takes one stream sample. -/
def State.captureTake (s : State) (e : Nat) (a : Sample) : State :=
  let l := (s.cap e).group ++ [a]
  if l.length < s.cdec e then s.setCap e { s.cap e with group := l } else s.captureSample e l

/-- Stream samples taken by engine e while they are there and the capture goes on; `n` bounds their number. One with an
uncorrectable error in the Feed buffer is taken as blanked (11 R371). -/
def State.captureRun (s : State) (e : Nat) : Nat → State
  | 0 => s
  | n + 1 =>
    let x := s.cap e
    let str := s.streams.toList.getD (s.fld (capKey e 0) 17 14) Stream.reset
    if s.captureGoes e = true ∧ x.nextS < str.next then
      let r := s.memRead (bufferKey (s.fld (capKey e 0) 17 14) x.nextS)
      let a := str.buf.getD (str.next - 1 - x.nextS) zeroSample
      ((r.2.2.setCap e { x with nextS := x.nextS + 1 }).captureTake e
        (if r.2.1 = 2 then { a with blanked := true } else a)).captureRun e n
    else s

/-- Engine e takes n blanked zero samples in place of a stream that carries none (R189). -/
def State.captureZeros (s : State) (e : Nat) : Nat → State
  | 0 => s
  | n + 1 => if s.captureGoes e then (s.captureTake e zeroSample).captureZeros e n else s

/-- Both engines take the samples that the Feed has written. -/
def State.captureAll (s : State) : State :=
  let n := fun (t : State) (e : Nat) =>
    (t.streams.toList.getD (t.fld (capKey e 0) 17 14) Stream.reset).next - (t.cap e).nextS
  let t := s.captureRun 0 (n s 0)
  t.captureRun 1 (n t 1)

end Sys2Proof.Machine
end

