-- ==== Sys2Proof/Machine/Turn.lean ====
section
/-! DEFINITION. The complex exponential, the discrete Fourier transform and the logarithm that spec/02 R64, R66, R70, R81 and R82
name, on rationals. The exponential is exact at every quarter of a turn and within 2^-60 elsewhere, which is the model's choice
(log 4); the logarithms are exact, since they are compared by powers. -/

namespace Sys2Proof.Machine

/-- A quarter of a turn in radians, to 50 decimal places. -/
def quarterTurn : Rat := 157079632679489661923132169163975144209858469968755 / 100000000000000000000000000000000000000000000000000

/-- The alternating series of the cosine (k = 0) and of the sine over its argument (k = 1), by the square of the argument:
n further terms from term k on. -/
def trigSeries (x2 : Rat) : Nat → Nat → Rat
  | 0, _ => 1
  | n + 1, k => 1 - x2 / ((k + 1) * (k + 2) : Nat) * trigSeries x2 n (k + 2)

/-- A rational rounded to a multiple of 2^-60. -/
def round60 (x : Rat) : Rat := ((x * 2 ^ 60 + 1 / 2).floor : Rat) / 2 ^ 60

/-- The cosine of n/d of a turn. -/
def cosTurn (n d : Nat) : Rat :=
  let q := 4 * (n % d) / d
  let x := quarterTurn * ((4 * (n % d) % d : Nat) : Rat) / (d : Rat)
  let c := round60 (trigSeries (x * x) 16 0)
  let e := round60 (x * trigSeries (x * x) 16 1)
  if q = 0 then c else if q = 1 then -e else if q = 2 then -c else e

/-- The sine of n/d of a turn. -/
def sinTurn (n d : Nat) : Rat := cosTurn (4 * n + 3 * d) (4 * d)

/-- The sum of two complex numbers. -/
def cAdd (a b : Rat × Rat) : Rat × Rat := (a.1 + b.1, a.2 + b.2)

/-- The difference of two complex numbers. -/
def cSub (a b : Rat × Rat) : Rat × Rat := (a.1 - b.1, a.2 - b.2)

/-- The product of two complex numbers. -/
def cMul (a b : Rat × Rat) : Rat × Rat := (a.1 * b.1 - a.2 * b.2, a.1 * b.2 + a.2 * b.1)

/-- The entries of a list at even positions. -/
def everySecond {α : Type} : List α → List α
  | [] => []
  | [a] => [a]
  | a :: _ :: r => a :: everySecond r

/-- The discrete Fourier transform of 2^n points. -/
def dft : Nat → List (Rat × Rat) → List (Rat × Rat)
  | 0, l => l
  | n + 1, l =>
    let e := dft n (everySecond l)
    let o := (dft n (everySecond (l.drop 1))).mapIdx fun i z => cMul (cosTurn i (2 ^ (n + 1)), -sinTurn i (2 ^ (n + 1))) z
    List.zipWith cAdd e o ++ List.zipWith cSub e o

/-- The inverse transform of 2^n points, without its factor 2^-n. -/
def dftInv (n : Nat) (l : List (Rat × Rat)) : List (Rat × Rat) :=
  (dft n (l.map fun z => (z.1, -z.2))).map fun z => (z.1, -z.2)

/-- The largest number below 2^n for which `p` holds, for a `p` that holds up to a bound; 0 when it holds nowhere above. -/
def largestBelow (p : Nat → Bool) : Nat → Nat → Nat
  | 0, d => d
  | n + 1, d => largestBelow p n (if p (d + 2 ^ n) then d + 2 ^ n else d)

/-- round(k · log10(a/b)) (00 R547) for positive b, held to 0 up to 2^n − 1: d is not above k · log10(a/b) + 1/2 when
10^(2d − 1) · b^2k ≤ a^2k. -/
def logRatio (k n : Nat) (a b : Rat) : Nat :=
  largestBelow (fun d => decide ((10 : Rat) ^ (2 * d - 1) * b ^ (2 * k) ≤ a ^ (2 * k))) n 0

end Sys2Proof.Machine
end

