-- ==== Sys2Proof/Machine/Feed.lean ====
section
/-! DEFINITION. The sample ports and the Feed front end (spec/02): the port and lane commands, the conditioning chain of
a lane word, the spectrum monitors, the AGC. -/

namespace Sys2Proof.Machine

/-- FMT.FORMAT of port p (R50). -/
def State.fmt (s : State) (p : Nat) : Nat := s.fld (fdKey p 16) 2 0

/-- Samples per lane word of a format (R50). -/
def perWord (f : Nat) : Nat := ([4, 2, 1, 1, 4, 2, 1, 4] : List Nat).getD f 1

/-- The format is real IF (R60). -/
def isReal (f : Nat) : Bool := decide (4 ≤ f)

/-- LSTATE of port p (R54). -/
def State.lane (s : State) (p : Nat) : Nat := s.fld (fdKey p 3) 2 0

/-- The hidden state of port p. -/
def State.feed (s : State) (p : Fin 8) : Feed := s.feeds[p.val]

/-- Keeps the hidden state of port p. -/
def State.setFeed (s : State) (p : Fin 8) (x : Feed) : State := { s with feeds := s.feeds.set p.val x }

/-- Stream n is enabled and maps port p. -/
def State.maps (s : State) (n p : Nat) : Bool := s.bit (smapKey n) 17 && s.fld (smapKey n) 3 1 == p

/-- Stream n is enabled and maps path q of port p. -/
def State.mapsPath (s : State) (n p q : Nat) : Bool := s.maps n p && s.fld (smapKey n) 0 0 == q

/-- The streams. -/
def allStreams : List Nat := List.range 16

/-- Writes a VALID bit; a change raises SVCHG (R78). -/
def State.setValid (s : State) (n : Nat) (b : Bool) : State :=
  if s.bit (smapKey n) 5 = b then s else (s.setB (smapKey n) 5 b).raise 28 2

/-- The rate of a path in kSa/s, as a numerator and a denominator (R80). -/
def State.pathRate (s : State) (p q : Nat) : Nat × Nat :=
  ((s.reg (fdKey p 17)).toNat, (if isReal (s.fmt p) then 2 else 1) * max 1 (s.fld (fdKey p (40 + 4 * q)) 6 0))

/-- Samples that a stream keeps: ⌈0.002 r⌉ (R76), from the port's rate, format and DEC. -/
def State.keep (s : State) (p q : Nat) : Nat := ceilDiv ((s.pathRate p q).1 * 2) (s.pathRate p q).2

/-- Writes a sample to a stream. -/
def Stream.push (x : Stream) (keep : Nat) (a : Sample) : Stream :=
  { x with next := x.next + 1, buf := (a :: x.buf).take keep }

/-- Blanked zero samples of a stream whose port is not in DATA (R78). -/
def Stream.zeros (x : Stream) (keep n : Nat) : Stream :=
  { x with next := x.next + n, buf := (List.replicate n zeroSample ++ x.buf).take keep }

/-- The home domain of port p. -/
def portDomain (p : Nat) : Nat := if p < 4 then 4 else 5

/-- The blanked zero samples of an enabled stream that are due, at its nominal rate (R78): those of a whole frame at a boundary
after a boundary, else those of the time since `zeroAt`. While the port's domain is off the stream takes none, and a capture that
reads it stores them (06 R189). -/
def State.zeroFill (s : State) (n : Nat) (boundary : Bool) : State :=
  let x := s.streams.toList.getD n Stream.reset
  let p := s.fld (smapKey n) 3 1
  let q := s.fld (smapKey n) 0 0
  let r := s.pathRate p q
  let ns := if boundary && x.zeroFrame then 1000000 else min 1000000 (rxtDiff s.time.ns x.zeroAt)
  let due := x.zeroRem + ns * r.1
  let k := due / (r.2 * 1000000)
  let y := { x with zeroAt := s.time.ns, zeroFrame := boundary, zeroRem := due % (r.2 * 1000000) }
  if s.bit (smapKey n) 17 = false ∨ s.lane p = 5 then s
  else if s.domOn (portDomain p) then { s with streams := s.streams.setIfInBounds n (y.zeros (s.keep p q) k) }
  else
    let t : State := { s with streams := s.streams.setIfInBounds n y }
    (List.range 2).foldl (fun t e => if t.captureReads e n then t.captureAll.captureZeros e k else t) t

/-- The streams of a port take the zeros that are due. -/
def State.zeroPort (s : State) (p : Nat) : State :=
  allStreams.foldl (fun t n => if t.maps n p then t.zeroFill n false else t) s

/-- Sends a lane to a state (R78): entering DATA, the streams of the port have taken the zeros due so far; leaving it, they become
invalid and take zeros from here on. -/
def State.setLane (s : State) (p : Fin 8) (st : Nat) : State :=
  if s.lane p.val ≠ 5 ∧ st = 5 then (s.zeroPort p.val).setF (fdKey p.val 3) 2 0 st
  else
    let t := s.setF (fdKey p.val 3) 2 0 st
    if s.lane p.val = 5 ∧ st ≠ 5 then
      allStreams.foldl (fun t n =>
        if t.maps n p.val then
          let x := t.streams.toList.getD n Stream.reset
          { t.setValid n false with
              streams := t.streams.setIfInBounds n { x with zeroAt := t.time.ns, zeroFrame := false, zeroRem := 0 } }
        else t) t
    else t

/-- Training ends in FAIL: the code is recorded with OFFSET 2 (00 R546), TFAIL is raised, the timer stops. -/
def State.laneFail (s : State) (p : Fin 8) (code : Nat) : State :=
  let t := (s.setLane p 7).setFeed p { s.feed p with timerOn := false, goArmed := false, confirming := false }
  (if code = 0 then t else t.pageErr (20 + p.val) code 2).raise (20 + p.val) 1

/-- The implied clock of the other port of the pair is the same, or that port is disabled; and this port's clock is in
range (R48, R49), for a format and a rate. -/
def State.clockOk (s : State) (p f rate : Nat) : Bool :=
  let o := if p % 2 = 0 then p + 1 else p - 1
  rate != 0 && decide (1000 * perWord f ≤ rate) && decide (rate ≤ 124000 * perWord f)
    && (!s.bit (fdKey o 2) 0 || rate * perWord (s.fmt o) == (s.reg (fdKey o 17)).toNat * perWord f)

/-- Native writes to FEED0 and SMAP0 are refused in LEGACY and DUAL (R88; 10 R340). -/
def State.legacyHeld (s : State) : Bool := s.legacyDual

/-- The AGC's mode: AGC0 of the legacy window runs in HOST mode (R84; 10 R353). -/
def State.agcMode (s : State) (p : Nat) : Nat := if p = 0 ∧ s.legacyHeld = true then 1 else s.fld (fdKey p 46) 17 16

/-- What a write of CTRL does (R49, R55, R57, R58). -/
def feedCtrl (w : Writer) (p : Fin 8) (v : Word) (s : State) : Handler :=
  let en := bitOf v 0
  let mapped := allStreams.any fun n => s.maps n p.val
  let t := s.plain w (20 + p.val) 2 v
  let t := if en then t
    else (t.setLane p 0).setFeed p { s.feed p with goArmed := false, timerOn := false, confirming := false }
  let t := if en && bitOf v 2 then t.setFeed p { t.feed p with goArmed := true } else t
  let t := if en && bitOf v 1 then
      (t.setLane p 1).setFeed p { t.feed p with timerOn := true, goArmed := false, confirming := false }
    else t
  { state := if p.val = 0 ∧ s.legacyHeld = true then eSTATE
      else if en = false ∧ mapped = true then eBUSY
      else if bitOf v 2 = true ∧ s.lane p.val ≠ 4 then eSTATE else 0
    range := true
    extra := if en = true ∧ s.clockOk p.val (s.fmt p.val) (s.reg (fdKey p.val 17)).toNat = false then eCONFIG else 0
    result := t }

/-- MODE, AMIN and AMAX of the AGC agree (R85). -/
def agcOk (mode f amin amax : Nat) : Bool := decide (amin ≤ amax) && !(mode == 2 && f == 0)

/-- ENG of notch k follows MODE: never in OFF, always in FIXED and ADAPT, as it stands in AUTO; a change raises NOTCH
(R65, R66). -/
def State.notchMode (s : State) (p k mode : Nat) : State :=
  let want := if mode = 0 then false else if mode = 3 then s.bit (fdKey p (25 + 3 * k)) 10 else true
  if s.bit (fdKey p (25 + 3 * k)) 10 = want then s
  else (s.setB (fdKey p (25 + 3 * k)) 10 want).raise (20 + p) 4

/-- A write to a word of a FEED page other than CTRL (R53, R69, R70, R74, R84, R85). -/
def feedWord (w : Writer) (p : Fin 8) (wd : Nat) (v : Word) (s : State) : Handler :=
  let t := s.plain w (20 + p.val) wd v
  let mapped := allStreams.any fun n => s.maps n p.val
  let held := p.val = 0 ∧ s.legacyHeld = true
  let rate := (s.reg (fdKey p.val 17)).toNat
  let en := s.bit (fdKey p.val 2) 0
  let mode := s.agcMode p.val
  if wd = 16 then
    { state := if held ∨ s.lane p.val ≠ 0 ∨ mapped = true then eSTATE else 0
      range := !(fieldOf v 2 0 == 7 && p.val != 0)
      extra := if (en = true ∧ s.clockOk p.val (fieldOf v 2 0) rate = false) ∨ (mode = 2 ∧ fieldOf v 2 0 = 0)
        then eCONFIG else 0
      result := t }
  else if wd = 17 then
    { state := if held ∨ s.lane p.val ≠ 0 ∨ mapped = true then eSTATE else 0
      range := true
      extra := if en = true ∧ s.clockOk p.val (s.fmt p.val) v.toNat = false then eCONFIG else 0
      result := t }
  else if wd = 18 then { state := if held ∨ s.lane p.val ≠ 0 then eSTATE else 0, range := true, extra := 0, result := t }
  else if wd = 40 ∨ wd = 44 then
    { state := if held ∨ (allStreams.any fun n => s.mapsPath n p.val ((wd - 40) / 4)) = true then eSTATE else 0
      range := true, extra := 0, result := t }
  else if wd = 39 ∨ wd = 43 then
    let f := BitVec.ofNat 36 ((s.reg (fdKey p.val (wd - 1))).toNat * 262144 + v.toNat)
    let x := s.feed p
    let sp := if wd = 39 then x.sub.set 0 { x.sub[0] with fPend := some f } else x.sub.set 1 { x.sub[1] with fPend := some f }
    { state := if held then eSTATE else 0, range := true, extra := 0, result := t.setFeed p { x with sub := sp } }
  else if 23 ≤ wd ∧ wd ≤ 34 ∧ (wd - 23) % 3 = 0 then
    { state := if held then eSTATE else 0, range := true, extra := 0
      result := t.notchMode p.val ((wd - 23) / 3) (fieldOf v 17 16) }
  else if wd = 46 then
    { state := if held then eSTATE else 0, range := true
      extra := if agcOk (fieldOf v 17 16) (s.fmt p.val) (s.reg (fdKey p.val 49)).toNat (s.reg (fdKey p.val 50)).toNat = false
        then eCONFIG else 0
      result := t }
  else if wd = 47 then
    { state := if held then eSTATE else if mode = 2 then eBUSY else 0, range := true, extra := 0, result := t }
  else if wd = 49 ∨ wd = 50 then
    { state := if held then eSTATE else 0, range := true
      extra := if agcOk mode (s.fmt p.val) (if wd = 49 then fieldOf v 9 0 else (s.reg (fdKey p.val 49)).toNat)
          (if wd = 50 then fieldOf v 9 0 else (s.reg (fdKey p.val 50)).toNat) = false then eCONFIG else 0
      result := t }
  else if held then Handler.refuse eSTATE s
  else headerHandler w (20 + p.val) wd v s

/-- A write to any word of a FEED page. -/
def feedHandler (w : Writer) (p : Fin 8) (wd : Nat) (v : Word) (s : State) : Handler :=
  if wd = 2 then feedCtrl w p v s else feedWord w p wd v s

/-- FEED_ENABLE (R49). -/
def execFeedEnable (w : Writer) (p : Fin 8) (v : Word) (s : State) : Host.Outcome State Fault Refusal :=
  done s (guarded w (20 + p.val) 2 (forceBit v 0 true) (feedCtrl w p (forceBit v 0 true) s) s)

/-- FEED_DISABLE (R58, R75). -/
def execFeedDisable (w : Writer) (p : Fin 8) (v : Word) (s : State) : Host.Outcome State Fault Refusal :=
  done s (guarded w (20 + p.val) 2 (forceBit v 0 false) (feedCtrl w p (forceBit v 0 false) s) s)

/-- LANE_TRAIN (R55). -/
def execLaneTrain (w : Writer) (p : Fin 8) (v : Word) (s : State) : Host.Outcome State Fault Refusal :=
  done s (guarded w (20 + p.val) 2 (forceBit v 1 true) (feedCtrl w p (forceBit v 1 true) s) s)

/-- LANE_GO (R57). -/
def execLaneGo (w : Writer) (p : Fin 8) (v : Word) (s : State) : Host.Outcome State Fault Refusal :=
  done s (guarded w (20 + p.val) 2 (forceBit v 2 true) (feedCtrl w p (forceBit v 2 true) s) s)

/-- WAITCLK_COUNT_DONE (R55 step 2): the period is within 1 % of the implied clock, or not. -/
def execWaitclkCountDone (p : Fin 8) (inTol : Bool) (s : State) : Host.Outcome State Fault Refusal :=
  done s (if s.lane p.val = 1 then (if inTol then s.setLane p 2 else s.laneFail p eCONFIG) else s)

/-- WAITCLK_GAP (R55): the count of step 2 starts again from 0. The count is the measurement that WAITCLK_COUNT_DONE
brings, so the lane stays in WAITCLK and its timer runs on. -/
def execWaitclkGap (p : Fin 8) (s : State) : Host.Outcome State Fault Refusal :=
  done s (if s.lane p.val = 1 then s.setLane p 1 else s)

/-- The longest run of ones, the lowest first among equals, as start and length: `i` is the position, `run` the length of
the run that ends before it. -/
def longestRun : List Bool → Nat → Nat → Nat × Nat → Nat × Nat
  | [], _, _, best => best
  | b :: r, i, run, best =>
    let n := if b then run + 1 else 0
    longestRun r (i + 1) n (if best.2 < n then (i + 1 - n, n) else best)

/-- DSTEP from the 64 tests (R55 step 4), none when the longest run is under 8 steps. -/
def chooseStep (ok : BitVec 64) : Option Nat :=
  if ok = BitVec.allOnes 64 then some 32
  else
    let r := longestRun ((List.range 64).map fun i => ok.getLsbD i) 0 0 (0, 0)
    if r.2 < 8 then none else some (r.1 + (r.2 - 1) / 2)

/-- SWEEP_DONE (R55 steps 3 and 4). -/
def execSweepDone (p : Fin 8) (ok : BitVec 64) (s : State) : Host.Outcome State Fault Refusal :=
  done s (if s.lane p.val = 2 then
      match chooseStep ok with
      | none => s.laneFail p eTIMEOUT
      | some d => ((s.setF (fdKey p.val 3) 11 6 d).setLane p 3).setFeed p
          { s.feed p with wordCnt := 0, rotCand := 255, confirming := false }
    else s)

/-- The training pattern of a format (R55, R53). -/
def trainPattern (f : Nat) : BitVec 8 := if f = 7 then 0xF0 else 0xB8

/-- The rotations of the pattern that a word matches: bit r for the rotation to the left by r. That WROT counts rotations of the
pattern to the left is the model's choice (DESIGN CHOICE, log 63). -/
def matchRot (pat b : BitVec 8) : BitVec 8 :=
  BitVec.ofNat 8 ((List.range 8).foldl (fun a r => if b = pat.rotateLeft r then a + 2 ^ r else a) 0)

/-- The lowest bit that is 1. -/
def lowBit (b : BitVec 8) : Nat := ((List.range 8).filter fun i => b.getLsbD i).headD 0

/-- ALIGN_DONE (R55 step 5): 64 words matched one rotation. -/
def execAlignDone (p : Fin 8) (s : State) : Host.Outcome State Fault Refusal :=
  let x := s.feed p
  done s (if s.lane p.val = 3 ∧ x.confirming = false ∧ 64 ≤ x.wordCnt then
      (s.setF (fdKey p.val 3) 5 3 (lowBit x.rotCand)).setFeed p { x with confirming := true, wordCnt := 0 }
    else s)

/-- TRAIN_CONFIRM_DONE (R55 step 6); under the legacy sample input GO is armed at once (10 R360). -/
def execTrainConfirmDone (p : Fin 8) (s : State) : Host.Outcome State Fault Refusal :=
  let x := s.feed p
  done s (if s.lane p.val = 3 ∧ x.confirming = true ∧ 1024 ≤ x.wordCnt then
      ((s.setLane p 4).setFeed p
        { x with confirming := false, timerOn := false
                 goArmed := p.val == 0 && s.legacyDual && s.bit (pg lwinPage 0o30) 17 }).raise (20 + p.val) 0
    else s)

/-- TRAIN_TIMEOUT (R56): the timer runs from TRAIN until LOCKED, FAIL or DOWN. -/
def execTrainTimeout (p : Fin 8) (s : State) : Host.Outcome State Fault Refusal :=
  done s (if (s.feed p).timerOn then s.laneFail p eTIMEOUT else s)

/-- A port of the pair loses its clock (R58). -/
def State.portDown (s : State) (p : Fin 8) : State :=
  if 2 ≤ s.lane p.val ∧ s.lane p.val ≤ 5 then
    ((s.setLane p 6).setFeed p { s.feed p with goArmed := false, timerOn := false, confirming := false }).raise (20 + p.val) 2
  else s

/-- CLOCK_LOSS (R58): both ports of the pair. -/
def execClockLoss (m : Fin 4) (s : State) : Host.Outcome State Fault Refusal :=
  done s ((s.portDown ⟨2 * m.val, by omega⟩).portDown ⟨2 * m.val + 1, by omega⟩)

/-! ### A lane word in DATA: samples and the conditioning chain -/

/-- The odd level of an n-bit component (R51). -/
def levelOf (code n u : Nat) : Int :=
  if n = 1 then 1 - 2 * (u : Int)
  else if code = 0 then 2 * signedOf n u + 1
  else if code = 1 then (if u / 2 ^ (n - 1) % 2 = 1 then -(2 * ((u % 2 ^ (n - 1) : Nat) : Int) + 1)
    else 2 * ((u % 2 ^ (n - 1) : Nat) : Int) + 1)
  else 2 * (u : Int) - (2 ^ n - 1)

/-- Bits hi to lo of a lane word. -/
def bits8 (b : BitVec 8) (hi lo : Nat) : Nat := b.toNat / 2 ^ lo % 2 ^ (hi - lo + 1)

/-- The samples of a lane word in time order, as levels (R50, R51); a real sample has its value in the first component. -/
def laneSamples (f code : Nat) (b : BitVec 8) : List (Int × Int) :=
  if f = 0 then (List.range 4).map fun i => (levelOf code 1 (bits8 b (7 - 2 * i) (7 - 2 * i)), levelOf code 1 (bits8 b (6 - 2 * i) (6 - 2 * i)))
  else if f = 1 then (List.range 2).map fun i => (levelOf code 2 (bits8 b (7 - 4 * i) (6 - 4 * i)), levelOf code 2 (bits8 b (5 - 4 * i) (4 - 4 * i)))
  else if f = 2 then [(levelOf code 3 (bits8 b 7 5), levelOf code 3 (bits8 b 4 2))]
  else if f = 3 then [(levelOf code 4 (bits8 b 7 4), levelOf code 4 (bits8 b 3 0))]
  else if f = 4 then (List.range 4).map fun i => (levelOf code 2 (bits8 b (7 - 2 * i) (6 - 2 * i)), 0)
  else if f = 5 then [(levelOf code 4 (bits8 b 7 4), 0), (levelOf code 4 (bits8 b 3 0), 0)]
  else if f = 6 then [(levelOf code 8 b.toNat, 0)]
  else (List.range 4).map fun i => (levelOf 1 2 (2 * bits8 b (7 - i) (7 - i) + bits8 b (3 - i) (3 - i)), 0)

/-- Bits of a component of a format. -/
def compBits (f : Nat) : Nat := ([1, 2, 3, 4, 2, 4, 8, 2] : List Nat).getD f 1

/-- Components of a sample above half of full scale, at the port input (R85). -/
def aboveHalf (f : Nat) (x : Int × Int) : Nat :=
  b2n (decide (2 ^ compBits f - 1 < 2 * x.1.natAbs)) + (if isReal f then 0 else b2n (decide (2 ^ compBits f - 1 < 2 * x.2.natAbs)))

/-- The longest history that the filters of unstated length are given (DESIGN CHOICE, log 4). -/
def filterDepth : Nat := 64

/-- One sample through a notch (R64): the sample passed on, and the notch. -/
def notchStep (s : State) (p k : Nat) (n : Notch) (x : Rat × Rat) : (Rat × Rat) × Notch :=
  let th := (s.reg (fdKey p (24 + 3 * k))).toNat
  let c := cosTurn th 262144
  let d := sinTurn th 262144
  let c2 := c * c - d * d
  let d2 := 2 * c * d
  let rho : Rat := 1 - 1 / 2 ^ s.fld (fdKey p (23 + 3 * k)) 15 12
  let yi := x.1 - 2 * (c * n.x1I - d * n.x1Q) + (c2 * n.x2I - d2 * n.x2Q) + 2 * rho * (c * n.y1I - d * n.y1Q)
    - rho * rho * (c2 * n.y2I - d2 * n.y2Q)
  let yq := x.2 - 2 * (c * n.x1Q + d * n.x1I) + (c2 * n.x2Q + d2 * n.x2I) + 2 * rho * (c * n.y1Q + d * n.y1I)
    - rho * rho * (c2 * n.y2Q + d2 * n.y2I)
  (if s.bit (fdKey p (25 + 3 * k)) 10 then (yi, yq) else x,
   { x1I := x.1, x1Q := x.2, x2I := n.x1I, x2Q := n.x1Q, y1I := yi, y1Q := yq, y2I := n.y1I, y2Q := n.y1Q,
     px := n.px + x.1 * x.1 + x.2 * x.2, py := n.py + yi * yi + yq * yq, n := n.n + 1 })

/-- |x| of a rational. -/
def absQ (x : Rat) : Rat := if x < 0 then -x else x

/-- The blanker's magnitude estimate (R67). -/
def blkMag (x : Rat × Rat) : Rat :=
  if absQ x.1 < absQ x.2 then absQ x.2 + absQ x.1 / 2 else absQ x.1 + absQ x.2 / 2

/-- One sample through the blanker (R67, R68): the sample that leaves the 32-sample delay, if any, with its tag, and the
Feed. The mean takes every sample that is not blanked, those after the frame's limit among them. -/
def blankStep (s : State) (p : Nat) (x : Feed) (y : Rat × Rat) : Option ((Rat × Rat) × Bool) × Feed :=
  let m := blkMag y
  let trig := s.bit (fdKey p 35) 17 && !x.blkStop && decide (((s.fld (fdKey p 35) 16 10 : Nat) : Rat) / 8 * x.blkMean < m)
  let post := if trig then max (s.fld (fdKey p 36) 9 0) (x.blkPost - 1) else x.blkPost - 1
  let me := trig || (decide (0 < x.blkPost) && s.bit (fdKey p 35) 17)
  let mean := if me && !x.blkStop then x.blkMean else x.blkMean + (m - x.blkMean) / 2 ^ s.fld (fdKey p 35) 4 0
  let line := (y, me) :: (if trig then
      (x.blkLine.take (s.fld (fdKey p 35) 9 5)).map (fun e => (e.1, true)) ++ x.blkLine.drop (s.fld (fdKey p 35) 9 5)
    else x.blkLine)
  let out := if 32 < line.length then line.getLast? else none
  let hit := match out with
    | some e => e.2 && !x.blkStop
    | none => false
  (out.map fun e => if hit then ((0, 0), true) else (e.1, false),
   { x with blkMean := mean, blkPost := post, blkLine := line.take 32,
            blkHits := x.blkHits + b2n hit, frameN := x.frameN + b2n out.isSome })

/-- A component requantised to Q + 2 bits (R73): the odd level 2⌊y/step⌋ + 1, held to the range. The rule says that levels are odd
and leaves the place of the decision levels open: DESIGN CHOICE, log 63. -/
def requant (q : Nat) (step y : Rat) : Int :=
  max (-(2 ^ (q + 2) - 1)) (min (2 ^ (q + 2) - 1) (2 * (if step = 0 then 0 else (y / step).floor) + 1))

/-- One sample into path q of a port (R70 to R73): the output sample, if one is due, and the path. -/
def subStep (s : State) (p q : Nat) (x : SubPath) (y : (Rat × Rat) × Bool) : Option Sample × SubPath :=
  let z := cMul y.1 (cosTurn x.ph (2 ^ 36), -sinTurn x.ph (2 ^ 36))
  let hist := (z :: x.hist).take filterDepth
  let blk := x.blk || y.2
  let k := fdKey p (40 + 4 * q)
  let x' := { x with ph := (x.ph + x.f.toNat) % 2 ^ 36, hist := hist, dec := x.dec + 1, blk := blk }
  if x.dec + 1 < s.fld k 6 0 then (none, x')
  else
    let o := Config.lowPass (s.fld k 6 0) (s.fld k 14 13) hist
    let i := requant (s.fld k 16 15) x.step o.1
    let u := requant (s.fld k 16 15) x.step o.2
    let hits := b2n (decide (2 ^ (s.fld k 16 15 + 2) - 1 < 2 * i.natAbs)) + b2n (decide (2 ^ (s.fld k 16 15 + 2) - 1 < 2 * u.natAbs))
    (some (if blk then ⟨0, 0, true, true⟩ else ⟨i, u, false, true⟩),
     { x' with dec := 0, blk := false, sclN := x.sclN + (if blk then 0 else 2), sclHit := x.sclHit + (if blk then 0 else hits) })


/-- Writes a sample to every enabled stream that maps a path. -/
def State.pushPath (s : State) (p q : Nat) (a : Sample) : State :=
  { s with streams := s.streams.mapFinIdx fun n x _ => if s.mapsPath n p q then x.push (s.keep p q) { a with valid := s.bit (smapKey n) 5 } else x }

/-- A sample from the blanker into both paths of a port. -/
def State.intoPaths (s : State) (p : Fin 8) (y : (Rat × Rat) × Bool) : State :=
  let x := s.feed p
  let a := subStep s p.val 0 x.sub[0] y
  let b := subStep s p.val 1 x.sub[1] y
  let t := s.setFeed p { x with sub := #v[a.2, b.2] }
  let t := match a.1 with
    | some v => t.pushPath p.val 0 v
    | none => t
  match b.1 with
    | some v => t.pushPath p.val 1 v
    | none => t

/-- DC removal on one component (R62): the output and the new mean. -/
def dcStep (en frz : Bool) (a : Nat) (dc x : Rat) : Rat × Rat :=
  if en then (x - dc, if frz then dc else dc + (x - dc) / 2 ^ a) else (x, dc)

/-! ### The spectrum monitor's samples (R81) -/

/-- The port sample period in units of 2^-16 ns (R61). -/
def State.portPeriod (s : State) (p : Nat) : Rat :=
  ((if isReal (s.fmt p) then 2 else 1 : Nat) : Rat) * 65536000000 / ((max 1 (s.reg (fdKey p 17)).toNat : Nat) : Rat)

/-- The squared magnitudes of the 1024 bins of a block, bin 512 at 0 Hz, after a Hann window (R81, R82). The window's end points and
the scale of the transform, which is the plain sum, are the model's choice (DESIGN CHOICE, log 64). -/
def blockPower (l : List (Rat × Rat)) : List Rat :=
  let y := dft 10 (l.mapIdx fun i z => let w := (1 - cosTurn i 1024) / 2; (z.1 * w, z.2 * w))
  (y.drop 512 ++ y.take 512).map fun z => z.1 * z.1 + z.2 * z.2

/-- A monitor takes a sample, whose RXT is `t`, for averages over `avg` blocks (R81). A set of blocks completed before the next
record replaces the one before it (DESIGN CHOICE, log 64). -/
def SpecMon.take (x : SpecMon) (avg t : Nat) (z : Rat × Rat) : SpecMon :=
  let first := if x.block = [] ∧ x.blocks = 0 then t else x.first
  let l := z :: x.block
  if l.length < 1024 then { x with block := l, first := first }
  else
    let p := blockPower l.reverse
    let sums := if x.blocks = 0 then p else List.zipWith (· + ·) x.sums p
    if x.blocks + 1 < avg then { x with block := [], blocks := x.blocks + 1, sums := sums, first := first }
    else ⟨[], 0, [], first, some (first, sums.map fun v => v / ((x.blocks + 1 : Nat) : Rat))⟩

/-- The key of SPCm. -/
def spcKey (m : Nat) : Nat := pg 29 (16 + 4 * m)

/-- A sample at tap `src` of port p: 0 after I/Q correction, 1 after the blanker, which delays by 32 samples (R67, R81). -/
def State.specTap (s : State) (p : Fin 8) (src : Bool) (z : Rat × Rat) : State :=
  let x := s.feed p
  let late : Int := if src then (32 * s.portPeriod p.val + 1 / 2).floor else 0
  if s.bit (spcKey p.val) 17 = true ∧ s.bit (spcKey p.val) 16 = src then
    s.setFeed p { x with spec := x.spec.take (s.fld (spcKey p.val) 15 10) (((s.rxt : Int) - late) % 2 ^ 64).toNat z }
  else s

/-- A complex sample at the port rate through stages 2 to 6 (R60). -/
def State.condition (s : State) (p : Fin 8) (real : Bool) (z : Rat × Rat) : State :=
  let x := s.feed p
  let k := fdKey p.val 20
  let di := dcStep (s.bit k 6) (s.bit k 5) (s.fld k 4 0) x.dcI z.1
  let dq := dcStep (s.bit k 6) (s.bit k 5) (s.fld k 4 0) x.dcQ z.2
  let g : Rat := ((s.reg (fdKey p.val 21)).toNat : Rat) / 65536
  let h : Rat := ((s.reg (fdKey p.val 22)).toInt : Rat) / 131072
  let y := if real then (di.1, dq.1) else (di.1, g * dq.1 + h * di.1)
  let s := s.specTap p false y
  let x := s.feed p
  let n0 := notchStep s p.val 0 x.notch[0] y
  let n1 := notchStep s p.val 1 x.notch[1] n0.1
  let n2 := notchStep s p.val 2 x.notch[2] n1.1
  let n3 := notchStep s p.val 3 x.notch[3] n2.1
  let r := blankStep s p.val { x with dcI := di.2, dcQ := dq.2, notch := #v[n0.2, n1.2, n2.2, n3.2] } n3.1
  let t := s.setFeed p r.2
  match r.1 with
  | some o => (t.specTap p true o.1).intoPaths p o
  | none => t

/-- One port sample (R60, R61): a real sample meets the half-band filter first, which passes every second one on. Which of each two
it passes the rule leaves open: those of odd n here (DESIGN CHOICE, log 63). -/
def State.portSample (s : State) (p : Fin 8) (a : Int × Int) : State :=
  let f := s.fmt p.val
  let x := s.feed p
  let x := { x with agcHits := x.agcHits + aboveHalf f a, agcTotal := x.agcTotal + (if isReal f then 1 else 2) }
  if isReal f then
    let v : Rat := (a.1 : Rat)
    let z : Rat × Rat := if x.realN = 0 then (v, 0) else if x.realN = 1 then (0, -v) else if x.realN = 2 then (-v, 0) else (0, v)
    let hist := (z :: x.realHist).take filterDepth
    let t := s.setFeed p { x with realN := x.realN + 1, realHist := hist }
    if x.realN.getLsbD 0 then t.condition p true (Config.halfBand hist) else t
  else (s.setFeed p x).condition p false ((a.1 : Rat), (a.2 : Rat))

/-- C3 parity and check bit (R52). -/
def laneCheck (b : BitVec 8) : Bool :=
  !(((List.range 7).foldl (fun a i => a + b2n (b.getLsbD (i + 1))) 0) % 2 == 0 && !b.getLsbD 0)

/-- A lane word in DATA: its check, then its samples (R52, R60). -/
def State.dataWord (s : State) (p : Fin 8) (b : BitVec 8) : State :=
  let f := s.fmt p.val
  let t := if f = 2 ∧ laneCheck b = true then (s.incSat (fdKey p.val 19)).raise (20 + p.val) 3 else s
  (laneSamples f (s.fld (fdKey p.val 16) 5 4) b).foldl (fun t a => t.portSample p a) t

/-- In LEGACY only SP0 carries samples (R88). -/
def State.carries (s : State) (p : Fin 8) : Bool := s.pins.persona != .legacy || p.val == 0

/-- LANE_WORD (R55 to R57): in ALIGN and in the confirmation the word is tested and a mismatch restarts the sweep; in
LOCKED a differing word is the first data word after GO, or a failure; in DATA it carries samples, in LEGACY those of SP0 only
(R88). From the confirmation on the word is taken at the boundary that training found. -/
def execLaneWord (p : Fin 8) (b : BitVec 8) (s : State) : Host.Outcome State Fault Refusal :=
  let x := s.feed p
  let pat := trainPattern (s.fmt p.val)
  let m := x.rotCand &&& matchRot pat b
  done s (State.captureAll <|
    if s.lane p.val = 3 ∧ x.confirming = false then
      (if m = 0 then (s.setLane p 2).setFeed p { x with wordCnt := 0, rotCand := 255 }
       else s.setFeed p { x with wordCnt := x.wordCnt + 1, rotCand := m })
    else if s.lane p.val = 3 then
      (if b = pat then s.setFeed p { x with wordCnt := x.wordCnt + 1 }
       else (s.setLane p 2).setFeed p { x with wordCnt := 0, rotCand := 255, confirming := false })
    else if s.lane p.val = 4 then
      (if b = pat then s
       else if x.goArmed then
         let t := (s.setLane p 5).setFeed p { x with goArmed := false }
         if s.carries p then t.dataWord p b else t
       else s.laneFail p 0)
    else if s.lane p.val = 5 ∧ s.carries p = true then s.dataWord p b
    else s)

/-- The imaginary part of y[n] · conj(y[n−1]) · conj(c) of notch k (R65). -/
def notchG (s : State) (p k : Nat) (n : Notch) : Rat :=
  let th := (s.reg (fdKey p (24 + 3 * k))).toNat
  let c := cosTurn th 262144
  let d := sinTurn th 262144
  let ri := n.y1I * n.y2I + n.y1Q * n.y2Q
  let rq := n.y1Q * n.y2I - n.y1I * n.y2Q
  rq * c - ri * d

/-- NOTCH_ADAPT (R65): due once every 2^UDIV samples while the notch adapts. -/
def execNotchAdapt (p : Fin 8) (k : Fin 4) (s : State) : Host.Outcome State Fault Refusal :=
  let x := s.feed p
  let n := x.notch[k.val]
  let c := fdKey p.val (23 + 3 * k.val)
  let g := notchG s p.val k.val n
  let th := s.reg (fdKey p.val (24 + 3 * k.val))
  let d := wordOf (2 ^ s.fld c 11 8)
  done s (if 2 ≤ s.fld c 17 16 ∧ 2 ^ s.fld c 7 4 ≤ n.n then
      (s.setReg (fdKey p.val (24 + 3 * k.val)) (if 0 < g then th + d else if g < 0 then th - d else th)).setFeed p
        { x with notch := x.notch.set k.val { n with n := 0 } }
    else s)

/-- BLANKER_LIMIT (R68): the count has reached (MAXD/256) × samples per frame; for a real format with an odd PRATE the samples per
frame are PRATE/2 rounded down (DESIGN CHOICE, log 63). -/
def execBlankerLimit (p : Fin 8) (s : State) : Host.Outcome State Fault Refusal :=
  let x := s.feed p
  let spf := (s.reg (fdKey p.val 17)).toNat / (if isReal (s.fmt p.val) then 2 else 1)
  done s (if s.bit (fdKey p.val 35) 17 = true ∧ x.blkStop = false ∧ s.fld (fdKey p.val 36) 17 10 * spf ≤ x.blkHits * 256 then
      ((s.setFeed p { x with blkStop := true }).setB (fdKey p.val 37) 17 true).raise (20 + p.val) 5
    else s)

/-- SUBSTREAM_FREQ_WRITE (R70). -/
def execSubstreamFreqWrite (w : Writer) (p : Fin 8) (sub : Fin 2) (v : Word) (s : State) : Host.Outcome State Fault Refusal :=
  done s (guarded w (20 + p.val) (39 + 4 * sub.val) v (feedWord w p (39 + 4 * sub.val) v s) s)

/-- CLOCK_GATE_END (R59): the counter runs while CKRUN = 1. -/
def execClockGateEnd (m : Fin 4) (count : BitVec 36) (s : State) : Host.Outcome State Fault Refusal :=
  done s (if s.bit (pg 28 2) 0 then s.setReg2 (pg 28 (35 + 2 * m.val)) count.toNat else s)

/-- AGC_UPDATE (R85): one run of the AUTO loop. AOCC is taken over all samples since the loop last ran, is rounded down and held at
1023, and is 0 when none came: DESIGN CHOICE, log 63. -/
def execAgcUpdate (p : Fin 8) (s : State) : Host.Outcome State Fault Refusal :=
  let x := s.feed p
  let c := fdKey p.val 46
  let occ := min 1023 (if x.agcTotal = 0 then 0 else x.agcHits * 1024 / x.agcTotal)
  let tgt := (s.reg (fdKey p.val 48)).toNat
  let hyst := s.fld c 3 0
  let duty : Int := s.fld (fdKey p.val 47) 9 0
  let step : Int := s.fld c 8 4
  let gain : Int := if s.bit c 15 then -step else step
  let want := if occ + hyst < tgt then duty + gain else if tgt + hyst < occ then duty - gain else duty
  let lo : Int := s.fld (fdKey p.val 49) 9 0
  let hi : Int := s.fld (fdKey p.val 50) 9 0
  let got := max lo (min hi want)
  let t := ((s.setReg (fdKey p.val 51) (wordOf occ)).setReg (fdKey p.val 47) (wordOfInt got)).setFeed p
    { x with agcHits := 0, agcTotal := 0 }
  done s (if s.fld c 17 16 = 2 then (if got = want then t else t.raise (20 + p.val) 6) else s)

/-! ### The Feed at a frame boundary (05 R155; R66 to R68, R70, R73, R77, R78) -/

/-- The depth in dB is at least e: Px/Py ≥ 10^(e/10). -/
def depthAtLeast (px py : Rat) (e : Nat) : Bool := decide ((10 : Rat) ^ e * py ^ 10 ≤ px ^ 10)

/-- Depth and engagement of a notch at the end of a frame (R66). A frame without samples reports nothing. -/
def State.notchFrame (s : State) (p : Fin 8) (k : Fin 4) : State :=
  let x := s.feed p
  let n := x.notch[k.val]
  let r := fdKey p.val (25 + 3 * k.val)
  let e := s.fld (fdKey p.val (23 + 3 * k.val)) 3 0
  if n.px = 0 ∧ n.py = 0 then s
  else
    let t := (s.setF r 9 0 (logRatio 80 10 n.px n.py)).setFeed p
      { x with notch := x.notch.set k.val { n with px := 0, py := 0 } }
    if s.fld (fdKey p.val (23 + 3 * k.val)) 17 16 = 3 then
      if s.bit r 10 = false ∧ depthAtLeast n.px n.py e = true then (t.setB r 10 true).raise (20 + p.val) 4
      else if s.bit r 10 = true ∧ depthAtLeast n.px n.py (e - 2) = false then (t.setB r 10 false).raise (20 + p.val) 4
      else t
    else t

/-- A path at the end of a frame: the scale loop runs and a staged frequency is applied (R70, R73). -/
def SubPath.frame (x : SubPath) (qtgt : Nat) : SubPath :=
  { x with f := x.fPend.getD x.f, fPend := none, sclN := 0, sclHit := 0
           step := if x.sclN = 0 then x.step else Config.scaleStep x.step x.sclHit x.sclN qtgt }

/-- A port at a frame boundary (R66, R68, R70, R73). BFRAC is rounded down, which the rule leaves open: DESIGN CHOICE, log 63. -/
def State.feedFrame (s : State) (p : Fin 8) : State :=
  let t := (((s.notchFrame p 0).notchFrame p 1).notchFrame p 2).notchFrame p 3
  let x := t.feed p
  let frac := if x.frameN = 0 then 0 else min 65535 (x.blkHits * 65536 / x.frameN)
  (t.setReg (fdKey p.val 37) (wordOf (frac + b2n x.blkStop * 131072))).setFeed p
    { x with blkHits := 0, frameN := 0, blkStop := false
             sub := #v[x.sub[0].frame (t.fld (fdKey p.val 40) 12 7), x.sub[1].frame (t.fld (fdKey p.val 44) 12 7)] }

/-- GDLYs: the group delay of a path in 1/16 port-sample periods, with the blanker's 32 samples and, for a real format, the half-band
filter (R71). It reads 0, its reset value (R89), while the port is not enabled (DEDUCED, log 4). -/
def State.gdly (s : State) (p q : Nat) : Nat :=
  if s.bit (fdKey p 2) 0 then
    min 262143 (512 + (if isReal (s.fmt p) then Config.halfBandDelay else 0)
      + Config.pathDelay (s.fld (fdKey p (40 + 4 * q)) 6 0) (s.fld (fdKey p (40 + 4 * q)) 14 13))
  else 0

/-- The stamp of a stream (R77): the RXT of the lane word of its first sample after the boundary, less GDLYs. -/
def State.stampTime (s : State) (p q : Nat) (word : BitVec 64) : Nat :=
  (((word.toNat : Int) - (s.portPeriod p * (s.gdly p q : Rat) / 16 + 1 / 2).floor) % 2 ^ 64).toNat

/-- An enabled stream at a frame boundary: zeros while its port is not in DATA, the stamp, VALID (R77, R78). While the
port's domain is off there is neither sample nor stamp. `words` brings the RXT of the input lane word of each stream's first
sample after the boundary. -/
def State.streamFrame (s : State) (words : List (BitVec 64)) (n : Fin 16) : State :=
  let p := s.fld (smapKey n.val) 3 1
  let t := s.zeroFill n.val true
  let x := t.streams[n.val]
  if s.bit (smapKey n.val) 17 = false then s
  else if s.domOn (portDomain p) = false then
    { t.setValid n.val false with streams := t.streams.set n.val { x with prev := x.cur, cur := none } }
  else
    let y := { x with prev := x.cur, cur := some (x.next, s.stampTime p (s.fld (smapKey n.val) 0 0) (words.getD n.val 0)) }
    { t.setValid n.val (s.lane p == 5) with streams := t.streams.set n.val y }

/-! ### Streams (R75 to R79) -/

/-- Feed buffer units of a path (R76). -/
def State.unitsOf (s : State) (p q : Nat) : Nat :=
  ceilDiv ((s.reg (fdKey p 17)).toNat * 2 * (2 * (s.fld (fdKey p (40 + 4 * q)) 16 15 + 2) + 1))
    ((if isReal (s.fmt p) then 2 else 1) * max 1 (s.fld (fdKey p (40 + 4 * q)) 6 0) * 256)

/-- A write of SMAPn (R75, R78, R79, R88). The samples of a stream are numbered on over a disable, so that a parked channel counts
those that it missed (04 R123). -/
def smapHandler (w : Writer) (n : Fin 16) (v : Word) (s : State) : Handler :=
  let was := s.bit (smapKey n.val) 17
  let en := bitOf v 17
  let p := fieldOf v 3 1
  let q := fieldOf v 0 0
  let used := (s.reg (pg 28 33)).toNat
  let u := s.unitsOf p q
  let t := s.plain w 28 (16 + n.val) v
  { state := if n.val = 0 ∧ s.legacyHeld = true then eSTATE
      else if was = true ∧ en = false ∧ s.streamUsed n.val = true then eBUSY
      else if was = true ∧ (p ≠ s.fld (smapKey n.val) 3 1 ∨ q ≠ s.fld (smapKey n.val) 0 0) then eSTATE else 0
    range := true
    extra := if was = false ∧ en = true ∧ ((allStreams.any fun m => m != n.val && s.mapsPath m p q) = true ∨ 65536 < used + u)
      then eCONFIG else 0
    result :=
      if was = false ∧ en = true then
        { t.setReg (pg 28 33) (wordOf (used + u)) with
            streams := t.streams.set n.val
              { Stream.reset with next := s.streams[n.val].next, units := u, zeroAt := s.time.ns } }
      else if was = true ∧ en = false then
        { (t.setValid n.val false).setReg (pg 28 33) (wordOf (used - s.streams[n.val].units)) with
            streams := t.streams.set n.val { Stream.reset with next := s.streams[n.val].next } }
      else t }

/-- The LEN + 1 bits of a transfer, from RFTX0 bit 17 on (R86). -/
def State.rfBits (s : State) : List Bool :=
  (List.range (s.fld (pg 28 43) 5 0 + 1)).map fun i => s.bit (pg 28 (45 + i / 18)) (17 - i % 18)

/-- A write to a word of the ROUTE page (R59, R79, R86, R87). -/
def routeHandler (w : Writer) (wd : Nat) (v : Word) (s : State) : Handler :=
  let t := s.plain w 28 wd v
  let busy := s.bit (pg 28 3) 0
  if wd = 2 then
    { state := if bitOf v 1 = true ∧ busy = true then eBUSY else 0, range := true, extra := 0
      result := if bitOf v 1 then
          { t.setB (pg 28 3) 0 true with
              rf := { waiting := s.bit (pg 28 43) 13, cs := some (Fin.ofNat 4 (s.fld (pg 28 43) 17 16))
                      mode := Fin.ofNat 4 (s.fld (pg 28 43) 15 14)
                      out := if s.bit (pg 28 43) 13 then [] else s.rfBits } }
        else t }
  else if h : 16 ≤ wd ∧ wd < 32 then smapHandler w ⟨wd - 16, by omega⟩ v s
  else if 43 ≤ wd ∧ wd ≤ 48 then { state := if busy then eBUSY else 0, range := true, extra := 0, result := t }
  else headerHandler w 28 wd v s

/-- STREAM_ENABLE (R75). -/
def execStreamEnable (w : Writer) (n : Fin 16) (v : Word) (s : State) : Host.Outcome State Fault Refusal :=
  done s (guarded w 28 (16 + n.val) (forceBit v 17 true) (smapHandler w n (forceBit v 17 true) s) s)

/-- STREAM_DISABLE (R79). -/
def execStreamDisable (w : Writer) (n : Fin 16) (v : Word) (s : State) : Host.Outcome State Fault Refusal :=
  done s (guarded w 28 (16 + n.val) (forceBit v 17 false) (smapHandler w n (forceBit v 17 false) s) s)

/-! ### RF control SPI (R86) -/

/-- RFSPI_TRANSFER. -/
def execRfspiTransfer (w : Writer) (v : Word) (s : State) : Host.Outcome State Fault Refusal :=
  done s (guarded w 28 2 (forceBit v 1 true) (routeHandler w 2 (forceBit v 1 true) s) s)

/-- RFSPI_READY: shifting begins. -/
def execRfspiReady (s : State) : Host.Outcome State Fault Refusal :=
  done s (if s.rf.waiting then { s with rf := { s.rf with waiting := false, out := s.rfBits } } else s)

/-- The RF SPI master between transfers. -/
def State.rfIdle (s : State) : State := { s with rf := { s.rf with waiting := false, cs := none, out := [] } }

/-- RFSPI_READY_TIMEOUT: the chip select is released and no clock is sent. -/
def execRfspiReadyTimeout (s : State) : Host.Outcome State Fault Refusal :=
  done s (if s.rf.waiting then
      ((s.rfIdle.setB (pg 28 3) 0 false).raise 28 1).pageErr 28 eTIMEOUT 2
    else s)

/-- RFSPI_DONE: `rx` holds the received bits from its most significant bit on; unused bits of RFRX read 0. -/
def execRfspiDone (rx : BitVec 64) (s : State) : Host.Outcome State Fault Refusal :=
  let n := s.fld (pg 28 43) 5 0 + 1
  let x := rx.toNat / 2 ^ (64 - n) * 2 ^ (64 - n) * 256
  done s (if s.bit (pg 28 3) 0 = true ∧ s.rf.waiting = false then
      ((s.rfIdle.setRegs (pg 28 49)
        [wordOf (x / 2 ^ 54), wordOf (x / 2 ^ 36), wordOf (x / 2 ^ 18), wordOf x]).setB (pg 28 3) 0 false).raise 28 0
    else s)

/-! ### Spectrum monitor (R81, R82) -/

/-- A write to a word of the SPEC page follows its field map. A monitor that is switched, or whose SRC or AVG changes, starts again
with an empty block (DESIGN CHOICE, log 64). -/
def specHandler (w : Writer) (wd : Nat) (v : Word) (s : State) : Handler :=
  let m : Fin 8 := ⟨(wd - 16) / 4 % 8, Nat.mod_lt _ (by decide)⟩
  if 16 ≤ wd ∧ wd < 48 ∧ wd % 4 = 0 ∧ fieldOf v 17 10 ≠ s.fld (spcKey m.val) 17 10 then
    ⟨0, true, 0, (s.plain w 29 wd v).setFeed m { s.feed m with spec := SpecMon.reset }⟩
  else headerHandler w 29 wd v s

/-- A bin of a record: round(128 × 10 · log10(P)), held to 18 bits (R82). -/
def binWord (p : Rat) : Word := wordOf (logRatio 1280 18 p 1)

/-- The record of monitor m for AVG blocks completed, the first of whose samples came at b.1 (R82). -/
def State.specRecord (s : State) (m : Nat) (b : Nat × List Rat) : List Word :=
  let k := spcKey m
  let eng := (List.range 4).foldl (fun a i => a + b2n (s.bit (fdKey m (25 + 3 * i)) 10) * 2 ^ i) 0
  [wordOf (m * 32768 + b2n (s.bit k 16) * 16384 + s.fld k 15 10 * 256), s.reg (k + 2) + 1] ++ rxtWords b.1
    ++ [wordOf (s.fld (fdKey m 37) 15 0), wordOf eng] ++ b.2.map binWord

/-- SPECTRUM_RECORD_TICK: a record of the AVG blocks completed since the previous one, if there are any. The ring must name the
monitors as its producer, and HIF must be on (14 R462); else the record is dropped. A dropped record's blocks are not offered again
(DEDUCED, log 64). `blocksDone`: the transform of the last block sampled is complete; `t0`: how far into its nanosecond the first sample
came, in 2^-16 ns (DESIGN CHOICE, log 64). -/
def execSpectrumRecordTick (m : Fin 8) (blocksDone : Bool) (t0 : BitVec 16) (s : State) : Host.Outcome State Fault Refusal :=
  let k := spcKey m.val
  let r := s.fld (k + 1) 5 0
  done s (match s.bit k 17 && blocksDone, (s.feed m).spec.done with
    | true, some b =>
      let t := s.setFeed m { s.feed m with spec := { (s.feed m).spec with done := none } }
      if s.prodIs r 13 = true ∧ 1032 ≤ s.ringRoom r ∧ s.domOn 2 = true then
        ((t.ringPut r (s.specRecord m.val ((b.1 + t0.toNat) % 2 ^ 64, b.2))).setReg (k + 2) (s.reg (k + 2) + 1)).raise 29 m.val
      else ((if s.domOn 2 then t else t.unitFails 29).incSat (k + 3)).raise 29 (8 + m.val)
    | _, _ => s)

/-- RFSPI_CSk_N: low in a transfer that selects it; floating while QUIRE is off (R86; 14 R480). -/
def State.rfCs (s : State) (k : Fin 4) : Option Bool := if s.domOn 10 then some (s.rf.cs != some k) else none

/-! ### AGC outputs (R83, R84) -/

/-- The level of AGCn: high in the first DUTY cycles of 5 ns of a period, and low in OFF; floating while its domain is off (14 R480). -/
def State.agcLevel (s : State) (p : Fin 8) : Option Bool :=
  if s.domOn (portDomain p.val) then some (s.agcMode p.val != 0 && decide (s.pwm / 5 < (s.feed p).duty)) else none

/-- The PWM counts a nanosecond at 200 MHz nominal; at a period start the outputs take DUTY, but for HOLD, which holds the duty in
force. -/
def State.pwmNano (s : State) : State :=
  if s.pwm + 1 < 5120 then { s with pwm := s.pwm + 1 }
  else
    { s with
      pwm := 0
      feeds := s.feeds.mapFinIdx fun p x _ => { x with duty := if s.agcMode p = 3 then x.duty else s.fld (fdKey p 47) 9 0 } }

end Sys2Proof.Machine
end

