-- ==== Sys2Proof/Machine/Channel.lean ====
section
/-! DEFINITION. The Nib channels (spec/04): the context and its access classes, the checks of an admission, the commands
of the channel page, the changes of a channel's state. -/

namespace Sys2Proof.Machine

/-! ### Readings of a context (R127) -/

/-- Passes of channel c: NPASS + 1. -/
def State.passes (s : State) (c : Nat) : Nat := s.ctxF c 0 3 3 + 1
/-- ALIGN of channel c. -/
def State.align (s : State) (c : Nat) : Nat := s.ctxF c 1 17 16
/-- IMUL of channel c. -/
def State.imul (s : State) (c : Nat) : Nat := s.ctxF c 1 15 11
/-- DRING of channel c. -/
def State.dring (s : State) (c : Nat) : Nat := s.ctxF c 1 5 0
/-- Taps of pass p. -/
def State.ntap (s : State) (c p : Nat) : Nat := s.ctxF c (2 + p) 2 0 + 1
/-- Offset of tap t of pass p, in 1/64 chip (R138). -/
def State.tapOff (s : State) (c p t : Nat) : Int :=
  signedOf 9 (s.ctxF c (2 + p) 17 9) + ((t * s.ctxF c (2 + p) 8 3 : Nat) : Int)
/-- The primary length P of channel c: the length of component 0. -/
def State.primary (s : State) (c : Nat) : Nat := s.codeLen c 0
/-- PERA of the program of component 0. -/
def State.pera (s : State) (c : Nat) : Nat := s.lp2 (s.cprog c 0) 5

/-- Port and path of stream n. -/
def State.strPort (s : State) (n : Nat) : Nat := s.fld (smapKey n) 3 1
/-- See `State.strPort`. -/
def State.strPath (s : State) (n : Nat) : Nat := s.fld (smapKey n) 0 0
/-- The rate of stream n in samples per millisecond, as a numerator and a denominator (02 R80). -/
def State.rateN (s : State) (n : Nat) : Nat := (s.reg (fdKey (s.strPort n) 17)).toNat
/-- See `State.rateN`. -/
def State.rateD (s : State) (n : Nat) : Nat :=
  (if isReal (s.fmt (s.strPort n)) then 2 else 1) * max 1 (s.fld (fdKey (s.strPort n) (40 + 4 * s.strPath n)) 6 0)

/-- Unit chips of channel c, for the lower and for the upper limit (R143). -/
def State.unitChips (s : State) (c : Nat) : Nat × Nat :=
  let p := s.primary c
  if s.align c = 1 then (p / 2, p - p / 2)
  else if s.align c = 2 then (2 * s.pera c, 2 * s.pera c) else (p, p)

/-- An integration time of channel c at rate word fk lies in 0.495 ms to 20.2 ms (R143). -/
def State.timeOk (s : State) (c fk : Nat) : Bool :=
  let n := s.rateN (s.chStream c)
  let k := s.imul c * 2 ^ 35 * s.rateD (s.chStream c) * 1000
  decide (495 * fk * n ≤ k * (s.unitChips c).1) && decide (k * (s.unitChips c).2 ≤ 20200 * fk * n)

/-! ### The checks of an admission (R94, R129, R139, R141, R143, R145, R161) -/

/-- The tap grid of a pass (R139). -/
def State.gridOk (s : State) (c p : Nat) : Bool :=
  let n := s.ntap c p
  (n == 1 || s.ctxF c (2 + p) 8 3 != 0) && decide (-256 ≤ s.tapOff c p 0) && decide (s.tapOff c p (n - 1) ≤ 255)

/-- The alignment's requirement (R141). -/
def State.alignOk (s : State) (c : Nat) : Bool :=
  let a := s.align c
  if a = 1 then s.imul c == 1
  else if a = 2 then !s.csrc c 0 && s.fld (lpKey (s.cprog c 0) 0) 16 15 == 2
  else if a = 3 then s.secsrc c 0 != 0 && s.secLen c 0 % s.imul c == 0
  else true

/-- The extension context of a four-component selector is free for it (R129, R153). `own` says that the channel holds the
extension already. -/
def State.extOk (s : State) (c : Nat) (own : Bool) : Bool :=
  s.ncomp c == 1 || (c % 2 == 0 && s.chState (c + 1) == 0 && (own || !s.bit (chKey (c + 1) 16) 17)
    && !(s.legacyDual && c == 46))

/-- The rate term (05 R159). -/
def State.dRate (s : State) (c : Nat) : Nat :=
  ceilDiv (s.rateN (s.chStream c) * 10005 * s.passes c) (s.rateD (s.chStream c) * 2048 * 10000)

/-- FKLIM for a rate word (05 R160). -/
def fklimOf (fk : Nat) : Nat := min (fk * 10005 / 10000) (2 ^ 35)

/-- The closure term for a window of w µs, none when the shortest integration does not exceed w + 41 µs (05 R160,
R161). -/
def State.dClose (s : State) (c fklim w : Nat) : Option Nat :=
  let a := 1000 * (s.imul c * (s.unitChips c).1 - 128) * 2 ^ 35 * s.rateD (s.chStream c)
  let b := fklim * s.rateN (s.chStream c)
  if a ≤ (w + 41) * b then none else some (max 1 (ceilDiv (1000 * b) (a - (w + 41) * b)))

/-- W of a decision: the larger of WIN and WACT (05 R161). -/
def State.winNow (s : State) : Nat := max (s.fld (pg 30 16) 8 0) (s.fld (pg 30 17) 8 0)

/-- FK of channel c. -/
def State.fk (s : State) (c : Nat) : Nat := s.ctx2 c 6

/-- Slots that channel c needs (05 R161). -/
def State.slotsFor (s : State) (c : Nat) : Option Nat :=
  match s.dClose c (fklimOf (s.fk c)) s.winNow with
  | none => none
  | some d => if 3000 < max (s.dRate c) d then none else some (max (s.dRate c) d)

/-- A channel of the legacy block (R153). -/
def State.isLegacy (s : State) (c : Nat) : Bool := s.legacyDual && decide (c < 48)

/-- Every check that refuses an admission with CONFIG. -/
def State.admissionOk (s : State) (c : Nat) : Bool :=
  s.selectorOk c && s.extOk c (s.chState c != 0) && !s.bit (chKey c 16) 17
  && s.gridOk c 0 && (s.passes c == 1 || s.gridOk c 1)
  && s.alignOk c && s.timeOk c (s.fk c)
  && s.bit (smapKey (s.chStream c)) 17 && decide (1 ≤ s.fk c) && decide (s.fk c ≤ 2 ^ 35)
  && s.prodIs (s.dring c) 12 && (s.isLegacy c || (s.slotsFor c).isSome)

/-! ### Changes of state (R118, R121, R122, R152) -/

/-- Sets STATE.STATE and raises event e of the channel. -/
def State.moveTo (s : State) (c st e : Nat) : State := (s.setF (chKey c 16) 2 0 st).raise (512 + c) e

/-- Discards a pending phase set and a pending update (R122), LATE with it (log 27), outside the context. -/
def State.discardPage (s : State) (c : Nat) : State :=
  ((s.setB (chKey c 3) 1 false).setF (chKey c 22) 17 16 0).setChan c
    { s.chan c with ps := none, load := none, updStart := false, updDue := false, updBy := none }

/-- Discards a pending phase set and a pending update, in the page and in the context (R122). -/
def State.discard (s : State) (c : Nat) : State :=
  if s.bit (chKey c 22) 17 then (s.discardPage c).setCtxF c 40 17 16 0 else s.discardPage c

/-- STATE.EXT of the channel after a four-component channel. -/
def State.setExt (s : State) (c : Nat) (b : Bool) : State :=
  if s.ncomp c = 4 then s.setB (chKey (c + 1) 16) 17 b else s

/-- Frees the slots of a channel in the shadow and reports none held. -/
def State.freeSlots (s : State) (c : Nat) : State :=
  { s.setReg (chKey c 17) 0 with duct := { s.duct with shadow := s.duct.shadow.filter fun r => r.ch != c } }

/-- The channel becomes OFF at a boundary (R118, R121, R129, R151). -/
def State.chanOff (s : State) (c : Nat) : State :=
  let t := (((s.discard c).freeSlots c).dropCodes c).setExt c false
  ((t.setChan c { Chan.reset with startPos := (t.chan c).startPos }).setReg (chKey c 18) 0).setB (chKey c 16) 6 false |>.moveTo c 0 5

/-- The channel enters FAULT with a cause (R151, R152). Its slots are released at the next boundary. A waiting admission
request is discarded. A context with an uncorrectable error, or in a LOST bank, is not written. -/
def State.chanFault (s : State) (c cause : Nat) : State :=
  let st := s.chState c
  if 1 ≤ st ∧ st ≤ 4 then
    let t := if cause = 1 ∨ cause = 3 then s.discardPage c else s.discard c
    let t := (t.setReg (chKey c 18) (wordOf cause)).setReg (chKey c 17) 0
    let t := (t.setB (chKey c 3) 0 false).setChan c { t.chan c with on := false, taps := [], reqBy := none }
    let t := { t with duct := { t.duct with admQ := t.duct.admQ.filter fun x => x != c } }
    let t := (t.moveTo c 5 6).pageErr (512 + c) eSTATE 16
    let t := if cause = 3 then t else t.retargetNow c
    if s.isLegacy c then t.setB (pg lwinPage 3) 8 true else t
  else s

/-! ### The context (R125, R126) -/

/-- The access class of a word of a channel's own context: 0 setup, 1 dynamic, 2 NCO rates, 3 update staging, 4 firmware,
5 no class. -/
def ctxClass (k : Nat) : Nat :=
  if k ≤ 3 then 0 else if k ≤ 7 then 2 else if k ≤ 15 then 1 else if k ≤ 24 then 0 else if k ≤ 33 then 1
  else if k ≤ 40 then 3 else if k ≤ 43 then 5 else 4

/-- The class of a word of an extension context (R129). -/
def extClass (k : Nat) : Nat := if 45 ≤ k then 5 else if k % 15 ≤ 8 then 0 else 1

/-- A write of class `cl` is allowed in a state of the channel (log 45). -/
def classOk (cl st : Nat) : Bool :=
  if cl = 0 ∨ cl = 1 then st == 0 else if cl = 2 then st == 0 || st == 1 || st == 4 else cl != 3

/-- Check 4 of a context write: the class of the word, and the legacy channels (R126, R129, R153). -/
def State.ctxRefusal (s : State) (c k : Nat) : Nat :=
  if s.isLegacy c then eSTATE
  else if s.bit (chKey c 16) 17 then (if classOk (extClass k) (s.chState (c - 1)) then 0 else eSTATE)
  else if classOk (ctxClass k) (s.chState c) then 0 else eSTATE

/-- The refusal of a context write through the Quire region, or 0: it is guarded like the channel page (00 R13). -/
def State.quireCode (s : State) (w : Writer) (o : Nat) : Nat :=
  let m := s.memRefusal w 15 10 (quireBase + o)
  if m ≠ ePERM ∧ s.lockedOut w (512 + o / 64) (64 + o % 64) = true then eLOCKED
  else if m ≠ 0 then m else s.ctxRefusal (o / 64) (o % 64)

/-- A context write through the Quire region (R125): a refusal for the lock or the state is recorded like one of the channel
page. -/
def State.quireWrite (s : State) (w : Writer) (o : Nat) (v : Word) : State :=
  let m := s.quireCode w o
  match s.stalls w 10 with
  | some x => s.stallMem x (quireBase + o) 10 v
  | none =>
    if m = 0 then s.wrMem (quireBase + o) v
    else
      let page := if m = ePERM ∨ m = eLOST ∨ s.domOn 10 = false then none else some (512 + o / 64)
      s.recordRefusal w page (64 + o % 64) m (quireBase + o)

/-- CONTEXT_WRITE (R126). -/
def execContextWrite (w : Writer) (viaQuire : Bool) (c : Fin 512) (k : Fin 64) (v : Word) (s : State) :
    Host.Outcome State Fault Refusal :=
  done s (if viaQuire then (if s.writerLive w then s.quireWrite w (64 * c.val + k.val) v else s)
    else guarded w (512 + c.val) (64 + k.val) v
      { state := if s.lost (ctxKey c.val k.val) then eLOST else s.ctxRefusal c.val k.val
        range := true, extra := 0, result := s.setCtx c.val k.val v } s)

/-! ### The channel page (R119, R120, R134 to R136) -/

/-- The refusal of command bit b at check 4 (R119). -/
def State.cmdRefusal (s : State) (c b : Nat) : Nat :=
  let st := s.chState c
  let ap := s.bit (chKey c 3) 0
  if b = 0 then (if st ≠ 0 ∧ st ≠ 4 then eSTATE else if ap then eBUSY else 0)
  else if b = 1 then (if st = 0 then eSTATE else if ap then eBUSY else 0)
  else if b = 2 then (if st ≠ 2 then eSTATE else 0)
  else (if st ≠ 3 then eSTATE else 0)

/-- An accepted request goes to the Ductus (R120). -/
def State.request (s : State) (c : Nat) (by_ : Option Writer) : State :=
  let t := (s.setB (chKey c 3) 0 true).setChan c { s.chan c with reqBy := by_ }
  { t with duct := { t.duct with admQ := t.duct.admQ ++ [c] } }

/-- A write of CTRL (R119, R120, R121). -/
def ctrlHandler (w : Writer) (c : Nat) (v : Word) (s : State) : Handler :=
  let set := (List.range 4).filter fun b => bitOf v b
  let refusals := (set.map fun b => s.cmdRefusal c b).filter fun x => x != 0
  { state := if s.isLegacy c = true ∨ (s.bit (chKey c 16) 17 = true ∧ set ≠ []) then eSTATE else refusals.headD 0
    range := decide (set.length ≤ 1)
    extra := if bitOf v 0 then (if s.namesOld c then eBUSY else if s.admissionOk c then 0 else eCONFIG) else 0
    result :=
      if bitOf v 0 then s.request c (some w)
      else if bitOf v 1 then s.setChan c { s.chan c with disPend := true }
      else if bitOf v 2 then s.moveTo c 3 3
      else if bitOf v 3 then s.moveTo c 2 2
      else s }

/-- A value of two words of the channel page. -/
def State.chPage2 (s : State) (c k : Nat) : Nat := s.reg2 (chKey c k)

/-- Arms a phase set (R134; 06 R209). -/
def State.arm (s : State) (c : Nat) (p : PhaseSet) : State :=
  (s.setB (chKey c 3) 1 true).setChan c { s.chan c with ps := some p }

/-- The phase set of the last LCSET written since the legacy channel was enabled, or of 0 (10 R356). -/
def State.legacyPhase (s : State) (c : Nat) : PhaseSet :=
  let v := (s.leg.lcset.get? c).getD 0
  ⟨s.time.ns, v % 1024, v / 1024 * 2 ^ 27, 0, 0, none⟩

/-- The phase set of the staging words with a SIPH. -/
def State.staged (s : State) (c siph : Nat) : PhaseSet :=
  ⟨s.time.ns, s.chPage2 c 32, s.chPage2 c 34, s.chPage2 c 36, siph, none⟩

/-- A write of SCTL (R119, R134, R171). -/
def sctlHandler (w : Writer) (c : Nat) (v : Word) (s : State) : Handler :=
  let t := s.plain w (512 + c) 38 v
  if bitOf v 17 then
    { state := if s.isLegacy c = true ∨ s.bit (chKey c 16) 17 = true ∨ holdsSlots (s.chState c) = false then eSTATE
        else if s.bit (chKey c 3) 1 then eBUSY else 0
      range := decide (s.chPage2 c 32 < s.primary c) && (s.align c == 3 || decide (fieldOf v 4 0 < s.imul c))
        && decide (s.fk c ≤ (s.chan c).fklim)
      extra := 0
      result := t.arm c (t.staged c (fieldOf v 4 0)) }
  else { state := if s.isLegacy c then eSTATE else 0, range := true, extra := 0, result := t }

/-- The closure window decides an update by its acceptance time (05 R168): the boundary that applies it, and LATE. -/
def State.classify (s : State) (c : Nat) : Nat × Bool :=
  let x := s.chan c
  if rxtDiff s.time.ns x.commitNs < x.commitW * 1000 then (x.commits + 1, false) else (x.commits + 2, true)

/-- Commits an update from six staged words with SEL bits (R135, R136). -/
def State.commitUpdate (s : State) (c sel : Nat) (ws : List Word) (by_ : Option Writer) : State :=
  let k := s.classify c
  let was := s.bit (chKey c 22) 17
  let t := (s.wrMemN (ctxKey c 34) ws).setCtx c 40 (wordOf (131072 + b2n k.2 * 65536 + sel))
  let t := (t.setB (chKey c 22) 17 true).setB (chKey c 22) 16 k.2
  let t := if was then t.setB (chKey c 22) 15 true else t
  t.setChan c { t.chan c with updAt := k.1, updBy := by_, updStart := false, updDue := false }

/-- A write of UCTL (R119, R135, R143, R171). -/
def uctlHandler (w : Writer) (c : Nat) (v : Word) (s : State) : Handler :=
  let sel := fieldOf v 3 0
  let ufk := s.chPage2 c 26
  { state := if s.isLegacy c = true ∨ s.bit (chKey c 16) 17 = true ∨ correlates (s.chState c) = false then eSTATE else 0
    range := decide (sel ≠ 0) && (!sel.testBit 1 || (decide (1 ≤ ufk) && decide (ufk ≤ 2 ^ 35)
      && decide (ufk ≤ (s.chan c).fklim) && s.timeOk c ufk))
    extra := 0
    result := s.commitUpdate c sel ((List.range 6).map fun i => s.reg (chKey c (24 + i))) (some w) }

/-- A write to a word of a channel page (R153, R154). -/
def chanHandler (w : Writer) (c wd : Nat) (v : Word) (s : State) : Handler :=
  if wd = 2 then ctrlHandler w c v s
  else if wd = 30 then uctlHandler w c v s
  else if wd = 38 then sctlHandler w c v s
  else if 24 ≤ wd ∧ wd ≤ 29 then
    { state := if s.isLegacy c then eSTATE else 0, range := true, extra := 0, result := s.plain w (512 + c) wd v }
  else if 64 ≤ wd ∧ wd < 128 then
    { state := if s.lost (ctxKey c (wd - 64)) then eLOST else s.ctxRefusal c (wd - 64)
      range := true, extra := 0, result := s.setCtx c (wd - 64) v }
  else headerHandler w (512 + c) wd v s

/-- CHANNEL_ADMIT (R120). -/
def execChannelAdmit (w : Writer) (c : Fin 512) (s : State) : Host.Outcome State Fault Refusal :=
  done s (guarded w (512 + c.val) 2 1 (ctrlHandler w c.val 1 s) s)

/-- CHANNEL_DISABLE (R121). -/
def execChannelDisable (w : Writer) (c : Fin 512) (s : State) : Host.Outcome State Fault Refusal :=
  done s (guarded w (512 + c.val) 2 2 (ctrlHandler w c.val 2 s) s)

/-- CHANNEL_TRACK (R118). -/
def execChannelTrack (w : Writer) (c : Fin 512) (s : State) : Host.Outcome State Fault Refusal :=
  done s (guarded w (512 + c.val) 2 4 (ctrlHandler w c.val 4 s) s)

/-- CHANNEL_DROP (R118). -/
def execChannelDrop (w : Writer) (c : Fin 512) (s : State) : Host.Outcome State Fault Refusal :=
  done s (guarded w (512 + c.val) 2 8 (ctrlHandler w c.val 8 s) s)

/-- PHASE_SET_ARM (R134). -/
def execPhaseSetArm (w : Writer) (c : Fin 512) (v : Word) (s : State) : Host.Outcome State Fault Refusal :=
  done s (guarded w (512 + c.val) 38 (forceBit v 17 true) (sctlHandler w c.val (forceBit v 17 true) s) s)

/-- UPDATE_COMMIT (R135). -/
def execUpdateCommit (w : Writer) (c : Fin 512) (v : Word) (s : State) : Host.Outcome State Fault Refusal :=
  done s (guarded w (512 + c.val) 30 v (uctlHandler w c.val v s) s)

end Sys2Proof.Machine
end

