-- ==== Sys2Proof/Machine/Ductus.lean ====
section
/-! DEFINITION. The Ductus (spec/05): admission decisions, the schedule, the closure window, the enables of the ranks. -/

namespace Sys2Proof.Machine

/-- RSTATE of rank r: 0 DISABLED, 1 ENABLED, 2 DRAINING, 3 ENABLING (R180). -/
def State.rstate (s : State) (r : Nat) : Nat := s.fld (pg (31 + r) 3) 1 0

/-- Sets RSTATE of rank r. -/
def State.setRstate (s : State) (r st : Nat) : State := s.setF (pg (31 + r) 3) 1 0 st

/-- Home domain of rank r: NIBA for ranks 0 to 3, NIBB for 4 to 7. -/
def rankDomain (r : Nat) : Nat := if r < 4 then 6 else 7

/-- Slot i of a channel that holds d slots at offset p (R158). -/
def slotAt (p d i : Nat) : Nat := p + 3000 * i / d

/-- The band that a slot serves for a row, if the row holds the slot (R158). -/
def TabRow.bandOf (x : TabRow) (slot : Nat) : Option Nat :=
  if slot < x.off then none
  else
    let i := ceilDiv ((slot - x.off) * x.d) 3000
    if i < x.d ∧ slotAt x.off x.d i = slot then some i else none

/-- A slot of the legacy block: 4 slots for each of the offsets 0 to 47 (R178). -/
def blockSlot (slot : Nat) : Bool := decide (slot < 3000) && decide (slot % 750 < 48)

/-- The slot is held in a table: by a row, or on rank 0 by the legacy block. -/
def State.slotBusy (s : State) (t : List TabRow) (r slot : Nat) : Bool :=
  (s.legacyDual && r == 0 && blockSlot slot) || t.any fun x => x.rank == r && (x.bandOf slot).isSome

/-- Slots held by the block on rank r. -/
def State.blockSlots (s : State) (r : Nat) : Nat := if s.legacyDual && r == 0 then 192 else 0

/-- USED of rank r: the admissible slots held, the legacy block included (R178, R180). -/
def State.rankUsed (s : State) (r : Nat) : Nat :=
  s.blockSlots r + (s.duct.shadow.foldl (fun a x => if x.rank = r ∧ s.isLegacy x.ch = false then a + x.d else a) 0)

/-- FREE of rank r (R180). -/
def State.rankFree (s : State) (r : Nat) : Nat := if s.rstate r = 1 then 3000 - s.rankUsed r else 0

/-- NCH of rank r. -/
def State.rankChans (s : State) (r : Nat) : Nat := (s.duct.shadow.filter fun x => x.rank == r).length

/-- The lowest offset at which all d slots of rank r are free (R164). -/
def State.placement (s : State) (r d : Nat) : Option Nat :=
  (List.range (3000 / d)).find? fun p => (List.range d).all fun i => !s.slotBusy s.duct.shadow r (slotAt p d i)

/-- The first of the ranks in the order of POLICY, among those given with their free slots (R164). -/
def firstRank (spread : Bool) : List (Nat × Nat × Nat) → Option (Nat × Nat × Nat)
  | [] => none
  | x :: r =>
    match firstRank spread r with
    | none => some x
    | some y => if spread = true ∧ x.2.1 < y.2.1 then some y else some x

/-- The choice of rank and offset for d slots: RESULT, rank, offset (R164, R165). -/
def State.choose (s : State) (d : Nat) : Nat × Nat × Nat :=
  let en := (List.range 8).filter fun r => s.rstate r == 1
  let room := en.filter fun r => decide (d ≤ s.rankFree r)
  let cand := room.filterMap fun r => (s.placement r d).map fun p => (r, s.rankFree r, p)
  match firstRank (!s.bit (pg 30 2) 0) cand with
  | some x => (0, x.1, x.2.2)
  | none => (if en = [] then 3 else if room = [] then 1 else 2, 0, 0)

/-- Reports a decision in ADMIT, ADMSL, ADMRT, ADMCL and ADMOF (R163). -/
def State.reportDecision (s : State) (c rank result d rt cl off : Nat) : State :=
  ((((s.setReg (pg 30 18) (wordOf (c * 512 + rank % 8 * 64 + result * 8))).setReg (pg 30 19) (wordOf (d % 4096))).setReg
    (pg 30 20) (wordOf (rt % 4096))).setReg (pg 30 21) (wordOf (cl % 4096))).setReg (pg 30 22) (wordOf (off % 4096))

/-- A refused request (R120, R165). -/
def State.refuseRequest (s : State) (c code : Nat) : State :=
  let t := ((s.raise (512 + c) 1).pageErr (512 + c) code 2).raise 30 0
  match (s.chan c).reqBy with
  | some w => t.writerErr w code (pageAddr (512 + c) 2)
  | none => t

/-- An admitted request (R118, R160, R163, R166); a legacy channel whose code has not started arms its phase set (10 R356). -/
def State.takeSlots (s : State) (c rank off d : Nat) : State :=
  let s := s.abortRange 9 (64 * c) (64 * c + (if s.ncomp c = 4 then 128 else 64))
  let t := if s.chState c = 0 then (s.takeCodes c).setExt c true else s
  let t := (t.setReg (chKey c 17) (wordOf d)).setF (chKey c 16) 5 3 rank
  let t := t.setChan c { t.chan c with rank := rank, off := off, d := d, fklim := fklimOf (s.fk c), effNs := s.time.ns
                                       resume := s.bit (chKey c 16) 6, on := false, taps := [] }
  let t := if s.isLegacy c = true ∧ s.bit (chKey c 16) 6 = false then t.arm c (t.legacyPhase c) else t
  { t.moveTo c 1 0 with duct := { t.duct with shadow := t.duct.shadow ++ [⟨c, rank, off, d⟩] } }

/-- The request of channel c is taken from the front of the queue, which leaves q. -/
def State.dequeue (s : State) (c : Nat) (q : List Nat) : State :=
  { s.setB (chKey c 3) 0 false with duct := { s.duct with admQ := q } }

/-- ADMISSION_DECISION (R120, R163 to R165): the next request of the queue. What the report words hold where a refusal
leaves them open is free (log 10). -/
def execAdmissionDecision (s : State) : Host.Outcome State Fault Refusal :=
  done s (match s.duct.admQ with
    | [] => s
    | c :: q =>
      let s0 := s.dequeue c q
      let rt := s.dRate c
      let cl := (s.dClose c (fklimOf (s.fk c)) s.winNow).getD 0
      if s.domOn 10 = false then s
      else if s0.namesOld c = true ∨ s0.admissionOk c = false then
        let f := s0.freeWords 5
        let g := fun i => (f.1.getD i 0).toNat
        (f.2.reportDecision c (g 0) 4 (g 1) (g 2) (g 3) (g 4)).refuseRequest c eCONFIG
      else if s.isLegacy c then
        (if s.rstate 0 = 1 then (s0.reportDecision c 0 0 4 rt cl c).takeSlots c 0 c 4
         else
          let f := s0.freeWords 2
          (f.2.reportDecision c (f.1.getD 0 0).toNat 3 4 rt cl (f.1.getD 1 0).toNat).refuseRequest c eADMIT)
      else
        let d := max rt cl
        let x := s0.choose d
        if x.1 = 0 then (s0.reportDecision c x.2.1 0 d rt cl x.2.2).takeSlots c x.2.1 x.2.2 d
        else
          let f := s0.freeWords 2
          (f.2.reportDecision c (f.1.getD 0 0).toNat x.1 d rt cl (f.1.getD 1 0).toNat).refuseRequest c eADMIT)

/-- A write of DUCT.WIN (R172). -/
def winHandler (w : Writer) (v : Word) (s : State) : Handler :=
  let tooMany := (s.chansIn holdsSlots).any fun c =>
    match s.dClose c (s.chan c).fklim (fieldOf v 8 0) with
    | some d => decide ((s.chan c).d < d)
    | none => true
  { state := 0, range := true, extra := if tooMany then eCONFIG else 0
    result := (s.plain w 30 16 v).setB (pg 30 3) 10 true }

/-- A write to a word of the DUCT page. -/
def ductHandler (w : Writer) (wd : Nat) (v : Word) (s : State) : Handler :=
  if wd = 16 then winHandler w v s
  else if wd = 33 then { state := 0, range := decide (fieldOf v 11 0 ≤ 3124), extra := 0, result := s.plain w 30 33 v }
  else headerHandler w 30 wd v s

/-- WINDOW_WRITE (R172). -/
def execWindowWrite (w : Writer) (v : Word) (s : State) : Host.Outcome State Fault Refusal :=
  done s (guarded w 30 16 v (winHandler w v s) s)

/-- A write of RANKn.CTRL (R174 to R176). -/
def rankCtrl (w : Writer) (r : Nat) (v : Word) (s : State) : Handler :=
  let t := s.plain w (31 + r) 2 v
  let st := s.rstate r
  if bitOf v 0 then
    { state := if st = 2 then eBUSY else 0, range := true, extra := 0
      result := if st = 0 then t.setRstate r 3 else t }
  else
    { state := 0, range := true, extra := 0
      result := if st = 1 then t.setRstate r 2 else if st = 3 then t.setRstate r 0 else t }

/-- A write to a word of a RANK page. -/
def rankHandler (w : Writer) (r wd : Nat) (v : Word) (s : State) : Handler :=
  if wd = 2 then rankCtrl w r v s else headerHandler w (31 + r) wd v s

/-- RANK_DISABLE (R174). -/
def execRankDisable (w : Writer) (r : Fin 8) (v : Word) (s : State) : Host.Outcome State Fault Refusal :=
  done s (guarded w (31 + r.val) 2 (forceBit v 0 false) (rankCtrl w r.val (forceBit v 0 false) s) s)

/-- RANK_ENABLE (R176). -/
def execRankEnable (w : Writer) (r : Fin 8) (v : Word) (s : State) : Host.Outcome State Fault Refusal :=
  done s (guarded w (31 + r.val) 2 (forceBit v 0 true) (rankCtrl w r.val (forceBit v 0 true) s) s)

/-- The ranks of a domain that powers down drain, or fall back to DISABLED (R175). -/
def State.drainDomain (s : State) (d : Nat) : State :=
  (List.range 8).foldl (fun t r =>
    if rankDomain r = d then (if t.rstate r = 1 then t.setRstate r 2 else if t.rstate r = 3 then t.setRstate r 0 else t)
    else t) s

/-- A rank of the domain drains still. -/
def State.draining (s : State) (d : Nat) : Bool := (List.range 8).any fun r => rankDomain r == d && s.rstate r == 2

end Sys2Proof.Machine
end

