-- ==== Sys2Proof/Machine/Rank.lean ====
section
/-! DEFINITION. The Nib ranks: the NCOs of a channel (04 R132 to R137), correlation (R138 to R146), integration
boundaries and dump records (R142 to R149), the values taken for a measurement latch (07 R225 to R231), and the service of
a slot (05 R157 to R162). -/

namespace Sys2Proof.Machine

/-! ### The running state of a channel -/

/-- The NCO state of a channel: carrier phase and cycles, code fraction and chip, IPH, and for each component the states
of registers A and B and the secondary position (R127, R128). -/
structure Nco where
  cph : Nat
  ccyc : Nat
  cpf : Nat
  chip : Nat
  iph : Nat
  comps : List (Nat × Nat × Nat)
  deriving DecidableEq, Repr

/-- The NCO state in the context of channel c. -/
def State.nco (s : State) (c : Nat) : Nco :=
  { cph := s.ctx2 c 8, ccyc := s.ctxF c 10 13 0 * 262144 + (s.ctx c 11).toNat
    cpf := s.ctxF c 12 16 0 * 262144 + (s.ctx c 13).toNat, chip := s.ctxF c 14 5 0 * 262144 + (s.ctx c 15).toNat
    iph := s.ctxF c 31 17 13
    comps := (List.range (s.ncomp c)).map fun k =>
      (s.comp2 c k 9, s.comp2 c k 11, s.comp c k 13 3 0 * 262144 + (s.rdMem (compKey c k + 14)).toNat) }

/-- Stores a component's running state; STA and STB only when the code comes from an LFSR program (R128). -/
def State.setCompState (s : State) (c k : Nat) (x : Nat × Nat × Nat) : State :=
  let b := compKey c k
  let t := if s.csrc c k then s
    else (s.wrMemN (b + 9) [wordOf (x.1 / 262144), wordOf x.1, wordOf (x.2.1 / 262144), wordOf x.2.1])
  t.wrMemN (b + 13) [wordOf (x.2.2 / 262144), wordOf x.2.2]

/-- Stores the NCO state of channel c in its context. -/
def State.setNco (s : State) (c : Nat) (x : Nco) : State :=
  let t := s.wrMemN (ctxKey c 8) [wordOf (x.cph / 262144), wordOf x.cph, wordOf (x.ccyc / 262144), wordOf x.ccyc,
    wordOf (x.cpf / 262144), wordOf x.cpf, wordOf (x.chip / 262144), wordOf x.chip]
  let t := t.setCtxF c 31 17 13 x.iph
  (List.range x.comps.length).foldl (fun t k => t.setCompState c k (x.comps.getD k (0, 0, 0))) t

/-- The carrier moved by a signed amount in units of 2^-36 cycle, with its cycle count (R132). -/
def Nco.carrier (x : Nco) (d : Int) : Nco :=
  let n := codeOf 68 (((x.ccyc * 2 ^ 36 + x.cph : Nat) : Int) + d)
  { x with cph := n % 2 ^ 36, ccyc := n / 2 ^ 36 }

/-- The states of the registers of component k for a chip index, from INITA and INITB (R100, R128). -/
def State.compStates (s : State) (c k chip : Nat) : Nat × Nat :=
  if s.csrc c k then (0, 0) else s.jump (s.cprog c k) (s.comp2 c k 3) (s.comp2 c k 5) chip

/-- Alignment units completed from the start of a primary period up to a chip index (R141). -/
def State.unitsTo (s : State) (c chip : Nat) : Nat :=
  if s.align c = 1 then b2n (decide (s.primary c / 2 ≤ chip ∧ 0 < s.primary c / 2))
  else if s.align c = 2 then chip / max 1 (2 * s.pera c) else 0

/-- Alignment units of one primary period. -/
def State.unitsPer (s : State) (c : Nat) : Nat :=
  if s.align c = 1 then s.unitsTo c (s.primary c) + 1
  else if s.align c = 2 then ceilDiv (s.primary c) (max 1 (2 * s.pera c)) else 1

/-- The code moved by a signed amount in units of 2^-35 chip as though it had run: chip, fraction, register states,
secondary positions and IPH follow (R123, R137). -/
def State.moveCode (s : State) (c : Nat) (x : Nco) (d : Int) : Nco :=
  let p := max 1 (s.primary c)
  let pos : Int := ((x.chip * 2 ^ 35 + x.cpf : Nat) : Int) + d
  let e := pos / ((p * 2 ^ 35 : Nat) : Int)
  let at_ := (pos % ((p * 2 ^ 35 : Nat) : Int)).toNat
  let chip := at_ / 2 ^ 35
  let comps := (List.range x.comps.length).map fun k =>
    let o := x.comps.getD k (0, 0, 0)
    let ab := s.compStates c k chip
    (ab.1, ab.2, (((o.2.2 : Int) + e) % ((max 1 (s.secLen c k) : Nat) : Int)).toNat)
  let units : Int := e * (s.unitsPer c : Int) + (s.unitsTo c chip : Int) - (s.unitsTo c x.chip : Int)
  let im := max 1 (s.imul c)
  { x with cpf := at_ % 2 ^ 35, chip := chip, comps := comps
           iph := if s.align c = 3 then (comps.headD (0, 0, 0)).2.2 % im else (((x.iph : Int) + units) % (im : Int)).toNat }

/-- The phase that a phase set loads (R134). -/
def State.phaseOf (s : State) (c : Nat) (p : PhaseSet) : Nco :=
  let comps := (List.range (s.ncomp c)).map fun k =>
    let ab := s.compStates c k p.chip
    (ab.1, ab.2, p.sec % max 1 (s.secLen c k))
  { cph := 0, ccyc := 0, cpf := p.frac, chip := p.chip, comps := comps
    iph := if s.align c = 3 then (comps.headD (0, 0, 0)).2.2 % max 1 (s.imul c) else p.siph }

/-! ### Flags of the integration (R127, word 31) -/

/-- A new integration begins: counters and flags restart, and IPH and SPOS are noted for its record. -/
def State.startIntegration (s : State) (c : Nat) (partial_ : Bool) (upda : Nat) : State :=
  let x := s.nco c
  let t := (s.setCtxF c 31 12 7 (b2n partial_ * 32 + upda)).setCtx c 32 0
  t.setChan c { t.chan c with intN := 0, blkN := 0, taps := [], iph0 := x.iph, spos0 := (x.comps.headD (0, 0, 0)).2.2 }

/-- The first integration since the channel left OFF begins: BLKC and the RUN flags that a phase set does not set keep the values
written in OFF (R126). -/
def State.firstIntegration (s : State) (c upda : Nat) : State :=
  let x := s.nco c
  let t := s.setCtxF c 31 12 12 1
  let t := if upda = 0 then t else t.setCtxF c 31 8 7 upda
  t.setChan c { t.chan c with intN := 0, blkN := (s.ctx c 32).toNat, taps := [], iph0 := x.iph
                              spos0 := (x.comps.headD (0, 0, 0)).2.2 }

/-- Applies the pending update: rates, code step, carrier step, the LATE report (R135, R137);
LATE, which speaks of the pending update, returns to 0 with PEND (DEDUCED, log 27). -/
def State.applyUpdate (s : State) (c : Nat) : State :=
  let sel := s.ctxF c 40 3 0
  let late := bitOf (s.ctx c 40) 16
  let t := if sel.testBit 0 then s.setCtx2 c 4 (s.ctx2 c 34) else s
  let t := if sel.testBit 1 then t.setCtx2 c 6 (s.ctx2 c 36) else t
  let x := t.nco c
  let x := if sel.testBit 2 then t.moveCode c x (((s.ctx c 38).toInt) * 2 ^ 25) else x
  let x := if sel.testBit 3 then x.carrier (((s.ctx c 39).toInt) * 2 ^ 18) else x
  let t := ((t.setNco c x).setCtxF c 40 17 16 0).setF (chKey c 22) 17 16 0
  let by_ := (s.chan c).updBy
  let t := t.setChan c { t.chan c with updBy := none, updStart := false, updDue := false }
  let t := { t with leg := { t.leg with stage := t.leg.stage.del c } }
  if late then
    let t := (((t.incSat (chKey c 21)).raise (512 + c) 7).pageErr (512 + c) eLATE 30).incSat (pg 30 24)
    if s.isLegacy c then t.raise 50 2
    else match by_ with
      | some (.ses q) => t.sesErr q.val eLATE (pageAddr (512 + c) 30)
      | _ => t
  else t

/-- UPDA of an integration that begins with an update applied. -/
def State.updaOf (s : State) (c : Nat) : Nat := if bitOf (s.ctx c 40) 16 then 2 else 1

/-! ### Dumps (R147 to R149) -/

/-- The two words of a 36-bit signed value. -/
def words36 (x : Int) : List Word :=
  let n := codeOf 36 x
  [wordOf (n / 262144), wordOf n]

/-- The record of pass p. -/
def State.dumpRecord (s : State) (c p : Nat) : List Word :=
  let x := s.chan c
  let r := s.ctx c 31
  let n := s.ntap c p
  let blkf := min 255 (256 * x.blkN / max 1 x.intN)
  [wordOf (c * 512 + p * 256 + (n - 1) * 32 + b2n (bitOf r 12) * 16 + b2n (bitOf r 6) * 8 + b2n (bitOf r 11) * 4
      + b2n (bitOf r 10) * 2 + b2n (bitOf r 9)),
   s.ctx c 33,
   wordOf (fieldOf r 8 7 * 65536 + b2n (s.chState c == 2) * 32768 + x.iph0 % 32 * 1024 + x.spos0 % 1024),
   wordOf (blkf * 1024)]
  ++ ((List.range n).flatMap fun t =>
    let e := x.taps.getD (8 * p + t) ⟨0, 0, false, false⟩
    words36 e.i ++ words36 e.q)

/-- A committed or dropped dump opens the closure window of the run (05 R167). Boundaries before the start of a new run
do not count in it. -/
def State.openWindow (s : State) (c : Nat) : State :=
  let x := s.chan c
  if x.load.isSome then s
  else s.setChan c { x with commits := x.commits + 1, commitNs := s.time.ns, commitW := s.fld (pg 30 17) 8 0 }

/-- An integration boundary: the dump is committed or dropped, and the next integration begins (R142, R147 to R149). One that
finds HIF off is dropped (14 R462). -/
def State.boundary (s : State) (c : Nat) : State :=
  let ring := s.dring c
  let recs := s.dumpRecord c 0 ++ (if s.passes c = 2 then s.dumpRecord c 1 else [])
  let r := s.ctx c 31
  let t :=
    if recs.length ≤ s.ringRoom ring ∧ s.domOn 2 = true then
      let empty := s.ringFill ring == 0
      let t := (s.ringPut ring recs).setReg (chKey c 19) (s.ctx c 33)
      let t := (t.setCtxF c 31 6 6 0)
      let t := if bitOf r 9 then t.raise (512 + c) 10 else t
      let t := if bitOf r 10 then t.raise (512 + c) 11 else t
      let t := if bitOf r 11 != (s.chan c).invShown then t.raise (512 + c) 9 else t
      let t := t.setChan c { t.chan c with invShown := bitOf r 11 }
      if s.isLegacy c && empty then t.setB (pg lwinPage 3) 0 true else t
    else
      let t := (((if s.domOn 2 then s else s.unitFails (512 + c)).incSat (chKey c 20)).raise (512 + c) 8).setCtxF c 31 6 6 1
      if s.isLegacy c then t.raise 50 1 else t
  let t := (t.openWindow c).setCtx c 33 (t.ctx c 33 + 1)
  let x := t.chan c
  let due := t.bit (chKey c 22) 17 && !x.updStart && x.updAt == x.commits && x.load.isNone
  (t.setChan c { x with updDue := due || x.updDue }).startIntegration c false 0

/-- The first sample of the integration applies the update whose boundary has passed, before it is correlated (R135). -/
def State.dueUpdate (s : State) (c : Nat) : State :=
  if (s.chan c).updDue then
    let u := s.updaOf c
    (s.applyUpdate c).startIntegration c false u
  else s

/-! ### One sample -/

/-- The carrier table C(k) = round(15 cos(2π(k + 1/2)/64)) (R132). -/
def carrierTable : List Int :=
  [15, 15, 15, 14, 14, 13, 12, 11, 10, 9, 8, 6, 5, 4, 2, 1, -1, -2, -4, -5, -6, -8, -9, -10, -11, -12, -13, -14, -14, -15,
   -15, -15] ++ [-15, -15, -15, -14, -14, -13, -12, -11, -10, -9, -8, -6, -5, -4, -2, -1, 1, 2, 4, 5, 6, 8, 9, 10, 11, 12,
   13, 14, 14, 15, 15, 15]

/-- C(k). -/
def carrierC (k : Nat) : Int := carrierTable.getD (k % 64) 0

/-- A sum that holds at ±(2^35 − 1) for the rest of the integration (R146): the sum, held. -/
def addHeld (v : Int) (held : Bool) (d : Int) : Int × Bool :=
  if held then (v, true)
  else if v + d > 2 ^ 35 - 1 then (2 ^ 35 - 1, true)
  else if v + d < -(2 ^ 35 - 1) then (-(2 ^ 35 - 1), true)
  else (v + d, false)

/-- A complex contribution added to a tap. -/
def Tap.add (t : Tap) (d : Int × Int) : Tap :=
  let a := addHeld t.i t.iHeld d.1
  let b := addHeld t.q t.qHeld d.2
  ⟨a.1, b.1, a.2, b.2⟩

/-- The code values of channel c at d/64 chip from its phase: the chips after the secondary codes, the index and fraction,
and the Exemplar words read, each with its region (R103, R138). -/
def State.codeAt (s : State) (c : Nat) (x : Nco) (d : Int) : List Nat × Nat × Nat × List (Nat × Nat) :=
  let p := max 1 (s.primary c)
  let pos : Int := ((x.chip * 2 ^ 35 + x.cpf : Nat) : Int) + d * 2 ^ 29
  let e := pos / ((p * 2 ^ 35 : Nat) : Int)
  let at_ := (pos % ((p * 2 ^ 35 : Nat) : Int)).toNat
  let i := at_ / 2 ^ 35
  let ks := List.range (s.ncomp c)
  let sec := fun k => (((x.comps.getD k (0, 0, 0)).2.2 : Int) + e) % ((max 1 (s.secLen c k) : Nat) : Int) |>.toNat
  let chip := fun k =>
    if s.csrc c k then s.memChip (s.creg c k) (s.cidx c k) i
    else
      let st := x.comps.getD k (0, 0, 0)
      s.lfsrChip (s.cprog c k) i (if i = x.chip ∧ e = 0 then (st.1, st.2.1) else s.compStates c k i)
  (ks.map fun k => (chip k + s.secChip c k (sec k)) % 2, i, at_ % 2 ^ 35,
   ks.flatMap fun k =>
    (if s.csrc c k then [(s.creg c k, s.chipKey (s.creg c k) (s.cidx c k) i)] else [])
      ++ (if s.secsrc c k = 2 then [(s.secreg c k, s.chipKey (s.secreg c k) (s.secidx c k) (sec k))] else []))

/-- The word of the Exemplar is unreadable: an uncorrectable error or a parity mismatch (03 R107; 11 R388). -/
def State.codeBad (s : State) (key : Nat) : Bool := s.eccOf key == 2 || !exmpParity (s.rdMem key) || s.lost key

/-- The taps of channel c, pass by pass: store index and offset. -/
def State.tapList (s : State) (c : Nat) : List (Nat × Int) :=
  (List.range (s.passes c)).flatMap fun p => (List.range (s.ntap c p)).map fun t => (8 * p + t, s.tapOff c p t)

/-- The contribution of a sample to a tap (R146): s · (C(k) − j C(k + 48)) · r. -/
def contribution (a : Sample) (cph : Nat) (r : Int × Int) : Int × Int :=
  let k := cph / 2 ^ 30
  let ci := carrierC k
  let cq := -(carrierC (k + 48))
  let zi := a.i * ci - a.q * cq
  let zq := a.i * cq + a.q * ci
  (zi * r.1 - zq * r.2, zi * r.2 + zq * r.1)

/-- Code words that a sample takes (03 R107; 11 R370, R371). The manual gives no number of reads for a code word: here a slot reads
each word once, so that an unreadable word counts once in a slot (DESIGN CHOICE, log 65). -/
def State.countCode (s : State) (c : Nat) (seen : List Nat) : List (Nat × Nat) → State × List Nat
  | [] => (s, seen)
  | (r, key) :: l =>
    let t := if s.codeBad key then s.setCtxF c 31 10 10 1 else s
    if seen.contains key then t.countCode c seen l
    else
      let u := (t.memRead key).2.2
      (if s.codeBad key then u.codeErr r (key - exmpBase) else u).countCode c (key :: seen) l

/-- Correlates a sample, or passes over it when it lies beyond the slot's capacity (R138 to R146; 05 R162). -/
def State.correlate (s : State) (c : Nat) (a : Sample) (within : Bool) (seen : List Nat) : State × List Nat :=
  let x := s.nco c
  let s := s.setChan c { s.chan c with intN := (s.chan c).intN + 1 }
  let s := if a.valid && within then s else s.setCtxF c 31 11 11 1
  if within = false then (s, seen)
  else if a.blanked then
    ((s.setCtx c 32 (wordOf (min 262143 ((s.ctx c 32).toNat + 1)))).setChan c { s.chan c with blkN := (s.chan c).blkN + 1 }, seen)
  else
    let y := s.chan c
    let taps := s.tapList c
    let add := fun (l : List Tap) (t : Nat × Int) =>
      let k := s.codeAt c x t.2
      let z := Tap.mk 0 0 false false
      let e := l.getD t.1 z
      (l ++ List.replicate (t.1 + 1 - l.length) z).set t.1
        (e.add (contribution a x.cph (s.refPoint c k.1 k.2.1 k.2.2.1)))
    let l := taps.foldl add y.taps
    let t := s.setChan c { y with taps := l }
    let t := if l.any (fun e => e.iHeld || e.qHeld) then t.setCtxF c 31 9 9 1 else t
    t.countCode c seen (taps.flatMap fun t => (s.codeAt c x t.2).2.2.2)

/-- The NCOs move past a sample (R132, R133, R141, R142): a primary epoch moves the secondary positions and switches a
retargeted selector; a unit end moves IPH; an integration boundary dumps. A switch inside an integration starts it again as a partial
one, so that its dump holds chips of NEW alone (03 R110; DESIGN CHOICE, log 66). -/
def State.advance (s : State) (c : Nat) : State :=
  let x := (s.nco c).carrier (signedOf 36 (s.ctx2 c 4))
  let pos := x.cpf + s.fk c
  let wrap := pos / 2 ^ 35
  if wrap = 0 then s.setNco c { x with cpf := pos }
  else
    let chip := x.chip + 1
    let epoch := decide (s.primary c ≤ chip)
    let chip := if epoch then 0 else chip
    let switched := epoch && s.namesOld c
    let t := if epoch then s.retargetNow c else s
    let comps := (List.range x.comps.length).map fun k =>
      let o := x.comps.getD k (0, 0, 0)
      let ab := if epoch then t.compStates c k 0
        else if s.csrc c k then (o.1, o.2.1)
        else s.lfsrNext (s.cprog c k) (s.comp2 c k 3) (s.comp2 c k 5) x.chip (o.1, o.2.1)
      (ab.1, ab.2, if epoch then (o.2.2 + 1) % max 1 (s.secLen c k) else o.2.2)
    let al := s.align c
    let unit := if al = 1 then epoch || (chip == s.primary c / 2 && chip != 0)
      else if al = 2 then chip % max 1 (2 * s.pera c) == 0 else epoch
    let sp := (comps.headD (0, 0, 0)).2.2
    let im := max 1 (s.imul c)
    let bound := unit && (if al = 3 then sp % im == 0 else decide (im ≤ x.iph + 1))
    let iph := if unit = false then x.iph else if al = 3 then sp % im else if bound then 0 else x.iph + 1
    let t := t.setNco c { x with cpf := pos % 2 ^ 35, chip := chip, comps := comps, iph := iph }
    if bound then t.boundary c else if switched then t.startIntegration c true 0 else t

/-! ### Values for a measurement latch (07 R225 to R231) -/

/-- The latch sample position of stream n in units of 2^-16 sample, if t lies between its two frame stamps (R225). -/
def State.latchPos (s : State) (n : Nat) (t : Nat) : Option Nat :=
  match (s.streams.toList.getD n Stream.reset).prev, (s.streams.toList.getD n Stream.reset).cur with
  | some a, some b =>
    let m := 2 ^ 64
    let dt := (b.2 + m - a.2) % m
    let d := (t + m - a.2) % m
    if d < dt then some (a.1 * 65536 + d * (b.1 - a.1) * 65536 / dt) else none
  | _, _ => none

/-- The latched values of channel c at a fraction φ of a sample, in units of 2^-16: cycles, carrier fraction in 32 bits,
chip, code fraction in 32 bits, SPOS of component 0 (R226). -/
def State.latchValues (s : State) (c phi : Nat) : Nat × Nat × Nat × Nat × Nat :=
  let x := s.nco c
  let y := x.carrier (roundDiv (signedOf 36 (s.ctx2 c 4) * (phi : Int)) 65536)
  let car := (y.ccyc * 2 ^ 32 + (y.cph + 8) / 16) % 2 ^ 64
  let code := x.chip * 2 ^ 35 + x.cpf + (roundDiv ((s.fk c * phi : Nat) : Int) 65536).toNat
  let code := (code + 4) / 8
  let p := max 1 (s.primary c) * 2 ^ 32
  let sp := (x.comps.headD (0, 0, 0)).2.2
  (car / 2 ^ 32, car % 2 ^ 32, code % p / 2 ^ 32, code % 2 ^ 32,
   if p ≤ code then (sp + 1) % max 1 (s.secLen c 0) else sp)

/-- The entry of channel c, and the two legacy words (10 R355, R359), for sample n0 at position x. -/
def State.latchEntry (s : State) (c x : Nat) (inv : Bool) : List Word × List Word :=
  let v := s.latchValues c (x % 65536)
  let r := s.ctx c 31
  let w := fun n => [wordOf (n / 262144), wordOf n]
  let start := (s.chan c).startPos
  let turns : Int := ((v.1 * 2 ^ 32 + v.2.1 : Nat) : Int) + (((x : Int) - ((start * 65536 : Nat) : Int)) * 32768)
  ([wordOf (c * 512 + b2n (s.chState c == 3) * 256 + b2n inv * 128 + b2n (bitOf r 12) * 64)]
    ++ w v.2.2.1 ++ w v.2.2.2.1 ++ w v.1 ++ w v.2.1 ++ [s.ctx c 4, s.ctx c 5, s.ctx c 6, s.ctx c 7, s.ctx c 33,
      wordOf ((s.nco c).iph * 8192 + v.2.2.2.2 / 262144), wordOf v.2.2.2.2, s.ctx c 44, s.ctx c 45, s.ctx c 46, s.ctx c 47],
   [wordOf (v.2.2.1 % 1024 * 256 + v.2.2.2.1 / 2 ^ 24),
    wordOf ((turns / 2 ^ 32 % 1024).toNat * 256 + (turns % 2 ^ 32).toNat / 2 ^ 24)])

/-- A rank that reaches sample n0 of a latch in progress leaves the channel's entry with the latch (R226, R227). -/
def State.latchHook (s : State) (c n : Nat) (inv : Bool) : State :=
  match s.meas.cur with
  | none => s
  | some l =>
    match s.latchPos (s.chStream c) l.t with
    | none => s
    | some x =>
      if x / 65536 = n then
        let e := s.latchEntry c x inv
        { s with meas := { s.meas with entries := s.meas.entries.put c e.1, legacy := s.meas.legacy.put c e.2 } }
      else s

/-! ### The service of a slot -/

/-- Sample n of a stream; a sample that the Feed buffer no longer holds counts as an invalid blanked one. -/
def State.sampleAt (s : State) (st n : Nat) : Sample :=
  let x := s.streams.toList.getD st Stream.reset
  if n < x.next then x.buf.getD (x.next - 1 - n) ⟨0, 0, true, false⟩ else ⟨0, 0, true, false⟩

/-- The rank reads sample n of a stream from the Feed buffer: one with an uncorrectable error is taken as blanked (11 R371). -/
def State.takeSample (s : State) (st n : Nat) : Sample × State :=
  let r := s.memRead (bufferKey st n)
  let a := s.sampleAt st n
  (if r.2.1 = 2 then { a with blanked := true } else a, r.2.2)

/-- The run that starts at this sample is loaded: a phase set with a pending update before it, or a resumption, whose
context advances by the samples that passed since the park sample (R123, R134, R144). -/
def State.loadRun (s : State) (c n : Nat) (p : Option PhaseSet) : State :=
  let x := s.chan c
  let upd := s.bit (chKey c 22) 17 && (x.updStart || x.updDue)
  let u := if upd then s.updaOf c else 0
  let t := if upd then s.applyUpdate c else s
  let t := match p with
    | some q =>
      let t := match q.hand with
        | some h => (t.setCtx2 c 4 h.1).setCtx2 c 6 h.2.1
        | none => t
      t.setNco c (t.phaseOf c q)
    | none =>
      let k : Int := ((n - x.nextS : Nat) : Int)
      t.setNco c (t.moveCode c ((t.nco c).carrier (signedOf 36 (t.ctx2 c 4) * k)) ((t.fk c : Int) * k))
  let t := if p.isSome = true ∧ x.ran = false then t.firstIntegration c u else t.startIntegration c true u
  t.setChan c { t.chan c with load := none, on := true, ran := true, nextS := n, startPos := if p.isSome then n else x.startPos }

/-- One sample of a band: a run that starts here is loaded, the sample is correlated and the NCOs move on. -/
def State.slotSample (s : State) (c st n : Nat) (within : Bool) (seen : List Nat) : State × List Nat :=
  let s := match (s.chan c).load with
    | some (i, p) => if i ≤ n then s.loadRun c n p else s
    | none => s
  if (s.chan c).on then
    let s := s.dueUpdate c
    let b := s.takeSample st n
    let a := b.1
    let t := b.2.latchHook c n (!(a.valid && within))
    let r := t.correlate c a within seen
    let t := r.1.advance c
    (t.setChan c { t.chan c with nextS := n + 1 }, r.2)
  else (s, seen)

/-- The samples of a band from n on, `cap` of them within the capacity of the slot. -/
def State.slotSamples (s : State) (c st n cap : Nat) (seen : List Nat) : Nat → State
  | 0 => s
  | k + 1 =>
    let r := s.slotSample c st n (decide (0 < cap)) seen
    r.1.slotSamples c st (n + 1) (cap - 1) r.2 k

/-- A stream overruns (05 R162): once for a stream in a frame. -/
def State.overrun (s : State) (st : Nat) : State :=
  let t := s.setB (pg 30 25) st true
  if s.duct.ovr.contains st then t
  else { (t.incSat (pg 30 26)).raise 30 2 with duct := { t.duct with ovr := st :: t.duct.ovr } }

/-- The rank loads the context: every word of it, and of the extension context, is read (R151). -/
def State.loadContext (s : State) (c : Nat) : Nat × State :=
  let r := s.memReadN (ctxKey c 0) (if s.ncomp c = 4 then 128 else 64)
  (r.2.1, r.2.2)

/-- The rank loads the channel's tap-store entry, which holds the sums of a run that is under way: the worst error found
(11 R371). -/
def State.loadTaps (s : State) (c : Nat) : Nat × State :=
  if (s.chan c).on then let r := s.memRead (tapKey c); (r.2.1, r.2.2) else (0, s)

/-- Band i of channel c in a slot of its rank (05 R158, R162). The slot ends with the store of the tap-store entry, whole. -/
def State.serve (s : State) (x : TabRow) (i : Nat) : State :=
  let c := x.ch
  let st := s.chStream c
  let l := s.loadContext c
  if correlates (s.chState c) = false then s
  else if s.lost (ctxKey c 0) then s.chanFault c 3
  else if l.1 = 2 then l.2.chanFault c 1
  else
    match (s.streams.toList.getD st Stream.reset).prev, (s.streams.toList.getD st Stream.reset).cur with
    | some a, some b =>
      let n := b.1 - a.1
      let lo := a.1 + i * n / x.d
      let hi := a.1 + (i + 1) * n / x.d
      let cap := 2048 / s.passes c
      let e := l.2.loadTaps c
      if e.1 = 2 then e.2.chanFault c 2
      else
        let t := (e.2.slotSamples c st lo cap [] (hi - lo)).fresh fun k => k == tapKey c
        if cap < hi - lo ∧ (t.chan c).on = true then t.overrun st else t
    | _, _ => l.2

/-- RANK_SLOT (05 R157, R158): an enabled or draining rank serves the channel that the table in force names. -/
def execRankSlot (r : Fin 8) (slot : Fin 3125) (s : State) : Host.Outcome State Fault Refusal :=
  done s (
    if (s.rstate r.val = 1 ∨ s.rstate r.val = 2) ∧ s.domOn (rankDomain r.val) = true ∧ s.domOn 10 = true ∧ slot.val < 3000 then
      match s.duct.force.find? (fun x => x.rank == r.val && (x.bandOf slot.val).isSome) with
      | some x =>
        match x.bandOf slot.val with
        | some i => s.serve x i
        | none => s
      | none => s
    else s)

end Sys2Proof.Machine
end

