-- ==== Sys2Proof/Machine/Inkwell.lean ====
section
/-! DEFINITION. The Inkwell and the capture commands (spec/06 R181 to R190, R213). -/

namespace Sys2Proof.Machine

/-- Engine e is ARMED or RUN. -/
def State.capBusy (s : State) (e : Nat) : Bool := s.cst e == 1 || s.cst e == 2

/-- Sets CSTe. -/
def State.setCst (s : State) (e st : Nat) : State := s.setF (pg 41 3) (3 * e + 2) (3 * e) st

/-- A running job reads a word in a range of Inkwell words (R183, R185). -/
def State.jobReads (s : State) (lo hi : Nat) : Bool :=
  s.scr.jobs.any fun j => j.phase == .running && decide (j.lo < hi) && decide (lo < j.hi)

/-- The range of a running or armed capture holds the word. -/
def State.captureHolds (s : State) (o : Nat) : Bool :=
  (List.range 2).any fun e => s.capBusy e && decide (s.capBase e ≤ o) && decide (o < s.capBase e + s.capLen e)

/-- The refusal of a write to a memory region, or 0. -/
def State.regionCode (s : State) (w : Writer) (group dom key : Nat) (busy : Bool) : Nat :=
  let m := s.memRefusal w group dom key
  if m ≠ 0 then m else if busy then eBUSY else 0

/-- A write to a word of a memory region with a rule of its own for check 4: the shared checks, then `busy`. -/
def State.regionWrite (s : State) (w : Writer) (group dom key : Nat) (busy : Bool) (v : Word) (after : State → State) : State :=
  let m := s.regionCode w group dom key busy
  match s.stalls w dom with
  | some x => s.stallMem x key dom v
  | none => if m = 0 then after (s.wrMem key v) else s.recordRefusal w none 0 m key

/-- A write to word o of the Inkwell (R183). -/
def State.inkwWrite (s : State) (w : Writer) (o : Nat) (v : Word) : State :=
  s.regionWrite w 14 9 (inkwBase + o) (s.captureHolds o || s.jobReads o (o + 1)) v id

/-- INKWELL_WRITE (R183). -/
def execInkwellWrite (w : Writer) (o : BitVec 22) (v : Word) (s : State) : Host.Outcome State Fault Refusal :=
  done s (if s.writerLive w then s.inkwWrite w o.toNat v else s)

/-- Check 4 of the command bits of engine e (R185, R188). -/
def State.capRefusal (s : State) (e : Nat) (go stop : Bool) : Nat :=
  if go = true ∧ s.capBusy e = true then eSTATE
  else if go = true ∧ s.jobReads (s.capBase e) (s.capBase e + s.capLen e) = true then eBUSY
  else if stop = true ∧ s.capBusy e = false then eSTATE else 0

/-- Check 5 of a GO of engine e (R184, R185). -/
def State.capRange (s : State) (e : Nat) : Bool :=
  let d := (s.reg (capKey e 5) - s.reg (pg 30 23)).toNat
  (!s.bit (capKey e 0) 9 || (decide (1 ≤ d) && decide (d ≤ 131071))) && decide (1 ≤ s.capLen e) && decide (s.capLen e ≤ 4194304)

/-- The CONFIG checks of a GO of engine e; `both` says that the same write starts the other engine (R185). -/
def State.capConfig (s : State) (e : Nat) (both : Bool) : Bool :=
  let o := 1 - e
  s.bit (smapKey (s.fld (capKey e 0) 17 14)) 17 && decide (s.capBase e + s.capLen e ≤ 4194304)
    && !((s.capBusy o || both) && decide (s.capBase e < s.capBase o + s.capLen o) && decide (s.capBase o < s.capBase e + s.capLen e))

/-- The words of the description of engine e: first, one after the last. -/
def State.descRange (s : State) (e : Nat) : Nat × Nat :=
  let b := s.fld (capKey e 13) 3 0 * 262144 + (s.reg (capKey e 14)).toNat
  (b, b + s.reg2 (capKey e 6))

/-- An accepted GO of engine e (R186). -/
def State.armCapture (s : State) (e : Nat) : State :=
  let t := ((s.abortRange 12 (s.capBase e) (s.capBase e + s.capLen e)).setCst e 1).setB (capKey e 12) 17 false
  let d := t.descRange (1 - e)
  if s.capBase e < d.2 ∧ d.1 < s.capBase e + s.capLen e then t.setB (capKey (1 - e) 12) 17 false else t

/-- An accepted STOP of engine e (R188). -/
def State.stopCapture (s : State) (e : Nat) : State :=
  if s.cst e = 1 then (s.setCst e 0).setB (capKey e 12) 17 false else s.setCap e { s.cap e with stopReq := true }

/-- A write of INKW.CTRL (R185, R188): one write, checked whole. -/
def inkwCtrl (w : Writer) (v : Word) (s : State) : Handler :=
  let t := s.plain w 41 2 v
  let codes := ((List.range 2).map fun e => s.capRefusal e (bitOf v e) (bitOf v (2 + e))).filter fun c => c != 0
  let both := bitOf v 0 && bitOf v 1
  { state := codes.headD 0
    range := (List.range 2).all fun e => !bitOf v e || s.capRange e
    extra := if (List.range 2).all fun e => !bitOf v e || s.capConfig e both then 0 else eCONFIG
    result := (List.range 2).foldl (fun t e =>
      let t := if bitOf v e then t.armCapture e else t
      if bitOf v (2 + e) then t.stopCapture e else t) t }

/-- A write to a word of the INKW page (R184). -/
def inkwHandler (w : Writer) (wd : Nat) (v : Word) (s : State) : Handler :=
  if wd = 2 then inkwCtrl w v s
  else if 16 ≤ wd ∧ wd < 48 ∧ (wd - 16) % 16 ≤ 5 then
    { state := if s.capBusy ((wd - 16) / 16) then eSTATE else 0, range := true, extra := 0, result := s.plain w 41 wd v }
  else headerHandler w 41 wd v s

/-- CAPTURE_GO (R185) (log 47). -/
def execCaptureGo (w : Writer) (e : Fin 2) (v : Word) (s : State) : Host.Outcome State Fault Refusal :=
  done s (guarded w 41 2 (forceBit v e.val true) (inkwCtrl w (forceBit v e.val true) s) s)

/-- CAPTURE_STOP (R188). -/
def execCaptureStop (w : Writer) (e : Fin 2) (v : Word) (s : State) : Host.Outcome State Fault Refusal :=
  done s (guarded w 41 2 (forceBit v (2 + e.val) true) (inkwCtrl w (forceBit v (2 + e.val) true) s) s)

/-- CAPTURE_DONE (R188): LEN words are written, or a stop has reached a word boundary. -/
def execCaptureDone (e : Fin 2) (s : State) : Host.Outcome State Fault Refusal :=
  let t := s.captureAll
  let x := t.cap e.val
  let k := capKey e.val
  done s (if t.cst e.val = 2 ∧ (x.written = t.capLen e.val ∨ (x.stopReq = true ∧ x.acc = [])) then
      let u := t.setCst e.val (if x.written = t.capLen e.val then 3 else 4)
      let u := (u.setReg2 (k 6) x.written).setReg (k 12)
        (wordOf (131072 + b2n x.inv * 65536 + s.fld (k 0) 17 14 * 4096 + s.fld (k 0) 13 10 * 256))
      let u := (u.setReg (k 13) (s.reg (k 1))).setReg (k 14) (s.reg (k 2))
      (u.setCap e.val { Capture.reset with fiN := x.fiN, fiD := x.fiD }).raise 41 (2 + e.val)
    else t)

/-- An armed capture starts at its boundary when its stream carries a stamp (R186). -/
def State.startCapture (s : State) (e : Nat) : State :=
  let st := s.fld (capKey e 0) 17 14
  if s.cst e = 1 ∧ (s.bit (capKey e 0) 9 = false ∨ s.reg (pg 30 23) = s.reg (capKey e 5)) then
    match (s.streams.toList.getD st Stream.reset).cur with
    | some (k, t) =>
      let d := roundDiv (((s.cdec e - 1) * 65536000000 * s.rateD st : Nat) : Int) ((2 * max 1 (s.rateN st) : Nat) : Int)
      (((s.setCst e 2).setCap e { Capture.reset with start := k, nextS := k, fiN := s.rateN st, fiD := s.rateD st * s.cdec e }).setRegs (capKey e 8)
        (rxtWords (t + d.toNat))).raise 41 e
    | none => s
  else s

end Sys2Proof.Machine
end

