-- ==== Sys2Proof/Machine/Scriptorium.lean ====
section
/-! DEFINITION. The Scriptorium (spec/06 R191 to R212): job rings, the start of a job and its checks, result records, aborts,
the handoff of a peak to a channel. A search is computed as R192 says; only what its 24-bit intermediate values lose is free
(log 11). -/

namespace Sys2Proof.Machine

/-- The key of JRk. -/
def jrKey (k : Nat) : Nat := pg 40 (20 + k)
/-- JRk.EN. -/
def State.jrOn (s : State) (k : Nat) : Bool := s.bit (jrKey k) 17
/-- Job ring and result ring of JRk. -/
def State.jring (s : State) (k : Nat) : Nat := s.fld (jrKey k) 11 6
/-- See `State.jring`. -/
def State.rring (s : State) (k : Nat) : Nat := s.fld (jrKey k) 5 0
/-- PBUSY. -/
def State.pbusy (s : State) : Nat := s.fld (pg 40 3) 1 0
/-- ABBUSY. -/
def State.abBusy (s : State) : Bool := s.bit (pg 40 3) 3
/-- A job is queued on an enabled ring (R197, R204). -/
def State.jobQueued (s : State) : Bool := (List.range 8).any fun k => s.jrOn k && decide (24 ≤ s.ringFill (s.jring k))
/-- Words of the cache (R201). -/
def State.cacheWords (s : State) : Nat := s.fld (pg 40 16) 3 0 * 65536

/-! ### A descriptor (R194) -/

/-- Word i of a descriptor. -/
def dw (d : List Word) (i : Nat) : Word := d.getD i 0
/-- A two-word field whose high part has n bits. -/
def dw2 (d : List Word) (i n : Nat) : Nat := fieldOf (dw d i) (n - 1) 0 * 262144 + (dw d (i + 1)).toNat
/-- NSUB as a number. -/
def dNsub (d : List Word) : Nat := 2 ^ fieldOf (dw d 0) 14 13
/-- N. -/
def dN (d : List Word) : Nat := 2 ^ fieldOf (dw d 0) 12 9
/-- M. -/
def dM (d : List Word) : Nat := 2 ^ fieldOf (dw d 0) 4 2
/-- NNC. -/
def dNnc (d : List Word) : Nat := fieldOf (dw d 8) 17 6 + 1
/-- CFK. -/
def dCfk (d : List Word) : Nat := dw2 d 9 18
/-- SOFF. -/
def dSoff (d : List Word) : Nat := dw2 d 11 6
/-- JMAX. -/
def dJmax (d : List Word) : Nat := fieldOf (dw d 16) 17 9
/-- Capture engine named. -/
def dCap (d : List Word) : Nat := fieldOf (dw d 0) 15 15
/-- Peaks requested. -/
def dNpk (d : List Word) : Nat := fieldOf (dw d 0) 8 5 + 1
/-- Code cells per period. -/
def dCells (d : List Word) : Nat := dN d / dM d

/-- The primary length of the code of a descriptor. -/
def State.dP (s : State) (d : List Word) : Nat :=
  if bitOf (dw d 2) 17 then s.rdLen (fieldOf (dw d 3) 17 12) else s.clen (fieldOf (dw d 2) 4 0)

/-- The reserved fields are 0 (R194). -/
def dReserved (d : List Word) : Bool :=
  [(0, 1, 0), (2, 7, 5), (3, 3, 0), (4, 17, 14), (6, 17, 14), (8, 5, 0), (11, 17, 6), (16, 3, 0), (17, 17, 14), (19, 9, 0),
    (21, 17, 0), (22, 17, 0), (23, 17, 0)].all fun x => fieldOf (dw d x.1) x.2.1 x.2.2 == 0

/-- Check 1 of R195. -/
def State.dRange (s : State) (d : List Word) : Bool :=
  let mp := dM d * s.dP d
  dReserved d && fieldOf (dw d 0) 14 13 != 3 && decide (10 ≤ fieldOf (dw d 0) 12 9) && decide (fieldOf (dw d 0) 12 9 ≤ 16)
    && decide (fieldOf (dw d 0) 4 2 ≤ 6) && decide (8 ≤ fieldOf (dw d 19) 17 10) && decide (1 ≤ dCfk d)
    && decide (dCfk d ≤ 2 ^ 35) && decide (fieldOf (dw d 2) 16 14 ≤ 5) && decide (mp ≤ dN d)
    && decide (dCfk d * dN d ≤ 4 * mp * 2 ^ 35) && decide (mp * 2 ^ 35 ≤ 4 * dCfk d * dN d)

/-- One after the last sample of the capture that a job reads (R191, R195 check 3). -/
def State.dEnd (s : State) (d : List Word) : Nat :=
  dSoff d + ceilDiv (dNnc d * dM d * s.dP d * 2 ^ 35) (max 1 (dCfk d))

/-- Check 4 of R195. -/
def State.dConfig (s : State) (d : List Word) : Bool :=
  let r := fieldOf (dw d 3) 17 12
  let m := fieldOf (dw d 2) 16 14
  let ndop := if bitOf (dw d 0) 16 then dJmax d + 1 else 2 * dJmax d + 1
  let wp := 2 * dN d * dNsub d + 2 * dN d + 2 * ndop * dCells d
  (if bitOf (dw d 2) 17 then s.rdValid r && !s.bit (rdKey r 0) 16 && decide (fieldOf (dw d 3) 11 4 < s.rdCount r)
   else s.lpValid (fieldOf (dw d 2) 4 0))
  && !((m == 1 || m == 2) && fieldOf (dw d 2) 13 8 == 0)
  && decide (2 * dN d ≤ s.cacheWords) && decide (wp ≤ (1048576 - s.cacheWords) / 2)

/-- The code of the first failed check, 0 when a job can run (R195). -/
def State.dCheck (s : State) (d : List Word) : Nat :=
  let e := dCap d
  if s.dRange d = false then eRANGE
  else if s.bit (capKey e 12) 17 = false then eSTATE
  else if 4 * s.reg2 (capKey e 6) < s.dEnd d then eRANGE
  else if s.dConfig d = false then eCONFIG else 0

/-! ### The search (R191 to R193) -/

/-- The chips of a program from index x on, n of them, from the register states for x. -/
def State.scanChips (s : State) (p ia ib : Nat) : Nat → Nat → Nat × Nat → List Nat
  | 0, _, _ => []
  | n + 1, x, st => s.lfsrChip p x st :: s.scanChips p ia ib n (x + 1) (s.lfsrNext p ia ib x st)

/-- The chips of one primary period of a descriptor's code, and the worst error of the Exemplar words read for them. -/
def State.dChips (s : State) (d : List Word) : List Nat × Nat × State :=
  let p := fieldOf (dw d 2) 4 0
  if bitOf (dw d 2) 17 then
    let m := s.memReadN (s.chipKey (fieldOf (dw d 3) 17 12) (fieldOf (dw d 3) 11 4) 0) (ceilDiv (s.dP d) 16)
    let ws := m.1.toArray
    ((List.range (s.dP d)).map (fun x => b2n (bitOf (ws.getD (x / 16) 0) (15 - x % 16))), m.2.1, m.2.2)
  else (s.scanChips p (dw2 d 4 14) (dw2 d 6 14) (s.dP d) 0 (s.jump p (dw2 d 4 14) (dw2 d 6 14) 0), 0, s)

/-- The replica of a code's chips: point n is the reference at code phase n M P / N (R191; 03 R112). -/
def State.dReplica (s : State) (d : List Word) (chips : Array Nat) : List Int :=
  let p := max 1 (s.dP d)
  (List.range (dN d)).map fun n =>
    let at_ := n * dM d * p * 2 ^ 35 / dN d % (p * 2 ^ 35)
    let x := at_ / 2 ^ 35
    s.reference (fieldOf (dw d 2) 16 14) (fieldOf (dw d 2) 13 8) (chipLevel (chips.getD x 0)) x (at_ % 2 ^ 35)

/-- Reads n Inkwell words from key on: a word with an uncorrectable error gives none (R199); whether one did. -/
def State.inkRead (s : State) (key : Nat) : Nat → List (Option Word) × Bool × State
  | 0 => ([], false, s)
  | n + 1 =>
    let a := s.memRead key
    let b := a.2.2.inkRead (key + 1) n
    ((if a.2.1 = 2 then none else some a.1) :: b.1, a.2.1 == 2 || b.2.1, b.2.2)

/-- The level of a component: sign and magnitude (R182). -/
def inkLevel (w : Word) (hi : Nat) : Int := (1 - 2 * (b2n (bitOf w hi) : Int)) * (2 * b2n (bitOf w (hi - 1)) + 1)

/-- Sample i of a run of Inkwell words (R181, R182): both samples of a tagged pair, and those of an unreadable word, are 0. -/
def inkSample (ws : Array (Option Word)) (i : Nat) : Int × Int :=
  match ws.getD (i / 4) none with
  | none => (0, 0)
  | some w => if bitOf w (17 - i % 4 / 2) then (0, 0) else (inkLevel w (15 - i % 4 * 4), inkLevel w (13 - i % 4 * 4))

/-- Point n of block b of a job (R191). -/
def Job.point (j : Job) (ws : Array (Option Word)) (b n : Nat) : Int × Int :=
  let d := j.desc
  inkSample ws (dSoff d % 4 + (b * dN d + n) * (dM d * j.plen * 2 ^ 35) / (max 1 (dCfk d) * dN d))

/-- Inkwell samples per point (R191). -/
def Job.rho (j : Job) : Rat := ((dM j.desc * j.plen * 2 ^ 35 : Nat) : Rat) / ((dCfk j.desc * dN j.desc : Nat) : Rat)

/-- The spacing of the hypotheses over the capture rate (R192). -/
def Job.delta (j : Job) : Rat := ((dCfk j.desc : Nat) : Rat) / ((dNsub j.desc * dM j.desc * j.plen * 2 ^ 35 : Nat) : Rat)

/-- The frequency, in cycles per point, at which transform `sub` wipes a block (R192). -/
def Job.wipe (j : Job) (sub : Nat) : Rat :=
  j.rho * ((signedOf 36 (dw2 j.desc 13 18) : Rat) / 2 ^ 36
    + ((dw j.desc 15).toInt : Rat) * (j.fiD : Rat) / ((1000 * j.fiN : Nat) : Rat) + (sub : Rat) * j.delta)

/-- Saturates to 18 bits, signed. -/
def hold18 (x : Int) : Int := max (-131072) (min 131071 x)

/-- Block b wiped for transform `sub` (R192). The phase counts from the block's first point: where it starts changes no
power. -/
def Job.wiped (j : Job) (ws : Array (Option Word)) (b sub : Nat) : List (Rat × Rat) :=
  let f := j.wipe sub
  (List.range (dN j.desc)).map fun (n : Nat) =>
    let t := (f.num * (n : Int) % (f.den : Int)).toNat
    let x := j.point ws b n
    cMul (cosTurn t f.den, -sinTurn t f.den) ((x.1 : Rat), (x.2 : Rat))

/-- The correlations of a wiped block rotated by q bins with a replica, for every m (R192): the spectrum times the conjugate
spectrum of the replica, transformed back. -/
def correlations (n : Nat) (x : List (Rat × Rat)) (q : Int) (replica : List Int) : List (Rat × Rat) :=
  let xs := (dft n x).toArray
  let r := dft n (replica.map fun a => ((a : Rat), 0))
  let y := r.mapIdx fun k z => cMul (xs.getD (((k : Int) + q) % (2 ^ n : Nat)).toNat (0, 0)) (z.1, -z.2)
  (dftInv n y).map fun z => (z.1 / 2 ^ n, z.2 / 2 ^ n)

/-- A component of the output: C over 2^⌈NLOG2/2⌉, rounded and saturated (R192). -/
def searchOut (n : Nat) (c : Rat) : Int := hold18 (c / 2 ^ ((n + 1) / 2) + 1 / 2).floor

/-- The powers p of block b under hypothesis h, cell by cell (R192, R193). -/
def Job.powers (j : Job) (ws : Array (Option Word)) (h : Int) (b : Nat) : Array Nat :=
  let d := j.desc
  let n := fieldOf (dw d 0) 12 9
  let sub := (h % (dNsub d : Int)).toNat
  let q := (h - (sub : Int)) / (dNsub d : Int)
  let x := j.wiped ws b sub
  (((correlations n x q j.replica).take (dCells d)).mapIdx fun m c =>
    let z := cAdd c (Config.searchErr x q j.replica m)
    (searchOut n z.1 ^ 2 + searchOut n z.2 ^ 2).toNat / 2 ^ fieldOf (dw d 16) 8 4).toArray

/-- The code-Doppler shift of block b under hypothesis h (R193). -/
def Job.shift (j : Job) (h : Int) (b : Nat) : Int :=
  let d := j.desc
  let den := dCfk d * 1000 * j.fiN * dNsub d
  let num := (dw d 15).toInt * ((dM d * j.plen * 2 ^ 35 * j.fiD * dNsub d : Nat) : Int) + h * ((dCfk d * 1000 * j.fiN : Nat) : Int)
  roundDiv (num * ((b * dw2 d 17 14 * dCells d : Nat) : Int)) ((max 1 (den * 2 ^ 32 * j.plen) : Nat) : Int)

/-- The grid of hypothesis h: each cell with the sum of its powers, held (R193). -/
def Job.gridRow (j : Job) (ws : Array (Option Word)) (h : Int) : List (Nat × Int × Nat) :=
  let n := max 1 (dCells j.desc)
  let bs := (List.range (dNnc j.desc)).map fun b => (j.shift h b, j.powers ws h b)
  (List.range (dCells j.desc)).map fun m =>
    (m, h, min (2 ^ 36 - 1) (bs.foldl (fun a x => a + x.2.getD (((m : Int) - x.1) % (n : Int)).toNat 0) 0))

/-- The grid: cell, hypothesis and value, hypotheses and cells rising. -/
def Job.grid (j : Job) (ws : Array (Option Word)) : List (Nat × Int × Nat) :=
  (List.range (2 * dJmax j.desc + 1)).flatMap fun i => j.gridRow ws ((i : Int) - (dJmax j.desc : Int))

/-! ### Result records (R198, R199) -/

/-- The record of a job that ends without a finished grid: no peak, RXT0 0. Its mean, and ACCSAT of a job that ran, are free (log 11);
`eccf`, where it is known, says that an Inkwell word of it had an uncorrectable error. -/
def State.plainRecord (s : State) (j : Job) (outcome code : Nat) (eccf : Option Bool) : List Word × State :=
  let f := s.freeWords 3
  let g := fun i => f.1.getD i 0
  let ran := j.phase == .running
  let flags := b2n (ran && bitOf (g 2) 1) * 4 + b2n (eccf.getD (ran && bitOf (g 2) 0))
  ([wordOf (outcome * 65536 + code * 4096 + j.jr * 16 + b2n j.inv * 2 + flags), dw j.desc 1, 0, 0, 0, 0, g 0, g 1], f.2)

/-- The record of a job aborted after its grid was finished, from the record made for it: no peak, RXT0 0, ABORTED (R199, R206). -/
def abortedRecord (l : List Word) : List Word :=
  [wordOf (65536 + fieldOf (dw l 0) 6 0), dw l 1, 0, 0, 0, 0, dw l 6, dw l 7]

/-- Distance of two cells around the code period. -/
def cellDist (n a b : Nat) : Nat := min ((a + n - b) % n) ((b + n - a) % n)

/-- A cell lies outside the exclusion of every earlier peak (R198). -/
def farFrom (d : List Word) (got : List (Nat × Int × Nat)) (x : Nat × Int × Nat) : Bool :=
  got.all fun y => decide (fieldOf (dw d 20) 17 6 < cellDist (dCells d) x.1 y.1)
    || decide (fieldOf (dw d 20) 5 0 < (x.2.1 - y.2.1).natAbs)

/-- The largest cell, the first of equals. -/
def largestCell (l : List (Nat × Int × Nat)) : Option (Nat × Int × Nat) :=
  l.foldl (fun b x =>
    match b with
    | none => some x
    | some y => if y.2.2 < x.2.2 then some x else b) none

/-- The peaks of a grid, n at most, after those in `got` (R198). -/
def takePeaks (d : List Word) (mean : Nat) (grid : List (Nat × Int × Nat)) :
    Nat → List (Nat × Int × Nat) → List (Nat × Int × Nat)
  | 0, got => got
  | n + 1, got =>
    match largestCell (grid.filter (farFrom d got)) with
    | none => got
    | some x => if fieldOf (dw d 19) 17 10 * mean ≤ 8 * x.2.2 then takePeaks d mean grid n (got ++ [x]) else got

/-- The eight words of a peak (R193, R199). -/
def Job.peakWords (j : Job) (x : Nat × Int × Nat) : List Word :=
  let d := j.desc
  let n := dCells d
  let cph := roundDiv (((n - x.1) % n * j.plen * 16384 : Nat) : Int) (n : Int)
  let den := dNsub d * dM d * j.plen * 2 ^ 35 * j.fiD
  let fdop := 16 * (dw d 15).toInt + roundDiv (x.2.1 * ((16 * dCfk d * 1000 * j.fiN : Nat) : Int)) ((max 1 den : Nat) : Int)
  [wordOf x.1, wordOf (codeOf 10 x.2.1)] ++ words36 cph ++ words36 fdop ++ words36 (x.2.2 : Int)

/-- RXT0 of a job that starts now: CRXT + SOFF / fi (R199). -/
def State.jobRxt0 (s : State) (d : List Word) : Nat :=
  let x := s.cap (dCap d)
  (s.rxtAt (capKey (dCap d) 8) + (roundDiv ((dSoff d * x.fiD * 65536000000 : Nat) : Int)
    ((max 1 x.fiN : Nat) : Int)).toNat) % 2 ^ 64

/-- The record of a COMPLETE job, from its Inkwell words; `eccf` says that one had an uncorrectable error. How the mean
is rounded is free (log 11). -/
def State.completeRecord (s : State) (j : Job) (ws : List (Option Word)) (eccf : Bool) : List Word × State :=
  let d := j.desc
  let g := j.grid ws.toArray
  let a := s.free
  let mean := (g.foldl (fun a x => a + x.2.2) 0 + a.1 % max 1 g.length) / max 1 g.length
  let ps := takePeaks d mean g (dNpk d) []
  ([wordOf (ps.length * 128 + j.jr * 16 + b2n (decide (ps.length < dNpk d)) * 8 + b2n (g.any fun x => x.2.2 == 2 ^ 36 - 1) * 4
      + b2n j.inv * 2 + b2n eccf), dw d 1]
    ++ rxtWords j.rxt0 ++ words36 (mean : Int) ++ ps.flatMap j.peakWords, a.2)

/-! ### Starting a job (R197, R203) -/

/-- The head descriptor of JRk. -/
def State.headDesc (s : State) (k : Nat) : List Word :=
  s.ringRead (s.jring k) (s.reg (ringKey (s.jring k) 3)).toNat 24

/-- The head job of JRk can be considered (R197, R205). -/
def State.headReady (s : State) (k : Nat) : Bool :=
  let d := s.headDesc k
  s.jrOn k && s.consIs (s.jring k) 14 && decide (24 ≤ s.ringFill (s.jring k)) && !(s.abBusy && s.scr.abJr == k)
    && (bitOf (dw d 0) 17 || !(s.cst (dCap d) == 1 || s.cst (dCap d) == 2))

/-- The JR entry whose head goes first: the highest PRIO, and among equals the first after the one that started last. -/
def State.nextJr (s : State) : Option Nat :=
  let ks := ((List.range 8).map fun i => (s.scr.last + 1 + i) % 8).filter s.headReady
  ks.foldl (fun b k =>
    match b with
    | none => some k
    | some j => if s.fld (jrKey j) 16 15 < s.fld (jrKey k) 16 15 then some k else b) none

/-- The job of PAIR = 1 that was chosen and waits still stands at the head of its ring and can start (R197): while it waits no other job
starts. The wait of its ring for an abort's scan (R205) does not end the choice. -/
def State.pairWaits (s : State) (k : Nat) : Bool :=
  let d := s.headDesc k
  s.jrOn k && s.consIs (s.jring k) 14 && decide (24 ≤ s.ringFill (s.jring k))
    && (bitOf (dw d 0) 17 || !(s.cst (dCap d) == 1 || s.cst (dCap d) == 2))

/-- The JR entry whose head starts, or waits for both pipelines, now (R197). -/
def State.chosenJr (s : State) : Option Nat :=
  match s.scr.pair with
  | some k => if s.pairWaits k then (if s.headReady k then some k else none) else s.nextJr
  | none => s.nextJr

/-- Notes the choice of a job that waits for both pipelines, with STAT.PAIRW (R197). -/
def State.setPair (s : State) (k : Option Nat) : State :=
  let t := s.setB (pg 40 3) 2 k.isSome
  { t with scr := { t.scr with pair := k } }

/-- The contents of the working RAM are not defined as results (R201) (log 44). -/
def State.forgetRam (s : State) : State :=
  let in_ := fun k => decide (scrpBase ≤ k) && decide (k < scrpBase + 1048576)
  { s with mem := s.mem.filter fun e => !in_ e.1
           blot := { s.blot with eccBad := s.blot.eccBad.filter fun e => !in_ e.1 } }

/-- The key of a replica spectrum (R203). -/
def cacheKey (d : List Word) : List Nat :=
  (if bitOf (dw d 2) 17 then [1, (dw d 3).toNat] else [0, fieldOf (dw d 2) 4 0, dw2 d 4 14, dw2 d 6 14])
    ++ [fieldOf (dw d 2) 16 14, fieldOf (dw d 2) 13 8, dN d, dM d]

/-- The entries that stay when room must be made: the most recently used ones that fit, at 2N words each. -/
def cacheTrim : List (List Nat × List Int) → Nat → List (List Nat × List Int)
  | [], _ => []
  | x :: r, room => if 2 * x.2.length ≤ room then x :: cacheTrim r (room - 2 * x.2.length) else []

/-- The job's code is in the cache. -/
def State.cached (s : State) (d : List Word) : Bool := s.scr.cache.any fun x => x.1 == cacheKey d

/-- A job looks up its replica, which a miss builds from the Exemplar (R195, R203): none when a word of the code has an
uncorrectable error (11 R371). -/
def State.useCache (s : State) (d : List Word) : Option (List Int) × State :=
  let k := cacheKey d
  let rest := s.scr.cache.filter fun x => x.1 != k
  match s.scr.cache.find? fun x => x.1 == k with
  | some x =>
    let t := s.incSat (pg 40 17)
    (some x.2, { t with scr := { t.scr with cache := x :: rest } })
  | none =>
    let c := (s.incSat (pg 40 18)).dChips d
    if c.2.1 = 2 then (none, c.2.2)
    else
      let r := s.dReplica d c.1.toArray
      (some r, { c.2.2 with scr := { c.2.2.scr with cache := (k, r) :: cacheTrim rest (s.cacheWords - 2 * dN d) } })

/-- A working-RAM word of the cache or of a job's pipelines has an uncorrectable error (R201; 11 R371). -/
def State.ramBad (s : State) (j : Job) : Bool :=
  let half := (1048576 - s.cacheWords) / 2
  s.blot.eccBad.any fun e =>
    let o := e.1 - scrpBase
    e.2 && decide (scrpBase ≤ e.1 ∧ o < 1048576)
      && (decide (o < s.cacheWords) || j.pipes.any fun p => decide (s.cacheWords + p * half ≤ o ∧ o < s.cacheWords + (p + 1) * half))

/-- Marks pipelines busy or free. -/
def State.setPipes (s : State) (ps : List Nat) (b : Bool) : State := ps.foldl (fun t p => t.setB (pg 40 3) p b) s

/-- Keeps the job list. -/
def State.setJobs (s : State) (l : List Job) : State := { s with scr := { s.scr with jobs := l } }

/-- The job that holds a pipeline. -/
def State.jobOn (s : State) (p : Nat) : Option Job := s.scr.jobs.find? fun j => j.pipes.contains p

/-- Replaces the job that holds the same pipelines, or takes it out. -/
def State.putJob (s : State) (j : Job) (keep : Bool) : State :=
  let l := s.scr.jobs.filter fun x => x.pipes != j.pipes
  if keep then s.setJobs (l ++ [j]) else (s.setJobs l).setPipes j.pipes false

/-- The count and the event of an outcome (R206). -/
def State.countOutcome (s : State) (o : Nat) : State := (s.incSat (pg 40 (28 + o))).raise 40 o

/-- A finished job commits its record if the result ring has room, else it waits (R206), as it does with HIF off (14 R462). -/
def State.commitJob (s : State) (j : Job) : State :=
  let r := s.rring j.jr
  if s.domOn 2 = false then (s.unitFails 40).putJob { j with phase := .waitRoom } true
  else if s.prodIs r 14 = true ∧ j.record.length ≤ s.ringRoom r then
    ((s.ringPut r j.record).countOutcome j.outcome).putJob j false
  else s.putJob { j with phase := .waitRoom } true

/-- JOB_START (R195, R197). A job whose capture or code lies in a domain that is off ends FAILED with STATE (14 R462; DEDUCED, log 70). -/
def execJobStart (s : State) : Host.Outcome State Fault Refusal :=
  done s (match s.chosenJr with
    | none => if s.scr.pair.any s.pairWaits then s else s.setPair none
    | some k =>
      let d := s.headDesc k
      let cxl := bitOf (dw d 0) 17
      let pair := bitOf (dw d 0) 16 && !cxl
      let free := (List.range 2).filter fun p => !s.bit (pg 40 3) p
      if s.bit (pg 40 2) 0 = false ∨ s.domOn 8 = false then s
      else if s.domOn 2 = false then s.unitFails 40
      else if pair = true ∧ free.length < 2 then s.setPair (some k)
      else if free = [] then s
      else
        let ps := if pair then [0, 1] else free.take 1
        let c := s.dCheck d
        let e := s.ringReadE (s.jring k) (s.reg (ringKey (s.jring k) 3)).toNat 24
        let t := if e.2.1 = 2 then e.2.2.pageErr 40 eECC 2 else e.2.2
        let t := ((t.ringTake (s.jring k) 24).setPair none).setPipes ps true
        let t := { t with scr := { t.scr with last := k } }
        let cap := s.cap (dCap d)
        let j : Job := { jr := k, desc := d, pipes := ps, phase := .extracted, outcome := 1, abort := false, lo := 0, hi := 0
                         plen := s.dP d, replica := [], inv := s.bit (capKey (dCap d) 12) 16, fiN := cap.fiN, fiD := cap.fiD
                         rxt0 := s.jobRxt0 d, record := [] }
        if cxl then
          let r := t.plainRecord j 1 0 none
          r.2.commitJob { j with record := r.1 }
        else if c ≠ 0 then
          let r := t.plainRecord j 2 c none
          r.2.commitJob { j with outcome := 2, record := r.1 }
        else if s.domOn 9 = false ∨ (s.domOn 10 = false ∧ s.cached d = false) then
          let r := (t.unitFails 40).plainRecord j 2 eSTATE none
          r.2.commitJob { j with outcome := 2, record := r.1 }
        else
          let b := (s.descRange (dCap d)).1
          let lo := b + dSoff d / 4
          let hi := b + ceilDiv (s.dEnd d) 4
          let u := t.useCache d
          match u.1 with
          | none =>
            let r := u.2.plainRecord j 2 eECC none
            r.2.commitJob { j with outcome := 2, record := r.1 }
          | some rep =>
            ((u.2.forgetRam.abortRange 11 0 1048576).abortRange 12 lo hi).putJob
              { j with phase := .running, outcome := 0, lo := lo, hi := hi, replica := rep } true)

/-- JOB_EXTRACTION_DONE (R198; 11 R371): the record is built; the Inkwell words of the job have been read. An uncorrectable
error in the working RAM has made the job FAILED. -/
def execJobExtractionDone (pipe : Fin 2) (s : State) : Host.Outcome State Fault Refusal :=
  done s (match s.jobOn pipe.val with
    | none => s
    | some j =>
      if j.phase = .running ∧ j.abort = false then
        let m := s.inkRead (inkwBase + j.lo) (j.hi - j.lo)
        if s.ramBad j then
          let r := m.2.2.plainRecord j 2 eECC (some m.2.1)
          r.2.forgetRam.putJob { j with phase := .extracted, outcome := 2, record := r.1 } true
        else
          let r := m.2.2.completeRecord j m.1 m.2.1
          r.2.forgetRam.putJob { j with phase := .extracted, outcome := 0, record := r.1 } true
      else s)

/-- JOB_COMMIT (R206). -/
def execJobCommit (pipe : Fin 2) (s : State) : Host.Outcome State Fault Refusal :=
  done s (match s.jobOn pipe.val with
    | none => s
    | some j => if j.phase = .running ∨ j.abort = true then s else s.commitJob j)

/-- RECORD_ROOM_TIMEOUT (R206). -/
def execRecordRoomTimeout (pipe : Fin 2) (s : State) : Host.Outcome State Fault Refusal :=
  done s (match s.jobOn pipe.val with
    | none => s
    | some j =>
      if j.phase = .waitRoom then
        ((((s.incSat (pg 40 31)).raise 40 4).pageErr 40 eTIMEOUT 19).countOutcome (if j.outcome = 0 then 2 else j.outcome)).putJob j false
      else s)

/-- JOB_ABORT_STOP (R205): the pipeline stops and the job ends ABORTED. -/
def execJobAbortStop (pipe : Fin 2) (s : State) : Host.Outcome State Fault Refusal :=
  done s (match s.jobOn pipe.val with
    | none => s
    | some j =>
      if j.abort = true then
        let r := if j.phase = .running then s.plainRecord j 1 0 none else (abortedRecord j.record, s)
        r.2.forgetRam.commitJob { j with phase := .extracted, outcome := 1, abort := false, record := r.1 }
      else s)

/-! ### Abort (R205) -/

/-- Records an uncorrectable error that a read of a ring found (11 R371). -/
def State.ringEcc (e : List Word × Nat × State) : State := if e.2.1 = 2 then e.2.2.pageErr 40 eECC 2 else e.2.2

/-- Sets CXL in the queued descriptors that match; `n` descriptors from ring index i on, of which words 0 and 1 are read. -/
def State.cancelQueued (s : State) (ring : Nat) (hit : Word → Bool) (i : Nat) : Nat → State × Nat
  | 0 => (s, 0)
  | n + 1 =>
    let e := s.ringReadE ring i 2
    let t := State.ringEcc e
    let m := !bitOf (dw e.1 0) 17 && hit (dw e.1 1)
    let r := (if m then t.wrMem (t.ringAddr ring i) (dw e.1 0 ||| 0o400000) else t).cancelQueued ring hit (i + 24) n
    (r.1, r.2 + b2n m)

/-- One job on a pipeline meets an abort. -/
def State.abortJob (s : State) (j : Job) : State :=
  if j.phase = .waitRoom then s.putJob { j with outcome := 1, record := abortedRecord j.record } true
  else s.putJob { j with abort := true } true

/-- An accepted ABGO (log 53). -/
def State.startAbort (s : State) (w : Writer) : State :=
  let k := s.fld (pg 40 32) 2 0
  let hit := fun (t : Word) => s.bit (pg 40 32) 3 || t == s.reg (pg 40 33)
  let ring := s.jring k
  let q := s.cancelQueued ring hit (s.reg (ringKey ring 3)).toNat (s.ringFill ring / 24)
  let js := s.scr.jobs.filter fun j => j.jr == k && hit (dw j.desc 1) && j.outcome != 1 && !j.abort
  let t := js.foldl (fun t j => t.abortJob j) q.1
  { t.setB (pg 40 3) 3 true with scr := { t.scr with abCount := q.2 + js.length, abJr := k, abBy := some w } }

/-- ABORT_SCAN_DONE (R205). -/
def execAbortScanDone (s : State) : Host.Outcome State Fault Refusal :=
  let n := s.scr.abCount
  let t := s.setB (pg 40 3) 3 false
  done s (if s.abBusy = false then s
    else if 0 < n then t.setReg (pg 40 34) (wordOf (n % 16384 * 16))
    else
      let u := ((t.setReg (pg 40 34) (wordOf eABORTLATE)).pageErr 40 eABORTLATE 2).raise 40 3
      match s.scr.abBy with
      | some (.ses q) => u.sesErr q.val eABORTLATE (pageAddr 40 2)
      | _ => u)

/-! ### Handoff (R208, R209) -/

/-- Word i of the record that HOSEL and HOPTR name. -/
def State.hoWord (s : State) (i : Nat) : Word :=
  s.rdMem (s.ringAddr (s.fld (pg 40 36) 5 0) ((s.reg (pg 40 37)).toNat + i))

/-- What the read of that record leaves (11 R370, R371): its header is read, and the entry of the peak where the record has it. -/
def State.hoReport (s : State) : State :=
  let r := s.fld (pg 40 36) 5 0
  let i := (s.reg (pg 40 37)).toNat
  let t := State.ringEcc (s.ringReadE r i 8)
  if s.fld (pg 40 36) 9 6 < fieldOf (s.hoWord 0) 11 7 then State.ringEcc (t.ringReadE r (i + 8 + 8 * s.fld (pg 40 36) 9 6) 8) else t

/-- A two-word value of that record. -/
def State.hoWord2 (s : State) (i : Nat) : Nat := (s.hoWord i).toNat * 262144 + (s.hoWord (i + 1)).toNat

/-- FC and FK of the handoff (R209). -/
def State.hoRates (s : State) : Nat × Int :=
  let c := s.fld (pg 40 35) 8 0
  let st := s.chStream c
  let n : Int := ((max 1 (s.rateN st) : Nat) : Int)
  let fdop := signedOf 36 (s.hoWord2 (12 + 8 * s.fld (pg 40 36) 9 6))
  let cdr : Int := ((s.fld (pg 40 43) 13 0 * 262144 + (s.reg (pg 40 44)).toNat : Nat) : Int)
  (codeOf 36 (signedOf 36 (s.reg2 (pg 40 39)) + roundDiv (fdop * 2 ^ 36 * (s.rateD st : Int)) (16000 * n)),
   (s.reg2 (pg 40 41) : Int) + roundDiv (fdop * cdr * 2 ^ 3 * (s.rateD st : Int)) (16000 * n))

/-- RXT0 of the record, in units of 2^-16 ns. -/
def State.hoRxt0 (s : State) : Nat :=
  (((s.hoWord 2).toNat % 4096 * 262144 + (s.hoWord 3).toNat) * 262144 + (s.hoWord 4).toNat) * 65536 + (s.hoWord 5).toNat % 65536

/-- The first failed check of a handoff (R208). -/
def State.hoRefusal (s : State) : Nat :=
  let c := s.fld (pg 40 35) 8 0
  let st := s.chState c
  if fieldOf (s.hoWord 0) 17 16 ≠ 0 ∨ s.hoWord 1 ≠ s.reg (pg 40 38) ∨ fieldOf (s.hoWord 0) 11 7 ≤ s.fld (pg 40 36) 9 6 then eRANGE
  else if st = 0 ∨ st = 4 then eADMIT
  else if st = 5 ∨ s.ncomp c ≠ 1 ∨ s.isLegacy c = true then eSTATE
  else if s.bit (chKey c 3) 1 then eBUSY
  else if ((s.chan c).fklim : Int) < s.hoRates.2 then eRANGE
  else if 16000000000 * 65536 ≤ (s.rxt + 2 ^ 64 - s.hoRxt0) % 2 ^ 64 then eRANGE else 0

/-- A write of SCRP.CTRL (R205, R208). An FK below 0, of which R209 gives no reading, is loaded as its code of 36 bits
(DESIGN CHOICE, log 68). -/
def scrpCtrl (w : Writer) (v : Word) (s : State) : Handler :=
  let t := s.plain w 40 2 v
  let c := s.fld (pg 40 35) 8 0
  let ho : PhaseSet := ⟨s.time.ns, 0, 0, 0, 0,
    some (s.hoRates.1, codeOf 36 s.hoRates.2, s.hoWord2 (10 + 8 * s.fld (pg 40 36) 9 6), s.hoRxt0)⟩
  { state := if bitOf v 2 then
      (if s.abBusy then eBUSY else if s.jrOn (s.fld (pg 40 32) 2 0) = false then eSTATE else 0) else 0
    range := true
    extra := if bitOf v 1 then s.hoRefusal else 0
    result :=
      let t := if bitOf v 1 then t.arm c ho else t
      if bitOf v 2 then t.startAbort w else t }

/-- A write of JRk (R196). -/
def jrHandler (w : Writer) (k : Nat) (v : Word) (s : State) : Handler :=
  { state := if s.abBusy = true ∨ (s.scr.jobs.any fun j => j.jr == k) = true then eBUSY else 0
    range := true
    extra := if bitOf v 17 = true ∧ (s.consIs (fieldOf v 11 6) 14 = false ∨ s.prodIs (fieldOf v 5 0) 14 = false
        ∨ ((List.range 8).any fun j => j != k && s.jrOn j && s.jring j == fieldOf v 11 6) = true) then eCONFIG else 0
    result := s.plain w 40 (20 + k) v }

/-- A write of CACHE (R204). -/
def cacheHandler (w : Writer) (v : Word) (s : State) : Handler :=
  { state := if s.pbusy ≠ 0 ∨ s.jobQueued = true then eBUSY else 0, range := true, extra := 0
    result := (s.plain w 40 16 v).dropCache }

/-- A write to a word of the SCRP page. -/
def scrpHandler (w : Writer) (wd : Nat) (v : Word) (s : State) : Handler :=
  if wd = 2 then scrpCtrl w v s
  else if wd = 16 then cacheHandler w v s
  else if 20 ≤ wd ∧ wd ≤ 27 then jrHandler w (wd - 20) v s
  else headerHandler w 40 wd v s

/-- A write to the SCRP page: a HOGO that passes the checks of 00 R16 reads its record, whatever comes of it (R208; 11 R371). -/
def scrpGuarded (w : Writer) (wd : Nat) (v : Word) (s : State) : State :=
  let h := scrpHandler w wd v s
  let t := guarded w 40 wd v h s
  if wd = 2 ∧ bitOf v 1 = true ∧ s.writerLive w = true ∧ s.domOn 8 = true ∧ writeRefusal w 40 wd v { h with extra := 0 } s = 0 then t.hoReport else t

/-- JOB_RING_CONFIG (R196). -/
def execJobRingConfig (w : Writer) (k : Fin 8) (v : Word) (s : State) : Host.Outcome State Fault Refusal :=
  done s (guarded w 40 (20 + k.val) v (jrHandler w k.val v s) s)

/-- JOB_ABORT (R205). -/
def execJobAbort (w : Writer) (v : Word) (s : State) : Host.Outcome State Fault Refusal :=
  done s (scrpGuarded w 2 (forceBit v 2 true) s)

/-- HANDOFF (R208). -/
def execHandoff (w : Writer) (v : Word) (s : State) : Host.Outcome State Fault Refusal :=
  done s (scrpGuarded w 2 (forceBit v 1 true) s)

/-- CACHE_WRITE (R204). -/
def execCacheWrite (w : Writer) (v : Word) (s : State) : Host.Outcome State Fault Refusal :=
  done s (guarded w 40 16 v (cacheHandler w v s) s)

/-- A write to word o of the working RAM (R204). -/
def State.ramWrite (s : State) (w : Writer) (o : Nat) (v : Word) : State :=
  s.regionWrite w 14 8 (scrpBase + o) (s.pbusy != 0) v State.dropCache

/-- WORKING_RAM_WRITE (R204). -/
def execWorkingRamWrite (w : Writer) (o : BitVec 20) (v : Word) (s : State) : Host.Outcome State Fault Refusal :=
  done s (if s.writerLive w then s.ramWrite w o.toNat v else s)

end Sys2Proof.Machine
end

