-- ==== Sys2Proof/Machine/Time.lean ====
section
/-! DEFINITION. The timebase (spec/07 R214 to R222, R243 to R247): RXT and its wrap, the system time map, RTC calibration,
the rebuild after a sleep. An event that the manual ties to an instant of RXT happens at that instant: the command moves
RXT to it when it lies ahead (log 12). -/

namespace Sys2Proof.Machine

/-- 2^48 ns: RXT wraps there (R217). -/
def rxtMod : Nat := 281474976710656

/-- 2^66 ns: WRAPC itself wraps there. -/
def extMod : Nat := 73786976294838206464

/-- RXT.NS on the extended scale (R234). -/
def State.extN (s : State) : Nat := (s.reg (pg 16 20)).toNat * rxtMod + s.time.ns

/-- RXT on the extended scale, × 2^16 (R234). -/
def State.rxtExt (s : State) : Nat := (s.reg (pg 16 20)).toNat * rxtMod * 65536 + s.rxt

/-- A wrap of RXT (R217): WRAPC adds 1 and WRAP is raised. -/
def State.wrapped (s : State) : State := (s.inc (pg 16 20)).raise 16 2

/-- Sets RXT.NS. -/
def State.setNs (s : State) (n : Nat) : State := { s with time := { s.time with ns := n } }

/-- The level of an output between pulses: the inactive level of a polarity (R234). -/
def idleLevel (pol : Bool) : Bool := pol

/-- A new POL whose instant has come takes effect (R236). -/
def TpSt.settlePol (x : TpSt) (now : Rat) : TpSt :=
  match x.polAt with
  | some t => if t ≤ now ∧ x.pulse = none then { x with polAt := none, level := idleLevel x.cur.pol } else x
  | none => x

/-- RXT on the extended scale in ns. -/
def State.extNs (s : State) : Rat := (s.rxtExt : Rat) / 65536

/-- The outputs at the present instant. -/
def State.settlePols (s : State) : State := { s with tps := s.tps.map fun x => x.settlePol s.extNs }

/-- Time runs on to an instant t of RXT.NS that lies ahead, given on a scale without the wrap; nothing while TIME stands
still or the instant has passed. -/
def State.reach (s : State) (t : Nat) : State :=
  if s.time.on = false ∨ t < s.time.ns then s
  else if t < rxtMod then (s.setNs t).settlePols
  else ((s.setNs (t % rxtMod)).wrapped).settlePols

/-- Time runs on to an instant t of the extended scale, across a wrap of RXT or none; nothing when it has passed. -/
def State.reachX (s : State) (t : Nat) : State :=
  let d := (t + extMod - s.extN) % extMod
  if d < extMod / 2 then s.reach (s.time.ns + d) else s

/-- The extended scale, × 2^16, of an RXT that lies within half a wrap of the present one. -/
def State.extOf (s : State) (t : Nat) : Int := (s.rxtExt : Int) - signedOf 64 ((s.rxt + 2 ^ 64 - t) % 2 ^ 64)

/-! ### The system time map (R220 to R222) -/

/-- OFS in force, signed, × 2^16. -/
def State.ofs (s : State) : Int := signedOf 64 (s.rxtAt (pg 16 28))

/-- DRIFT in force. -/
def State.drift (s : State) : Int := signedOf 36 (s.reg2 (pg 16 32))

/-- S for an extended RXT in ns, without the reduction modulo 2^48 (R220, R234). -/
def State.sysOf (s : State) (x : Rat) : Rat :=
  x + (s.ofs : Rat) / 65536 + (s.drift : Rat) * (x - (s.time.refExt : Rat) / 65536) / 281474976710656

/-- The extended RXT that belongs to a value of S, to the nearest 2^-16 ns (R220). -/
def State.rxtOfSys (s : State) (y : Rat) : Rat :=
  let r := (s.time.refExt : Rat) / 65536
  let x := r + (y - r - (s.ofs : Rat) / 65536) * 281474976710656 / ((281474976710656 : Rat) + (s.drift : Rat))
  ((x * 65536 + 1 / 2).floor : Rat) / 65536

/-- MAPGO's instant: the first RXT that is a whole multiple of 10^6 ns at least 10 µs ahead (R221), on a scale that runs
on past the wrap after RXT.NS. -/
def mapInstant (ns : Nat) : Nat :=
  let m := ceilDiv (ns + 10000) 1000000 * 1000000
  if m < rxtMod then m else rxtMod + ceilDiv (ns + 10000 - rxtMod) 1000000 * 1000000

/-- MAPGO's instant on the extended scale. -/
def State.mapDue (s : State) : Nat := (s.reg (pg 16 20)).toNat * rxtMod + mapInstant s.time.ns

/-- A write of TIME.CTRL (R218, R219, R221, R243, R245). -/
def timeCtrl (w : Writer) (v : Word) (s : State) : Handler :=
  let t := s.plain w 16 2 v
  { state := if bitOf v 1 = true ∧ s.bit (pg 16 3) 1 = true then eBUSY
      else if bitOf v 2 = true ∧ s.bit (pg 16 3) 2 = true then eBUSY else 0
    range := true, extra := 0
    result :=
      let t := if bitOf v 0 then t.setRegs (pg 16 16) (rxtWords s.rxt) else t
      let t := if bitOf v 1 then t.setB (pg 16 3) 1 true else t
      let t := if bitOf v 2 then { t.setB (pg 16 3) 2 true with time := { t.time with mapAt := s.mapDue } } else t
      let t := if bitOf v 3 && s.bit (pg 16 3) 0 then t.setB (pg 16 3) 4 false else t
      if bitOf v 4 then t.setB (pg 16 3) 5 false else t }

/-- A period held in two words, with the new low word. -/
def State.period (s : State) (k : Nat) (v : Word) : Nat := (s.reg (pg 16 k)).toNat * 262144 + v.toNat

/-- A write to a word of the TIME page (R216, R221, R243). -/
def timeHandler (w : Writer) (wd : Nat) (v : Word) (s : State) : Handler :=
  let t := s.plain w 16 wd v
  if wd = 2 then timeCtrl w v s
  else if wd = 21 then
    { state := 0, range := fieldOf v 17 12 == (if bitOf v 11 then 63 else 0), extra := 0, result := t }
  else if wd = 43 then
    let p := s.period 42 v
    { state := 0, range := decide (1900000000 ≤ p) && decide (p ≤ 2100000000), extra := 0
      result := { t with time := { t.time with calp := p } } }
  else if wd = 47 then
    let p := s.period 46 v
    { state := 0, range := decide (1536000000 ≤ p) && decide (p ≤ 2560000000), extra := 0
      result := { t with time := { t.time with rcp := p } } }
  else headerHandler w 16 wd v s

/-- RXT_WRAP (R217): RXT reaches 2^48 ns. -/
def execRxtWrap (s : State) : Host.Outcome State Fault Refusal := done s (s.reach rxtMod)

/-- RXT_SECOND (12 R420): RXT reaches the next multiple of 10^9 ns. Multiples lie below the wrap; past the last of them
the next is 0, at the wrap. -/
def execRxtSecond (s : State) : Host.Outcome State Fault Refusal :=
  let n := (s.time.ns / 1000000000 + 1) * 1000000000
  done s (if s.time.on then (s.reach (min n rxtMod)).setB (pg 4 32) 1 true else s)

/-- RXT_CAPTURE (R218). -/
def execRxtCapture (w : Writer) (v : Word) (s : State) : Host.Outcome State Fault Refusal :=
  done s (guarded w 16 2 (forceBit v 0 true) (timeCtrl w (forceBit v 0 true) s) s)

/-- TDISC_CLEAR (R219). -/
def execTdiscClear (w : Writer) (v : Word) (s : State) : Host.Outcome State Fault Refusal :=
  done s (guarded w 16 2 (forceBit v 3 true) (timeCtrl w (forceBit v 3 true) s) s)

/-- REBUILT_CLEAR (R245). -/
def execRebuiltClear (w : Writer) (v : Word) (s : State) : Host.Outcome State Fault Refusal :=
  done s (guarded w 16 2 (forceBit v 4 true) (timeCtrl w (forceBit v 4 true) s) s)

/-- MAP_GO (R221). -/
def execMapGo (w : Writer) (v : Word) (s : State) : Host.Outcome State Fault Refusal :=
  done s (guarded w 16 2 (forceBit v 2 true) (timeCtrl w (forceBit v 2 true) s) s)

/-- The map application at the present instant (R221). -/
def State.applyMap (s : State) : State :=
  let ext := s.rxtExt
  let keep := s.bit (pg 16 27) 1
  let ofs := if keep then
      roundDiv (s.ofs * 281474976710656 + s.drift * ((ext : Int) - (s.time.refExt : Int))) 281474976710656
    else signedOf 64 (s.rxtAt (pg 16 21))
  let t := (s.setRegs (pg 16 34) (rxtWords s.rxt)).setReg (pg 16 32) (s.reg (pg 16 25))
  let t := (t.setReg (pg 16 33) (s.reg (pg 16 26))).setRegs (pg 16 28) (sxtWords ofs)
  let t := ((t.setB (pg 16 3) 3 (s.bit (pg 16 27) 0)).setB (pg 16 3) 2 false).raise 16 4
  { t with time := { t.time with refExt := ext } }

/-- MAP_APPLY (R221). -/
def execMapApply (s : State) : Host.Outcome State Fault Refusal :=
  done s (if s.bit (pg 16 3) 2 = true ∧ s.time.on = true then (s.reachX s.time.mapAt).applyMap else s)

/-- RTC_CAL_GO (R243). -/
def execRtcCalGo (w : Writer) (v : Word) (s : State) : Host.Outcome State Fault Refusal :=
  done s (guarded w 16 2 (forceBit v 1 true) (timeCtrl w (forceBit v 1 true) s) s)

/-- RTC_CAL_DONE (R243): `span` is the measured span of RCN ticks in ns × 2^16. -/
def execRtcCalDone (span : BitVec 54) (s : State) : Host.Outcome State Fault Refusal :=
  let n := span.toNat
  done s (if s.bit (pg 16 3) 1 = true ∧ s.time.on = true then
      ((s.setRegs (pg 16 39) [wordOf (n / 2 ^ 36), wordOf (n / 2 ^ 18), wordOf n]).setB (pg 16 3) 1 false).raise 16 5
    else s)

/-- CALPL_WRITE (R243). -/
def execCalplWrite (w : Writer) (v : Word) (s : State) : Host.Outcome State Fault Refusal :=
  done s (guarded w 16 43 v (timeHandler w 43 v s) s)

/-- RCPL_WRITE (R243). -/
def execRcplWrite (w : Writer) (v : Word) (s : State) : Host.Outcome State Fault Refusal :=
  done s (guarded w 16 47 v (timeHandler w 47 v s) s)

/-- UNC (R246), in ns, saturating. -/
def State.uncertainty (s : State) : Nat :=
  let t := s.time
  let tw : Rat := if t.rtcSrc then (t.rcp : Rat) / 65536 else 30517578125 / 1000000
  let ts : Rat := if t.slSwitched then (t.rcp : Rat) / 65536 else 0
  let sum : Rat := ((t.n1 * s.reg2 (pg 16 44) + t.n2 * s.reg2 (pg 16 48) : Nat) : Rat) / 65536 + (s.reg2 (pg 16 50) : Rat) + tw + ts
  min (2 ^ 36 - 1) sum.ceil.toNat

/-- The rebuilt RXT on a scale without the wrap, × 2^16 (R245). -/
def State.rebuiltRxt (s : State) : Nat :=
  s.rxtAt (pg 16 58) + s.time.n1 * s.time.calp + s.time.n2 * s.time.rcp

/-- RXT_REBUILD (R245, R246): TIME is on again with TPLL locked, and BKP holds the stop. -/
def execRxtRebuild (s : State) : Host.Outcome State Fault Refusal :=
  let x := s.rebuiltRxt
  let wraps := x / 65536 / rxtMod
  let t := (s.setReg (pg 16 20) (s.reg (pg 16 20) + wordOf wraps)).setReg2 (pg 16 52) s.time.n1
  let t := (t.setReg2 (pg 16 54) s.time.n2).setReg2 (pg 16 56) s.uncertainty
  let t := (((t.setB (pg 16 3) 5 true).setB (pg 16 3) 3 false).setB (pg 16 3) 7 false).raise 16 3
  done s (if s.time.on = false ∧ s.time.kept = true ∧ s.domOn 15 = true ∧ s.bit (pg 16 3) 0 = true then
      { t with time := { t.time with ns := x / 65536 % rxtMod, frac := x % 65536, on := true, kept := false } }
    else s)

end Sys2Proof.Machine
end

