-- ==== Sys2Proof/Machine/Measure.lean ====
section
/-! DEFINITION. The measurement latch (spec/07 R223 to R231, R251; spec/10 R359): triggers, the record and its commit. -/

namespace Sys2Proof.Machine

/-- LRING. -/
def State.lring (s : State) : Nat := s.fld (pg 19 19) 5 0

/-- At least 5 ms lie between t and the previous accepted trigger, and no latch is in progress (R224). -/
def State.latchFree (s : State) (t : Nat) : Bool :=
  s.meas.cur.isNone &&
    match s.meas.lastT with
    | some u => decide (u + 5000000 * 65536 ≤ s.extOf t)
    | none => true

/-- Starts a latch at t: LBUSY, TICK.EPOCH (R229, 12 R420). WRAPC is that of t, which may lie before a wrap just passed. -/
def State.startLatch (s : State) (src evin t : Nat) : State :=
  let e := s.extOf t
  let l : Latch := { src := src, evin := evin, t := t, sv := s.bit (pg 16 3) 3, td := s.bit (pg 16 3) 4
                     reb := s.bit (pg 16 3) 5, wrapc := wordOfInt (e / 18446744073709551616)
                     own := s.prodIs s.lring 15, lost := false }
  { ((s.fresh fun k => decide (stagingKey 0 ≤ k) && decide (k < stagingKey 10248)).setB (pg 19 3) 0 true).setB (pg 4 32) 2 true with
    meas := { s.meas with lastT := some e, cur := some l, entries := [], legacy := [], legWant := src == 3, legT := t } }

/-- A trigger that is not accepted (R224). -/
def State.skipLatch (s : State) : State := (s.incSat (pg 19 22)).raise 19 1

/-- SLEEP, BACKUP or DORMANT. -/
def State.asleep (s : State) : Bool := s.pwr.st == .sleep || s.pwr.st == .backup || s.pwr.st == .dormant

/-- Triggers are skipped in a warm restart, and from the entry to SLEEP, BACKUP or DORMANT on (R224, R242; 14 R468). -/
def State.latchBarred (s : State) : Bool := s.upd.warm || s.asleep

/-- A periodic or an event trigger (R224) (log 46). -/
def State.trigger (s : State) (src evin t : Nat) : State :=
  if s.latchFree t = true ∧ s.prodIs s.lring 15 = true ∧ s.latchBarred = false then s.startLatch src evin t else s.skipLatch

/-- The first multiple of `per` shifted by `phase` that is at least x. -/
def gridFrom (x phase per : Int) : Int := x + (phase - x) % per

/-- The first instant of a grid that restarts at each multiple of 2^48 ns, from x on. -/
def gridWrapped (x phase per : Int) : Int :=
  let k := x / 281474976710656
  let n := gridFrom (x % 281474976710656) phase per
  if n < 281474976710656 then k * 281474976710656 + n else (k + 1) * 281474976710656 + phase

/-- The next periodic instant on the extended scale, × 2^16 (R223). T is taken modulo 2^48 ns, as RXT and S are (R217, R220). -/
def State.nextEpoch (s : State) : Nat :=
  let per : Int := ((s.fld (pg 19 16) 9 0 * 1000000 : Nat) : Int)
  let ph : Int := ((s.fld (pg 19 17) 9 0 * 1000000 : Nat) : Int)
  let base : Nat := match s.meas.epochAt with
    | some e => max s.extN (e + 1)
    | none => max s.extN (s.meas.penNs + 1000000)
  if s.bit (pg 19 18) 0 then
    (s.rxtOfSys (gridWrapped (s.sysOf (base : Rat)).ceil ph per : Rat) * 65536).floor.toNat
  else (gridWrapped (base : Int) ph per).toNat * 65536

/-- A periodic epoch falls in the present cycle (R224, R248). -/
def State.epochNow (s : State) : Bool := s.bit (pg 19 2) 1 && decide (s.nextEpoch / 65536 = s.extN)

/-- A write of MEAS.CTRL (R223, R224). -/
def measCtrl (w : Writer) (v : Word) (s : State) : Handler :=
  let t := s.plain w 19 2 v
  { state := if bitOf v 0 = true ∧ s.latchBarred = false ∧ (s.latchFree s.rxt = false ∨ s.epochNow = true) then eBUSY else 0
    range := true
    extra := if (bitOf v 1 = true ∧ s.fld (pg 19 16) 9 0 ≤ s.fld (pg 19 17) 9 0)
        ∨ (fieldOf v 2 0 ≠ 0 ∧ s.prodIs s.lring 15 = false) then eCONFIG else 0
    result :=
      let t := if bitOf v 1 && !s.bit (pg 19 2) 1 then
          { t with meas := { t.meas with penNs := s.extN, epochAt := none } } else t
      if bitOf v 0 then t.trigger 1 0 s.rxt else t }

/-- A write to a word of the MEAS page (R223). -/
def measHandler (w : Writer) (wd : Nat) (v : Word) (s : State) : Handler :=
  if wd = 2 then measCtrl w v s
  else if 16 ≤ wd ∧ wd ≤ 18 then
    { state := if s.bit (pg 19 2) 1 then eSTATE else 0, range := true, extra := 0, result := s.plain w 19 wd v }
  else headerHandler w 19 wd v s

/-- PERIODIC_ENABLE (R223). -/
def execPeriodicEnable (w : Writer) (v : Word) (s : State) : Host.Outcome State Fault Refusal :=
  done s (guarded w 19 2 (forceBit v 1 true) (measCtrl w (forceBit v 1 true) s) s)

/-- SNAP (R223) (log 46). -/
def execSnap (w : Writer) (v : Word) (s : State) : Host.Outcome State Fault Refusal :=
  done s (guarded w 19 2 (forceBit v 0 true) (measCtrl w (forceBit v 0 true) s) s)


/-- The next periodic epoch comes (R223, R224). -/
def State.takeEpoch (s : State) : State :=
  let e := s.nextEpoch
  let t := s.reachX (e / 65536)
  let t := { t with meas := { t.meas with epochAt := some t.extN } }
  t.trigger 0 0 (e % 2 ^ 64)

/-- PERIODIC_EPOCH (R223, R224). -/
def execPeriodicEpoch (s : State) : Host.Outcome State Fault Refusal :=
  done s (if s.bit (pg 19 2) 1 = true ∧ s.time.on = true then s.takeEpoch else s)

/-- The latch record (R230, R231). -/
def State.latchRecord (s : State) (l : Latch) (lseq : Word) : List Word :=
  let es := s.meas.entries
  let inv := es.any fun e => bitOf (e.2.headD 0) 7
  [wordOf (l.src * 65536 + es.length * 64 + b2n l.sv * 32 + b2n (l.td || s.bit (pg 16 3) 4) * 16 + b2n l.reb * 8 + b2n inv * 4),
   lseq] ++ rxtWords l.t ++ [l.wrapc, wordOf (if l.src = 2 then l.evin * 32768 else 0)] ++ es.flatMap fun e => e.2

/-- Legacy time of an RXT: ⌊NS / 25⌋ (10 R362). -/
def legacyTime (ns : Nat) : Nat := ns / 25

/-- Three words, most significant first. -/
def words54 (n : Nat) : List Word := [wordOf (n / 2 ^ 36), wordOf (n / 2 ^ 18), wordOf n]

/-- The legacy window takes the values of a latch (10 R359). -/
def State.legacyLatch (s : State) : State :=
  let t := (List.range 48).foldl (fun t c =>
    let e := (s.meas.legacy.get? c).getD [0, 0]
    (t.setReg (pg lwinPage (70 + 8 * c)) (e.getD 0 0)).setReg (pg lwinPage (71 + 8 * c)) (e.getD 1 0)) s
  ((t.setRegs (pg lwinPage 12) (words54 (legacyTime (s.meas.legT / 65536)))).inc (pg lwinPage 15)).setB (pg lwinPage 3) 2 true

/-- LATCH_COMMIT (R229; 10 R359). In LEGACY no record reaches a ring. In DUAL a latch of the legacy window whose ring the latch
did not produce at the trigger commits without a record (DESIGN CHOICE, log 46). Errors of the staging buffer are counted, and the
record has its words as read (11 R371). A latch that finds HIF off drops its record (14 R462). -/
def execLatchCommit (s : State) : Host.Outcome State Fault Refusal :=
  done s (match s.meas.cur with
    | none => s
    | some l =>
      let seq := s.reg (pg 19 21) + 1
      let r := s.latchRecord l seq
      let t := { ((s.memReadN (stagingKey 0) r.length).2.2.setReg (pg 19 21) seq).setB (pg 19 3) 0 false with
        meas := { s.meas with cur := none, legWant := false } }
      let t := if s.pins.persona = .legacy ∨ (l.own = false ∧ l.src = 3) then
          (t.setRegs (pg 19 24) (rxtWords l.t)).raise 19 0
        else if l.lost = false ∧ s.prodIs s.lring 15 = true ∧ r.length ≤ s.ringRoom s.lring ∧ s.domOn 2 = true then
          ((t.ringPut s.lring r).setRegs (pg 19 24) (rxtWords l.t)).raise 19 0
        else ((if s.domOn 2 then t else t.unitFails 19).incSat (pg 19 23)).raise 19 2
      if s.meas.legWant then t.legacyLatch else t)

end Sys2Proof.Machine
end

