-- ==== Sys2Proof/Machine/Pulse.lean ====
section
/-! DEFINITION. Time pulses and the Hairline, and the event inputs (spec/07 R234 to R241, R249, R253, R254). -/

namespace Sys2Proof.Machine

/-- The key of word k of output n. -/
def tpKey (n k : Nat) : Nat := pg 17 (64 + 64 * n + k)

/-- The staged settings of output n (R235). -/
def State.tpStaged (s : State) (n : Nat) : TpSet :=
  { mode := s.fld (tpKey n 0) 2 1, pol := s.bit (tpKey n 0) 0, period := s.reg2 (tpKey n 1), phase := s.reg2 (tpKey n 3)
    phf := s.fld (tpKey n 5) 5 0, width := s.reg2 (tpKey n 6), dly := (s.reg (tpKey n 8)).toInt }

/-- The limits of R234. -/
def TpSet.ok (x : TpSet) : Bool :=
  decide (100 ≤ x.period) && decide (x.period ≤ 4000000000) && decide (x.phase < x.period) && decide (10 ≤ x.width)
    && decide (x.width + 10 ≤ x.period)

/-- The state of output n. -/
def State.tp (s : State) (n : Nat) : TpSt := s.tps.toList.getD n TpSt.reset

/-- Keeps the state of output n. -/
def State.setTp (s : State) (n : Nat) (x : TpSt) : State := { s with tps := s.tps.setIfInBounds n x }

/-- An accepted APPLY of output n (R235). -/
def State.applyTp (s : State) (n : Nat) (x : TpSet) : State :=
  (s.setB (pg 17 3) (4 + n) true).setTp n { s.tp n with staged := x, applyAt := s.extN + 10000 }

/-- HTABk of output n. -/
def State.tabWord (s : State) (n k : Nat) : Word := s.reg (tpKey n (16 + k))

/-- A write of HTAB of output n is about to be made: the edges placed in this cycle use the table before it (R238). -/
def State.noteTab (s : State) (n : Nat) : State :=
  let x := s.tp n
  if x.tabOld ≠ [] ∧ x.tabAt = s.extN then s
  else s.setTp n { x with tabOld := (List.range 40).map (s.tabWord n), tabAt := s.extN }

/-- The entry of tap k that governs an edge of output n in a tick (R238). -/
def State.tabAtTick (s : State) (n : Nat) (tick : Int) (k : Nat) : Word :=
  let x := s.tp n
  if tick ≤ (x.tabAt : Int) then x.tabOld.getD k (s.tabWord n k) else s.tabWord n k

/-- A write of TP.CTRL (R235, R238, R249). -/
def tpCtrl (w : Writer) (v : Word) (s : State) : Handler :=
  let ns := (List.range 4).filter fun n => bitOf v n
  { state := if s.legacyDual = true ∧ bitOf v 0 = true then eSTATE
      else if (ns.any fun n => s.bit (pg 17 3) (4 + n)) = true then eBUSY
      else if bitOf v 4 = true ∧ s.bit (pg 17 3) 8 = true then eBUSY else 0
    range := true
    extra := if (ns.all fun n => (s.tpStaged n).ok) then 0 else eCONFIG
    result :=
      let t := ns.foldl (fun t n => t.applyTp n (s.tpStaged n)) (s.plain w 17 2 v)
      if bitOf v 4 then t.setB (pg 17 3) 8 true else t }

/-- A write to a word of the TP page (R234, R238, R249). -/
def tpHandler (w : Writer) (wd : Nat) (v : Word) (s : State) : Handler :=
  if wd = 2 then tpCtrl w v s
  else if 64 ≤ wd ∧ wd < 320 then
    { state := if s.legacyDual = true ∧ wd < 128 then eSTATE
        else if 16 ≤ wd % 64 ∧ wd % 64 ≤ 55 ∧ s.bit (pg 17 3) 8 = true then eBUSY else 0
      range := true, extra := 0
      result := (if 16 ≤ wd % 64 ∧ wd % 64 ≤ 55 then s.noteTab ((wd - 64) / 64) else s).plain w 17 wd v }
  else headerHandler w 17 wd v s

/-- TP_APPLY (R235). -/
def execTpApply (w : Writer) (n : Fin 4) (v : Word) (s : State) : Host.Outcome State Fault Refusal :=
  done s (guarded w 17 2 (forceBit v n.val true) (tpCtrl w (forceBit v n.val true) s) s)

/-- New settings govern output n (R235, R236): a new POL takes effect between pulses, at least 10 ns after the last. -/
def State.takeTp (s : State) (n : Nat) (c : TpSet) : State :=
  let x := { s.tp n with cur := c }
  if x.pulse.isSome then s.setTp n x
  else
    match x.lastEnd with
    | some e => if s.extNs < e + 10 then s.setTp n { x with polAt := some (e + 10) }
        else s.setTp n { x with polAt := none, level := idleLevel c.pol }
    | none => s.setTp n { x with polAt := none, level := idleLevel c.pol }

/-- The staged settings of output n come into force at T_sw (R235, R236). -/
def State.tpTakes (s : State) (n : Nat) : State :=
  let t := (s.reachX (s.tp n).applyAt).setB (pg 17 3) (4 + n) false
  t.takeTp n (t.tp n).staged

/-- TP_APPLY_TAKE_EFFECT (R235, R236). -/
def execTpApplyTakeEffect (n : Fin 4) (s : State) : Host.Outcome State Fault Refusal :=
  done s (if s.bit (pg 17 3) (4 + n.val) = true ∧ s.time.on = true then s.tpTakes n.val else s)

/-- The tap whose calibrated delay lies nearest to a fraction in ps: tap and distance, ties to the earlier tap (R237). -/
def nearestTap (tab : Nat → Word) (ps : Rat) : Nat × Rat :=
  (List.range 40).foldl (fun b k =>
    let d := absQ (((tab k).toNat : Rat) / 8 - ps)
    if d < b.2 then (k, d) else b) (0, 1000000)

/-- The placement of an edge with an RXT target and a DLY in ps (R215, R237): the tick (without FRAC), the placed instant in
ns, and the RXT with the tap included, × 2^16. -/
def State.placeEdge (s : State) (n : Nat) (dly : Int) (target : Rat) : Int × Rat × Int :=
  let f : Rat := (s.time.frac : Rat) / 65536
  let v := target - (dly : Rat) / 1000 - f
  let tick := v.floor
  let tab := s.tabAtTick n tick
  let ps := (v - (tick : Rat)) * 1000
  let k := nearestTap tab ps
  let last := decide (1000 - ps < k.2)
  let tick' := if last then tick + 1 else tick
  let tap := if last then 0 else k.1
  (tick', (tick' : Rat) + f + ((tab tap).toNat : Rat) / 8000,
   tick' * 65536 + (s.time.frac : Int) + roundDiv ((tap * 65536 : Nat) : Int) 40)

/-- The RXT target of a grid instant T (R234). -/
def State.tpTarget (s : State) (n : Nat) (t : Rat) : Rat := if (s.tp n).cur.mode = 1 then t else s.rxtOfSys t

/-- The next grid instant of output n whose tick has not passed and has not been served (R234). -/
def State.nextGrid (s : State) (n : Nat) : Option Rat :=
  let x := s.tp n
  let a : Rat := (x.cur.phase : Rat) + (x.cur.phf : Rat) / 40
  let p : Rat := (x.cur.period : Rat)
  let now := s.extNs
  let tn := if x.cur.mode = 1 then now else s.sysOf now
  let k0 := ((tn + (x.cur.dly : Rat) / 1000 - a) / p).floor - 1
  ((List.range 6).map fun (i : Nat) => a + ((k0 + (i : Int) : Int) : Rat) * p).find? fun t =>
    let tick := (s.placeEdge n x.cur.dly (s.tpTarget n t)).1
    decide (now.floor ≤ tick) && (match x.doneTick with
      | some d => decide (d < tick)
      | none => true)

/-- Moves time to a tick on the extended scale. -/
def State.reachExt (s : State) (tick : Int) : State := s.reachX (tick % (extMod : Int)).toNat

/-- An APPLY of output n or a map application that comes into force at or before a tick, the earlier of the two, is taken
before the edge of that tick (R235, R248). -/
def State.beforeEdge (s : State) (n : Nat) : Nat → State
  | 0 => s
  | fuel + 1 =>
    if (s.tp n).cur.mode = 0 then s
    else
      match s.nextGrid n with
      | none => s
      | some g =>
        let tick := (s.placeEdge n (s.tp n).cur.dly (s.tpTarget n g)).1
        let a := s.bit (pg 17 3) (4 + n) && decide (((s.tp n).applyAt : Int) ≤ tick)
        let m := s.bit (pg 16 3) 2 && decide ((s.time.mapAt : Int) ≤ tick)
        if m = true ∧ (a = false ∨ s.time.mapAt ≤ (s.tp n).applyAt) then
          ((s.reachX s.time.mapAt).applyMap).beforeEdge n fuel
        else if a then (s.tpTakes n).beforeEdge n fuel
        else s

/-- The next active edge of output n (R234, R236, R237). -/
def State.activeEdge (s : State) (n : Nat) (g : Rat) : State :=
  let target := s.tpTarget n g
  let e := s.placeEdge n (s.tp n).cur.dly target
  let t := s.reachExt e.1
  let x := { t.tp n with doneTick := some e.1 }
  let close := x.pulse.isSome || (match x.lastEnd with
    | some q => decide (e.2.1 < q + 10)
    | none => false)
  if x.cur.mode = 3 ∧ t.bit (pg 16 3) 3 = false then t.setTp n x
  else if close then ((t.setTp n x).incSat (tpKey n 9)).raise 17 (4 + n)
  else
    let t := if n = 0 ∧ t.legacyDual = true then t.setB (pg lwinPage 3) 5 true else t
    (((t.setTp n { x with pulse := some (x.cur.pol, target + (x.cur.width : Rat), x.cur.dly), level := !idleLevel x.cur.pol
                          polAt := none }).setB
      (pg 17 3) n true).setRegs (tpKey n 10) (rxtWords (e.2.2 % 2 ^ 64).toNat)).raise 17 n

/-- TP_ACTIVE_EDGE (R234 to R237, R248). -/
def execTpActiveEdge (n : Fin 4) (s : State) : Host.Outcome State Fault Refusal :=
  done s (if (s.tp n.val).cur.mode = 0 ∨ s.time.on = false then s
    else
      let s := s.beforeEdge n.val 2
      if (s.tp n.val).cur.mode = 0 then s
      else
        match s.nextGrid n.val with
        | none => s
        | some g => s.activeEdge n.val g)

/-- TP_INACTIVE_EDGE (R234, R236, R237): the edge is placed as the active edge is, and the pulse ends at the inactive level of
the POL it began with. -/
def execTpInactiveEdge (n : Fin 4) (s : State) : Host.Outcome State Fault Refusal :=
  done s (match (s.tp n.val).pulse with
    | none => s
    | some (pol, target, dly) =>
      let e := s.placeEdge n.val dly target
      let t := s.reachExt e.1
      let x := t.tp n.val
      (t.setTp n.val { x with pulse := none, lastEnd := some e.2.1, level := idleLevel pol
                              polAt := if x.cur.pol = pol then none else some (e.2.1 + 10) }).setB (pg 17 3) n.val false)

/-- HAIRLINE_CALIBRATE (R238). -/
def execHairlineCalibrate (w : Writer) (v : Word) (s : State) : Host.Outcome State Fault Refusal :=
  done s (guarded w 17 2 (forceBit v 4 true) (tpCtrl w (forceBit v 4 true) s) s)

/-- HAIRLINE_CAL_DONE (R238): the measured delays of the 160 taps, output by output. -/
def execHairlineCalDone (taps : List (BitVec 13)) (s : State) : Host.Outcome State Fault Refusal :=
  done s (if s.bit (pg 17 3) 8 then
      let t := (List.range 160).foldl (fun t i =>
        match taps[i]? with
        | some d => t.setReg (tpKey (i / 40) (16 + i % 40)) (wordOf (min 7999 d.toNat))
        | none => t) ((List.range 4).foldl State.noteTab s)
      (t.setB (pg 17 3) 8 false).raise 17 11
    else s)

/-! ### Event inputs (R239 to R241) -/

/-- A write to a word of the EVT page (R240). -/
def evtHandler (w : Writer) (wd : Nat) (v : Word) (s : State) : Handler :=
  if wd = 16 then
    { state := 0, range := true, extra := if bitOf v 6 = true ∧ s.prodIs (fieldOf v 5 0) 16 = false then eCONFIG else 0
      result := s.plain w 18 16 v }
  else headerHandler w 18 wd v s

/-- The timestamp of an edge seen at the present tick and a tap, less EDLYn (R215, R239). -/
def State.edgeTime (s : State) (n tap : Nat) : Nat :=
  let q := roundDiv (((tap * 25 : Nat) : Int) - (s.reg (pg 18 (32 + n))).toInt) 25
  (((s.rxt : Int) + q / 40 * 65536 + roundDiv (q % 40 * 65536) 40) % 2 ^ 64).toNat

/-- The level of TPn; floating while TIME is off (14 R480). -/
def State.tpPin (s : State) (n : Fin 4) : Option Bool := if s.domOn 15 then some s.tps[n.val].level else none

/-- Keeps the FIFO and reports its length. -/
def State.setFifo (s : State) (l : List EvEntry) (lost : Bool) : State :=
  { s.setReg (pg 18 3) (wordOf l.length) with ev := { s.ev with fifo := l, lost := lost } }

/-- EVENT_EDGE (R239 to R241): an edge at the ball, in the present tick at a tap. -/
def execEventEdge (n : Fin 8) (rising : Bool) (tap : Fin 40) (s : State) : Host.Outcome State Fault Refusal :=
  let sel := s.reg (pg 18 (24 + n.val))
  done s (if s.time.on = true ∧ s.domOn 15 = true ∧ bitOf sel (if rising then 0 else 1) = true then
      let t := s.edgeTime n.val tap.val
      let seq := s.reg (pg 18 17) + 1
      let u := ((s.setReg (pg 18 17) seq).setRegs (pg 18 (40 + 4 * n.val)) (rxtWords t)).raise 18 n.val
      let u := if 32 ≤ s.ev.fifo.length then ((u.incSat (pg 18 18)).raise 18 8).setFifo s.ev.fifo true
        else u.setFifo (s.ev.fifo ++ [⟨n.val, rising, s.ev.lost, seq, t⟩]) false
      if s.bit (pg 19 2) 2 = true ∧ s.fld (pg 19 2) 5 3 = n.val then u.trigger 2 n.val t else u
    else s)

/-- EVENT_FIFO_MOVE (R240): a record of six words, when the event unit produces the ring and it has room. With HIF off it stays
in the FIFO (14 R462). -/
def execEventFifoMove (s : State) : Host.Outcome State Fault Refusal :=
  let r := s.fld (pg 18 16) 5 0
  done s (match s.ev.fifo with
    | [] => s
    | e :: l =>
      if s.bit (pg 18 16) 6 = true ∧ s.prodIs r 16 = true ∧ 6 ≤ s.ringRoom r then
        if s.domOn 2 then
          (s.ringPut r ([wordOf (e.input * 32768 + (if e.rising then 1 else 2) * 8192 + b2n e.ovr * 4096), e.seq]
            ++ rxtWords e.t)).setFifo l s.ev.lost
        else s.unitFails 18
      else s)

end Sys2Proof.Machine
end

