-- ==== Sys2Proof/Machine/Blotter.lean ====
section
/-! DEFINITION. Memory errors, the Blotter and retention (spec/11): write-backs, Quire timeouts, the sweep with its
borrows, exclusion ranges, the retention of banks and the LOST report. -/

namespace Sys2Proof.Machine

/-- ECC_WRITEBACK (R370): the write-back of the oldest waiting correction; one in the Quire counts in WBC. -/
def execEccWriteback (s : State) : Host.Outcome State Fault Refusal :=
  done s (match s.blot.wb with
    | [] => s
    | k :: r =>
      let t := { s with blot := { s.blot with wb := r, eccBad := s.blot.eccBad.del k } }
      if (memOf k).1 = 9 then t.incSat (pg 42 28) else t)

/-! ### The Quire's timeout (R376) -/

/-- Class and unit of a requester, as QTMOR gives them (R391). -/
def qreqCode : QReq → Nat × Nat
  | .rank r _ => (0, r.val)
  | .core c => (1, c.val)
  | .host q => (2, q.val)
  | .blotter => (3, 0)

/-- The Quire word that an address reaches, in its own region or as a context word through a channel page (04 R124). -/
def quireWord (a : Nat) : Option Nat :=
  if quireBase ≤ a ∧ a < quireBase + 32768 then some (a - quireBase)
  else if pageAddr 512 0 ≤ a ∧ 64 ≤ (a - pageAddr 0 0) % 1024 ∧ (a - pageAddr 0 0) % 1024 < 128 then
    some (64 * ((a - pageAddr 512 0) / 1024) + ((a - pageAddr 0 0) % 1024 - 64))
  else none

/-- What the timeout does to the requester: a stalled store of a core is discarded and its load of the word will return 0
(08 R281); a posted write that waits at the head of its buffer is discarded; a rank faults its channel. -/
def State.quireTimedOut (s : State) (q : QReq) (o : Nat) : State :=
  match q with
  | .rank _ c => s.chanFault c.val 5
  | .core c =>
    let x := s.cores[c.val]
    let drop := match x.stallW with
      | some w => quireWord w.1.toNat == some o
      | none => false
    let x := if drop then { x with stallW := none, wod := false } else { x with qTmo := some o }
    { s with cores := s.cores.set c.val x }.coreErr c.val eTIMEOUT
  | .host q =>
    let x := s.sess[q.val]
    let t := match x.post with
      | (a, _) :: r => if quireWord a.toNat = some o then { s with sess := s.sess.set q.val { x with post := r } } else s
      | [] => s
    let a := match x.post with
      | (a, _) :: _ => if quireWord a.toNat = some o then a.toNat else quireBase + o
      | [] => quireBase + o
    t.sesErr q.val eTIMEOUT a
  | .blotter => s

/-- QUIRE_ACCESS_TIMEOUT (R376). -/
def execQuireAccessTimeout (q : QReq) (o : BitVec 15) (s : State) : Host.Outcome State Fault Refusal :=
  let t := (s.incSat (pg 42 17)).raise 42 0
  let t := if t.bit (pg 42 18) 17 then t
    else (t.setReg (pg 42 18) (wordOf (131072 + (qreqCode q).1 * 32768 + (qreqCode q).2 * 4096))).setReg (pg 42 19) (wordOf o.toNat)
  done s (t.quireTimedOut q o.toNat)

/-- A write to a word of the QUIRE page: a clear of QTMOR.VALID zeroes QTMOR and QTMOA (R391). -/
def quireHandler (w : Writer) (wd : Nat) (v : Word) (s : State) : Handler :=
  if wd = 18 then
    { state := 0, range := true, extra := 0
      result := if bitOf v 17 then (s.setReg (pg 42 18) 0).setReg (pg 42 19) 0 else s }
  else headerHandler w 42 wd v s

/-! ### The sweep (R379 to R384) -/

/-- Regions of memory m. -/
def regionsOf (m : Nat) : Nat := memSize m / 64

/-- The buffer of an enabled ring with a hardware unit at either end overlaps words lo to below hi of shared RAM (R381). -/
def State.ringHolds (s : State) (lo hi : Nat) : Bool :=
  (List.range 64).any fun r =>
    let b := s.fld (ringKey r 1) 12 0 * 64
    let hw := fun u => decide (12 ≤ u ∧ u ≤ 19)
    s.ringOn r && (hw (s.ringProd r) || hw (s.ringCons r)) && decide (b < hi) && decide (lo < b + s.ringSize r)

/-- A channel that holds slots has its context or extension context in region c of the Quire (R377). -/
def State.contextActive (s : State) (c : Nat) : Bool :=
  holdsSlots (s.chState c) || (s.bit (chKey c 16) 17 && holdsSlots (s.chState (c - 1)))

/-- An enabled exclusion range overlaps words lo to below hi of memory m (R382). -/
def State.excluded (s : State) (m lo hi : Nat) : Bool :=
  s.blot.excl.any fun e => e.1 / 8 == m && decide (e.2.1 < hi) && decide (lo ≤ e.2.2)

/-- The Blotter may borrow region r of memory m (R379, R381, R383; 03 R108; 06 R190). -/
def State.mayBorrow (s : State) (m r : Nat) : Bool :=
  let lo := 64 * r
  let hi := lo + 64
  s.bit (pg 43 16) m && s.domOn (memDomain m) && !s.blot.skip.contains (m, r) && !s.excluded m lo hi
  && !(m == 8 && s.ringHolds lo hi) && !(m == 9 && s.contextActive r)
  && !(m == 10 && (List.range 64).any fun i => s.exmpInUse (lo + i))
  && !(m == 11 && s.scr.jobs.any fun j => j.phase == .running)
  && !(m == 12 && (s.jobReads lo hi || (List.range 64).any fun i => s.captureHolds (lo + i)))
  && !s.lost (memKey m lo)

/-- The first region of memory m from region r on that may be borrowed, among `n`. -/
def State.findRegion (s : State) (m r : Nat) : Nat → Option Nat
  | 0 => none
  | n + 1 => if s.mayBorrow m r then some r else s.findRegion m (r + 1) n

/-- The next region of the sweep: in memory m from region r on, then in the memories above, among `n` memories. -/
def State.findBorrow (s : State) (m r : Nat) : Nat → Option (Nat × Nat)
  | 0 => none
  | n + 1 =>
    let found := if s.bit (pg 43 16) m && s.domOn (memDomain m) then s.findRegion m r (regionsOf m - r) else none
    match found with
    | some x => some (m, x)
    | none => s.findBorrow (m + 1) 0 n

/-- The next region of the sweep, if one is left. -/
def State.nextBorrow (s : State) : Option (Nat × Nat) :=
  s.findBorrow s.blot.next.1 s.blot.next.2 (14 - s.blot.next.1)

/-- A new sweep begins. -/
def State.newSweep (s : State) : State := { s with blot := { s.blot with next := (0, 0), skip := [] } }

/-- The sweep ends when no region is left in it (R379). -/
def State.endSweep (s : State) : State :=
  match s.nextBorrow with
  | some _ => s
  | none => ((s.inc (pg 43 21)).raise 43 0).newSweep

/-- BLOTTER_BORROW (R379, R380, R384): the save reads the region; a load reservation in it ends (09 R315). -/
def execBlotterBorrow (s : State) : Host.Outcome State Fault Refusal :=
  done s (
    if s.bit (pg 43 2) 0 = false ∨ s.domOn 2 = false ∨ s.blot.borrow.isSome = true then s
    else
      match s.nextBorrow with
      | none => s.endSweep
      | some (m, r) =>
        let l := s.memReadN (memKey m (64 * r)) 64
        let t := l.2.2
        let t := ((t.setReg (pg 43 18) (wordOf m)).setReg2 (pg 43 19) (64 * r)).setB (pg 43 3) 0 true
        let g := memKey m (64 * r) / 8
        let ended := fun c => (List.range 8).foldl (fun (c : Core) i => c.clearResv (g + i)) c
        { t with blot := { t.blot with borrow := some (m, r, l.1), restoring := false, next := (m, r + 1) }
                 cores := t.cores.map ended })

/-- The region is written back: the corrected words lose their errors (R384) (log 44). -/
def State.restoreRegion (s : State) (m r : Nat) : State :=
  let lo := memKey m (64 * r)
  let in_ := fun k => decide (lo ≤ k) && decide (k < lo + 64)
  { s.setB (pg 43 3) 0 false with
    blot := { s.blot with borrow := none, restoring := false, eccBad := s.blot.eccBad.filter fun e => !(in_ e.1 && !e.2)
                          wb := s.blot.wb.filter fun k => !in_ k } }

/-- A word with a failing cell after its restore: it may carry no error, a correctable one, or an uncorrectable one with its
data open (R384). -/
def State.failingCell (s : State) (key : Nat) : State :=
  let e := s.free
  let v := e.2.free
  if e.1 % 3 = 0 then e.2
  else if e.1 % 3 = 1 then { e.2 with blot := { e.2.blot with eccBad := e.2.blot.eccBad.put key false } }
  else { v.2 with mem := v.2.mem.put key (wordOf v.1), blot := { v.2.blot with eccBad := v.2.blot.eccBad.put key true } }

/-- The first wrong read of a march is recorded (R384). -/
def State.marchFail (s : State) (m r : Nat) (f : MarchFail) : State :=
  let off := 64 * r + f.word.val
  let t := (s.failingCell (memKey m off)).raise 43 2
  if t.bit (pg 43 24) 17 then t
  else ((((t.setReg (pg 43 24) (wordOf (131072 + m))).setReg2 (pg 43 25) off).setReg (pg 43 27) (wordOf f.data.toNat)).setReg
    (pg 43 28) (wordOf f.check.toNat))

/-- BLOTTER_BORROW_DONE (R379, R380, R384). -/
def execBlotterBorrowDone (fail : Option MarchFail) (s : State) : Host.Outcome State Fault Refusal :=
  done s (match s.blot.borrow with
    | none => s
    | some (m, r, _) =>
      if s.blot.restoring then s
      else
        let t := s.restoreRegion m r
        (match fail with
          | some f => t.marchFail m r f
          | none => t).endSweep)

/-- BLOTTER_ABORT (R383). -/
def execBlotterAbort (s : State) : Host.Outcome State Fault Refusal := done s s.abortBorrow

/-- BLOTTER_RESTORE_DONE (R383): the region is skipped until the next sweep. -/
def execBlotterRestoreDone (s : State) : Host.Outcome State Fault Refusal :=
  done s (match s.blot.borrow with
    | none => s
    | some (m, r, _) =>
      if s.blot.restoring = false then s
      else
        let t := ((s.restoreRegion m r).incSat (pg 43 22)).raise 43 1
        if s.blot.skip.contains (m, r) then (t.incSat (pg 43 23)).endSweep else t)

/-! ### The BLOT page (R379, R382, R383, R392) -/

/-- A write of CTRL: EN = 0 and RESTART abort a borrow; RESTART begins a new sweep. -/
def blotCtrl (w : Writer) (v : Word) (s : State) : Handler :=
  let t := s.plain w 43 2 v
  { state := 0, range := true, extra := 0
    result := if bitOf v 1 then t.abortBorrow.newSweep else if bitOf v 0 then t else t.abortBorrow }

/-- A write of XCTL: the held range applies to the selected one. -/
def xctlHandler (w : Writer) (v : Word) (s : State) : Handler :=
  let m := s.fld (pg 43 32) 7 4
  let k := 8 * m + s.fld (pg 43 32) 2 0
  let lo := s.reg2 (pg 43 34)
  let hi := s.reg2 (pg 43 36)
  let t := s.plain w 43 33 v
  { state := 0, range := decide (lo ≤ hi) && decide (hi < memSize m), extra := 0
    result := if bitOf v 17 then { t with blot := { t.blot with excl := t.blot.excl.put k (lo, hi) } }.abortRange m lo (hi + 1)
      else { t with blot := { t.blot with excl := t.blot.excl.del k } } }

/-- Zeroes n words from a key on. -/
def State.zeroRegs (s : State) (key n : Nat) : State := s.setRegs key (List.replicate n 0)

/-- A write to a word of the BLOT page. -/
def blotHandler (w : Writer) (wd : Nat) (v : Word) (s : State) : Handler :=
  if wd = 2 then blotCtrl w v s
  else if wd = 24 then
    { state := 0, range := true, extra := 0, result := if bitOf v 17 then s.zeroRegs (pg 43 24) 5 else s }
  else if wd = 33 then xctlHandler w v s
  else if 64 ≤ wd ∧ wd < 128 ∧ wd % 4 = 2 then
    { state := 0, range := true, extra := 0, result := if bitOf v 17 then s.zeroRegs (pg 43 wd) 2 else s }
  else headerHandler w 43 wd v s

/-- BLOTTER_RESTART (R379). -/
def execBlotterRestart (w : Writer) (v : Word) (s : State) : Host.Outcome State Fault Refusal :=
  done s (guarded w 43 2 (forceBit v 1 true) (blotCtrl w (forceBit v 1 true) s) s)

/-- EXCLUSION_APPLY (R382). -/
def execExclusionApply (w : Writer) (v : Word) (s : State) : Host.Outcome State Fault Refusal :=
  done s (guarded w 43 33 v (xctlHandler w v s) s)

/-! ### Retention (R385 to R389) -/

/-- A write to a word of the RETN page: a 1 to a bank's LOST bit acknowledges the bank (R388). -/
def retnHandler (w : Writer) (wd : Nat) (v : Word) (s : State) : Handler := headerHandler w 44 wd v s

/-- LOST_ACKNOWLEDGE (R388). -/
def execLostAcknowledge (w : Writer) (high : Bool) (v : Word) (s : State) : Host.Outcome State Fault Refusal :=
  let wd := if high then 20 else 21
  done s (guarded w 44 wd v (retnHandler w wd v s) s)

/-- The home domain of a bank (R385). -/
def bankDomain (b : Nat) : Nat :=
  if b < 4 then 11 + b else if b < 8 then 7 + b else if b < 16 then 2 else if b < 25 then 10 else 1

/-- The words of a bank or an unbanked memory are lost: they hold undefined data and check bits from now on (R372, R389). -/
def State.forget (s : State) (key n : Nat) : State :=
  let in_ := fun k => decide (key ≤ k) && decide (k < key + n)
  { s with mem := s.mem.filter fun e => !in_ e.1
           memEpoch := s.memEpoch + 1
           blot := { s.blot with eccBad := s.blot.eccBad.filter fun e => !in_ e.1 } }

/-- The decode entries of core c read VALID = 0 (09 R336). -/
def State.clearEntries (s : State) (c : Nat) : State := s.zeroRegs (pg 49 (32 + 16 * c)) 16

/-- A bank's contents are lost at power-down. -/
def State.forgetBank (s : State) (b : Nat) : State :=
  let t := s.forget (bankRange b).1 (bankRange b).2
  if b < 4 then (t.forget (rubrKey b 0) 1024).clearEntries b else t

/-- Bit b of a bank mask set or cleared. -/
def setMaskBit (x : BitVec 26) (b : Nat) (v : Bool) : BitVec 26 :=
  if v then x ||| BitVec.ofNat 26 (2 ^ b) else x &&& ~~~ BitVec.ofNat 26 (2 ^ b)

/-- A bank at the switch-off of its domain: retained with its signature, or lost (R386, R389). -/
def State.bankOff (s : State) (b : Nat) : State :=
  let keep := s.retnBit 16 b
  let sign := keep && s.retnBit 18 b
  let t := if sign then s.setReg2 (pg 44 (32 + 2 * b)) (s.signature b).toNat else s
  let t := { t with blot := { t.blot with held := setMaskBit t.blot.held b keep, signed := setMaskBit t.blot.signed b sign
                                          mon := setMaskBit t.blot.mon b false } }
  if keep then t else t.forgetBank b

/-- A bank at the power-up of its domain: its monitor, then, with SIGEN as it stands then, its signature (R387, R388). -/
def State.bankOn (s : State) (b : Nat) : State :=
  let held := s.blot.held.getLsbD b
  let mon := held && s.blot.mon.getLsbD b
  let bad := held && !mon && s.retnBit 18 b && (s.signature b).toNat != s.reg2 (pg 44 (32 + 2 * b))
  let t := (s.setRetnBit 22 b mon).setRetnBit 24 b bad
  let t := if mon || bad then (t.setRetnBit 20 b true).raise 44 0 else t
  { t with blot := { t.blot with held := setMaskBit t.blot.held b false, signed := setMaskBit t.blot.signed b false
                                 mon := setMaskBit t.blot.mon b false } }

/-- The banks of a domain. -/
def banksOf (d : Nat) : List Nat := (List.range 26).filter fun b => bankDomain b == d

/-- A reservation whose granule is among those given ends (09 R315). -/
def Core.endResv (c : Core) (p : Nat → Bool) : Core :=
  match c.resv with
  | some g => if p g then { c with resv := none } else c
  | none => c

/-- The memories of a domain at its switch-off: a borrow in them ends with its restore, waiting corrections are dropped,
load reservations in them end (R315, R383), banks are retained or lost, and memories without banks are lost. -/
def State.memOff (s : State) (d : Nat) : State :=
  let here := fun k => memDomain (memOf k).1 == d
  let t := { s with blot := { s.blot with wb := s.blot.wb.filter fun k => !here k }
                    cores := s.cores.map fun (c : Core) => c.endResv fun g => here (8 * g) }
  let t := match t.blot.borrow with
    | some (m, r, _) => if memDomain m = d then
        (((t.abortBorrow.restoreRegion m r).incSat (pg 43 22)).raise 43 1).incSat (pg 43 23) else t
    | none => t
  let t := (banksOf d).foldl State.bankOff t
  if d = 8 then (t.forget scrpBase 1048576) else if d = 9 then t.forget inkwBase 4194304 else t

/-- The memories of a domain at its power-up. -/
def State.memOn (s : State) (d : Nat) : State := (banksOf d).foldl State.bankOn s

/-- Some bank of the domain is retained (R386; 14 R460). -/
def State.retains (s : State) (d : Nat) : Bool := (banksOf d).any fun b => s.retnBit 16 b

/-- RETENTION_MONITOR_TRIP (R387): the monitor of a retained bank trips while its domain is off. -/
def execRetentionMonitorTrip (b : Fin 26) (s : State) : Host.Outcome State Fault Refusal :=
  done s (if s.blot.held.getLsbD b.val = true ∧ s.domOn (bankDomain b.val) = false then
      { s with blot := { s.blot with mon := setMaskBit s.blot.mon b.val true } }
    else s)

end Sys2Proof.Machine
end

