-- ==== Sys2Proof/Machine/Crypto.lean ====
section
/-! DEFINITION. The check values of images and settings (spec/15 R492): CRC-32 of IEEE 802.3, SHA-256 (FIPS 180-4), ECDSA
over P-256 with SHA-256 (FIPS 186-4). The manual names the standards; their constants are taken from them (log 13). -/

namespace Sys2Proof.Machine

/-! ### Numbers in bytes -/

/-- The number of a list of bytes, least significant byte first. -/
def leNum : List Byte → Nat
  | [] => 0
  | b :: r => b.toNat + 256 * leNum r

/-- The number of a list of bytes, most significant byte first. -/
def beNum (l : List Byte) : Nat := l.foldl (fun n b => n * 256 + b.toNat) 0

/-- n bytes of a number, least significant byte first. -/
def leBytes (x : Nat) : Nat → List Byte
  | 0 => []
  | n + 1 => BitVec.ofNat 8 x :: leBytes (x / 256) n

/-- n bytes of a number, most significant byte first. -/
def beBytes (x n : Nat) : List Byte := (leBytes x n).reverse

/-! ### CRC-32 -/

/-- Eight shifts of the reflected register. -/
def crcShift (c : BitVec 32) : Nat → BitVec 32
  | 0 => c
  | n + 1 => crcShift (if c.getLsbD 0 then (c >>> 1) ^^^ 0xedb88320 else c >>> 1) n

/-- CRC-32 of a list of bytes (R492). -/
def crc32 (l : List Byte) : Nat :=
  (~~~ (l.foldl (fun c b => crcShift (c ^^^ b.setWidth 32) 8) (BitVec.allOnes 32))).toNat

/-! ### SHA-256 -/

/-- The round constants. -/
def shaK : List (BitVec 32) :=
  [0x428a2f98, 0x71374491, 0xb5c0fbcf, 0xe9b5dba5, 0x3956c25b, 0x59f111f1, 0x923f82a4, 0xab1c5ed5]
    ++ [0xd807aa98, 0x12835b01, 0x243185be, 0x550c7dc3, 0x72be5d74, 0x80deb1fe, 0x9bdc06a7, 0xc19bf174]
    ++ [0xe49b69c1, 0xefbe4786, 0x0fc19dc6, 0x240ca1cc, 0x2de92c6f, 0x4a7484aa, 0x5cb0a9dc, 0x76f988da]
    ++ [0x983e5152, 0xa831c66d, 0xb00327c8, 0xbf597fc7, 0xc6e00bf3, 0xd5a79147, 0x06ca6351, 0x14292967]
    ++ [0x27b70a85, 0x2e1b2138, 0x4d2c6dfc, 0x53380d13, 0x650a7354, 0x766a0abb, 0x81c2c92e, 0x92722c85]
    ++ [0xa2bfe8a1, 0xa81a664b, 0xc24b8b70, 0xc76c51a3, 0xd192e819, 0xd6990624, 0xf40e3585, 0x106aa070]
    ++ [0x19a4c116, 0x1e376c08, 0x2748774c, 0x34b0bcb5, 0x391c0cb3, 0x4ed8aa4a, 0x5b9cca4f, 0x682e6ff3]
    ++ [0x748f82ee, 0x78a5636f, 0x84c87814, 0x8cc70208, 0x90befffa, 0xa4506ceb, 0xbef9a3f7, 0xc67178f2]

/-- The initial hash value. -/
def shaH : List (BitVec 32) := [0x6a09e667, 0xbb67ae85, 0x3c6ef372, 0xa54ff53a, 0x510e527f, 0x9b05688c, 0x1f83d9ab, 0x5be0cd19]

/-- Element i of a list of words. -/
def at32 (l : List (BitVec 32)) (i : Nat) : BitVec 32 := l.getD i 0

/-- The message schedule, newest word first, from the sixteen words of the block, newest first. -/
def shaSchedule (w : List (BitVec 32)) : Nat → List (BitVec 32)
  | 0 => w
  | n + 1 =>
    let a := at32 w 14
    let b := at32 w 1
    let s0 := a.rotateRight 7 ^^^ a.rotateRight 18 ^^^ (a >>> 3)
    let s1 := b.rotateRight 17 ^^^ b.rotateRight 19 ^^^ (b >>> 10)
    shaSchedule ((s1 + at32 w 6 + s0 + at32 w 15) :: w) n

/-- One round on the eight working variables. -/
def shaRound (v : List (BitVec 32)) (kw : BitVec 32 × BitVec 32) : List (BitVec 32) :=
  let a := at32 v 0
  let e := at32 v 4
  let s1 := e.rotateRight 6 ^^^ e.rotateRight 11 ^^^ e.rotateRight 25
  let ch := (e &&& at32 v 5) ^^^ (~~~ e &&& at32 v 6)
  let t1 := at32 v 7 + s1 + ch + kw.1 + kw.2
  let s0 := a.rotateRight 2 ^^^ a.rotateRight 13 ^^^ a.rotateRight 22
  let mj := (a &&& at32 v 1) ^^^ (a &&& at32 v 2) ^^^ (at32 v 1 &&& at32 v 2)
  [t1 + (s0 + mj), a, at32 v 1, at32 v 2, at32 v 3 + t1, e, at32 v 5, at32 v 6]

/-- The 32-bit words of a list of bytes. -/
def words32 (l : List Byte) : Nat → List (BitVec 32)
  | 0 => []
  | n + 1 => BitVec.ofNat 32 (beNum (l.take 4)) :: words32 (l.drop 4) n

/-- One block of 64 bytes. -/
def shaBlock (h : List (BitVec 32)) (l : List Byte) : List (BitVec 32) :=
  let w := (shaSchedule (words32 l 16).reverse 48).reverse
  List.zipWith (· + ·) h ((shaK.zip w).foldl shaRound h)

/-- n blocks. -/
def shaBlocks (h : List (BitVec 32)) (l : List Byte) : Nat → List (BitVec 32)
  | 0 => h
  | n + 1 => shaBlocks (shaBlock h (l.take 64)) (l.drop 64) n

/-- SHA-256 of a list of bytes: 32 bytes. -/
def sha256 (l : List Byte) : List Byte :=
  let n := l.length
  let pad := l ++ [0x80] ++ List.replicate ((119 - n % 64) % 64) 0 ++ beBytes (8 * n) 8
  (shaBlocks shaH pad (pad.length / 64)).flatMap fun x => beBytes x.toNat 4

/-! ### ECDSA over P-256 -/

/-- The field prime. -/
def ecP : Nat := 0xffffffff00000001000000000000000000000000ffffffffffffffffffffffff
/-- The curve's b; a is −3. -/
def ecB : Nat := 0x5ac635d8aa3a93e7b3ebbd55769886bc651d06b0cc53b0f63bce3c3e27d2604b
/-- The order of the base point. -/
def ecN : Nat := 0xffffffff00000000ffffffffffffffffbce6faada7179e84f3b9cac2fc632551

/-- A point; none is the point at infinity. -/
abbrev EcPoint := Option (Nat × Nat)

/-- The base point. -/
def ecG : EcPoint :=
  some (0x6b17d1f2e12c4247f8bce6e563a440f277037d812deb33a0f4a13945d898c296,
    0x4fe342e2fe1a7f9b8ee7eb4a7c0f9e162bce33576b315ececbb6406837bf51f5)

/-- x^e modulo m, from the low n bits of e. -/
def powMod (m x e : Nat) : Nat → Nat
  | 0 => 1 % m
  | n + 1 => (if e % 2 = 1 then x else 1) * powMod m (x * x % m) (e / 2) n % m

/-- The inverse modulo a prime. -/
def invMod (m x : Nat) : Nat := powMod m (x % m) (m - 2) 256

/-- a − b modulo m. -/
def subMod (m a b : Nat) : Nat := (a + m - b % m) % m

/-- The sum of two points. -/
def ecAdd (a b : EcPoint) : EcPoint :=
  match a, b with
  | none, q => q
  | p, none => p
  | some (x1, y1), some (x2, y2) =>
    if x1 = x2 ∧ (y1 + y2) % ecP = 0 then none
    else
      let l := if x1 = x2 then (3 * x1 * x1 + ecP - 3) * invMod ecP (2 * y1) % ecP
        else subMod ecP y2 y1 * invMod ecP (subMod ecP x2 x1) % ecP
      let x := subMod ecP (l * l) (x1 + x2)
      some (x, subMod ecP (l * subMod ecP x1 x) y1)

/-- The multiple of a point by the low n bits of k. -/
def ecMul (q : EcPoint) (k : Nat) : Nat → EcPoint
  | 0 => none
  | n + 1 => ecAdd (if k % 2 = 1 then q else none) (ecMul (ecAdd q q) (k / 2) n)

/-- The signature r, s is valid for the message under the public key X, Y, each 32 bytes, most significant byte first. -/
def ecdsaValid (key msg sig : List Byte) : Bool :=
  let x := beNum (key.take 32)
  let y := beNum ((key.drop 32).take 32)
  let r := beNum (sig.take 32)
  let s := beNum ((sig.drop 32).take 32)
  let onCurve := decide (x < ecP ∧ y < ecP) && (y * y) % ecP == (x * x * x + (ecP - 3) * x + ecB) % ecP
  let z := beNum (sha256 msg)
  let w := invMod ecN s
  onCurve && decide (1 ≤ r ∧ r < ecN ∧ 1 ≤ s ∧ s < ecN)
    && match ecAdd (ecMul ecG (z * w % ecN) 256) (ecMul (some (x, y)) (r * w % ecN) 256) with
      | some (v, _) => v % ecN == r
      | none => false

end Sys2Proof.Machine
end

