-- ==== Sys2Proof/Machine/Flash.lean ====
section
/-! DEFINITION. The external flash and the fuses (spec/15 R489 to R497, R512, R517): reading and writing flash bytes, the
active-slot record, settings copies, OTP rows and the life-cycle state. -/

namespace Sys2Proof.Machine

/-! ### Flash bytes -/

/-- A flash byte (R490, log 8). -/
def State.flashByte (s : State) (a : Nat) : Byte := (s.upd.flash.get? a).getD (Config.flashByte a)

/-- n flash bytes from an address on. -/
def State.flashRead (s : State) (a : Nat) : Nat → List Byte
  | 0 => []
  | n + 1 => s.flashByte a :: s.flashRead (a + 1) n

/-- Little-endian number of n flash bytes. -/
def State.flashNum (s : State) (a n : Nat) : Nat := leNum (s.flashRead a n)

/-- Puts bytes into the flash from an address on. -/
def State.flashWrite (s : State) (a : Nat) : List Byte → State
  | [] => s
  | b :: r => { s with upd := { s.upd with flash := s.upd.flash.put a b } }.flashWrite (a + 1) r

/-- Bytes followed by erased bytes up to the end of a 4 KiB sector. -/
def sectorPad (l : List Byte) : List Byte := l ++ List.replicate ((4096 - l.length % 4096) % 4096) 0xff

/-- n free bytes (log 1). -/
def State.freeBytes (s : State) : Nat → List Byte × State
  | 0 => ([], s)
  | n + 1 =>
    let r := s.free
    let t := r.2.freeBytes n
    (BitVec.ofNat 8 r.1 :: t.1, t.2)

/-- n flash bytes whose erase or program was not finished: their contents are not known (15 R511). -/
def State.flashBroken (s : State) (a n : Nat) : State :=
  let r := s.freeBytes n
  r.2.flashWrite a r.1

/-- GEN a is later than b (R497). -/
def genLater (a b : Nat) : Bool :=
  let d := (a + 2 ^ 32 - b) % 2 ^ 32
  decide (1 ≤ d ∧ d ≤ 2 ^ 31 - 1)

/-- The valid copy with the later generation, from the generations of the valid copies 0 and 1. Where neither is later the
manual names no copy, and the choice is free (log 15). -/
def State.laterCopy (s : State) (a b : Option Nat) : Option Nat :=
  match a, b with
  | none, none => none
  | some _, none => some 0
  | none, some _ => some 1
  | some x, some y => if genLater x y then some 0 else if genLater y x then some 1 else some (Config.freeNat s.freeCtr % 2)

/-! ### The active-slot record (R496, R497) -/

/-- A record. -/
structure Rec where
  gen : Nat
  active : Nat
  trial : Bool
  tries : Nat
  fbk : Bool
  recov : Bool
  imgver : Nat
  deriving DecidableEq, Repr

/-- Flash offset of copy k. -/
def recAddr (k : Nat) : Nat := 4096 * k

/-- The 32 bytes of a record. -/
def Rec.bytes (r : Rec) : List Byte :=
  let b := leBytes 0x544C5341 4 ++ leBytes r.gen 4
    ++ [BitVec.ofNat 8 r.active, BitVec.ofNat 8 (b2n r.trial), BitVec.ofNat 8 r.tries, BitVec.ofNat 8 (b2n r.fbk + 2 * b2n r.recov)]
    ++ leBytes r.imgver 4 ++ List.replicate 12 0
  b ++ leBytes (crc32 b) 4

/-- Reads of part i of the flash time out in the boot under way (R489; log 23). -/
def State.muted (s : State) (i : Nat) : Bool := s.upd.mute.getLsbD i

/-- A copy, when it can be read and is valid. -/
def State.recCopy (s : State) (k : Nat) : Option Rec :=
  let a := recAddr k
  let r : Rec :=
    { gen := s.flashNum (a + 4) 4, active := s.flashNum (a + 8) 1, trial := s.flashNum (a + 9) 1 == 1
      tries := s.flashNum (a + 10) 1, fbk := (s.flashByte (a + 11)).getLsbD 0, recov := (s.flashByte (a + 11)).getLsbD 1
      imgver := s.flashNum (a + 12) 4 }
  if s.muted k = false ∧ s.flashNum a 4 = 0x544C5341 ∧ crc32 (s.flashRead a 28) = s.flashNum (a + 28) 4 ∧ r.active ≤ 1 ∧ s.flashNum (a + 9) 1 ≤ 1
      ∧ r.tries ≤ 3 then some r else none

/-- The current record and the copy that holds it. -/
def State.curRec (s : State) : Option (Nat × Rec) :=
  match s.laterCopy ((s.recCopy 0).map Rec.gen) ((s.recCopy 1).map Rec.gen) with
  | some k => (s.recCopy k).map fun r => (k, r)
  | none => none

/-- The record in force: without a valid copy, one that names Folio A, CONFIRMED (R498 step 4). -/
def State.recNow (s : State) : Rec := (s.curRec.map Prod.snd).getD ⟨0, 0, false, 0, false, false, 0⟩

/-- The current record shows in RECGH, RECGL and REC; TEXP stays. -/
def State.showRec (s : State) : State :=
  let r := s.recNow
  let t := (s.setReg (pg 14 26) (wordOf (r.gen / 262144))).setReg (pg 14 27) (wordOf r.gen)
  t.setF (pg 14 28) 5 0 (32 * b2n r.fbk + 16 * b2n r.recov + 4 * r.tries + 2 * b2n r.trial + r.active)

/-- The copy that the next record goes to and its generation; without a valid copy the manual gives neither (log 15). -/
def State.nextCopy (s : State) (a b : Option Nat) : Nat × Nat :=
  match s.laterCopy a b with
  | some k => (1 - k, ((if k = 0 then a else b).getD 0 + 1) % 2 ^ 32)
  | none => (Config.freeNat s.freeCtr % 2, Config.freeNat (s.freeCtr + 1) % 2 ^ 32)

/-- Where the next record goes. -/
def State.nextRec (s : State) : Nat × Nat := s.nextCopy ((s.recCopy 0).map Rec.gen) ((s.recCopy 1).map Rec.gen)

/-- A record is written, into the other copy and with the next generation (R497). -/
def State.writeRec (s : State) (r : Rec) : State :=
  let n := s.nextRec
  let t : State := { s with freeCtr := s.freeCtr + 2 }
  (t.flashWrite (recAddr n.1) (sectorPad { r with gen := n.2 }.bytes)).showRec

/-- Flash offset of a Folio. -/
def folioBase (f : Nat) : Nat := 0x01000000 * (f + 1)

/-- IMGVER of the Colophon of a Folio when its MAGIC matches, else 0 (R510). -/
def State.folioVer (s : State) (f : Nat) : Nat :=
  if s.muted (6 + f) = false ∧ s.flashNum (folioBase f) 4 = 0x48504C43 then s.flashNum (folioBase f + 16) 4 else 0

/-- The inactive Folio: the one that the current record does not name; B when no copy is valid (R497, R501). -/
def State.inactive (s : State) : Nat := 1 - s.recNow.active

/-! ### Settings copies (R512) -/

/-- Flash offset of copy k of Class P or N. -/
def setAddr (classN : Bool) (k : Nat) : Nat := if classN then 0x20000 * (k + 1) else 0x10000 + 0x4000 * k

/-- MAGIC of a class. -/
def setMagic (classN : Bool) : Nat := if classN then 0x4E544553 else 0x50544553

/-- The limit of LEN. -/
def setLimit (classN : Bool) : Nat := if classN then 131052 else 16364

/-- A settings copy: generation, layout version, payload. -/
abbrev SetCopy := Nat × Nat × List Byte

/-- A copy, when it is valid. -/
def State.setCopy (s : State) (classN : Bool) (k : Nat) : Option SetCopy :=
  let a := setAddr classN k
  let len := s.flashNum (a + 12) 4
  if s.muted (2 + 2 * b2n classN + k) = false ∧ s.flashNum a 4 = setMagic classN ∧ len ≤ setLimit classN ∧
      crc32 (s.flashRead a (16 + len)) = s.flashNum (a + 16 + len) 4 then
    some (s.flashNum (a + 4) 4, s.flashNum (a + 8) 2, s.flashRead (a + 16) len)
  else none

/-- The copy that is loaded. -/
def State.curSet (s : State) (classN : Bool) : Option SetCopy :=
  match s.laterCopy ((s.setCopy classN 0).map Prod.fst) ((s.setCopy classN 1).map Prod.fst) with
  | some k => s.setCopy classN k
  | none => none

/-- The bytes of a settings copy. -/
def setBytes (classN : Bool) (gen lver : Nat) (payload : List Byte) : List Byte :=
  let b := leBytes (setMagic classN) 4 ++ leBytes gen 4 ++ leBytes lver 2 ++ [0, 0] ++ leBytes payload.length 4 ++ payload
  b ++ leBytes (crc32 b) 4

/-- Where the next settings copy of a class goes. -/
def State.nextSet (s : State) (classN : Bool) : Nat × Nat :=
  s.nextCopy ((s.setCopy classN 0).map Prod.fst) ((s.setCopy classN 1).map Prod.fst)

/-- A settings copy is written. -/
def State.writeSet (s : State) (classN : Bool) (lver : Nat) (payload : List Byte) : State :=
  let n := s.nextSet classN
  let t : State := { s with freeCtr := s.freeCtr + 2 }
  t.flashWrite (setAddr classN n.1) (sectorPad (setBytes classN n.2 lver payload))

/-- A copy whose write was not finished: its bytes are not known, but it is not valid (R497, R511) (log 49). -/
def State.brokenCopy (s : State) (a n : Nat) (valid : State → Bool) : State :=
  let t := s.flashBroken a n
  if valid t then t.flashWrite a (List.replicate n 0xff) else t

/-- The record that a confirmation writes (R506). -/
def State.confirmRec (s : State) : Rec := { s.recNow with trial := false, tries := 0 }

/-- A record write that ends with TIMEOUT: its copy is not valid (R497; 00 R546) (log 49). -/
def State.failRec (s : State) : State :=
  let t : State := { s with freeCtr := s.freeCtr + 2 }
  (t.brokenCopy (recAddr s.nextRec.1) 4096 fun t => (t.recCopy s.nextRec.1).isSome).pageErr 14 eTIMEOUT 2

/-- A record write that ends well or with TIMEOUT. -/
def State.tryRec (s : State) (ok : Bool) (r : Rec) : State := if ok then s.writeRec r else s.failRec

/-- A settings copy whose write ends well or with TIMEOUT (R512, R516). -/
def State.trySet (s : State) (ok : Bool) (classN : Bool) (lver : Nat) (payload : List Byte) : State :=
  if ok then s.writeSet classN lver payload
  else
    let t : State := { s with freeCtr := s.freeCtr + 2 }
    let k := (s.nextSet classN).1
    (t.brokenCopy (setAddr classN k) (sectorPad (payload ++ List.replicate 20 0)).length fun t => (t.setCopy classN k).isSome).pageErr
      14 eTIMEOUT 2

/-- The record that an activation writes (R510). -/
def State.newRec (s : State) : Rec := ⟨0, s.inactive, true, 0, false, s.bit (pg 14 3) 4, s.folioVer s.inactive⟩

/-- An operation ends without its flash area being programmed as it should (R497, R511). -/
def State.breakOp (s : State) : State :=
  let t : State := { s with freeCtr := s.freeCtr + 2 }
  let set := fun (n : Bool) (len : Nat) =>
    let k := (s.nextSet n).1
    t.brokenCopy (setAddr n k) len fun t => (t.setCopy n k).isSome
  match s.upd.op with
  | some (.block off _) => s.flashBroken off 4096
  | some .activate => t.brokenCopy (recAddr s.nextRec.1) 4096 fun t => (t.recCopy s.nextRec.1).isSome
  | some .confirm => t.brokenCopy (recAddr s.nextRec.1) 4096 fun t => (t.recCopy s.nextRec.1).isSome
  | some (.settings n _ l) => set n (sectorPad (l ++ List.replicate 20 0)).length
  | some .discard => set true 4096
  | none => s

/-- A reset breaks an operation off; a record may have been written by then, and which it is is free (R511). -/
def State.cutOp (s : State) : State :=
  let f := s.free
  if s.upd.op = some .activate ∧ f.1 % 2 = 1 then f.2.writeRec s.newRec
  else if s.upd.op = some .confirm ∧ f.1 % 2 = 1 then f.2.writeRec s.confirmRec
  else f.2.breakOp

/-! ### Bytes in shared RAM (R509) -/

/-- The two bytes of a word, bits 15:8 first. -/
def wordBytes (v : Word) : List Byte := [BitVec.ofNat 8 (fieldOf v 15 8), BitVec.ofNat 8 (fieldOf v 7 0)]

/-- The words of a list of bytes, two to a word, the first in bits 15:8. -/
def bytesWords : List Byte → List Word
  | [] => []
  | [a] => [wordOf (a.toNat * 256)]
  | a :: b :: r => wordOf (a.toNat * 256 + b.toNat) :: bytesWords r

/-- n bytes of shared RAM, from the word at a key on. -/
def State.ramBytes (s : State) (key n : Nat) : List Byte × State :=
  let r := s.memReadN key ((n + 1) / 2)
  ((r.1.flatMap wordBytes).take n, r.2.2)

/-! ### OTP and life cycle (R517, R519) -/

/-- An OTP row (log 9). -/
def State.otpRow (s : State) (r : Nat) : BitVec 16 := (s.upd.otp.get? r).getD 0

/-- Blows bits of a row. -/
def State.blow (s : State) (r : Nat) (bits : BitVec 16) : State :=
  { s with upd := { s.upd with otp := s.upd.otp.put r (s.otpRow r ||| bits) } }

/-- A group of eight bits counts as blown when at least five are 1. -/
def groupBlown (x : Nat) : Bool := decide (5 ≤ ((List.range 8).filter fun i => x.testBit i).length)

/-- The life-cycle state: 0 BLANK, 1 PROVISIONED, 2 FIELD, 3 SEALED, 4 RETURN. -/
def State.lcst (s : State) : Nat :=
  if groupBlown ((s.otpRow 9).toNat / 256) then 4 else if groupBlown (s.otpRow 9).toNat then 3
  else if groupBlown ((s.otpRow 8).toNat / 256) then 2 else if groupBlown (s.otpRow 8).toNat then 1 else 0

/-- The rollback fuse count: the number of the first unblown fuse. -/
def State.fuseCount (s : State) : Nat :=
  ((List.range 64).takeWhile fun i => (s.otpRow (12 + i / 16)).getLsbD (i % 16)).length

/-- KEYk is not all 0. -/
def State.keySet (s : State) (k : Nat) : Bool := (List.range 16).any fun i => s.otpRow (16 + 16 * k + i) != 0

/-- KEYk is revoked. -/
def State.keyRevoked (s : State) (k : Nat) : Bool := groupBlown ((s.otpRow 48).toNat / 256 ^ k)

/-- KEYk: 32 bytes of a hash. -/
def State.keyHash (s : State) (k : Nat) : List Byte :=
  (List.range 16).flatMap fun i => beBytes (s.otpRow (16 + 16 * k + i)).toNat 2

/-- The unit ID, a number of 128 bits; row 0 holds bits 127:112. -/
def State.unitId (s : State) : Nat := beNum ((List.range 8).flatMap fun i => beBytes (s.otpRow i).toNat 2)

/-- The rights of the test access port: 0 closed, 1 boundary scan, 2 and debug, 3 and vendor test (R521, R525). -/
def State.tapRights (s : State) : Nat := ([2, 2, 1, 0, 3] : List Nat).getD s.lcst 0

/-- An OTP operation that power left unfinished: each bit may or may not be blown (R511). -/
def State.breakOtp (s : State) : State :=
  match s.upd.lcsOp with
  | some (_, r, bits) =>
    let f := s.free
    f.2.blow r (bits &&& BitVec.ofNat 16 f.1)
  | none => s

end Sys2Proof.Machine
end

