-- ==== Sys2Proof/Machine/Flags.lean ====
section
/-! DEFINITION. The arithmetic of the Vemel cores and its flags (spec/09 R307 to R323): 18-bit results with N, Z, C and V,
shifts and rotates, division, accumulator results with GV, extraction, and the Rubric's operations (R331). Flags are
packed as SR holds them: N 8, Z 4, C 2, V 1. -/

namespace Sys2Proof.Machine

/-- 2^18. -/
def w18 : Nat := 262144

/-- The signed reading of a word's number. -/
def s18 (a : Nat) : Int := signedOf 18 a

/-- A number outside the signed 18-bit range. -/
def out18 (x : Int) : Bool := decide (x < -131072) || decide (131071 < x)

/-- N, Z, C, V of a result (R307). -/
def flagsOf (r : Nat) (c v : Bool) : Nat := 8 * b2n (r.testBit 17) + 4 * b2n (r % w18 == 0) + 2 * b2n c + b2n v

/-- An operation's result and flags. -/
abbrev AluRes := Nat × Nat

/-- a + b + carry. -/
def aluAdd (a b cin : Nat) : AluRes :=
  let r := (a + b + cin) % w18
  (r, flagsOf r (decide (w18 ≤ a + b + cin)) (out18 (s18 a + s18 b + cin)))

/-- a − b − borrow. -/
def aluSub (a b bin : Nat) : AluRes :=
  let r := codeOf 18 ((a : Int) - b - bin)
  (r, flagsOf r (decide (a < b + bin)) (out18 (s18 a - s18 b - bin)))

/-- A result with C = V = 0. -/
def aluPlain (r : Nat) : AluRes := (r, flagsOf r false false)

/-- Absolute value, wrapping (R318, R323). -/
def aluAbs (a : Nat) : AluRes :=
  let r := codeOf 18 (s18 a).natAbs
  (r, flagsOf r false (out18 (s18 a).natAbs))

/-- Logical left shift (R319). -/
def aluShl (a k : Nat) : AluRes :=
  let r := a * 2 ^ k % w18
  (r, flagsOf r (decide (1 ≤ k ∧ k ≤ 18) && a.testBit (18 - k)) false)

/-- Logical right shift. -/
def aluShr (a k : Nat) : AluRes :=
  let r := a / 2 ^ k
  (r, flagsOf r (decide (1 ≤ k ∧ k ≤ 18) && a.testBit (k - 1)) false)

/-- Arithmetic right shift. -/
def aluAsr (a k : Nat) : AluRes :=
  let r := codeOf 18 (s18 a / (2 ^ k : Nat))
  (r, flagsOf r (decide (1 ≤ k) && a.testBit (min k 18 - 1)) false)

/-- Arithmetic left shift of ASHS: V when the result shifted back differs. -/
def aluAshl (a k : Nat) : AluRes :=
  let r := (aluShl a k).1
  (r, flagsOf r (decide (1 ≤ k ∧ k ≤ 18) && a.testBit (18 - k)) (s18 r / (2 ^ k : Nat) != s18 a))

/-- SHLS: a signed count. -/
def aluShls (a : Nat) (k : Int) : AluRes := if 0 ≤ k then aluShl a k.toNat else aluShr a (-k).toNat

/-- ASHS: a signed count. -/
def aluAshs (a : Nat) (k : Int) : AluRes := if 0 ≤ k then aluAshl a k.toNat else aluAsr a (-k).toNat

/-- Rotate left by the count modulo 18 (R318, R320). -/
def aluRol (a k : Nat) : AluRes :=
  let n := k % 18
  let r := (a * 2 ^ n + a / 2 ^ (18 - n)) % w18
  (r, flagsOf r (n != 0 && r.testBit 0) false)

/-- Redundant sign bits of a word, 0 to 17 (R318). -/
def aluNorm (a : Nat) : Nat := ((List.range 17).takeWhile fun i => a.testBit (16 - i) == a.testBit 17).length

/-- Division: quotient, remainder, flags, division by zero (R321, R322). -/
def aluDiv (signed : Bool) (a b : Nat) : Nat × Nat × Nat × Bool :=
  if b = 0 then
    let q := if signed then (if a.testBit 17 then 0o400001 else 0o377777) else 0o777777
    (q, a, flagsOf q false false, true)
  else if signed = false then (a / b, a % b, flagsOf (a / b) false false, false)
  else if a = 0o400000 ∧ b = 0o777777 then (0o377777, 0o777777, flagsOf 0o377777 false true, false)
  else
    let q := codeOf 18 ((s18 a).tdiv (s18 b))
    (q, codeOf 18 ((s18 a).tmod (s18 b)), flagsOf q false false, false)

/-- The condition of a branch on the flags of SR (R324). -/
def condHolds (sr cnd : Nat) : Bool :=
  let n := sr.testBit 3
  let z := sr.testBit 2
  let c := sr.testBit 1
  let v := sr.testBit 0
  ([true, z, !z, n != v, n == v, !z && n == v, z || n != v, c, !c, n, !n, v, !v, !c && !z, c || z] : List Bool).getD cnd false

/-! ### Accumulators -/

/-- The signed reading of an accumulator. -/
def s44 (a : Nat) : Int := signedOf 44 a

/-- An exact accumulator result, wrapped or held, and GV (R310). -/
def accResult (sat : Bool) (x : Int) : Nat × Bool :=
  let out := decide (x < -(2 ^ 43)) || decide (2 ^ 43 - 1 < x)
  (codeOf 44 (if sat then max (-(2 ^ 43)) (min (2 ^ 43 - 1) x) else x), out)

/-- The product of an M1 syllable (R308): MOD bit 2 reads A, bit 1 reads B as unsigned, bit 0 doubles. -/
def macProduct (md a b : Nat) : Int :=
  (if md.testBit 2 then (a : Int) else s18 a) * (if md.testBit 1 then (b : Int) else s18 b) * (if md.testBit 0 then 2 else 1)

/-- ⌊x × 2^sh⌋ for a signed count. -/
def shiftInt (x sh : Int) : Int := if 0 ≤ sh then x * (2 ^ sh.toNat : Nat) else x / (2 ^ (-sh).toNat : Nat)

/-- The signed extraction of an accumulator (R311). -/
def accExtract (sat rnd : Bool) (acc : Nat) (sh : Int) : Nat :=
  let num := if 0 ≤ sh then s44 acc * (2 ^ sh.toNat : Nat) + (if rnd then 131072 else 0)
    else s44 acc + (if rnd then (131072 * 2 ^ (-sh).toNat : Nat) else 0)
  let r := if 0 ≤ sh then num / 262144 else num / (262144 * 2 ^ (-sh).toNat : Nat)
  codeOf 18 (if sat then max (-131072) (min 131071 r) else r)

/-! ### The Rubric's operations (R330, R331) -/

/-- A modified source. -/
def rubMod (m a sh : Nat) : Nat :=
  if m = 1 then codeOf 18 (min 131071 (s18 a).natAbs)
  else if m = 2 then codeOf 18 (-(s18 a))
  else if m = 3 then (aluAsr a sh).1 else a

/-- A result held or wrapped to 18 bits, with C and V. -/
def rubHold (sat : Bool) (x : Int) (c v : Bool) : Nat × Bool × Bool :=
  if sat && out18 x then (codeOf 18 (max (-131072) (min 131071 x)), c, true) else (codeOf 18 x, c, v)

/-- Operation UOP on the modified sources: result, C, V. MULL is the product modulo 2^18, which SAT leaves as it is (log 28). -/
def rubOp (uop : Nat) (sat : Bool) (a b sh : Nat) : Nat × Bool × Bool :=
  let sa := s18 a
  let sb := s18 b
  if uop = 0 then (a, false, false)
  else if uop = 1 then rubHold sat (sa + sb) (decide (w18 ≤ a + b)) (out18 (sa + sb))
  else if uop = 2 then rubHold sat (sa - sb) (decide (a < b)) (out18 (sa - sb))
  else if uop = 3 then (a &&& b, false, false)
  else if uop = 4 then (a ||| b, false, false)
  else if uop = 5 then (a ^^^ b, false, false)
  else if uop = 6 then rubHold sat ((sa * sb + 65536) / 131072) false (a == 0o400000 && b == 0o400000)
  else if uop = 7 then (codeOf 18 (sa * sb), false, false)
  else if uop = 8 then ((aluShl a sh).1, (aluShl a sh).2.testBit 1, false)
  else if uop = 9 then ((aluShr a sh).1, (aluShr a sh).2.testBit 1, false)
  else if uop = 10 then ((aluAsr a sh).1, (aluAsr a sh).2.testBit 1, false)
  else if uop = 11 then (if sa ≤ sb then a else b, false, false)
  else if uop = 12 then (if sa ≤ sb then b else a, false, false)
  else if uop = 13 then (codeOf 18 ((sa + sb) / 2), false, false)
  else (codeOf 18 (sa - sb).natAbs, false, false)

end Sys2Proof.Machine
end

