-- ==== Sys2Proof/Machine/Ring.lean ====
section
/-! DEFINITION. Rings, the event controller, the SES page and the delivery engine (spec/12 R394 to R399, R415 to R425,
R429 to R431). -/

namespace Sys2Proof.Machine

/-! ### Rings (R415 to R419) -/

/-- The code of a writer as producer or consumer of a ring (R416, R418); the test access port has none. -/
def writerCode : Writer → Option Nat
  | .ses q => some q.val
  | .core c => some (8 + c.val)
  | .tap => none

/-- A producer or consumer code is in use or is 31 (R416). -/
def unitCodeOk (n : Nat) : Bool := !(decide (20 ≤ n) && decide (n ≤ 30))

/-- The buffer of a ring at BASE with 2^SZ units of 64 words overlaps that of an enabled ring other than r. -/
def State.ringOverlaps (s : State) (r base sz : Nat) : Bool :=
  (List.range 64).any fun o =>
    let b := s.fld (ringKey o 1) 12 0
    o != r && s.ringOn o && decide (b < base + 2 ^ sz) && decide (base < b + 2 ^ s.fld (ringKey o 0) 16 13)

/-- A latch in progress whose ring is r has lost its producer assignment (07 R229). -/
def State.latchRing (s : State) (r : Nat) : State :=
  match s.meas.cur with
  | some l => if s.fld (pg 19 19) 5 0 = r ∧ s.prodIs r 15 = false then
      { s with meas := { s.meas with cur := some { l with lost := true } } } else s
  | none => s

/-- A change of a ring's assignment: a channel that loses its dump ring faults (04 R151); a latch in progress loses its ring
(07 R229); a receive drain that loses its ring ends (13 R456). -/
def State.ringChanged (s : State) (r : Nat) : State :=
  let t := if s.prodIs r 12 then s
    else ((s.chansIn holdsSlots).filter fun c => fieldOf (s.ctx c 1) 5 0 == r).foldl (fun t c => t.chanFault c 4) s
  let t := t.latchRing r
  (List.range 4).foldl (fun t n =>
    if t.bit (pg (10 + n) 21) 17 = true ∧ t.fld (pg (10 + n) 21) 5 0 = r ∧ t.prodIs r (4 + n) = false then
      (t.setB (pg (10 + n) 21) 17 false).pageErr (10 + n) eSTATE 21
    else t) t

/-- A write of RCFG (R417). RG76 belongs to the legacy window in LEGACY and DUAL. -/
def rcfgHandler (w : Writer) (r : Nat) (v : Word) (s : State) : Handler :=
  let on := s.ringOn r
  let p := 6 + r / 32
  let wd := 32 + 8 * (r % 32)
  let base := s.fld (ringKey r 1) 12 0
  let sz := fieldOf v 16 13
  let t := s.plain w p wd v
  { state := if (s.legacyDual = true ∧ r = 62) ∨ (on = true ∧ sz ≠ s.fld (ringKey r 0) 16 13) then eSTATE else 0
    range := unitCodeOk (fieldOf v 12 8) && unitCodeOk (fieldOf v 7 3)
    extra := if bitOf v 17 = true ∧ on = false ∧ (8192 < base + 2 ^ sz ∨ s.ringOverlaps r base sz = true) then eCONFIG else 0
    result := (if bitOf v 17 = true ∧ on = false then (t.setReg (ringKey r 2) 0).setReg (ringKey r 3) 0 else t).ringChanged r }

/-- A write of PIDX or CIDX (R418). -/
def indexHandler (w : Writer) (r : Nat) (prod : Bool) (v : Word) (s : State) : Handler :=
  let k := if prod then 2 else 3
  let mine := match writerCode w with
    | some u => if prod then s.prodIs r u else s.consIs r u
    | none => false
  { state := if mine then 0 else eSTATE
    range := decide ((v - s.reg (ringKey r k)).toNat ≤ (if prod then s.ringRoom r else s.ringFill r))
    extra := 0
    result := (s.setReg (ringKey r k) v).flowRing r }

/-- A write to word k of ring r. -/
def ringWordHandler (w : Writer) (r k : Nat) (v : Word) (s : State) : Handler :=
  let t := s.plain w (6 + r / 32) (32 + 8 * (r % 32) + k) v
  if k = 0 then rcfgHandler w r v s
  else if k = 1 then
    { state := if s.ringOn r = true ∧ fieldOf v 12 0 ≠ s.fld (ringKey r 1) 12 0 then eSTATE else 0, range := true, extra := 0
      result := t }
  else if k = 2 then indexHandler w r true v s
  else if k = 3 then indexHandler w r false v s
  else if k = 5 ∨ k = 6 then
    { state := 0, range := decide (1 ≤ v.toNat) && decide (v.toNat ≤ s.ringSize r), extra := 0, result := t }
  else ⟨0, true, 0, t⟩

/-- A write to a word of page RING0 or RING1. -/
def ringHandler (w : Writer) (i wd : Nat) (v : Word) (s : State) : Handler :=
  if 32 ≤ wd ∧ wd < 288 then ringWordHandler w (32 * i + (wd - 32) / 8) ((wd - 32) % 8) v s else headerHandler w (6 + i) wd v s

/-- A write to page RING0 or RING1: each refusal of an index write for its state or its range sets REV.IXERR (R418). -/
def ringGuarded (w : Writer) (i wd : Nat) (v : Word) (s : State) : State :=
  let h := ringHandler w i wd v s
  let t := guarded w (6 + i) wd v h s
  let c := writeRefusal w (6 + i) wd v h s
  if 32 ≤ wd ∧ wd < 288 ∧ (wd % 8 = 2 ∨ wd % 8 = 3) ∧ s.writerLive w = true ∧ s.domOn 2 = true ∧ (c = eSTATE ∨ c = eRANGE) then
    t.setB (pg (6 + i) (wd / 8 * 8 + 7)) 4 true
  else t

/-- RING_CONFIG (R417). -/
def execRingConfig (w : Writer) (r : Fin 64) (v : Word) (s : State) : Host.Outcome State Fault Refusal :=
  done s (ringGuarded w (r.val / 32) (32 + 8 * (r.val % 32)) v s)

/-- RING_INDEX_WRITE (R418). -/
def execRingIndexWrite (w : Writer) (r : Fin 64) (prod : Bool) (v : Word) (s : State) : Host.Outcome State Fault Refusal :=
  done s (ringGuarded w (r.val / 32) (32 + 8 * (r.val % 32) + (if prod then 2 else 3)) v s)

/-! ### The event controller (R420 to R424) -/

/-- Loads timer k (R421). -/
def State.loadTimer (s : State) (k : Nat) : State :=
  { s with ev := { s.ev with tmLoad := s.ev.tmLoad.put k (s.reg (pg 4 (35 + 2 * k))).toNat } }

/-- A write to a word of the EVC page. -/
def evcHandler (w : Writer) (wd : Nat) (v : Word) (s : State) : Handler :=
  let t := s.plain w 4 wd v
  if wd = 28 ∨ wd = 29 then ⟨0, true, 0, s.setReg (pg 4 (wd + 2)) (s.reg (pg 4 (wd + 2)) ||| v)⟩
  else if 34 ≤ wd ∧ wd ≤ 44 ∧ wd % 2 = 0 then ⟨0, true, 0, if bitOf v 17 then t.loadTimer ((wd - 34) / 2) else t⟩
  else if 64 ≤ wd ∧ wd < 256 then
    { state := if (bitOf v 8 = true ∧ s.present (fieldOf v 7 5) = false)
          ∨ (bitOf v 11 = true ∧ fieldOf v 10 9 = 0 ∧ s.legacyDual = true) then eSTATE else 0
      range := true, extra := 0, result := t }
  else headerHandler w 4 wd v s

/-- SWSET_WRITE (R420). -/
def execSwsetWrite (w : Writer) (high : Bool) (v : Word) (s : State) : Host.Outcome State Fault Refusal :=
  let wd := if high then 29 else 28
  done s (guarded w 4 wd v (evcHandler w wd v s) s)

/-- TIMER_LOAD (R421). -/
def execTimerLoad (w : Writer) (k : Fin 6) (v : Word) (s : State) : Host.Outcome State Fault Refusal :=
  done s (guarded w 4 (34 + 2 * k.val) (forceBit v 17 true) (evcHandler w (34 + 2 * k.val) (forceBit v 17 true) s) s)

/-- TIMER_EXPIRY (R421): the timer counts while EN = 1 and HIF is on. -/
def execTimerExpiry (k : Fin 6) (s : State) : Host.Outcome State Fault Refusal :=
  let key := pg 4 (34 + 2 * k.val)
  done s (if s.bit key 17 = true ∧ s.domOn 2 = true then
      let t := s.setB (pg 4 33) k.val true
      if s.bit key 16 then t.loadTimer k.val else t.setB key 17 false
    else s)

/-- ROUTE_WRITE (R422). -/
def execRouteWrite (w : Writer) (k : Fin 192) (v : Word) (s : State) : Host.Outcome State Fault Refusal :=
  done s (guarded w 4 (64 + k.val) v (evcHandler w (64 + k.val) v s) s)

/-- An asserted source routes to pin HIRQn; HIRQ0 follows the legacy window in LEGACY and DUAL, and HIRQ1 to HIRQ3 stay
inactive in LEGACY (R422, R423, R426; 10 R364). -/
def State.hirqActive (s : State) (n : Nat) : Bool :=
  if s.legacyDual && n == 0 then s.reg (pg lwinPage 3) &&& s.reg (pg lwinPage 4) != 0
  else s.pins.persona != .legacy && s.regs.any fun e =>
    decide (routeKey 0 ≤ e.1 ∧ e.1 ≤ routeKey 191) && bitOf e.2 11 && fieldOf e.2 10 9 == n && s.asserted (e.1 - routeKey 0)

/-- The level that the device drives on HIRQn: none while the pin is released or HIF is off (R400, R423). -/
def State.hirqLevel (s : State) (n : Nat) : Option Bool :=
  let level := s.hirqActive n == s.bit (pg 4 46) n
  if s.domOn 2 = false then none
  else if s.bit (pg 4 46) (4 + n) && level then none else some level

/-- The key of word k of the block of session q in the SES page. -/
def sesKey (q k : Nat) : Nat := pg 5 (32 + 16 * q + k)

/-- The hidden state of session q. -/
def State.ses (s : State) (q : Nat) : Ses := s.sess.toList.getD q Ses.reset

/-- Keeps the hidden state of session q. -/
def State.setSes (s : State) (q : Nat) (x : Ses) : State := { s with sess := s.sess.setIfInBounds q x }

/-- EVENT_RECORD_WRITE (R424): the record of the oldest rise that waits, while HIF is on. -/
def execEventRecordWrite (s : State) : Host.Outcome State Fault Refusal :=
  done s (match (if s.domOn 2 then s.ev.rises else []) with
    | [] => s
    | (src, q, tv, t) :: l =>
      let r := s.fld (sesKey q 8) 5 0
      let seq := s.reg (sesKey q 9) + 1
      let s1 := { s.setReg (sesKey q 9) seq with ev := { s.ev with rises := l } }
      if s.bit (sesKey q 8) 17 = true ∧ s.prodIs r 17 = true ∧ s.consIs r q = true ∧ 6 ≤ s.ringRoom r then
        (s1.ringPut r ([wordOf (b2n (s.ses q).evOvr * 131072 + b2n tv * 65536 + src), seq] ++ rxtWords t)).setSes q
          { s.ses q with evOvr := false }
      else (s1.incSat (sesKey q 10)).setSes q { s.ses q with evOvr := true })

/-! ### The SES page (R394 to R399, R408, R425, R429) -/

/-- The end of session q (R395): its unperformed writes are discarded, and what its link has not sent. -/
def State.endSession (s : State) (q : Nat) : State :=
  let t := match (s.ses q).post with
    | (a, _) :: _ => s.sesErr q eBUSY a.toNat
    | [] => s
  (t.setSes q { s.ses q with post := [], resp := [], push := none }).raise 5 0

/-- A write of SCTL of session q (R408, R429). EN of sessions 0 to 3 ignores writes. -/
def sctlSesHandler (w : Writer) (q : Nat) (v : Word) (s : State) : Handler :=
  if q < 4 then ⟨0, true, 0, s.plain w 5 (32 + 16 * q) (forceBit v 17 (s.bit (sesKey q 0) 17))⟩
  else
    let p := 10 + (q - 4)
    let t := s.plain w 5 (32 + 16 * q) v
    { state := if bitOf v 17 = true ∧ s.fld (pg p 21) 17 16 ≠ 0 then eBUSY else 0, range := true
      extra := if bitOf v 17 = true ∧ s.fld (pg p 16) 9 6 ≠ 8 then eCONFIG else 0
      result := if bitOf v 17 = false ∧ s.bit (sesKey q 0) 17 = true then t.endSession q else t }

/-- A clear of ERRW: CODE, OVR and the address clear together when every set bit of CODE clears (R398). -/
def State.clearErrw (s : State) (q : Nat) (v : Word) : State :=
  let x := s.reg (sesKey q 2) &&& ~~~ (v &&& 0o400017)
  if fieldOf x 3 0 = 0 then ((s.setReg (sesKey q 2) 0).setReg (sesKey q 3) 0).setReg (sesKey q 4) 0
  else s.setReg (sesKey q 2) x

/-- RCFG of ring r names a producer and a consumer. -/
def State.ringNames (s : State) (r prod cons : Nat) : Bool := s.ringProd r == prod && s.ringCons r == cons

/-- A write to word k of the block of session q. -/
def sesBlockHandler (w : Writer) (q k : Nat) (v : Word) (s : State) : Handler :=
  let t := s.plain w 5 (32 + 16 * q + k) v
  let r := fieldOf v 5 0
  if k = 0 then sctlSesHandler w q v s
  else if k = 1 then ⟨match w with
      | .ses x => if x.val = q then eSTATE else 0
      | _ => eSTATE, true, 0, t⟩
  else if k = 2 then ⟨0, true, 0, s.clearErrw q v⟩
  else if k = 6 then ⟨0, true, 0, s.setReg (sesKey q 7) (s.reg (sesKey q 7) ||| v)⟩
  else if k = 8 then ⟨0, true, if bitOf v 17 = true ∧ s.ringNames r 17 q = false then eCONFIG else 0, t⟩
  else if k = 11 then
    ⟨0, true, if bitOf v 17 = true ∧ s.ringNames r 18 q = false then eCONFIG else 0,
      if bitOf v 17 = true ∧ s.bit (sesKey q 11) 17 = false then t.setSes q { s.ses q with dlvCnt := 0 } else t⟩
  else if k = 13 ∧ q < 4 then ⟨0, true, 0, s⟩
  else ⟨0, true, 0, t⟩

/-- A write to a word of the SES page. -/
def sesHandler (w : Writer) (wd : Nat) (v : Word) (s : State) : Handler :=
  if 32 ≤ wd ∧ wd < 160 then sesBlockHandler w ((wd - 32) / 16) ((wd - 32) % 16) v s
  else if wd = 17 then
    ⟨0, true, if bitOf v 17 = true ∧ s.ringCons (fieldOf v 5 0) ≠ 18 then eCONFIG else 0, s.plain w 5 17 v⟩
  else headerHandler w 5 wd v s

/-- SESSION_ENABLE (R395, R408). -/
def execSessionEnable (w : Writer) (q : Fin 8) (v : Word) (s : State) : Host.Outcome State Fault Refusal :=
  done s (guarded w 5 (32 + 16 * q.val) v (sesHandler w (32 + 16 * q.val) v s) s)

/-- PERMISSION_MASK_WRITE (R396). -/
def execPermissionMaskWrite (w : Writer) (q : Fin 8) (v : Word) (s : State) : Host.Outcome State Fault Refusal :=
  done s (guarded w 5 (33 + 16 * q.val) v (sesHandler w (33 + 16 * q.val) v s) s)

/-- DOORBELL_SET (R399). -/
def execDoorbellSet (w : Writer) (q : Fin 8) (v : Word) (s : State) : Host.Outcome State Fault Refusal :=
  done s (guarded w 5 (38 + 16 * q.val) v (sesHandler w (38 + 16 * q.val) v s) s)

/-! ### The delivery engine (R425) -/

/-- The record is offered to session q. -/
def State.offer (s : State) (rec : List Word) (q : Nat) : State :=
  let m := s.reg (sesKey q 11)
  let x := s.ses q
  if s.present q = false ∨ bitOf m 17 = false then s
  else
    let t := s.setSes q { x with dlvCnt := x.dlvCnt + 1 }
    if x.dlvCnt % max 1 (fieldOf m 16 9) ≠ 0 then t
    else
      let r := fieldOf m 5 0
      if t.prodIs r 18 = true ∧ rec.length ≤ t.ringRoom r then
        (t.ringPut r (forceBit (rec.headD 0) 0 x.dlvDrop :: rec.tail)).setSes q { t.ses q with dlvDrop := false }
      else ((t.incSat (sesKey q 12)).raise 5 1).setSes q { t.ses q with dlvDrop := true }

/-- DELIVERY_RECORD (R425; 11 R371). -/
def execDeliveryRecord (s : State) : Host.Outcome State Fault Refusal :=
  let r := s.fld (pg 5 17) 5 0
  let i := (s.reg (ringKey r 3)).toNat
  let n := 8 + s.fld (pg 5 17) 16 11 * fieldOf (s.rdMem (s.ringAddr r i)) 15 6
  done s (if s.bit (pg 5 17) 17 = true ∧ s.consIs r 18 = true ∧ s.domOn 2 = true ∧ 1 ≤ s.ringFill r ∧ n ≤ s.ringFill r then
      let e := s.ringReadE r i n
      let t := if e.2.1 = 2 then e.2.2.pageErr 5 eECC 2 else e.2.2
      ((((List.range 8).foldl (fun t q => t.offer e.1 q) t).ringTake r n).inc (pg 5 18))
    else s)

end Sys2Proof.Machine
end

