-- ==== Sys2Proof/Machine/Serial.lean ====
section
/-! DEFINITION. The serial ports (spec/13): settings, characters, breaks, flow control, the receive drain and transmit
feed, the slow receiver. -/

namespace Sys2Proof.Machine

/-- The key of word k of the page of port n. -/
def serKey (n k : Nat) : Nat := pg (10 + n) k

/-- Keeps the hidden state of port n; CPEND, TXBUSY and THRE follow it (R458). -/
def State.setSer (s : State) (n : Nat) (x : Ser) : State :=
  let t := { s with sers := s.sers.setIfInBounds n x }
  ((t.setB (serKey n 3) 8 (x.rxPend || x.txPend)).setB (serKey n 3) 2 x.txShift.isSome).setB (serKey n 3) 1 x.txHold.isNone

/-- Session 4 + n is enabled. -/
def State.serSes (s : State) (n : Nat) : Bool := s.bit (sesKey (4 + n) 0) 17

/-- Native writes to the port are refused in the personality (R457). -/
def State.serClosed (s : State) (n : Nat) : Bool := if n < 2 then s.legacyDual else s.pins.persona == .legacy

/-- XTHR and XONT suit the drain ring (R445). -/
def State.flowOk (s : State) (n xthr xont : Nat) : Bool :=
  s.bit (serKey n 21) 17 && decide (xthr < xont) && decide (xont ≤ s.ringSize (s.fld (serKey n 21) 5 0))

/-- Both directions have a pending setting from now on (R437); a running receiver may have begun a character before. -/
def State.pendSetting (s : State) (n : Nat) : State :=
  s.setSer n { s.ser n with rxPend := true, rxOld := s.bit (serKey n 2) 0, txPend := true }

/-- The pending setting. -/
def State.serSetting (s : State) (n : Nat) : SerSet := ⟨s.reg (serKey n 16), (s.ser n).appN, s.fld (serKey n 18) 3 0⟩

/-- The port runs: PERI is on. -/
def State.serOn (s : State) : Bool := s.domOn 3

/-- The transmitter of port n may begin data: TXEN = 1, no break, not paused by XOFF (R439, R443, R444). -/
def State.txReady (s : State) (n : Nat) : Bool :=
  s.serOn && s.bit (serKey n 2) 1 && !s.bit (serKey n 2) 2 && !s.bit (serKey n 3) 4

/-- The link of port n sends the responses that wait, oldest first: no push frame is in progress and no XOFF holds them (12 R414). -/
def State.sendResp (s : State) (n : Nat) : State :=
  let x := s.ses (4 + n)
  if x.resp = [] ∨ x.push.isSome = true ∨ s.txReady n = false then s
  else s.setSes (4 + n) { x with out := x.resp.flatten, resp := [] }

/-- RXD does not show the character that it holds: the drain or the session takes it (R440). -/
def State.rxdTaken (s : State) (n : Nat) : Bool := s.bit (serKey n 21) 17 || s.serSes n

/-- A write of CTRL: SBRK begins or ends a break, which only a transmitter that is on drives (R432, R443, R445). -/
def serCtrl (w : Writer) (n : Nat) (v : Word) (s : State) : Handler :=
  let t := s.plain w (10 + n) 2 v
  let x := t.ser n
  let old := s.bit (serKey n 2) 2
  let low := bitOf v 2 && bitOf v 1 && x.txShift.isNone
  let y := { x with lineLow := low, txLine := !low }
  let u := if bitOf v 2 = false ∧ old = true then
      let xon := x.flowDue == some true && !s.bit (serKey n 22) 17 && s.bit (serKey n 3) 5
      (t.setSer n { y with flowDue := if xon then some true else none }).flowEval n
    else t.setSer n y
  ⟨0, true, 0, u.sendResp n⟩

/-- A write of CFG (R433, R450, R452). -/
def serCfg (w : Writer) (n : Nat) (v : Word) (s : State) : Handler :=
  let db := fieldOf v 9 6
  { state := if (s.serSes n = true ∧ db ≠ 8)
        ∨ (n < 2 ∧ s.bit (serKey n 29) 17 = true ∧ ¬ (bitOf v 17 = false ∧ bitOf v 15 = true ∧ db = 9)) then eBUSY else 0
    range := true
    extra := if (bitOf v 15 = true ∧ db ≠ 9)
        ∨ (bitOf v 17 = true ∧ ((s.ser n).appN < 4 ∨ s.fld (serKey n 18) 3 0 ≠ 0)) then eCONFIG else 0
    result := (s.plain w (10 + n) 16 v).pendSetting n }

/-- A write of BAUDF: N and F become pending together (R435, R437, R450). -/
def serBaudf (w : Writer) (n : Nat) (v : Word) (s : State) : Handler :=
  let nn := s.fld (serKey n 17) 15 0
  let t := s.plain w (10 + n) 18 v
  { state := 0, range := true
    extra := if s.bit (serKey n 16) 17 = true ∧ (nn < 4 ∨ fieldOf v 3 0 ≠ 0) then eCONFIG else 0
    result := (t.setSer n { t.ser n with appN := nn }).pendSetting n }

/-- A write of DRN (R447). -/
def serDrn (w : Writer) (n : Nat) (v : Word) (s : State) : Handler :=
  { state := if fieldOf v 17 16 ≠ 0 ∧ s.serSes n = true then eBUSY else 0, range := true
    extra := if (bitOf v 17 = true ∧ s.prodIs (fieldOf v 5 0) (4 + n) = false)
        ∨ (bitOf v 16 = true ∧ s.consIs (fieldOf v 11 6) (4 + n) = false) then eCONFIG else 0
    result := (s.plain w (10 + n) 21 v).flowEval n }

/-- A write of FLOW (R444, R445). -/
def serFlow (w : Writer) (n : Nat) (v : Word) (s : State) : Handler :=
  let t := s.plain w (10 + n) 22 v
  let t := if bitOf v 16 then t else (t.setB (serKey n 3) 4 false).sendResp n
  { state := 0, range := true
    extra := if (bitOf v 17 = true ∧ s.flowOk n (s.fld (serKey n 23) 16 0) (s.reg (serKey n 24)).toNat = false)
        ∨ (fieldOf v 17 16 ≠ 0 ∧ s.bit (serKey n 16) 17 = true) then eCONFIG else 0
    result :=
      if bitOf v 17 then t.flowEval n
      else if s.bit (serKey n 22) 17 then
        t.setSer n { t.ser n with flowDue := if s.bit (serKey n 3) 5 then some true else none }
      else t }

/-- A write to a word of page SERn with its rules, the personality apart. -/
def serWord (w : Writer) (n wd : Nat) (v : Word) (s : State) : Handler :=
  let t := s.plain w (10 + n) wd v
  if wd = 2 then serCtrl w n v s
  else if wd = 16 then serCfg w n v s
  else if wd = 18 then serBaudf w n v s
  else if wd = 20 then
    { state := if (s.ser n).txHold.isSome = true ∨ fieldOf (s.reg (serKey n 21)) 17 16 ≠ 0 ∨ s.serSes n = true then eBUSY else 0
      range := true, extra := 0, result := s.setSer n { s.ser n with txHold := some (BitVec.ofNat 9 (fieldOf v 8 0)) } }
  else if wd = 21 then serDrn w n v s
  else if wd = 22 then serFlow w n v s
  else if wd = 23 ∨ wd = 24 then
    let a := if wd = 23 then fieldOf v 16 0 else s.fld (serKey n 23) 16 0
    let b := if wd = 24 then v.toNat else (s.reg (serKey n 24)).toNat
    ⟨0, true, if s.bit (serKey n 22) 17 = true ∧ s.flowOk n a b = false then eCONFIG else 0, t.flowEval n⟩
  else if 29 ≤ wd ∧ wd ≤ 32 ∧ 2 ≤ n then ⟨0, true, 0, s⟩
  else if wd = 29 then
    { state := 0, range := decide (218 ≤ 16 * fieldOf v 12 0 + fieldOf v 16 13) && decide (fieldOf v 12 0 ≤ 4095)
      extra := if bitOf v 17 = true ∧ ¬ (s.bit (serKey n 16) 17 = false ∧ s.bit (serKey n 16) 15 = true
          ∧ s.fld (serKey n 16) 9 6 = 9) then eCONFIG else 0
      result := t }
  else headerHandler w (10 + n) wd v s

/-- A write to a word of page SERn. -/
def serHandler (w : Writer) (n wd : Nat) (v : Word) (s : State) : Handler :=
  let h := serWord w n wd v s
  if s.serClosed n then { h with state := eSTATE } else h

/-- SER_TXD_WRITE (R439, R440). -/
def execSerTxdWrite (w : Writer) (n : Fin 4) (v : Word) (s : State) : Host.Outcome State Fault Refusal :=
  done s (guarded w (10 + n.val) 20 v (serHandler w n.val 20 v s) s)

/-- SER_CONFIG_WRITE (R433, R437). -/
def execSerConfigWrite (w : Writer) (n : Fin 4) (v : Word) (s : State) : Host.Outcome State Fault Refusal :=
  done s (guarded w (10 + n.val) 16 v (serHandler w n.val 16 v s) s)

/-- SER_BAUD_WRITE (R435). -/
def execSerBaudWrite (w : Writer) (n : Fin 4) (v : Word) (s : State) : Host.Outcome State Fault Refusal :=
  done s (guarded w (10 + n.val) 18 v (serHandler w n.val 18 v s) s)

/-- SER_SEND_BREAK (R443). -/
def execSerSendBreak (w : Writer) (n : Fin 4) (v : Word) (s : State) : Host.Outcome State Fault Refusal :=
  done s (guarded w (10 + n.val) 2 v (serHandler w n.val 2 v s) s)

/-- SER_FLOW_WRITE (R445). -/
def execSerFlowWrite (w : Writer) (n : Fin 4) (v : Word) (s : State) : Host.Outcome State Fault Refusal :=
  done s (guarded w (10 + n.val) 22 v (serHandler w n.val 22 v s) s)

/-- SER_DRAIN_ENABLE (R447). -/
def execSerDrainEnable (w : Writer) (n : Fin 4) (v : Word) (s : State) : Host.Outcome State Fault Refusal :=
  done s (guarded w (10 + n.val) 21 v (serHandler w n.val 21 v s) s)

/-! ### Characters -/

/-- The parity bit of a character (R433). -/
def parityBit (par data : Nat) : Bool :=
  let odd := ((List.range 9).filter fun i => data.testBit i).length % 2 == 1
  if par = 1 then !odd else if par = 2 then odd else par == 3

/-- The parity bit does not match PAR (R433). -/
def parityError (par data : Nat) (p : Bool) : Bool := par != 0 && p != parityBit par data

/-- The levels of a character on the line, bit by bit (R433): the stop bit, which lasts as STOP says, comes last. In synchronous mode
there is neither start nor stop bit (R450). -/
def lineBits (cfg : Word) (c : BitVec 9) : List Bool :=
  let n := fieldOf cfg 9 6
  let d := c.toNat % 2 ^ n
  let body := (List.range n).map d.testBit ++ if fieldOf cfg 12 10 = 0 then [] else [parityBit (fieldOf cfg 12 10) d]
  if bitOf cfg 17 then body else false :: body ++ [true]

/-- SERn_TX between two characters: floating while PERI is off, low in a break, else high (R432, R443). -/
def State.txPin (s : State) (n : Nat) : Option Bool := if s.serOn then some (s.ser n).txLine else none

/-- SERn_CK between two characters: floating while PERI is off, CKPOL in synchronous mode, else low (R432, R450). -/
def State.ckPin (s : State) (n : Nat) : Option Bool :=
  if s.serOn then some (bitOf (s.ser n).tx.cfg 17 && bitOf (s.ser n).tx.cfg 16) else none

/-- The holding word of a character under a setting (R434): data cut to DBITS, FE, PE, BRK. -/
def holdingWord (cfg : Word) (data : Nat) (fe pe brk : Bool) : Word :=
  let d := data % 2 ^ fieldOf cfg 9 6
  wordOf (131072 + b2n fe * 65536 + b2n pe * 32768 + b2n brk * 16384 + b2n (bitOf cfg 15 && d.testBit 8) * 4096 + d)

/-- The receiver takes up the pending setting at a start detection (R437). -/
def State.takeRx (s : State) (n : Nat) : State := s.setSer n { s.ser n with rx := s.serSetting n, rxPend := false, rxOld := false }

/-- The receiver's setting for the character that has arrived (R437): the pending one, but a character that began before the write
finishes with the old one. Whether the first character to arrive began before it is free (log 43). -/
def State.startRx (s : State) (n : Nat) : State :=
  let x := s.ser n
  if x.rxPend = false then s
  else if x.rxOld = true ∧ bitOf x.rx.cfg 17 = false then
    let f := s.free
    if f.1 % 2 = 0 then f.2.setSer n { x with rxOld := false } else f.2.takeRx n
  else s.takeRx n

/-- The fast receiver of port n has taken over (R455). -/
def State.fastTakes (s : State) (n : Nat) : State := s.setSer n { s.ser n with slow := false }

/-- RXRDY or THRE of a legacy UART becomes 1: U0 or U1 of LIPND is raised (10 R361). -/
def State.uartEvent (s : State) (n : Nat) : State :=
  if s.legacyDual && decide (n < 2) then s.setB (pg lwinPage 3) (3 + n) true else s

/-- A completed character is stored in RXD, or taken by the Iluhi link of an enabled session (R438, R440, R441). -/
def State.storeChar (s : State) (n : Nat) (h : Word) : State :=
  let t := (s.inc (serKey n 25)).raise (10 + n) 0
  let t := if bitOf h 16 || bitOf h 15 then (t.incSat (serKey n 26)).raise (10 + n) 3 else t
  if s.serSes n then t
  else
    let full := s.reg (serKey n 19) != 0
    let t := if full then (t.incSat (serKey n 27)).raise (10 + n) 5 else t
    let t := (t.setReg (serKey n 19) (forceBit h 13 full)).setB (serKey n 3) 0 true
    if full then t else t.uartEvent n

/-- A received character: XON and XOFF are recognised, every other character is stored (R444). -/
def State.receive (s : State) (n : Nat) (h : Word) : State :=
  let plain := fieldOf h 16 14 == 0 && !bitOf h 12 && s.bit (serKey n 22) 16
  let d := fieldOf h 8 0
  if plain = true ∧ d = 0o23 then s.setB (serKey n 3) 4 true
  else if plain = true ∧ d = 0o21 then (s.setB (serKey n 3) 4 false).sendResp n
  else s.storeChar n h

/-- The receiver runs: PERI is on and RXEN = 1. -/
def State.rxOn (s : State) (n : Nat) : Bool := s.serOn && s.bit (serKey n 2) 0

/-- A character arrives with the level of its first stop bit; its parity bit is given by the format. LINE shows the last level that was
sampled (log 43). In synchronous mode it is one that a sent character has clocked in, with no stop bit and no error of framing (R450). -/
def State.rxChar (s : State) (n data : Nat) (par : Word → Bool) (stop : Bool) : State :=
  if s.rxOn n = false then s
  else match (s.ser n).clocked with
    | c :: l =>
      let d := data % 2 ^ fieldOf c 9 6
      let last := if fieldOf c 12 10 = 0 then d.testBit (fieldOf c 9 6 - 1) else par c
      ((s.setSer n { s.ser n with clocked := l }).setB (serKey n 3) 6 last).receive n
        (holdingWord c d false (parityError (fieldOf c 12 10) d (par c)) false)
    | [] =>
      let t := s.startRx n
      let c := (t.ser n).rx.cfg
      let d := data % 2 ^ fieldOf c 9 6
      if bitOf c 17 then s
      else ((t.fastTakes n).setB (serKey n 3) 6 stop).receive n (holdingWord c d (!stop) (parityError (fieldOf c 12 10) d (par c)) false)

/-- SER_RX_CHARACTER (R433, R438, R441, R450). -/
def execSerRxCharacter (n : Fin 4) (data : BitVec 9) (par stop : Bool) (s : State) : Host.Outcome State Fault Refusal :=
  done s (s.rxChar n.val data.toNat (fun _ => par) stop)

/-- SER_BREAK (R442): the line is low; breaks do not occur in synchronous mode (R450) (log 43). -/
def execSerBreak (n : Fin 4) (s : State) : Host.Outcome State Fault Refusal :=
  let t := s.startRx n.val
  let c := (t.ser n.val).rx.cfg
  done s (if s.rxOn n.val = false ∨ (s.ser n.val).clocked ≠ [] ∨ bitOf c 17 = true then s
    else
      let u := (t.fastTakes n.val).setB (serKey n.val 3) 6 false
      ((u.incSat (serKey n.val 28)).raise (10 + n.val) 4).storeChar n.val
        (holdingWord c 0 true (parityError (fieldOf c 12 10) 0 false) true))

/-- An untagged flow character at the receiver: parity and stop bit are right. -/
def State.flowReceived (s : State) (n d : Nat) : State := s.rxChar n d (fun c => parityBit (fieldOf c 12 10) d) true

/-- SER_XOFF_RECEIVED (R444). -/
def execSerXoffReceived (n : Fin 4) (s : State) : Host.Outcome State Fault Refusal := done s (s.flowReceived n.val 0o23)

/-- SER_XON_RECEIVED (R444). -/
def execSerXonReceived (n : Fin 4) (s : State) : Host.Outcome State Fault Refusal := done s (s.flowReceived n.val 0o21)

/-- The transmitter begins a character: it takes up the pending setting (R437). In synchronous mode the receiver begins one with it
(R450). -/
def State.beginTx (s : State) (n : Nat) (x : Ser) (c : BitVec 9) : State :=
  let g := if x.txPend then s.serSetting n else x.tx
  let y := { x with txShift := some c, tx := g, txPend := false, sent := lineBits g.cfg c }
  s.setSer n (if bitOf g.cfg 17 then { y with rx := g, rxPend := false, rxOld := false } else y)

/-- SER_TX_START (R439, R443 to R445). -/
def execSerTxStart (n : Fin 4) (s : State) : Host.Outcome State Fault Refusal :=
  let x := s.ser n.val
  done s (match x.txHold with
    | some c =>
      if s.serOn = true ∧ s.bit (serKey n.val 2) 1 = true ∧ s.bit (serKey n.val 2) 2 = false ∧ x.txShift = none ∧ x.flowDue = none
          ∧ s.bit (serKey n.val 3) 4 = false then
        ((s.beginTx n.val { x with txHold := none } c).raise (10 + n.val) 1).uartEvent n.val
      else s
    | none => s)

/-- SER_TX_CHARACTER_DONE (R439, R443): a synchronous character has clocked in another one (R450). -/
def execSerTxCharacterDone (n : Fin 4) (s : State) : Host.Outcome State Fault Refusal :=
  let x := s.ser n.val
  done s (if x.txShift.isSome = true ∧ s.serOn = true then
      let low := s.bit (serKey n.val 2) 2 && s.bit (serKey n.val 2) 1
      let t := s.setSer n.val { x with
        txShift := none, lineLow := low, txLine := !low
        clocked := if bitOf x.tx.cfg 17 && s.bit (serKey n.val 2) 0 then x.clocked ++ [x.tx.cfg] else x.clocked }
      if x.txHold.isNone then t.raise (10 + n.val) 2 else t
    else s)

/-- SER_FLOW_CHARACTER_SEND (R445): the due XON or XOFF begins at a boundary of the transmitter. -/
def execSerFlowCharacterSend (n : Fin 4) (s : State) : Host.Outcome State Fault Refusal :=
  let x := s.ser n.val
  done s (match x.flowDue with
    | some xon =>
      if s.serOn = true ∧ s.bit (serKey n.val 2) 1 = true ∧ s.bit (serKey n.val 2) 2 = false ∧ x.txShift = none then
        ((s.beginTx n.val { x with flowDue := none } (if xon then 0o21 else 0o23)).setB (serKey n.val 3) 5 (!xon)).flowEval n.val
      else s
    | none => s)

/-- SER_FLOW_TIMEOUT (R444). -/
def execSerFlowTimeout (n : Fin 4) (s : State) : Host.Outcome State Fault Refusal :=
  done s (if s.serOn = true ∧ s.bit (serKey n.val 3) 4 = true then (s.pageErr (10 + n.val) eTIMEOUT 22).raise (10 + n.val) 7 else s)

/-- The receive drain's next move (R448). With HIF off it fails (14 R462), and the character stays in RXD. -/
def State.drainMove (s : State) (n : Nat) : State :=
  let r := s.fld (serKey n 21) 5 0
  let c := s.reg (serKey n 19)
  if s.bit (serKey n 21) 17 = true ∧ s.prodIs r (4 + n) = true ∧ c ≠ 0 then
    if s.domOn 2 = false then s.unitFails (10 + n)
    else if 1 ≤ s.ringRoom r then
      ((((s.ringPut r [c]).setReg (serKey n 19) 0).setB (serKey n 3) 0 false).setB (serKey n 3) 7 false).flowRing r
    else if s.bit (serKey n 3) 7 then s else (s.setB (serKey n 3) 7 true).raise (10 + n) 6
  else s

/-- SER_DRAIN_MOVE (R448). -/
def execSerDrainMove (n : Fin 4) (s : State) : Host.Outcome State Fault Refusal :=
  done s (if s.serOn then s.drainMove n.val else s)

/-- SER_FEED_TAKE (R449; 11 R371). -/
def execSerFeedTake (n : Fin 4) (s : State) : Host.Outcome State Fault Refusal :=
  let r := s.fld (serKey n.val 21) 11 6
  let x := s.ser n.val
  done s (if s.serOn = true ∧ s.bit (serKey n.val 21) 16 = true ∧ s.consIs r (4 + n.val) = true ∧ x.txHold = none ∧ 1 ≤ s.ringFill r then
      if s.domOn 2 = false then s.unitFails (10 + n.val) else
      let e := s.ringReadE r (s.reg (ringKey r 3)).toNat 1
      let t := if e.2.1 = 2 then e.2.2.pageErr (10 + n.val) eECC 2 else e.2.2
      (t.setSer n.val { x with txHold := some (BitVec.ofNat 9 (fieldOf (e.1.headD 0) 8 0)) }).ringTake r 1
    else s)

/-! ### The slow receiver (R452 to R455) -/

/-- The address register that a character matches. -/
def State.slowMatch (s : State) (u : Nat) (h : Word) : Option Nat :=
  (List.range 2).find? fun k =>
    let a := s.reg (serKey u (30 + k))
    bitOf a 17 && fieldOf h 16 14 == 0 && bitOf h 8
      && ((fieldOf h 7 0 ^^^ fieldOf a 7 0) &&& fieldOf a 15 8) == 0

/-- A wake cause is latched for the power manager and recorded in WKCAUSE; in SLEEP, BACKUP and DORMANT the exit begins (14
R469, R470, R475). -/
def State.latchWake (s : State) (b : Nat) : State :=
  let deep := s.pwr.st == .sleep || s.pwr.st == .backup || s.pwr.st == .dormant
  let t := s.setB (pg 1 20) b true
  let t := if deep && t.fld (pg 1 3) 2 1 == 0 then t.setF (pg 1 3) 2 1 3 else t
  { t with pwr := { t.pwr with wakes := t.pwr.wakes ||| wordOf (2 ^ b) }
           pins := { t.pins with pwren := t.pins.pwren || deep } }

/-- A cause is a wake source of a device state (14 R464): pins 0 to 7, the alarm 8, address matches 9 and 10, the legacy window 11, a
core level 12. -/
def wakesFrom (d : DevState) (cause : Nat) : Bool :=
  match d with
  | .run => false
  | .doze => decide (cause ≤ 8) || cause == 12
  | .sleep => decide (cause ≤ 11)
  | .backup => decide (cause ≤ 8)
  | .dormant => decide (cause ≤ 7)

/-- The state whose wake events are latched: from the acceptance of an entry on, its target (14 R469). -/
def State.wakeState (s : State) : DevState := s.pwr.target.getD s.pwr.st

/-- The slow receiver's character goes to RXD when PERI is on after the wake (R455); it overruns one held there (R438). -/
def State.handOver (s : State) (u : Nat) : State :=
  match (s.ser u).sl with
  | some h =>
    let full := s.reg (serKey u 19) != 0
    let t := if full then (s.incSat (serKey u 27)).raise (10 + u) 5 else s
    (((t.setSer u { t.ser u with sl := none }).setReg (serKey u 19) (forceBit h 13 (full || bitOf h 13))).setB (serKey u 3) 0 true).raise
      (10 + u) 8
  | none => s

/-- The slow receiver of port u runs (R452, R454): SLCFG.EN = 1, in SLEEP with PERI off, and after the wake that it asked for until the
fast receiver takes over. -/
def State.slowOn (s : State) (u : Nat) : Bool :=
  s.bit (serKey u 29) 17 && !s.legacyDual && ((s.pwr.st == .sleep && !s.domOn 3) || (s.ser u).slow)

/-- The holding word of a character of the slow receiver: the format is the one that was in force when PERI went off (R452, log 29), and
a character that reads 0 throughout is a break (R442, R453). -/
def State.slowHolding (s : State) (u data : Nat) (par stop : Bool) : Word :=
  let c := (s.ser u).rx.cfg
  let d := data % 2 ^ fieldOf c 9 6
  holdingWord c d (!stop) (parityError (fieldOf c 12 10) d par)
    (d == 0 && (fieldOf c 12 10 == 0 || !par) && !stop)

/-- The slow receiver keeps a character, over one that was not handed over (R454). With PERI on it is handed over at once (R455). -/
def State.slowKeep (s : State) (u : Nat) (h : Word) : State :=
  let x := s.ser u
  let t := s.setSer u { x with sl := some (forceBit h 13 x.sl.isSome), slow := true }
  if s.domOn 3 then t.handOver u else t

/-- SLOW_RX_CHARACTER (R453, R454): the first matching character asks for the wake; each further one replaces it. -/
def execSlowRxCharacter (u : Fin 2) (data : BitVec 9) (par stop : Bool) (s : State) : Host.Outcome State Fault Refusal :=
  let h := s.slowHolding u.val data.toNat par stop
  done s (if s.slowOn u.val = false then s
    else if (s.ser u.val).slow then (s.setF (serKey u.val 32) 8 0 (fieldOf h 8 0)).slowKeep u.val h
    else match s.slowMatch u.val h with
      | some k =>
        ((s.setReg (serKey u.val 32) (wordOf (131072 + k * 65536 + fieldOf h 8 0))).slowKeep u.val h).latchWake (9 + u.val)
      | none => s)

/-- A wake ends SLEEP or DOZE: SLRX.VALID of a port whose address match is no cause of it clears (R458). -/
def State.slowWoken (s : State) : State :=
  (List.range 2).foldl (fun t u => if s.pwr.wakes.getLsbD (9 + u) then t else t.setB (serKey u 32) 17 false) s

end Sys2Proof.Machine
end

