-- ==== Sys2Proof/Machine/Frame.lean ====
section
/-! DEFINITION. What falls at a Ductus frame boundary (05 R155, R166, R172, R174 to R176; 04 R118, R121, R123, R134;
06 R186, R209; 10 R364), up to the power-down of drained domains, which the power manager adds. -/

namespace Sys2Proof.Machine

/-- Domains that keep a PLL running: 0 CPLL, 1 NPLL, 2 SPLL, 3 TPLL (01 R30). -/
def pllUsers (p : Nat) : List Nat :=
  if p = 0 then [2, 3, 10, 11, 12, 13, 14] else if p = 1 then [4, 5, 6, 7, 9] else if p = 2 then [8] else [15]

/-- A PLL runs while a domain that uses it is on or waking, once REFKHZ is set (14 R461, R478). -/
def State.pllRuns (s : State) (p : Nat) : Bool :=
  s.reg (pg 2 16) != 0 && (pllUsers p).any fun d => s.pstate d == 1 || s.pstate d == 2

/-- Frame boundaries fall while QUIRE is on and NPLL runs and has locked (R155). A domain that is on saw the lock. -/
def State.framesFall (s : State) : Bool :=
  s.domOn 10 && s.pllRuns 1 && (s.bit (pg 2 3) 1 || (pllUsers 1).any fun d => s.domOn d)

/-- The channel's slots are in force. -/
def State.inForce (s : State) (c : Nat) : Bool := s.duct.force.any fun x => x.ch == c

/-- A channel is parked at the end of a drain (R174, R175); one whose slots never took effect is parked unstarted. A phase set that has
taken effect, whose start sample the rank has not reached, stands in the context (04 R123, R134). -/
def State.park (s : State) (c : Nat) : State :=
  let s := match (s.chan c).load with
    | some (i, some p) => s.loadRun c i (some p)
    | _ => s
  let t := ((s.discard c).freeSlots c).moveTo c 4 4
  let t := if s.inForce c then t else t.setB (chKey c 16) 6 false
  (t.setChan c { t.chan c with on := false, taps := [], resume := false }).retargetNow c

/-- The drain of rank r completes: its channels are parked, or OFF when their disabling takes effect here (R174, R175). -/
def State.drainRank (s : State) (r : Nat) : State :=
  if s.rstate r ≠ 2 then s
  else
    let cs := (s.duct.shadow.filter fun x => x.rank == r && holdsSlots (s.chState x.ch)).map TabRow.ch
    let gone := cs.filter fun c => !(s.chan c).disPend
    let t := gone.foldl State.park s
    let t := ((t.setRstate r 0).setReg (pg (31 + r) 19) (wordOf gone.length)).setReg (pg (31 + r) 20) (s.reg (pg 30 23))
    (t.raise (31 + r) 0).raise 30 1

/-- All drains complete (R174). -/
def State.drainRanks (s : State) : State := (List.range 8).foldl State.drainRank s

/-- Channels whose disabling was accepted become OFF (04 R121). -/
def State.disables (s : State) : State :=
  (s.listedChans.filter fun c => (s.chan c).disPend).foldl State.chanOff s

/-- The slots of channels in FAULT are released (04 R152). -/
def State.releaseFaults (s : State) : State :=
  { s with duct := { s.duct with shadow := s.duct.shadow.filter fun x => s.chState x.ch != 5 } }

/-- The shadow becomes the table in force: slots take effect at the first boundary at least 20 µs after their decision
(R163, R166). -/
def State.switchTables (s : State) : State :=
  { s with duct := { s.duct with
      force := s.duct.shadow.filter fun x =>
        s.duct.force.contains x || !s.time.on || decide (20000 ≤ rxtDiff s.time.ns (s.chan x.ch).effNs) } }

/-- The index of the first sample after the boundary of stream n. -/
def State.startIndex (s : State) (n : Nat) : Nat :=
  let x := s.streams.toList.getD n Stream.reset
  match x.cur with
  | some a => a.1
  | none => x.next

/-- A run starts at this boundary: the closure window opens, SEARCHING-HANDOFF, CHHOF (R167; 04 R118). -/
def State.beginRun (s : State) (c : Nat) (load : Nat × Option PhaseSet) : State :=
  let t := s.setChan c { s.chan c with load := some load, resume := false, commits := 0, commitNs := s.time.ns
                                       commitW := s.fld (pg 30 17) 8 0, updStart := s.bit (chKey c 22) 17 && !(s.chan c).updDue }
  t.moveTo c 2 2

/-- Service of a re-admitted channel resumes at the boundary at which its slots take effect (04 R123; R171). -/
def State.resumeChan (s : State) (c : Nat) : State :=
  let x := s.chan c
  if x.resume = false ∨ s.chState c ≠ 1 ∨ s.inForce c = false then s
  else if x.fklim < s.fk c then
    ((s.setB (chKey c 16) 6 false).pageErr (512 + c) eRANGE 2).setChan c { x with resume := false }
  else s.beginRun c (s.startIndex (s.chStream c), none)

/-- The phase that an armed phase set loads, for a start sample at RXT `t` × 2^16: of a handoff, the phase of the peak
carried on to the start sample (06 R209). -/
def State.phaseAt (s : State) (c t : Nat) (p : PhaseSet) : PhaseSet :=
  match p.hand with
  | none => p
  | some (_, fk, cph, rxt0) =>
    let st := s.chStream c
    let dt := (t + 2 ^ 64 - rxt0) % 2 ^ 64
    let pos := (cph * 2 ^ 21 + fk * s.rateN st * dt / (s.rateD st * 65536000000)) % (max 1 (s.primary c) * 2 ^ 35)
    { p with chip := pos / 2 ^ 35, frac := pos % 2 ^ 35 }


/-- An armed phase set at a boundary: it needs 50 µs since its GO and a stamp of its stream; then the check of R171, and
it takes effect (04 R134). -/
def State.phaseBoundary (s : State) (c : Nat) : State :=
  match (s.chan c).ps, (s.streams.toList.getD (s.chStream c) Stream.reset).cur with
  | some p, some (i, t) =>
    if (s.time.on && decide (rxtDiff s.time.ns p.atNs < 50000)) || !holdsSlots (s.chState c) then s
    else
      let u := (s.setB (chKey c 3) 1 false).setChan c { s.chan c with ps := none }
      if (s.chan c).fklim < s.fk c then u.pageErr (512 + c) eRANGE 38
      else
        let u := (u.setB (chKey c 16) 6 true).setRegs (chKey c 40) (rxtWords t)
        u.beginRun c (i, some (s.phaseAt c t p))
  | _, _ => s

/-- Runs that begin at this boundary: phase sets govern resumptions (04 R123, R134). -/
def State.startRuns (s : State) : State :=
  let cs := s.chansIn holdsSlots
  cs.foldl State.phaseBoundary (cs.foldl State.resumeChan s)

/-- A closure window pending becomes the window in force (R172). -/
def State.switchWindow (s : State) : State :=
  if s.bit (pg 30 3) 10 then (s.setReg (pg 30 17) (s.reg (pg 30 16))).setB (pg 30 3) 10 false else s

/-- The key of LCCTL of legacy channel c (10 R355). -/
def lcKey (c k : Nat) : Nat := pg lwinPage (64 + 8 * c + k)

/-- When RANK0 becomes ENABLED the legacy window admits its parked channels again (R178). -/
def State.readmit (s : State) : State :=
  if s.legacyDual = false then s
  else ((List.range 48).filter fun c => s.bit (lcKey c 0) 17 && s.chState c == 4 && !s.bit (chKey c 3) 0).foldl
    (fun t c => t.request c none) s

/-- A rank becomes ENABLED: one that was ENABLING, or one with EN = 1 whose domain has powered up (R176). -/
def State.enableRank (s : State) (r : Nat) : State :=
  if s.domOn (rankDomain r) && (s.rstate r == 3 || (s.rstate r == 0 && s.bit (pg (31 + r) 2) 0)) then
    let t := (s.setRstate r 1).raise (31 + r) 1
    if r = 0 then t.readmit else t
  else s

/-- Ranks that become ENABLED at this boundary. -/
def State.enableRanks (s : State) : State := (List.range 8).foldl State.enableRank s

/-- Count, tick, window and Feed (R155, R172; 12 R420; 02 R66, R70, R73, R77, R78): the first part of a boundary. -/
def State.frameOpen (s : State) (stamps : List (BitVec 64)) : State :=
  let t := ((s.inc (pg 30 23)).setB (pg 4 32) 0 true).switchWindow
  let t := (List.finRange 8).foldl (fun t p => t.feedFrame p) t
  let t := (List.finRange 16).foldl (fun t n => t.streamFrame stamps n) t
  let t := t.captureAll
  { t with duct := { t.duct with ovr := [] } }

/-- Schedule, runs, ranks, captures and the legacy TIC: the last part of a boundary. -/
def State.frameClose (s : State) : State :=
  let t := s.disables.releaseFaults.switchTables.startRuns.enableRanks
  let t := (t.startCapture 0).startCapture 1
  if t.legacyDual then t.setB (pg lwinPage 3) 1 true else t

end Sys2Proof.Machine
end

