-- ==== Sys2Proof/Machine/CoreBase.lean ====
section
/-! DEFINITION. What a Vemel core holds (spec/08 R261 to R266, R275 to R279, R284, R297, R300): the registers by number, results in
flight, the interrupt level that is eligible, the breakpoint; the microwords of its Rubric (spec/09 R334). -/

namespace Sys2Proof.Machine

/-! ### Registers by number (R264, R265) -/

/-- A register number that the device lists. -/
def regListed (n : Nat) : Bool :=
  decide (n ≤ 0o27) || decide (0o40 ≤ n ∧ n ≤ 0o127) || decide (0o140 ≤ n ∧ n ≤ 0o161)

/-- An accumulator's number. -/
def regIsAcc (n : Nat) : Bool := decide (0o20 ≤ n ∧ n ≤ 0o27)

/-- The number of a 24-bit register. -/
def regIs24 (n : Nat) : Bool := decide (0o40 ≤ n ∧ n ≤ 0o77)

/-- A register's value. -/
def Core.get (c : Core) (cid n : Nat) : Nat :=
  if n < 0o20 then (c.d.toList.getD n 0).toNat
  else if n < 0o30 then (c.ac.toList.getD (n - 0o20) 0).toNat
  else if n < 0o60 then (c.p.toList.getD (n - 0o40) 0).toNat
  else if n < 0o100 then (c.bs.toList.getD (n - 0o60) 0).toNat
  else if n < 0o120 then (c.ln.toList.getD (n - 0o100) 0).toNat
  else if n < 0o130 then (c.k.toList.getD (n - 0o120) 0).toNat
  else if n = 0o140 then c.sr.toNat
  else if n = 0o141 then c.pg.toNat
  else if n = 0o142 then c.ra.toNat
  else if n = 0o143 then c.ira.toNat
  else if n = 0o144 then c.isr.toNat
  else if n = 0o145 then c.tra.toNat
  else if n = 0o146 then c.tsr.toNat
  else if n = 0o147 then c.tcs.toNat
  else if n < 0o153 then (c.lc.toList.getD (n - 0o150) 0).toNat
  else if n < 0o156 then (c.lb.toList.getD (n - 0o153) 0).toNat
  else if n < 0o161 then (c.le.toList.getD (n - 0o156) 0).toNat
  else cid

/-- SR with every field but LM written (R266). -/
def srWrite (old : Word) (v : Nat) : Word := withField (wordOf v) 7 7 (fieldOf old 7 7)

/-- Numbers beyond the register numbers, for results that write a part of a register: the flags, settings of GV and DZ,
LD, IE, the low and the high part of P and BS, SR as L-mode writes it, P as L-mode writes it. -/
def rFlags : Nat := 0o200
/-- See `rFlags`. -/
def rSticky : Nat := 0o201
/-- See `rFlags`. -/
def rLd : Nat := 0o202
/-- See `rFlags`. -/
def rIe : Nat := 0o203
/-- See `rFlags`. -/
def rSrL : Nat := 0o204
/-- See `rFlags`. -/
def rLow (n : Nat) : Nat := 0o300 + (n - 0o40)
/-- See `rFlags`. -/
def rHigh (n : Nat) : Nat := 0o340 + (n - 0o40)

/-- A 24-bit register with a part replaced. -/
def part24 (old : Nat) (high : Bool) (v : Nat) : Nat :=
  if high then v % 64 * 262144 + old % 262144 else old / 262144 * 262144 + v % 262144

/-- Writes a register. -/
def Core.put (c : Core) (n v : Nat) : Core :=
  if n < 0o20 then { c with d := c.d.setIfInBounds n (wordOf v) }
  else if n < 0o30 then { c with ac := c.ac.setIfInBounds (n - 0o20) (BitVec.ofNat 44 v) }
  else if n < 0o60 then { c with p := c.p.setIfInBounds (n - 0o40) (BitVec.ofNat 24 v) }
  else if n < 0o100 then { c with bs := c.bs.setIfInBounds (n - 0o60) (BitVec.ofNat 24 v) }
  else if n < 0o120 then { c with ln := c.ln.setIfInBounds (n - 0o100) (wordOf v) }
  else if n < 0o130 then { c with k := c.k.setIfInBounds (n - 0o120) (wordOf v) }
  else if n = 0o140 then { c with sr := srWrite c.sr v }
  else if n = 0o141 then { c with pg := BitVec.ofNat 8 v }
  else if n = 0o142 then { c with ra := BitVec.ofNat 17 v }
  else if n = 0o143 then { c with ira := BitVec.ofNat 17 v }
  else if n = 0o144 then { c with isr := wordOf v }
  else if n = 0o145 then { c with tra := BitVec.ofNat 17 v }
  else if n = 0o146 then { c with tsr := wordOf v }
  else if n = 0o147 then { c with tcs := wordOf v }
  else if n < 0o153 then { c with lc := c.lc.setIfInBounds (n - 0o150) (wordOf v) }
  else if n < 0o156 then { c with lb := c.lb.setIfInBounds (n - 0o153) (BitVec.ofNat 17 v) }
  else if n < 0o161 then { c with le := c.le.setIfInBounds (n - 0o156) (BitVec.ofNat 17 v) }
  else if n = rFlags then { c with sr := withField c.sr 3 0 v }
  else if n = rSticky then { c with sr := c.sr ||| wordOf v }
  else if n = rLd then { c with sr := withField c.sr 6 5 v }
  else if n = rIe then { c with sr := withField c.sr 17 17 v }
  else if n = rSrL then { c with sr := (c.sr &&& ~~~ 0o411017) ||| (wordOf v &&& 0o411017) }
  else if 0o300 ≤ n ∧ n < 0o320 then
    { c with p := c.p.setIfInBounds (n - 0o300) (BitVec.ofNat 24 (part24 (c.get 0 (n - 0o300 + 0o40)) false v)) }
  else if 0o320 ≤ n ∧ n < 0o340 then
    { c with bs := c.bs.setIfInBounds (n - 0o320) (BitVec.ofNat 24 (part24 (c.get 0 (n - 0o320 + 0o60)) false v)) }
  else if 0o340 ≤ n ∧ n < 0o360 then
    { c with p := c.p.setIfInBounds (n - 0o340) (BitVec.ofNat 24 (part24 (c.get 0 (n - 0o340 + 0o40)) true v)) }
  else if 0o360 ≤ n ∧ n < 0o400 then
    { c with bs := c.bs.setIfInBounds (n - 0o360) (BitVec.ofNat 24 (part24 (c.get 0 (n - 0o360 + 0o60)) true v)) }
  else c

/-! ### Results in flight (R276 to R279) -/

/-- One bundle passes: results that are due land in the order of their issue, settings of GV and DZ last (R266, R279). -/
def Core.land (c : Core) : Core :=
  let due := c.inflight.filter fun x => x.2.2 ≤ 1
  let rest := (c.inflight.filter fun x => !decide (x.2.2 ≤ 1)).map fun x => (x.1, x.2.1, x.2.2 - 1)
  let plain := due.filter fun x => x.1 != rSticky
  let sticky := due.filter fun x => x.1 == rSticky
  (plain ++ sticky).foldl (fun c x => c.put x.1 x.2.1) { c with inflight := rest, rubLeft := c.rubLeft - 1 }

/-- The drain: empty bundles until nothing is outstanding; no result takes more than four (R276, R285). -/
def Core.drain (c : Core) : Core := { c.land.land.land.land with rubLeft := 0, shadow := false }

/-- The accumulator input of an accumulation: the latest result issued into it, landed or not (R278). -/
def Core.accInput (c : Core) (n : Nat) : Nat :=
  ((c.inflight.filter fun x => x.1 == 0o20 + n).getLast?.map fun x => x.2.1).getD (c.get 0 (0o20 + n))

/-! ### The state of a core -/

/-- Keeps core c. -/
def State.setCore (s : State) (c : Fin 4) (x : Core) : State := { s with cores := s.cores.set c.val x }

/-- VC0 in LEGACY and DUAL runs in L-mode (R303). -/
def State.lmode (s : State) (c : Fin 4) : Bool := c.val == 0 && s.legacyDual

/-- Home domain of core c. -/
def coreDom (c : Fin 4) : Nat := 11 + c.val

/-- CSTATE (R297). -/
def State.cstate (s : State) (c : Fin 4) : Nat :=
  if s.domOn (coreDom c) = false then 0
  else match s.cores[c.val].mode with
    | .reset => 1
    | .halted => 2
    | .running => 3
    | .idle => 4
    | .gated => 5
    | .dhalt => 6

/-- Level p of core c is requested: by a routed source; at VC0 in L-mode level 6 is INTA and level 7 INTB, with the window's
sources, and no other level is accepted (R284; 10 R348, R364). -/
def State.levelReq (s : State) (c : Fin 4) (p : Nat) : Bool :=
  if s.lmode c then
    let want := s.reg (pg lwinPage 3) &&& s.reg (pg lwinPage 5)
    let sel := s.reg (pg lwinPage 6)
    (p == 6 && (s.levelPending 0 6 || (want &&& ~~~ sel) != 0)) || (p == 7 && (s.levelPending 0 7 || (want &&& sel) != 0))
  else s.levelPending c.val p

/-- The highest eligible level of core c, whatever IE (R284). -/
def State.eligible (s : State) (c : Fin 4) : Option Nat :=
  let sr := s.cores[c.val].sr
  (List.range 8).reverse.find? fun p =>
    s.levelReq c p && (!bitOf sr 16 || decide (fieldOf sr 15 13 < p))

/-- CTRL.RUN of core c. -/
def State.runBit (s : State) (c : Fin 4) : Bool := s.bit (pg (45 + c.val) 2) 0

/-- The core is at the bundle that starts at BRKPT (R300). -/
def State.atBreak (s : State) (c : Fin 4) : Bool :=
  let x := s.cores[c.val]
  s.bit (pg (45 + c.val) 2) 4 && x.pc.toNat == s.fld (pg (45 + c.val) 17) 16 0 && !x.noBreak && !s.lmode c

/-- The microword at u of core c, high and low half. -/
def State.microword (s : State) (c u : Nat) : Nat × Nat :=
  ((s.rdMem (rubrKey c (u % 512))).toNat, (s.rdMem (rubrKey c (u % 512) + 1)).toNat)

end Sys2Proof.Machine
end

