-- ==== Sys2Proof/Machine/Syllable.lean ====
section
/-! DEFINITION. The syllables of a Vemel core: their fields, what makes one illegal, what it writes, and what it computes
(spec/08 R264 to R274, R295; spec/09 R305 to R334). -/

namespace Sys2Proof.Machine

/-- Bits hi to lo of a syllable's body (08 R269). -/
def bf (b hi lo : Nat) : Nat := b / 2 ^ lo % 2 ^ (hi - lo + 1)

/-- A syllable: slot 0 MA, 1 MB, 2 SA, 3 SB, 4 X, 5 C, 6 and 7 illegal; its body; its stop bit (08 R267). -/
structure Syl where
  slot : Nat
  body : Nat
  stop : Bool
  deriving DecidableEq, Repr

/-- A syllable of 36 bits. -/
def Syl.of (x : Nat) : Syl := ⟨bf x 34 32, bf x 31 0, x.testBit 35⟩

/-- DETAIL of a reserved field: 2 when it is not 0 (09 R306). -/
def reserved (n : Nat) : Nat := if n = 0 then 0 else 2

/-! ### Illegal syllables (08 R270, R295; 09 R305, R306) -/

/-- DETAIL of an MA or MB syllable, or 0 (09 R308). -/
def mDetail (b : Nat) : Nat :=
  let o := bf b 31 26
  if 1 ≤ o ∧ o ≤ 3 then reserved (bf b 11 0)
  else if o = 0o10 ∨ o = 0o11 then reserved (bf b 10 0)
  else if o = 0o20 then reserved (bf b 22 20 + bf b 9 0)
  else if 0o21 ≤ o ∧ o ≤ 0o26 then reserved (bf b 22 20 + bf b 15 0)
  else if 0o30 ≤ o ∧ o ≤ 0o33 then reserved (bf b 19 0)
  else if o = 0o34 then reserved (bf b 19 16 + bf b 9 0)
  else if o = 0o35 then reserved (bf b 22 0)
  else 1

/-- DETAIL of an SA or SB syllable, or 0 (08 R269, R271; 09 R312). -/
def sDetail (b : Nat) : Nat :=
  let o := bf b 31 26
  let am := bf b 16 14
  if bf b 31 28 = 0o16 ∨ bf b 31 28 = 0o17 then 0
  else if 1 ≤ o ∧ o ≤ 6 then
    if am = 7 then 2
    else reserved (bf b 0 0 + (if am = 4 then 0 else bf b 10 1) + (if am = 3 ∨ am = 5 ∨ am = 6 then 0 else bf b 13 11)
      + (if 3 ≤ o ∧ o ≤ 5 then bf b 25 25 else 0) + (if o = 6 then 1 - bf b 25 25 else 0))
  else if o = 0o20 ∨ o = 0o21 then reserved (bf b 21 16)
  else 1

/-- DETAIL of an X syllable but CX, or 0 (09 R318). -/
def xDetail (b : Nat) : Nat :=
  let o := bf b 31 26
  if o = 5 then reserved (bf b 25 22 + bf b 13 0)
  else if (0o12 ≤ o ∧ o ≤ 0o14) ∨ o = 0o17 ∨ o = 0o26 then reserved (bf b 17 0)
  else if o = 0o30 ∨ o = 0o31 then reserved (bf b 22 22 + bf b 13 0)
  else if 1 ≤ o ∧ o ≤ 0o25 then reserved (bf b 13 0)
  else if o = 0o41 ∨ (0o46 ≤ o ∧ o ≤ 0o50) then 0
  else if o = 0o45 then reserved (bf b 25 22)
  else if o = 0o57 then reserved (bf b 21 18)
  else if (0o60 ≤ o ∧ o ≤ 0o62) ∨ o = 0o65 then reserved (bf b 17 6)
  else if o = 0o74 ∨ o = 0o75 then
    if regListed (bf b 21 14) = false ∨ regIsAcc (bf b 21 14) = true then 2 else reserved (bf b 13 0)
  else if o = 0o76 ∨ o = 0o77 then if regIs24 (bf b 21 14) then reserved (bf b 13 0) else 2
  else 1

/-- The decode entry that an X3 syllable of core c names (09 R329, R338). -/
def State.cxEntry (s : State) (c : Fin 4) (b : Nat) : Word := s.reg (pg 49 (32 + 16 * c.val + bf b 25 22))

/-- DETAILs of a CX syllable (09 R329, R332). -/
def State.cxDetails (s : State) (c : Fin 4) (b : Nat) : List Nat :=
  let e := s.cxEntry c b
  if bitOf e 17 = false then [6] else if bitOf e 14 = false ∧ bf b 21 18 ≠ 0 then [2] else []

/-- A block operation. -/
def isBlockOp (o : Nat) : Bool := decide (0o30 ≤ o ∧ o ≤ 0o33)

/-- DETAIL of a C syllable, the level of a LOOP apart, or 0 (09 R324, R325). -/
def cDetail (b : Nat) : Nat :=
  let o := bf b 31 26
  if o = 1 ∨ o = 2 then (if bf b 25 22 = 15 then 2 else reserved (bf b 21 17))
  else if (3 ≤ o ∧ o ≤ 5) ∨ (0o21 ≤ o ∧ o ≤ 0o23) then reserved (bf b 25 0)
  else if o = 0o10 then (if bf b 23 23 = 1 then 0 else reserved (bf b 22 21))
  else if o = 0o20 then reserved (bf b 25 5)
  else if o = 0o30 ∨ o = 0o32 then reserved (bf b 13 0)
  else if o = 0o31 then reserved (bf b 25 22 + bf b 9 0)
  else if o = 0o33 then reserved (bf b 21 18 + bf b 5 0)
  else 1

/-- DETAILs of the level of a LOOP (08 R270). -/
def loopDetails (sr : Word) (b : Nat) : List Nat :=
  if bf b 31 26 = 0o10 ∧ (bf b 25 24 ≠ fieldOf sr 6 5 ∨ fieldOf sr 6 5 = 3) then [7] else []

/-- The DETAILs of a syllable of core c by itself. -/
def State.sylDetails (s : State) (c : Fin 4) (y : Syl) : List Nat :=
  let b := y.body
  let one := fun (d : Nat) => if d = 0 then [] else [d]
  if y.slot ≤ 1 then one (mDetail b)
  else if y.slot ≤ 3 then one (sDetail b)
  else if y.slot = 4 then (if bf b 31 26 = 0o70 then s.cxDetails c b else one (xDetail b))
  else one (cDetail b) ++ loopDetails s.cores[c.val].sr b

/-! ### Destinations (08 R270; 09 R308, R312, R318, R324, R325, R332) -/

/-- The registers that a syllable writes, by number. -/
def State.sylWrites (s : State) (c : Fin 4) (y : Syl) : List Nat :=
  let b := y.body
  let o := bf b 31 26
  if y.slot ≤ 1 then
    (if 1 ≤ o ∧ o ≤ 3 then [0o20 + bf b 25 23]
     else if o = 0o10 ∨ o = 0o11 then [0o20 + bf b 25 23, bf b 14 11]
     else if 0o20 ≤ o ∧ o ≤ 0o23 then [bf b 19 16]
     else [0o20 + bf b 25 23])
  else if y.slot ≤ 3 then
    let am := bf b 16 14
    let upd := if am = 1 ∨ am = 2 ∨ am = 3 ∨ am = 5 then [0o40 + bf b 20 17] else []
    (if bf b 31 28 = 0o16 ∨ bf b 31 28 = 0o17 then [0o40 + bf b 27 24]
     else if o = 1 then (bf b 24 21 + 0o40 * bf b 25 25) :: upd
     else if o = 2 then upd
     else if o = 6 then (0o40 + bf b 24 21) :: upd
     else if o = 0o20 then [bf b 25 22]
     else if o = 0o21 then []
     else bf b 24 21 :: upd)
  else if y.slot = 4 then
    (if o = 5 ∨ o = 0o45 then []
     else if o = 0o30 ∨ o = 0o31 then [bf b 25 22, bf b 25 22 + 1]
     else if o = 0o70 then (if bitOf (s.cxEntry c b) 14 then [bf b 21 18] else [])
     else if o = 0o75 ∨ o = 0o77 then (if bf b 21 14 = 0o147 ∨ bf b 21 14 = 0o161 then [] else [bf b 21 14])
     else [bf b 25 22])
  else
    (if o = 2 then [0o142] else if o = 4 ∨ o = 5 then [0o140]
     else if o = 0o10 then [0o150 + bf b 25 24, 0o153 + bf b 25 24, 0o156 + bf b 25 24, 0o140]
     else if o = 0o30 ∨ o = 0o32 then [0o40 + bf b 25 22, 0o40 + bf b 21 18, bf b 17 14]
     else if o = 0o31 then [0o40 + bf b 21 18, bf b 17 14]
     else if o = 0o33 then [0o40 + bf b 25 22, bf b 17 14]
     else [])

/-- The slots whose syllable writes a register that itself or an earlier one of the bundle writes. -/
def State.clashes (s : State) (c : Fin 4) : List Syl → List Nat → List Nat
  | [], _ => []
  | y :: l, seen =>
    let w := s.sylWrites c y
    (if w.any seen.contains || !decide w.Nodup then [y.slot] else []) ++ s.clashes c l (w ++ seen)

/-- The slots of block operations that are not alone in their bundle (09 R326). -/
def blockClash (l : List Syl) : Bool := decide (1 < l.length) && l.any fun y => y.slot == 5 && isBlockOp (bf y.body 31 26)

/-! ### Results: register number, value, latency (08 R276) -/

/-- A result: the register's number, its value, L. -/
abbrev Result := Nat × Nat × Nat

/-- A D register. -/
def Core.dv (c : Core) (n : Nat) : Nat := c.get 0 n

/-- An accumulator's result with GV (09 R310). -/
def accWrite (sat : Bool) (n : Nat) (x : Int) : List Result :=
  let r := accResult sat x
  (0o20 + n, r.1, 3) :: if r.2 then [(rSticky, 512, 3)] else []

/-- An MA or MB syllable (09 R308 to R311). -/
def Core.runM (c : Core) (b : Nat) : List Result :=
  let o := bf b 31 26
  let n := bf b 25 23
  let sat := bitOf c.sr 12
  let a := c.dv (bf b 22 19)
  let m := c.dv (bf b 18 15)
  let acc := c.accInput n
  let src := c.get 0 (0o20 + bf b 22 20)
  let cur := c.get 0 (0o20 + n)
  let d := bf b 19 16
  let sh := signedOf 6 (bf b 15 10)
  if o = 1 then accWrite sat n (macProduct (bf b 14 12) a m)
  else if o = 2 then accWrite sat n (s44 acc + macProduct (bf b 14 12) a m)
  else if o = 3 then accWrite sat n (s44 acc - macProduct (bf b 14 12) a m)
  else if o = 0o10 then (bf b 14 11, a, 1) :: accWrite sat n (s44 acc + 2 * s18 a * s18 m)
  else if o = 0o11 then (bf b 14 11, a, 1) :: accWrite sat n (s44 acc + s18 a * s18 m)
  else if o = 0o20 then [(d, accExtract sat (bitOf c.sr 11) cur sh, 3)]
  else if o = 0o21 then [(d, codeOf 18 (signedOf 8 (cur / 2 ^ 36)), 3)]
  else if o = 0o22 then [(d, cur / 2 ^ 18 % w18, 3)]
  else if o = 0o23 then [(d, cur % w18, 3)]
  else if o = 0o24 then accWrite sat n (s18 (c.dv d) * 262144)
  else if o = 0o25 then [(0o20 + n, acc / 2 ^ 18 * 2 ^ 18 + c.dv d, 3)]
  else if o = 0o26 then [(0o20 + n, c.dv d % 256 * 2 ^ 36 + acc % 2 ^ 36, 3)]
  else if o = 0o30 then accWrite sat n (s44 src)
  else if o = 0o31 then accWrite sat n (s44 acc + s44 src)
  else if o = 0o32 then accWrite sat n (s44 acc - s44 src)
  else if o = 0o33 then accWrite sat n (-(s44 src))
  else if o = 0o34 then accWrite sat n (shiftInt (s44 src) sh)
  else accWrite sat n 0

/-- A sum of pointer n with m (08 R271, R272). -/
def Core.ptrSum (c : Core) (n : Nat) (m : Int) : Nat :=
  let p : Int := (c.get 0 (0o40 + n) : Nat)
  let bs : Int := (c.get 0 (0o60 + n) : Nat)
  let ln : Int := (c.get 0 (0o100 + n) : Nat)
  codeOf 24 (if ln = 0 then p + m else bs + (p - bs + m) % ln)

/-- The address of an A1 syllable and the pointer afterwards (08 R271). -/
def Core.a1 (c : Core) (b : Nat) : Nat × List Result :=
  let n := bf b 20 17
  let am := bf b 16 14
  let p := c.get 0 (0o40 + n)
  let k := s18 (c.get 0 (0o120 + bf b 13 11))
  let upd := fun (v : Nat) => [(0o40 + n, v, 1)]
  if am = 1 then (p, upd (c.ptrSum n 1))
  else if am = 2 then (p, upd (c.ptrSum n (-1)))
  else if am = 3 then (p, upd (c.ptrSum n k))
  else if am = 4 then (c.ptrSum n (signedOf 10 (bf b 10 1)), [])
  else if am = 5 then (c.ptrSum n k, upd (c.ptrSum n k))
  else if am = 6 then (c.ptrSum n k, [])
  else (p, [])

/-- The address of an A2 syllable (08 R273). -/
def Core.a2 (c : Core) (b : Nat) : Nat := c.pg.toNat * 65536 + bf b 15 0

/-- The addresses that an SA or SB syllable accesses. -/
def Core.sAddrs (c : Core) (b : Nat) : List Nat :=
  let o := bf b 31 26
  let a := (c.a1 b).1
  if bf b 31 28 = 0o16 ∨ bf b 31 28 = 0o17 then []
  else if o = 1 ∨ o = 2 then (if bf b 25 25 = 1 then [a, (a + 1) % 2 ^ 24] else [a])
  else if 3 ≤ o ∧ o ≤ 5 then [a]
  else if o = 0o20 ∨ o = 0o21 then [c.a2 b]
  else []

/-- The condition of an X operation that writes no flags. -/
def plainResult (d v : Nat) : List Result := [(d, v, 1)]

/-- A result with its flags. -/
def flagResult (d : Nat) (r : AluRes) : List Result := [(d, r.1, 1), (rFlags, r.2, 1)]

/-- A division's results and whether DZ is set (09 R321, R322). -/
def divResult (d : Nat) (r : Nat × Nat × Nat × Bool) : List Result × Bool :=
  ([(d, r.1, 4), (d + 1, r.2.1, 4), (rFlags, r.2.2.1, 4)] ++ (if r.2.2.2 then [(rSticky, 256, 4)] else []), r.2.2.2)

/-- An X syllable but CX (09 R318 to R322; 08 R265): its results, and whether it divides by zero. -/
def Core.runX (c : Core) (cid b : Nat) : List Result × Bool :=
  let o := bf b 31 26
  let d := bf b 25 22
  let a := c.dv (bf b 21 18)
  let m := c.dv (bf b 17 14)
  let imm := bf b 17 0
  let cin := b2n (bitOf c.sr 1)
  let r := bf b 21 14
  let f := fun (x : AluRes) => (flagResult d x, false)
  if o = 1 then f (aluAdd a m 0) else if o = 2 then f (aluAdd a m cin)
  else if o = 3 then f (aluSub a m 0) else if o = 4 then f (aluSub a m cin)
  else if o = 5 then ([(rFlags, (aluSub a m 0).2, 1)], false)
  else if o = 6 then f (aluPlain (a &&& m)) else if o = 7 then f (aluPlain (a ||| m))
  else if o = 0o10 then f (aluPlain (a ^^^ m)) else if o = 0o11 then f (aluPlain (a &&& (262143 - m)))
  else if o = 0o12 then f (aluPlain (262143 - a)) else if o = 0o13 then f (aluSub 0 a 0)
  else if o = 0o14 then f (aluAbs a)
  else if o = 0o15 then f (aluPlain (if s18 a ≤ s18 m then a else m))
  else if o = 0o16 then f (aluPlain (if s18 a ≤ s18 m then m else a))
  else if o = 0o17 then (plainResult d a, false)
  else if o = 0o20 then f (aluShl a (m % 64)) else if o = 0o21 then f (aluShr a (m % 64))
  else if o = 0o22 then f (aluAsr a (m % 64)) else if o = 0o23 then f (aluShls a (signedOf 6 m))
  else if o = 0o24 then f (aluAshs a (signedOf 6 m)) else if o = 0o25 then f (aluRol a (m % 64))
  else if o = 0o26 then (plainResult d (aluNorm a), false)
  else if o = 0o30 then divResult d (aluDiv true a m) else if o = 0o31 then divResult d (aluDiv false a m)
  else if o = 0o41 then f (aluAdd a imm 0) else if o = 0o45 then ([(rFlags, (aluSub a imm 0).2, 1)], false)
  else if o = 0o46 then f (aluPlain (a &&& imm)) else if o = 0o47 then f (aluPlain (a ||| imm))
  else if o = 0o50 then f (aluPlain (a ^^^ imm)) else if o = 0o57 then (plainResult d imm, false)
  else if o = 0o60 then f (aluShl a (imm % 64)) else if o = 0o61 then f (aluShr a (imm % 64))
  else if o = 0o62 then f (aluAsr a (imm % 64)) else if o = 0o65 then f (aluRol a (imm % 64))
  else if o = 0o74 then (plainResult d (c.get cid r % w18), false)
  else if o = 0o75 then
    (if r = 0o147 ∨ r = 0o161 then [] else plainResult (if regIs24 r then rLow r else r) (c.dv d), false)
  else if o = 0o76 then (plainResult d (c.get cid r / 2 ^ 18), false)
  else (plainResult (rHigh r) (c.dv d % 64), false)

/-! ### The Rubric (09 R329 to R333) -/

/-- The state of a custom operation: T0 to T3, the result for D(DD), the flags. -/
abbrev Rub := List Nat × Option Nat × Option Nat

/-- One microword. -/
def rubStep (a b prm : Nat) (x : Rub) (w : Nat × Nat) : Rub :=
  let hi := w.1
  let lo := w.2
  let src := fun (n : Nat) =>
    if n = 0 then a else if n = 1 then b else if n ≤ 5 then x.1.getD (n - 2) 0 else if n = 6 then prm
    else codeOf 18 (signedOf 11 (bf lo 10 0))
  let sh := bf lo 15 11
  let r := rubOp (bf hi 16 13) (lo.testBit 16) (rubMod (bf hi 9 8) (src (bf hi 12 10)) sh) (rubMod (bf hi 4 3) (src (bf hi 7 5)) sh) sh
  (x.1.set (bf hi 2 1) r.1, if hi.testBit 0 then some r.1 else x.2.1, if lo.testBit 17 then some (flagsOf r.1 r.2.1 r.2.2) else x.2.2)

/-- LEN of the entry that a CX syllable names. -/
def State.cxLen (s : State) (c : Fin 4) (b : Nat) : Nat := fieldOf (s.cxEntry c b) 16 15 + 1

/-- A CX syllable. -/
def State.runCx (s : State) (c : Fin 4) (b : Nat) : List Result :=
  let x := s.cores[c.val]
  let e := s.cxEntry c b
  let len := s.cxLen c b
  let ws := (List.range len).map fun i => s.microword c.val (fieldOf e 8 0 + i)
  let r : Rub := ws.foldl (rubStep (x.dv (bf b 17 14)) (x.dv (bf b 13 10)) (bf b 9 0)) ([0, 0, 0, 0], none, none)
  (match r.2.1 with
    | some v => [(bf b 21 18, v, len)]
    | none => []) ++
  (match r.2.2 with
    | some f => [(rFlags, f, len)]
    | none => [])

end Sys2Proof.Machine
end

