-- ==== Sys2Proof/Machine/Fetch.lean ====
section
/-! DEFINITION. The fetch and decode of a bundle, and the trap that decode finds (spec/08 R257, R268, R270, R290 to R295; spec/09
R326, R335). -/

namespace Sys2Proof.Machine

/-! ### Fetch (08 R257, R268, R290; 11 R371) -/

/-- What a fetch finds wrong with the bundle as a whole, as TCS bits: the cause and the DETAIL. -/
abbrev FetchFault := Option (Nat × Nat)

/-- The syllable at address a of core c: its 36 bits, whether a word had an uncorrectable error, the state after. -/
def State.fetchSyl (s : State) (c : Fin 4) (a : Nat) : Nat × Bool × State :=
  let r := s.memReadN (coreBase + c.val * 524288 + 2 * a) 2
  ((r.1.getD 0 0).toNat * 262144 + (r.1.getD 1 0).toNat, r.2.1 == 2, r.2.2)

/-- The syllables of the bundle at address a, of which i have been fetched and the last one had slot code `prev - 1`. -/
def State.fetchBundle (s : State) (c : Fin 4) (a i prev : Nat) : Nat → List Syl × FetchFault × State
  | 0 => ([], some (1, 4), s)
  | n + 1 =>
    if 131072 ≤ a + i then ([], some (1, 8), s)
    else
      let r := s.fetchSyl c (a + i)
      let y := Syl.of r.1
      if r.2.1 then ([], some (2, 1), r.2.2)
      else if 6 ≤ y.slot then ([], some (1, 3), r.2.2)
      else if y.slot < prev then ([], some (1, 4), r.2.2)
      else if y.stop then ([y], none, r.2.2)
      else
        let t := r.2.2.fetchBundle c a (i + 1) (y.slot + 1) n
        (y :: t.1, t.2)

/-- TCS of a trap (08 R295). -/
def tcsWord (cause detail slot num : Nat) : Nat := cause * 16384 + detail * 512 + slot * 64 + num

/-- Every trap that the fetched bundle raises before it issues, as TCS words (08 R270). -/
def State.bundleTraps (s : State) (c : Fin 4) (ys : List Syl) (f : FetchFault) : List Nat :=
  (match f with
    | some (cause, detail) => [tcsWord cause detail 7 0]
    | none => [])
  ++ (ys.flatMap fun y => (s.sylDetails c y).map fun d => tcsWord 1 d y.slot 0)
  ++ (s.clashes c ys []).map (fun sl => tcsWord 1 5 sl 0)
  ++ (if blockClash ys then [tcsWord 1 4 7 0] else [])

/-- One of several: the choice is free (log 22). -/
def State.pick (s : State) (l : List Nat) : Nat × State :=
  if l.length ≤ 1 then (l.headD 0, s)
  else let f := s.free; (l.getD (f.1 % l.length) 0, f.2)

/-- A trap that the next entry takes: TCS, the address for TRA that R291 gives, the address of the offending bundle. -/
def State.raiseTrap (s : State) (c : Fin 4) (tcs tra bundle : Nat) : State :=
  s.setCore c { s.cores[c.val] with trap := some (tcs, BitVec.ofNat 17 tra, BitVec.ofNat 17 bundle) }

/-- The bundle waits for the quiescence of the Rubric to end (09 R335). -/
def State.rubWaits (s : State) (c : Fin 4) (ys : List Syl) : Bool :=
  s.bit (pg 49 2) c.val && ys.any fun y => y.slot == 4 && bf y.body 31 26 == 0o70

/-- The bundle at PC as decode finds it: its syllables, its traps, the state after its fetch. A bundle that waits for the Rubric
is decoded when the wait ends, with the table then in force (09 R335). -/
def State.decodeBundle (s : State) (c : Fin 4) : List Syl × List Nat × State :=
  let r := s.fetchBundle c s.cores[c.val].pc.toNat 0 0 6
  (r.1, if s.rubWaits c r.1 then [] else s.bundleTraps c r.1 r.2.1, r.2.2)

/-- The state in which the trap of the bundle at PC is pending, if decode finds one (08 R270, R291). -/
def State.decodeTrap (s : State) (c : Fin 4) : Option State :=
  let d := s.decodeBundle c
  let pc := s.cores[c.val].pc.toNat
  if d.2.1 = [] ∨ s.lmode c = true then none else let p := d.2.2.pick d.2.1; some (p.2.raiseTrap c p.1 pc pc)

end Sys2Proof.Machine
end

