-- ==== Sys2Proof/Machine/CoreCtl.lean ====
section
/-! DEFINITION. The control of a Vemel core (spec/08 R292, R298 to R304; spec/09 R334 to R338): resetting, halting, stepping, the
CORE and RUBR pages. -/

namespace Sys2Proof.Machine

/-- A core reset begins (R298): registers at their reset values, LM as R266. -/
def State.resetCore (s : State) (c : Fin 4) : State :=
  let x := s.cores[c.val]
  let fresh := { Core.reset with sr := if s.lmode c then 128 else 0, mode := if x.mode = .gated then .gated else .reset
                                 gatedFrom := .reset }
  s.setCore c fresh

/-- The core comes to a halt at a quiet boundary (R299). -/
def State.haltCore (s : State) (c : Fin 4) (event : Nat) : State :=
  (s.setCore c { s.cores[c.val].drain with mode := .halted, haltReq := false, stepping := false, inBlock := false }).raise
    (45 + c.val) event

/-- The core halts when its bundle has ended, or when DOZE has. -/
def State.askHalt (s : State) (c : Fin 4) : State := s.setCore c { s.cores[c.val] with haltReq := true }

/-- The writer is core c, whose bundle is in issue. -/
def writerIs (w : Writer) (c : Fin 4) : Bool :=
  match w with
  | .core d => d == c
  | _ => false

/-- A halt is wanted by w: at the boundary at hand, which lies behind the bundle of a core that halts itself; after a trap that
is pending there (R292); or in L-mode at the first one outside a load shadow (R299; 10 R348). -/
def State.wantHalt (s : State) (w : Writer) (c : Fin 4) : State :=
  let x := s.cores[c.val]
  if x.mode = .running ∨ x.mode = .idle then
    if writerIs w c = true ∨ x.shadow = true ∨ x.trap.isSome = true ∨ x.wod = true ∨ x.begun = true then s.askHalt c
    else if x.mode = .idle then s.haltCore c 1
    else match s.decodeTrap c with
      | some t => t.askHalt c
      | none => s.haltCore c 1
  else if x.mode = .gated ∧ (x.gatedFrom = .running ∨ x.gatedFrom = .idle) then s.askHalt c
  else s

/-- Issue resumes at PC (R299); a core that DOZE has gated resumes when DOZE ends. The first bundle does not break (R300). -/
def State.wantRun (s : State) (c : Fin 4) : State :=
  let x := s.cores[c.val]
  if x.mode = .halted then s.setCore c { x with mode := .running, noBreak := true, stepping := false, haltReq := false }
  else if x.mode = .gated ∧ x.gatedFrom = .halted then
    s.setCore c { x with haltReq := false, gatedFrom := .running, noBreak := true }
  else s.setCore c { x with haltReq := false }

/-- A write of CTRL (R298 to R300, R303) (log 40). -/
def coreCtrl (w : Writer) (c : Fin 4) (v : Word) (s : State) : Handler :=
  let x := s.cores[c.val]
  let t := s.plain w (45 + c.val) 2 v
  { state := if s.lmode c = true ∨ (bitOf v 1 = true ∧ x.mode ≠ .halted) ∨ (bitOf v 0 = true ∧ x.mode = .dhalt) then eSTATE else 0
    range := true, extra := 0
    result :=
      if bitOf v 2 then t.resetCore c
      else if bitOf v 0 then t.wantRun c
      else if bitOf v 1 then t.setCore c { x with mode := .running, stepping := true, noBreak := true }
      else t.wantHalt w c }

/-- The value that a write of RDAT2 gives the selected register (R302). -/
def State.rdatValue (s : State) (c : Fin 4) (n : Nat) (v : Word) : Nat :=
  let p := 45 + c.val
  if regIsAcc n then (s.fld (pg p 22) 7 0 * 262144 + (s.reg (pg p 23)).toNat) * 262144 + v.toNat
  else if regIs24 n then s.fld (pg p 23) 5 0 * 262144 + v.toNat
  else v.toNat

/-- A write of RDAT2. -/
def rdatHandler (c : Fin 4) (v : Word) (s : State) : Handler :=
  let x := s.cores[c.val]
  let n := s.fld (pg (45 + c.val) 21) 7 0
  { state := if s.lmode c = true ∨ (x.mode ≠ .halted ∧ x.mode ≠ .dhalt) then eSTATE else 0
    range := true, extra := 0
    result := s.setCore c (x.put n (s.rdatValue c n v)) }

/-- A write to a word of a CORE page (R302 to R304). -/
def coreHandler (w : Writer) (c : Fin 4) (wd : Nat) (v : Word) (s : State) : Handler :=
  let p := 45 + c.val
  let x := s.cores[c.val]
  let held := if s.lmode c then eSTATE else 0
  if wd = 2 then coreCtrl w c v s
  else if wd = 16 then
    { state := if s.lmode c = true ∨ x.mode ≠ .halted then eSTATE else 0, range := true, extra := 0
      result := s.setCore c { x with pc := BitVec.ofNat 17 v.toNat, inBlock := false } }
  else if wd = 20 then ⟨0, true, 0, if bitOf v 0 then s.raise p 5 else s⟩
  else if wd = 21 then ⟨held, regListed (fieldOf v 7 0), 0, s.plain w p 21 v⟩
  else if wd = 22 ∨ wd = 23 then ⟨held, true, 0, s.plain w p wd v⟩
  else if wd = 24 then rdatHandler c v s
  else headerHandler w p wd v s

/-- CORE_RESET (R298). -/
def execCoreReset (w : Writer) (c : Fin 4) (v : Word) (s : State) : Host.Outcome State Fault Refusal :=
  done s (guarded w (45 + c.val) 2 (forceBit v 2 true) (coreCtrl w c (forceBit v 2 true) s) s)

/-- CORE_RUN (R299). -/
def execCoreRun (w : Writer) (c : Fin 4) (v : Word) (s : State) : Host.Outcome State Fault Refusal :=
  done s (guarded w (45 + c.val) 2 (forceBit v 0 true) (coreCtrl w c (forceBit v 0 true) s) s)

/-- CORE_HALT (R299). -/
def execCoreHalt (w : Writer) (c : Fin 4) (v : Word) (s : State) : Host.Outcome State Fault Refusal :=
  done s (guarded w (45 + c.val) 2 (forceBit v 0 false) (coreCtrl w c (forceBit v 0 false) s) s)

/-- CORE_STEP (R299): the bundle that follows is the step. -/
def execCoreStep (w : Writer) (c : Fin 4) (v : Word) (s : State) : Host.Outcome State Fault Refusal :=
  done s (guarded w (45 + c.val) 2 (forceBit v 1 true) (coreCtrl w c (forceBit v 1 true) s) s)

/-- CORE_REGISTER_WRITE (R302). -/
def execCoreRegisterWrite (w : Writer) (c : Fin 4) (v : Word) (s : State) : Host.Outcome State Fault Refusal :=
  done s (guarded w (45 + c.val) 24 v (rdatHandler c v s) s)

/-- CORE_PC_WRITE (R302). -/
def execCorePcWrite (w : Writer) (c : Fin 4) (v : Word) (s : State) : Host.Outcome State Fault Refusal :=
  done s (guarded w (45 + c.val) 16 v (coreHandler w c 16 v s) s)

/-- SWEV_SET (R304). -/
def execSwevSet (w : Writer) (c : Fin 4) (s : State) : Host.Outcome State Fault Refusal :=
  done s (guarded w (45 + c.val) 20 1 (coreHandler w c 20 1 s) s)

/-- CORE_RESET_DONE (R298, R303): in LEGACY VC1 to VC3 stay in RESET. VC0 in L-mode follows LCTL.DRUN. -/
def execCoreResetDone (c : Fin 4) (s : State) : Host.Outcome State Fault Refusal :=
  let x := s.cores[c.val]
  let run := if s.lmode c then s.bit (pg lwinPage 1) 0 else s.runBit c
  done s (if x.mode = .reset ∧ s.domOn (coreDom c) = true ∧ ¬ (s.pins.persona = .legacy ∧ c.val ≠ 0) then
      s.setCore c { x with mode := if run then .running else .halted }
    else s)

/-- An interrupt is accepted at the boundary at hand (R284, R285). -/
def State.acceptable (s : State) (c : Fin 4) : Bool := bitOf s.cores[c.val].sr 17 && (s.eligible c).isSome

/-- The core is at a boundary, and no trap is pending there: it issues, or IDLE has ended (R288, R292). -/
def State.atBoundary (s : State) (c : Fin 4) : Bool :=
  let x := s.cores[c.val]
  (x.mode == .running || (x.mode == .idle && s.acceptable c)) && s.domOn (coreDom c) && x.trap.isNone && !x.wod && !x.begun

/-- BREAKPOINT_HALT (R292, R300). A trap of the bundle goes first. -/
def execBreakpointHalt (c : Fin 4) (s : State) : Host.Outcome State Fault Refusal :=
  done s (if s.atBoundary c = true ∧ s.atBreak c = true then (s.decodeTrap c).getD (s.haltCore c 2) else s)

/-! ### The RUBR page (09 R334 to R338) -/

/-- The number of a writer in the table of held UDH words. -/
def writerNo (w : Writer) : Nat := (writerCode w).getD 12

/-- The decode table and control store of core c accept writes (R334): its domain is on; and the core does not issue, or
is quiescent. -/
def State.rubrRefusal (s : State) (c : Fin 4) (hold : Bool) : Nat :=
  let x := s.cores[c.val]
  if s.domOn (coreDom c) = false then eSTATE
  else if hold || x.mode == .reset || x.mode == .halted || x.mode == .dhalt || s.bit (pg 49 3) c.val then 0 else eBUSY

/-- The core that USEL selects. -/
def State.usel (s : State) : Fin 4 := ⟨s.fld (pg 49 16) 1 0 % 4, Nat.mod_lt _ (by decide)⟩

/-- A write of UDL (R334, R338; 11 R388). -/
def udlHandler (w : Writer) (v : Word) (s : State) : Handler :=
  let c := s.usel
  let u := s.fld (pg 49 17) 8 0
  let hi := (s.udh.get? (writerNo w)).getD 0
  { state := if s.rubrRefusal c false ≠ 0 then s.rubrRefusal c false else if s.lost (rubrKey c.val u) then eLOST else 0
    range := fieldOf hi 16 13 != 15, extra := 0
    result := ((s.wrMem (rubrKey c.val u) hi).wrMem (rubrKey c.val u + 1) v).setF (pg 49 17) 8 0 (u + 1) }

/-- The microwords of an entry end where it says (R334). -/
def State.entryOk (s : State) (c start len : Nat) : Bool :=
  decide (start + len ≤ 512)
  && (List.range len).all fun i => (s.microword c (start + i)).1.testBit 17 == (i + 1 == len)

/-- Some microword of the entry writes D(DD). -/
def State.entryWrites (s : State) (c start len : Nat) : Bool :=
  (List.range len).any fun i => (s.microword c (start + i)).1.testBit 0

/-- A write of DENTc_e (R334). -/
def dentHandler (w : Writer) (c : Fin 4) (e : Nat) (v : Word) (s : State) : Handler :=
  let start := fieldOf v 8 0
  let len := fieldOf v 16 15 + 1
  let wd := 32 + 16 * c.val + e
  let t := s.plain w 49 wd v
  { state := s.rubrRefusal c false, range := true
    extra := if bitOf v 17 = true ∧ s.entryOk c.val start len = false then eCONFIG else 0
    result := if bitOf v 17 then
        ((t.memReadN (rubrKey c.val start) (2 * len)).2.2).setB (pg 49 wd) 14 (s.entryWrites c.val start len) else t }

/-- A write of CTRL: a request that is taken back ends the quiescence (R335). -/
def rubrCtrl (w : Writer) (v : Word) (s : State) : Handler :=
  let t := s.plain w 49 2 v
  ⟨0, true, 0, (List.range 4).foldl (fun t c => if bitOf v c then t else t.setB (pg 49 3) c false) t⟩

/-- A write to a word of the RUBR page. -/
def rubrHandler (w : Writer) (wd : Nat) (v : Word) (s : State) : Handler :=
  if wd = 2 then rubrCtrl w v s
  else if wd = 18 then
    ⟨s.rubrRefusal s.usel true, true, 0, { s with udh := s.udh.put (writerNo w) v }⟩
  else if wd = 19 then udlHandler w v s
  else if 32 ≤ wd ∧ wd < 96 then
    dentHandler w ⟨(wd - 32) / 16 % 4, Nat.mod_lt _ (by decide)⟩ ((wd - 32) % 16) v s
  else headerHandler w 49 wd v s

/-- RUBRIC_MICROWORD_WRITE (R334). -/
def execRubricMicrowordWrite (w : Writer) (v : Word) (s : State) : Host.Outcome State Fault Refusal :=
  done s (guarded w 49 19 v (udlHandler w v s) s)

/-- RUBRIC_ENTRY_WRITE (R334). -/
def execRubricEntryWrite (w : Writer) (c : Fin 4) (e : Fin 16) (v : Word) (s : State) : Host.Outcome State Fault Refusal :=
  done s (guarded w 49 (32 + 16 * c.val + e.val) v (dentHandler w c e.val v s) s)

/-- QUIESCE_REQUEST (R335). -/
def execQuiesceRequest (w : Writer) (c : Fin 4) (v : Word) (s : State) : Host.Outcome State Fault Refusal :=
  done s (guarded w 49 2 (forceBit v c.val true) (rubrCtrl w (forceBit v c.val true) s) s)

/-- QUIESCE_DONE (R335): the Rubric unit has finished its last microword. -/
def execQuiesceDone (c : Fin 4) (s : State) : Host.Outcome State Fault Refusal :=
  done s (if s.bit (pg 49 2) c.val = true ∧ s.bit (pg 49 3) c.val = false then
      ((s.setB (pg 49 3) c.val true).raise 49 c.val).setCore c { s.cores[c.val] with rubLeft := 0 }
    else s)

/-- QUIESCE_RELEASE (R335). -/
def execQuiesceRelease (w : Writer) (c : Fin 4) (v : Word) (s : State) : Host.Outcome State Fault Refusal :=
  done s (guarded w 49 2 (forceBit v c.val false) (rubrCtrl w (forceBit v c.val false) s) s)

end Sys2Proof.Machine
end

