-- ==== Sys2Proof/Machine/Power.lean ====
section
/-! DEFINITION. Power domains, device states, wake sources, the RTC's source and the PLLs (spec/14 R459 to R478, R484, R485).
Accesses that a wake releases are in `Domain`. -/

namespace Sys2Proof.Machine

/-! ### PLLs (01 R30, 14 R478; 07 R214, R219) -/

/-- LOCKp. -/
def State.locked (s : State) (p : Nat) : Bool := s.bit (pg 2 3) p

/-- RXT starts at 0 (07 R214, R247): TIME powered up and nothing was kept across the stop. -/
def State.startTime (s : State) : State :=
  if s.time.on || s.time.kept || !s.domOn 15 then s
  else
    let t := (s.setReg (pg 16 20) 0).setB (pg 16 3) 7 true
    { t with time := { s.time with ns := 0, frac := 0, refExt := 0, on := true }
             meas := { s.meas with lastT := none, penNs := 0, epochAt := none } }

/-- PLL p locks. -/
def State.lockPll (s : State) (p : Nat) : State :=
  let t := s.setB (pg 2 3) p true
  if p = 3 then (t.setB (pg 16 3) 0 true).startTime else t

/-- PLLs that no domain needs stop and are not locked (R461). -/
def State.stopPlls (s : State) : State :=
  (List.range 4).foldl (fun t p => if t.pllRuns p then t else
    let u := t.setB (pg 2 3) p false
    if p = 3 then u.setB (pg 16 3) 0 false else u) s

/-- PLL_UNLOCK (R478; 07 R219). -/
def execPllUnlock (k : Fin 4) (s : State) : Host.Outcome State Fault Refusal :=
  done s (if s.pllRuns k.val = true ∧ s.locked k.val = true then
      let t := ((s.setB (pg 2 3) k.val false).raise 2 k.val).incSat (pg 2 (18 + k.val))
      if k.val = 3 then (((t.setB (pg 16 3) 0 false).setB (pg 16 3) 4 true).setB (pg 16 3) 3 false).raise 16 0 else t
    else s)

/-- PLL_RELOCK (R478; 07 R219). -/
def execPllRelock (k : Fin 4) (s : State) : Host.Outcome State Fault Refusal :=
  done s (if s.pllRuns k.val = true ∧ s.locked k.val = false then
      let t := s.lockPll k.val
      if k.val = 3 then t.raise 16 1 else t
    else s)

/-! ### Switching a domain (R459 to R461) -/

/-- Sets PSTATE of a domain. -/
def State.setPstate (s : State) (d : Nat) (v : BitVec 2) : State :=
  { s with pwr := { s.pwr with dom := s.pwr.dom.setIfInBounds d v } }

/-- The lanes of a Feed domain go OFF; streams of a port in DATA become invalid (02 R58, R78). -/
def State.feedsOff (s : State) (d : Nat) : State :=
  (List.finRange 8).foldl (fun t p => if portDomain p.val = d then
    ((t.zeroPort p.val).setLane p 0).setFeed p { t.feed p with goArmed := false, timerOn := false, confirming := false } else t) s

/-- The sessions whose home domain is d end (12 R395). A serial session that is not enabled has ended before. -/
def State.endSessions (s : State) (d : Nat) : State :=
  (List.range 8).foldl (fun t q =>
    if (if q < 2 then 2 else 3) = d ∧ t.present q = true ∧ (q < 4 ∨ t.bit (sesKey q 0) 17 = true) then t.endSession q else t) s

/-- The measured RXT of the RTC tick edge at which TIME stops, × 2^16 (07 R215, R244): the tap at which the edge falls is open. -/
def State.tickEdge (s : State) : Nat := s.rxt + (roundDiv ((s.free.1 % 40 * 65536 : Nat) : Int) 40).toNat

/-- The state that TIME loses when it powers down (07 R235, R243): a pending APPLY and map application, a calibration run;
the outputs float. SLRXT takes the RXT of the stop, with its carry into WRAPC. -/
def State.timeOff (s : State) : State :=
  let t := ((s.setB (pg 16 3) 1 false).setB (pg 16 3) 2 false).setF (pg 17 3) 7 0 0
  let quiet := fun (x : TpSt) =>
    { x with pulse := none, level := idleLevel x.cur.pol, lastEnd := none, doneTick := none, polAt := none, tabOld := [] }
  let t : State := { t with tps := t.tps.map quiet }
  if t.time.on then
    let e := t.tickEdge
    let u := t.free.2.setRegs (pg 16 58) (rxtWords (e % 2 ^ 64))
    let u := if e < 2 ^ 64 then u else (u.inc (pg 16 20)).raise 16 2
    { u with
      time := { t.time with on := false, kept := true, n1 := 0, n2 := 0, slSwitched := false } }
  else t

/-- A domain powers down: banks are signed or lost, PSTATE becomes 0, or 3 with a bank retained (R460). -/
def State.domainDown (s : State) (d : Nat) : State :=
  if s.pstate d = 0 ∨ s.pstate d = 3 then s
  else
    let t := if d = 4 ∨ d = 5 then s.feedsOff d
      else if d = 2 then { s.endSessions 2 with pins := { s.pins with busOut := none } } else if d = 3 then s.endSessions 3
      else if d = 8 then s.dropCache else if d = 15 then s.timeOff
      else if d = 10 then { s with ctxShadow := s.mem.filter fun e => decide (quireBase ≤ e.1) && decide (e.1 < quireBase + 32768) }
      else s
    let keep := t.retains d
    let t := (t.memOff d).setPstate d (if keep then 3 else 0)
    { t with pwr := { t.pwr with refilled := t.pwr.refilled &&& ~~~ BitVec.ofNat 16 (2 ^ d)
                                 offPend := t.pwr.offPend &&& ~~~ BitVec.ofNat 16 (2 ^ d) } }.stopPlls

/-- A LOCK word, which HIF holds (01 R37, R39). -/
def isLock (key : Nat) : Bool := key % 1024 == 8

/-- Deletes the words of a page from a word on: they read their reset values again. LOCK, which HIF holds and the device
never releases by itself, stays (01 R37, R39). -/
def State.clearPage (s : State) (p lo n : Nat) : State :=
  { s with regs := s.regs.filter fun e => isLock e.1 || !(decide (pg p lo ≤ e.1) && decide (e.1 < pg p lo + n)) }

/-- Every descriptor and program reads VALID = 0 (03 R109). -/
def State.noCodes (s : State) : State :=
  let t := (List.range 32).foldl (fun t p => t.setB (lpKey p 0) 17 false) s.dropCache
  (List.range 64).foldl (fun t r => t.setB (rdKey r 0) 17 false) t

/-- What QUIRE loses at a power-up without retention: every VALID and use count of the Exemplar and every channel's state
(03 R101, R104; 04 R150). The DUCT page always takes its reset values (05 R155). -/
def State.quireUp (s : State) (kept : Bool) : State :=
  let t := s.clearPage 30 0 1024
  let t := { t with duct := { t.duct with ovr := [] } }
  if kept then t
  else
    let t := t.noCodes.clearPage 39 672 96
    { t with regs := t.regs.filter fun e => isLock e.1 || !(decide (pg 512 0 ≤ e.1) && decide (e.1 < pg 1024 0))
             chans := [], duct := ⟨[], [], [], []⟩ }

/-- A core powers up without retention: through RESET, with RUN as ARUN; VC0 loses its pace (08 R301; 10 R352) (log 52). -/
def State.coreUp (s : State) (c : Fin 4) : State :=
  let p := 45 + c.val
  let t := s.setB (pg p 2) 0 (s.bit (pg p 2) 5)
  let t := if c.val = 0 then t.setB (pg 50 16) 17 false else t
  let t := t.setCore c { t.cores[c.val] with mode := .reset }
  t.resetCore c

/-- The channels whose context lies in a Quire bank that is LOST at the wake enter FAULT (04 R150, R151). -/
def State.quireLost (s : State) : State :=
  if s.retnBit 20 16 then (s.chansIn fun st => st != 0).foldl (fun t c => t.chanFault c 3) s else s

/-- A domain has powered up (R461): its retained banks are checked, PSTATE is 2. Whether QUIRE powers up with retention is told by
the Quire's own bank 16 (DESIGN CHOICE, log 67). -/
def State.domainUp (s : State) (d : Nat) : State :=
  let kept := (banksOf d).any fun b => s.blot.held.getLsbD b
  let s := if d = 4 ∨ d = 5 then
      (List.range 8).foldl (fun t p => if portDomain p = d then t.zeroPort p else t) s else s
  let t := (s.memOn d).setPstate d 2
  if d = 10 then (t.quireUp (s.blot.held.getLsbD 16)).quireLost
  else if d = 2 then (t.clearPage 4 0 1024).newSweep
  else if d = 3 then (t.handOver 0).handOver 1
  else if d = 15 then t.setB (pg 16 3) 3 false
  else if h : 11 ≤ d ∧ d ≤ 14 then (if kept then t else t.coreUp ⟨d - 11, by omega⟩)
  else t

/-- DCTLd.ON. -/
def State.onBit (s : State) (d : Nat) : Bool := s.bit (pg 1 (48 + d)) 17

/-- A core issues. -/
def State.coreRuns (s : State) (c : Fin 4) : Bool := s.domOn (coreDom c) && s.cores[c.val].mode == .running

/-- A capture is armed or runs. -/
def State.capturing (s : State) : Bool := s.capBusy 0 || s.capBusy 1

/-- A job is queued, runs or waits (R459). -/
def State.jobsBusy (s : State) : Bool := s.jobQueued || s.scr.jobs != []

/-- QUIRE is in use (R459): a channel holds slots, a stream or a spectrum monitor is enabled, the RF SPI transfers. -/
def State.quireBusy (s : State) : Bool :=
  s.chansIn holdsSlots != [] || (List.range 16).any (fun n => s.bit (smapKey n) 17)
  || (List.range 8).any (fun m => s.bit (pg 29 (16 + 4 * m)) 17) || s.bit (pg 28 3) 0

/-- A core is not idle (R459). -/
def State.coreBusy (s : State) (d : Nat) : Bool := (List.finRange 4).any fun c => coreDom c == d && s.coreRuns c

/-- What refuses a switch-off with BUSY (R459, R460). -/
def State.offBusy (s : State) (d : Nat) : Bool :=
  s.pstate d == 1
  || (s.domOn d && ((d == 8 && s.jobsBusy) || (d == 9 && (s.capturing || s.jobReads 0 4194304)) || (d == 10 && s.quireBusy)
    || s.coreBusy d))

/-- A switch-off: ranks of a Nib domain drain first (05 R175). -/
def State.switchOff (s : State) (d : Nat) : State :=
  let t := if d = 6 ∨ d = 7 then s.drainDomain d else s
  if t.draining d = true ∧ (d = 6 ∨ d = 7) then
    { t with pwr := { t.pwr with offPend := t.pwr.offPend ||| BitVec.ofNat 16 (2 ^ d) } }
  else t.domainDown d

/-- ON = 0 is refused with STATE for these domains, and ITEN is reserved (R459, R460). -/
def fixedDomain (d : Nat) : Bool := d == 0 || d == 1 || d == 2 || d == 15

/-- A write of DCTLd. -/
def dctlHandler (w : Writer) (d : Nat) (v : Word) (s : State) : Handler :=
  let t := s.plain w 1 (48 + d) (if fixedDomain d then forceBit v 16 false else v)
  if bitOf v 17 then ⟨0, true, 0, if s.pwr.offPend.getLsbD d then t else t.wakeDom d⟩
  else
    { state := if fixedDomain d then eSTATE else if s.offBusy d then eBUSY else 0
      range := true, extra := 0
      result := if s.domOn d then t.switchOff d else t }

/-- DOMAIN_SWITCH_OFF (R460). -/
def execDomainSwitchOff (w : Writer) (d : Fin 16) (v : Word) (s : State) : Host.Outcome State Fault Refusal :=
  done s (guarded w 1 (48 + d.val) (forceBit v 17 false) (dctlHandler w d.val (forceBit v 17 false) s) s)

/-- DOMAIN_POWER_UP (R461). -/
def execDomainPowerUp (w : Writer) (d : Fin 16) (v : Word) (s : State) : Host.Outcome State Fault Refusal :=
  done s (guarded w 1 (48 + d.val) (forceBit v 17 true) (dctlHandler w d.val (forceBit v 17 true) s) s)

/-- A shifter or a holding register of a serial port holds a character (R459). -/
def State.serBusy (s : State) : Bool :=
  (s.sers.any fun x => x.txHold.isSome || x.txShift.isSome) || (List.range 4).any fun n => s.reg (serKey n 19) != 0

/-- The condition of a domain's idle timer (R459). -/
def State.domainIdle (s : State) (d : Nat) : Bool :=
  if d = 3 then !s.serBusy && s.fld (pg 9 3) 1 0 == 0 && !s.bit (pg 14 3) 0
  else if d = 4 ∨ d = 5 then (List.range 8).all fun p => portDomain p != d || s.lane p == 0
  else if d = 6 ∨ d = 7 then (List.range 8).all fun r => rankDomain r != d || s.rankChans r == 0
  else if d = 8 then !s.jobsBusy
  else if d = 9 then !s.capturing && !s.jobReads 0 4194304
  else if d = 10 then !s.quireBusy
  else (List.finRange 4).all fun c => coreDom c != d || match s.cores[c.val].mode with
    | .idle => (s.eligible c).isNone
    | .halted => true
    | .dhalt => true
    | _ => false

/-- DOMAIN_IDLE_EXPIRY (R460). -/
def execDomainIdleExpiry (d : Fin 16) (s : State) : Host.Outcome State Fault Refusal :=
  done s (if fixedDomain d.val = false ∧ s.domOn d.val = true ∧ s.bit (pg 1 (48 + d.val)) 16 = true ∧ s.domainIdle d.val = true then
      (s.setB (pg 1 (48 + d.val)) 17 false).switchOff d.val
    else s)

/-! ### Device states (R464 to R471) -/

/-- The code of a device state. -/
def DevState.code : DevState → Nat
  | .run => 0
  | .doze => 1
  | .sleep => 2
  | .backup => 3
  | .dormant => 4

/-- The device state of a code. -/
def devState (n : Nat) : DevState :=
  if n = 0 then .run else if n = 1 then .doze else if n = 2 then .sleep else if n = 3 then .backup else .dormant

/-- STAT.PHASE. -/
def State.phase (s : State) : Nat := s.fld (pg 1 3) 2 1

/-- Sets STAT.PHASE. -/
def State.setPhase (s : State) (n : Nat) : State := s.setF (pg 1 3) 2 1 n

/-- Sets the device state and STAT.DSTATE. -/
def State.setDev (s : State) (d : DevState) : State :=
  { s.setF (pg 1 3) 5 3 d.code with pwr := { s.pwr with st := d } }

/-- An entry is requested and waits (R465). -/
def State.beginEntry (s : State) (d : DevState) (by_ : Option Writer) : State :=
  { s.setPhase 1 with pwr := { s.pwr with target := some d, cmdBy := by_, cmdLw := false, wakes := 0 } }

/-- LPWR.SLP commands SLEEP (10 R363). -/
def State.beginEntryLw (s : State) (w : Writer) : State :=
  let t := s.beginEntry .sleep (some w)
  { t with pwr := { t.pwr with cmdLw := true } }

/-- An entry ends without being made: ENTREF; wake events stay recorded in WKCAUSE only (R466, R469). -/
def State.dropEntry (s : State) : State :=
  let s := (s.setPhase 0).raise 1 1
  { s with pwr := { s.pwr with target := none, cmdBy := none, cmdLw := false, wakes := 0 } }

/-- A core is gated at a quiet boundary (R467) (log 40). -/
def Core.gate (x : Core) : Core :=
  if x.mode = .gated then x else { x.drain with mode := .gated, gatedFrom := x.mode }

/-- DOZE ends: each core returns to the state that it had (R467). A halt or run written meanwhile applies. -/
def State.ungate (s : State) (c : Fin 4) : State :=
  let x := s.cores[c.val]
  if x.mode = .gated then
    let t := s.setCore c { x with mode := x.gatedFrom }
    if x.haltReq ∧ (x.gatedFrom = .running ∨ x.gatedFrom = .idle) then t.haltCore c 1 else t
  else s

/-- Every core returns to its state. -/
def State.ungateAll (s : State) : State := (List.finRange 4).foldl State.ungate s

/-- DOZE ends (R465, R467): PREV records it and WAKE is raised as at every exit. -/
def State.endDoze (s : State) : State :=
  let t := (s.slowWoken.ungateAll.setDev .run).setF (pg 1 3) 8 6 1
  { t.raise 1 0 with pwr := { t.pwr with prev := .doze, wakes := 0 } }

/-- A write of PWR.CTRL (R465). In LEGACY SLEEP is entered through LPWR only, BACKUP and DORMANT never (01 R44 notes 3, 4). -/
def pwrCtrl (w : Writer) (v : Word) (s : State) : Handler :=
  let n := fieldOf v 3 1
  let cur := s.pwr.st.code
  let t := s.plain w 1 2 v
  if bitOf v 0 = false then ⟨0, true, 0, t⟩
  else
    { state := if s.phase ≠ 0 then eBUSY
        else if (decide (cur < n) || (n == 0 && cur == 1)) = false ∨ (s.pins.persona = .legacy ∧ 2 ≤ n) then eSTATE else 0
      range := true, extra := 0
      result := if n = 0 then t.endDoze else t.beginEntry (devState n) (some w) }

/-- DEVICE_STATE_GO (R465). -/
def execDeviceStateGo (w : Writer) (v : Word) (s : State) : Host.Outcome State Fault Refusal :=
  done s (guarded w 1 2 (forceBit v 0 true) (pwrCtrl w (forceBit v 0 true) s) s)

/-- A core issues no bundle: IDLE, HALTED, DHALT or OFF; a gated core counts as what it was, and in LEGACY the cores held in
RESET count too (R465, R466; 08 R303) (log 40). -/
def State.coreQuiet (s : State) (c : Fin 4) : Bool :=
  let quiet := fun (m : CoreMode) => match m with
    | .idle => true
    | .halted => true
    | .dhalt => true
    | .reset => s.pins.persona == .legacy && c.val != 0
    | _ => false
  let x := s.cores[c.val]
  !s.domOn (coreDom c) || quiet (if x.mode = .gated then x.gatedFrom else x.mode)

/-- Every core is quiet. -/
def State.coresQuiet (s : State) : Bool := (List.finRange 4).all s.coreQuiet

/-- The domains that an entry switches off (R468, R471, R483). -/
def State.offSet (s : State) (d : DevState) : List Nat :=
  let order := [4, 5, 6, 7, 8, 9, 11, 12, 13, 14, 10, 3, 2, 15]
  match d with
  | .sleep => order.filter fun n => s.bit (pg 1 18) n && !(n == 2 && s.legacyDual)
  | _ => order

/-- An entry to SLEEP, BACKUP or DORMANT must wait (01 R43; R466; 15 R522) (log 52). -/
def State.entryWaits (s : State) (d : DevState) : Bool :=
  let busyHere := fun n => s.domOn n &&
    ((n == 8 && s.jobsBusy) || (n == 9 && (s.capturing || s.jobReads 0 4194304)) || (n == 10 && s.quireBusy)
      || (n == 15 && s.bit (pg 19 3) 0))
  s.capturing || s.jobsBusy || (List.range 8).any (fun r => s.rstate r == 2)
  || s.upd.op.isSome
  || !s.coresQuiet || (s.offSet d).any busyHere

/-- The timer's condition, and the state that it enters (R465). -/
def State.ditNext (s : State) (k : Nat) : Option DevState :=
  if k = 0 then (if s.pwr.st = .run ∧ s.coresQuiet = true then some .doze else none)
  else if s.pins.persona = .legacy then none
  else if k = 1 then (if s.pwr.st = .doze then some .sleep else none)
  else if k = 2 then (if s.pwr.st = .sleep then some .backup else none)
  else if s.pwr.st = .backup then some .dormant else none

/-- DEVICE_IDLE_TIMER_EXPIRY (R465, R466, R482): an entry that must wait is abandoned. -/
def execDeviceIdleTimerExpiry (k : Fin 4) (s : State) : Host.Outcome State Fault Refusal :=
  done s (match s.ditNext k.val with
    | some d =>
      if s.bit (pg 1 (22 + k.val)) 17 = false ∨ s.phase ≠ 0 then s
      else if d ≠ .doze ∧ s.entryWaits d = true then s.dropEntry
      else s.beginEntry d none
    | none => s)

/-- The refusal of a commanded entry with BUSY: of a write of PWR.CTRL in the PWR page, of one of LPWR as the window's (10 R367), and with
the writer. -/
def State.refuseEntry (s : State) (w : Writer) : State :=
  if s.pwr.cmdLw then ((s.raise 50 0).incSat (pg 50 18)).writerErr w eBUSY 7
  else (s.pageErr 1 eBUSY 2).writerErr w eBUSY (pageAddr 1 2)

/-- ENTRY_WAIT_TIMEOUT (01 R43): a commanded entry has waited 100 ms; an entry of an idle timer that waits is abandoned. -/
def execEntryWaitTimeout (s : State) : Host.Outcome State Fault Refusal :=
  done s (match s.pwr.target with
    | some d =>
      if s.phase = 1 ∧ d ≠ .doze ∧ s.entryWaits d = true then
        (match s.pwr.cmdBy with
          | some w => s.refuseEntry w
          | none => s).dropEntry
      else s
    | none => s)

/-- The entry at hand, if it is ready: VC0 in L-mode is not gated in a load shadow (10 R348). -/
def State.ready (s : State) (d : DevState) : Bool :=
  s.pwr.target == some d && s.phase == 1 && (if d == .doze then !s.cores[0].shadow else !s.entryWaits d)

/-- An entry that an idle timer began has come to wait: it is abandoned (01 R43; R466). -/
def State.unready (s : State) (d : DevState) : State :=
  if s.pwr.target = some d ∧ s.phase = 1 ∧ d ≠ .doze ∧ s.pwr.cmdBy = none ∧ s.entryWaits d = true then s.dropEntry else s

/-- A wake pin's filtered level is active and the pin is on (R475). -/
def State.pinActive (s : State) (n : Nat) : Bool :=
  s.bit (pg 1 (64 + n)) 17 && s.pins.wake.getLsbD n == s.bit (pg 1 (64 + n)) 16

/-- The last step of an entry: the state is reached; an event latched, or a wake pin that is active, starts the exit at
once (R469) (log 59). -/
def State.settleEntry (s : State) (d : DevState) : State :=
  let t := (s.setDev d).setPhase 0
  let t : State := { t with pwr := { t.pwr with target := none, cmdBy := none, cmdLw := false } }
  let t := (List.range 8).foldl (fun t n => if t.pinActive n then t.latchWake n else t) t
  if t.pwr.wakes = 0 then t
  else
    let u := (t.setB (pg 1 20) 17 true).setPhase 3
    { u with pins := { u.pins with pwren := true } }

/-- DOZE_ENTRY (R467): every core is gated. -/
def execDozeEntry (s : State) : Host.Outcome State Fault Refusal :=
  done s (if s.ready .doze then
      ({ s with cores := s.cores.map Core.gate }.abortBorrow.settleEntry .doze).setPhase 0
    else s)

/-- A core has an eligible level (R464). -/
def State.coreLevel (s : State) : Bool := (List.finRange 4).any fun c => s.domOn (coreDom c) && (s.eligible c).isSome

/-- DOZE_EXIT (R464, R467): a wake event is latched, or a core has an eligible level. -/
def execDozeExit (s : State) : Host.Outcome State Fault Refusal :=
  done s (if s.pwr.st = .doze ∧ s.pwr.target = none ∧ (s.pwr.wakes ≠ 0 ∨ s.coreLevel = true) then
      (if s.coreLevel then s.setB (pg 1 20) 12 true else s).endDoze
    else s)

/-- The ranks of the Nib domains that an entry switches off drain, and their channels are parked (R468 step 2). -/
def State.entryDrain (s : State) (off : List Nat) : State :=
  let t := off.foldl (fun t d => if d = 6 ∨ d = 7 then t.drainDomain d else t) s
  t.drainRanks.disables.releaseFaults.switchTables

/-- The regulator's mode, which STAT.REGLP and REG.MODE report (R472). -/
def State.setLp (s : State) (lp : Bool) : State := (s.setF (pg 1 3) 0 0 (b2n lp)).setF (pg 1 19) 0 0 (b2n lp)

/-- A domain other than AON and BKP is on or waking (R472). -/
def State.anyDomain (s : State) : Bool :=
  (List.range 16).any fun d => decide (2 ≤ d) && (s.pstate d == 1 || s.pstate d == 2)

/-- Steps 1 to 5 of an entry (R468). -/
def State.powerDown (s : State) (off : List Nat) : State :=
  let t := (s.setPhase 2).abortBorrow
  let t := (t.setB (pg 16 3) 1 false).entryDrain off
  off.foldl State.domainDown t

/-- Domains that are on. -/
def State.onMask (s : State) : BitVec 16 :=
  (List.range 16).foldl (fun x d => if s.domOn d || s.pstate d == 1 then x ||| BitVec.ofNat 16 (2 ^ d) else x) 0

/-- SLEEP_ENTRY (R468, R469). A core whose domain stays on is gated; the regulator enters LP mode when SLPLP = 1 and no
other domain stays on (R472) (log 42). -/
def execSleepEntry (s : State) : Host.Outcome State Fault Refusal :=
  done s (if s.ready .sleep then
      let on := s.onMask
      let t := s.powerDown (s.offSet .sleep)
      let t := { t with cores := t.cores.map Core.gate, pwr := { t.pwr with onAt := on } }
      let t : State := { t with sers := t.sers.map fun x => { x with slow := false } }
      (t.setLp (t.bit (pg 1 19) 1 && !t.anyDomain)).settleEntry .sleep
    else s.unready .sleep)

/-- The legacy sample input trains again at a wake (10 R363). -/
def State.legacyTrain (s : State) (wasOff : Bool) : State :=
  if s.legacyDual = true ∧ wasOff = true ∧ s.bit (pg lwinPage 24) 17 = true then
    (s.setLane 0 1).setFeed 0 { s.feed 0 with timerOn := true, goArmed := false, confirming := false }
  else s

/-- The update lock is released without an event (01 R44). -/
def State.dropUpdateLock (s : State) : State := s.setReg (pg 14 16) 0

/-- Entry to BACKUP or DORMANT: every domain but AON and BKP goes off and no bank is retained; PWREN falls (R471, R472; 16
R542). -/
def State.deepEntry (s : State) (d : DevState) : State :=
  let s := (s.setReg (pg 44 16) 0).setReg (pg 44 17) 0
  let held := s.blot.held
  let t := (s.powerDown (s.offSet d)).dropUpdateLock
  let t := (List.range 26).foldl (fun t b => if held.getLsbD b ∧ bankDomain b ≠ 1 then t.forgetBank b else t) t
  let t := (List.range 16).foldl (fun t n => if n ≤ 1 then t else t.setPstate n 0) t
  { t.setLp true with
    blot := { t.blot with held := 0, signed := 0, mon := 0 }
    pins := { t.pins with pwren := false, busOut := none }
    pwr := { t.pwr with rails := false, refilled := 0, offPend := 0 } }

/-- BACKUP_ENTRY (R471). -/
def execBackupEntry (s : State) : Host.Outcome State Fault Refusal :=
  done s (if s.ready .backup then
      let m := (s.reg (pg 44 16), s.reg (pg 44 17))
      State.settleEntry (((s.deepEntry .backup).setReg (pg 44 16) m.1).setReg (pg 44 17) m.2) .backup
    else s.unready .backup)

/-! ### Wake pins, alarm, RTC (R475 to R477) -/

/-- A wake event: in RUN and DOZE it raises an event of the PWR page; it is latched when it can end the state that the device is in or
enters (R464, R469). -/
def State.wakeEvent (s : State) (cause event : Nat) : State :=
  let t := if s.pwr.st = .run ∨ s.pwr.st = .doze then s.raise 1 event else s
  if wakesFrom s.wakeState cause then t.latchWake cause else t

/-- A change of a pin's setting or level that makes it active is its wake event (R475). -/
def State.pinEvent (s t : State) (n : Nat) : State := if t.pinActive n && !s.pinActive n then t.wakeEvent n 2 else t

/-- WAKE_PIN (R475): the filter of the pin passes a level. -/
def execWakePin (n : Fin 8) (level : Bool) (s : State) : Host.Outcome State Fault Refusal :=
  let bit := BitVec.ofNat 8 (2 ^ n.val)
  let t := { s with pins := { s.pins with wake := if level then s.pins.wake ||| bit else s.pins.wake &&& ~~~ bit } }
  done s (if t.pinActive n.val then t.wakeEvent n.val 2 else t)

/-- The RTC counts on by k ticks; while TIME stands still they count for the rebuild (07 R244). -/
def State.rtcTicks (s : State) (k : Nat) : State :=
  let t := s.time
  let c := t.kept && !t.on
  { s with time := { t with rtc := (t.rtc + k) % rxtMod
                            n1 := if c && !t.rtcSrc then t.n1 + k else t.n1
                            n2 := if c && t.rtcSrc then t.n2 + k else t.n2 } }

/-- RTC_ALARM (R476): the counter reaches the alarm. BKP runs in every state but DORMANT. -/
def execRtcAlarm (s : State) : Host.Outcome State Fault Refusal :=
  done s (if s.time.almOn = true ∧ s.domOn 1 = true then
      (s.rtcTicks ((s.time.alm + rxtMod - s.time.rtc) % rxtMod)).wakeEvent 8 3
    else s)

/-- A write of ALM2 (R476). -/
def alm2Handler (w : Writer) (v : Word) (s : State) : Handler :=
  let a0 := s.reg (pg 1 29)
  { state := 0, range := true, extra := 0
    result := { s.plain w 1 31 v with
      time := { s.time with almOn := bitOf a0 17
                            alm := (fieldOf a0 11 0 * 262144 + (s.reg (pg 1 30)).toNat) * 262144 + v.toNat } } }

/-- ALM2_WRITE (R476). -/
def execAlm2Write (w : Writer) (v : Word) (s : State) : Host.Outcome State Fault Refusal :=
  done s (guarded w 1 31 v (alm2Handler w v s) s)

/-- A change of the RTC's source becomes due, or cancels the due one when the source is in use already (R477). -/
def State.rtcWant (s : State) (rc : Bool) : State :=
  { s.setB (pg 2 17) 0 rc with time := { s.time with rtcDue := if s.time.rtcSrc = rc then none else some rc } }

/-- A write of RTCCTL (R477). -/
def rtcctlHandler (w : Writer) (v : Word) (s : State) : Handler :=
  { state := if bitOf v 0 = false ∧ s.bit (pg 2 3) 4 = false then eSTATE else 0, range := true, extra := 0
    result := (s.plain w 2 17 v).rtcWant (bitOf v 0) }

/-- A write to a word of the CLK page (R477, R478). -/
def clkHandler (w : Writer) (wd : Nat) (v : Word) (s : State) : Handler :=
  if wd = 16 then
    { state := if (List.range 4).any s.pllRuns then eSTATE else 0, range := true, extra := 0, result := s.plain w 2 16 v }
  else if wd = 17 then rtcctlHandler w v s
  else headerHandler w 2 wd v s

/-- RTC_SOURCE_WRITE (R477). -/
def execRtcSourceWrite (w : Writer) (v : Word) (s : State) : Host.Outcome State Fault Refusal :=
  done s (guarded w 2 17 v (rtcctlHandler w v s) s)

/-- The source in use, or the one that is due (R477). -/
def State.rtcSel (s : State) : Bool := s.time.rtcDue.getD s.time.rtcSrc


/-- XTAL_OK (R477). -/
def execXtalOk (s : State) : Host.Outcome State Fault Refusal := done s (s.setB (pg 2 3) 4 true)

/-- CRYSTAL_FAILURE (R477). -/
def execCrystalFailure (s : State) : Host.Outcome State Fault Refusal := done s (s.setB (pg 2 3) 4 false)

/-! ### The PWR page (R484) -/

/-- A write of BKD: the word at BKA, and BKA moves on (R484; 11 R388). -/
def bkdHandler (v : Word) (s : State) : Handler :=
  let a := s.fld (pg 1 32) 13 0
  { state := if s.lost (bkpKey a) then eLOST else 0, range := true, extra := 0
    result := (s.wrMem (bkpKey a) v).setF (pg 1 32) 13 0 (a + 1) }

/-- A write to a word of the PWR page. -/
def pwrHandler (w : Writer) (wd : Nat) (v : Word) (s : State) : Handler :=
  if wd = 2 then pwrCtrl w v s
  else if wd = 31 then alm2Handler w v s
  else if wd = 33 then bkdHandler v s
  else if 48 ≤ wd ∧ wd ≤ 63 then dctlHandler w (wd - 48) v s
  else if 64 ≤ wd ∧ wd ≤ 71 then ⟨0, true, 0, s.pinEvent (s.plain w 1 wd v) (wd - 64)⟩
  else headerHandler w 1 wd v s

/-- BACKUP_STORE_WRITE (R484). -/
def execBackupStoreWrite (w : Writer) (v : Word) (s : State) : Host.Outcome State Fault Refusal :=
  done s (guarded w 1 33 v (bkdHandler v s) s)

/-! ### The frame boundary (05 R155) -/

/-- Domains whose drains are complete power down; one whose ON bit is 1 again wakes at once (R460, R482). -/
def State.drainedOff (s : State) : State :=
  [6, 7].foldl (fun t d =>
    if t.pwr.offPend.getLsbD d = true ∧ t.draining d = false then
      let u := t.domainDown d
      if u.onBit d then u.wakeDom d else u
    else t) s

/-- FRAME_BOUNDARY (05 R155): the stamps are those of the sixteen streams. -/
def execFrameBoundary (stamps : List (BitVec 64)) (s : State) : Host.Outcome State Fault Refusal :=
  done s (if s.framesFall then (s.frameOpen stamps).drainRanks.drainedOff.frameClose else s)

end Sys2Proof.Machine
end

