-- ==== Sys2Proof/Machine/Reset.lean ====
section
/-! DEFINITION. Resets, the exit from BACKUP and DORMANT, the warm restart (spec/14 R471, R474, R479, R486; spec/15 R502; spec/16
R541 to R543). -/

namespace Sys2Proof.Machine

/-- A word held in BKP (14 R484, R486; 07 R243, R244). -/
def inBkp (key : Nat) : Bool :=
  let p := key / 1024
  let w := key % 1024
  (p == 1 && (decide (26 ≤ w ∧ w ≤ 31) || w == 33)) || (p == 3 && w == 17) || (p == 16 && decide (42 ≤ w ∧ w ≤ 61))

/-- A keep-word. -/
def isKeep (key : Nat) : Bool := decide (pg 1 96 ≤ key ∧ key ≤ pg 1 127)

/-- A word held in AON, other than the keep-words (14 R484 to R486; 13 R458; 15 R524). LOCK is held in HIF (01 R39). -/
def inAon (key : Nat) : Bool :=
  let p := key / 1024
  let w := key % 1024
  !inBkp key && !isKeep key && !isLock key
  && (decide (p ≤ 3) || p == 15 || p == 44 || ((p == 10 || p == 11) && decide (29 ≤ w ∧ w ≤ 32))
    || (p == 14 && (w == 16 || w == 17 || w == 28 || w == 29)))

/-- A word of the TIME, TP, EVT or MEAS page outside BKP. -/
def inTime (key : Nat) : Bool := !inBkp key && !isLock key && decide (16 ≤ key / 1024 ∧ key / 1024 ≤ 19)

/-- What a reset keeps (14 R479). -/
structure Kept where
  aon : Bool
  keep : Bool
  bkp : Bool
  time : Bool
  deriving DecidableEq, Repr

/-- A register word survives. -/
def Kept.word (k : Kept) (key : Nat) : Bool :=
  (inBkp key && k.bkp) || (isKeep key && k.keep) || (inAon key && k.aon) || (inTime key && k.time)

/-- The timebase after a reset: what BKP holds is kept with it. -/
def Kept.timeSt (k : Kept) (t : TimeSt) : TimeSt :=
  if k.time then t
  else if k.bkp then { t with ns := 0, frac := 0, on := false, refExt := 0, mapAt := 0 }
  else TimeSt.reset

/-- The ARUN bits, held in AON (08 R301). -/
def State.keepArun (t s : State) : State :=
  [45, 46, 47, 48].foldl (fun t p => t.setB (pg p 2) 5 (s.bit (pg p 2) 5)) t

/-- The units after a reset: every one at its reset state but what is kept; memory contents stay (00 R23); a flash
operation is broken off (15 R511). -/
def State.resetUnits (s : State) (k : Kept) : State :=
  let s := if k.aon then s.cutOp else s.cutOp.breakOtp
  let t : State := { State.reset with
    pending := s.pending, freeCtr := s.freeCtr, regs := s.regs.filter fun e => k.word e.1, mem := s.mem, memEpoch := s.memEpoch
    pins := { s.pins with busOut := none, pwren := true }, time := k.timeSt s.time
    ev := if k.time then { s.ev with rises := [], tmLoad := [] } else State.reset.ev
    meas := if k.time then { s.meas with cur := s.meas.cur.map fun l => { l with lost := true }, legWant := false }
      else State.reset.meas
    tps := if k.time then s.tps else State.reset.tps
    blot := { State.reset.blot with eccBad := s.blot.eccBad, held := if k.aon then s.blot.held else 0
                                    signed := if k.aon then s.blot.signed else 0, mon := if k.aon then s.blot.mon else 0 }
    upd := { State.reset.upd with flash := s.upd.flash, otp := s.upd.otp
                                  lcsOp := if k.aon then s.upd.lcsOp else none } }
  let t := if k.aon then t.keepArun s else t
  let t := (t.setB (pg 2 17) 0 t.rtcSel).setB (pg 15 3) 5 t.upd.lcsOp.isSome
  (List.finRange 4).foldl State.resetCore t

/-- Reset cause n is recorded (14 R486): RCNT counts resets since the last POR or BOR. -/
def State.resetCause (t s : State) (n : Nat) : State :=
  (t.setReg (pg 3 16) (wordOf n)).setReg (pg 3 18) (if n = 0 ∨ n = 2 then 0 else s.reg (pg 3 18) + 1)

/-- Memories that lose power while VDD_CORE is away: every one but the backup store and the banks held from the AON rail. -/
def State.forgetCore (s : State) : State :=
  let t := (List.range 25).foldl (fun t b => if s.blot.held.getLsbD b then t else t.forgetBank b) s
  (t.forget scrpBase 1048576).forget inkwBase 4194304

/-- Banks held from the AON rail, and the backup store, lose their contents (14 R474). -/
def State.forgetAon (s : State) : State :=
  ((List.range 25).foldl (fun t b => if s.blot.held.getLsbD b then t.forgetBank b else t) s).forgetBank 25

/-- RST_N is asserted (14 R479 row 1): BKP keeps what it has; one that was off comes up reset. -/
def State.rstReset (s : State) : State :=
  let t := (s.resetUnits ⟨false, true, s.domOn 1, false⟩).resetCause s 1
  let t : State := { t with time := { t.time with kept := false } }
  if s.domOn 1 then t else t.setReg (pg 3 17) 1

/-- RESET_ASSERT (14 R479). -/
def execResetAssert (s : State) : Host.Outcome State Fault Refusal :=
  let t := s.rstReset
  done s { t with pins := { t.pins with rstN := false } }

/-- The straps are sampled, and the device starts (00 R2; 14 R479; 15 R487). -/
def State.sampleStraps (s : State) (pins bootpins : BitVec 2) : State :=
  let t : State := { s with pins := { s.pins with
    rstN := true, personaPins := pins, bootsrcPins := bootpins
    persona := if pins = 1 then .legacy else if pins = 2 then .dual else .native } }
  (List.finRange 4).foldl State.resetCore t

/-- RST_N_RELEASE (00 R2): the straps are sampled at the rising edge. -/
def execRstNRelease (pins : BitVec 2) (bootpins : BitVec 2) (s : State) : Host.Outcome State Fault Refusal :=
  done s (if s.pins.rstN then s else s.sampleStraps pins bootpins)

/-- POWER_ON_RESET (14 R479 row 0): nothing is kept; RST_N is low until the supplies are good (16 R541). -/
def execPowerOnReset (s : State) : Host.Outcome State Fault Refusal :=
  let t := (s.resetUnits ⟨false, false, false, false⟩).resetCause s 0
  let t := (t.forgetCore.forgetBank 25).setReg (pg 3 17) 1
  done s { t with pins := { t.pins with rstN := false } }

/-- BROWN_OUT (14 R474, R479 row 2): AON and BKP reset, and the device restarts as after an assertion and release of RST_N, which
samples the straps: what stands on the pins then is free (log 3). A device held by RST_N stays held, and samples them at the release. -/
def execBrownOut (s : State) : Host.Outcome State Fault Refusal :=
  let p := s.free
  let b := p.2.free
  let t := ((b.2.forgetAon.resetUnits ⟨false, false, false, false⟩).resetCause s 2).setReg (pg 3 17) 2
  done s (if s.pins.rstN then t.sampleStraps (BitVec.ofNat 2 p.1) (BitVec.ofNat 2 b.1) else t)

/-- SUPPLY_FALL (16 R543): outside BACKUP and DORMANT, as an assertion of RST_N; memories on VDD_CORE lose their contents
(11 R372). -/
def execSupplyFall (s : State) : Host.Outcome State Fault Refusal :=
  done s (if s.pwr.st = .backup ∨ s.pwr.st = .dormant then s else s.forgetCore.rstReset)

/-! ### DORMANT, and the exit from BACKUP and DORMANT (14 R471; 16 R542) -/

/-- DORMANT_ENTRY (14 R471): BKP powers down too; the backup store and what BKP holds are lost. -/
def execDormantEntry (s : State) : Host.Outcome State Fault Refusal :=
  done s (if s.ready .dormant then
      let m := (s.reg (pg 44 16), s.reg (pg 44 17))
      let t := ((s.deepEntry .dormant).setReg (pg 44 16) m.1).setReg (pg 44 17) m.2
      let t := (t.forgetBank 25).setPstate 1 0
      State.settleEntry { t with regs := t.regs.filter (fun e => !inBkp e.1), time := TimeSt.reset } .dormant
    else s.unready .dormant)

/-- PWREN is high after a wake event in BACKUP or DORMANT, and the rails are awaited. -/
def State.railsAwaited (s : State) : Bool := s.pins.pwren && !s.pwr.rails && (s.pwr.st == .backup || s.pwr.st == .dormant)

/-- POWER_RAILS_IN_RANGE (16 R542). -/
def execPowerRailsInRange (s : State) : Host.Outcome State Fault Refusal :=
  done s (if s.railsAwaited then { s with pwr := { s.pwr with rails := true } } else s)

/-- PWREN_RETRY (16 R542): PWREN falls for 10 ms and is high again at the end of the retry. -/
def execPwrenRetry (s : State) : Host.Outcome State Fault Refusal :=
  done s (if s.railsAwaited then { s with pins := { s.pins with pwren := true } } else s)

/-- Every domain powers up as at reset, with its PLLs locked; ON reads 1 of each (14 R471) (log 42). -/
def State.allUp (s : State) : State :=
  let t := (List.range 16).foldl (fun t d => (t.setPstate d 2).setB (pg 1 (48 + d)) 17 true) s
  (List.range 4).foldl (fun t p => if t.pllRuns p then t.lockPll p else t) t

/-- The fresh start of a wake from BACKUP or DORMANT (14 R471, R479 rows 4 and 5). WRAPC, to which the rebuild after BACKUP adds,
keeps its count (DEDUCED from 07 R214 and R245, log 69). -/
def State.deepExit (s : State) : State :=
  let dormant := s.pwr.st == .dormant
  let t := (s.slowWoken.resetUnits ⟨true, true, !dormant, false⟩).resetCause s (if dormant then 5 else 4)
  let t := if dormant then t.setReg (pg 3 17) 1 else t.setReg (pg 16 20) (s.reg (pg 16 20))
  let t := (((t.setF (pg 1 3) 8 6 s.pwr.st.code).setF (pg 1 3) 5 0 0).setF (pg 1 19) 0 0 0).raise 1 0
  { t with pwr := { t.pwr with prev := s.pwr.st } }.allUp

/-- BACKUP_EXIT (14 R470, R471): a wake event is latched and the rails are in range. -/
def execBackupExit (s : State) : Host.Outcome State Fault Refusal :=
  done s (if (s.pwr.st = .backup ∨ s.pwr.st = .dormant) ∧ s.pwr.wakes ≠ 0 ∧ s.pwr.target = none ∧ s.pwr.rails = true ∧ s.pins.pwren = true
    then s.deepExit else s)

/-! ### The warm restart (15 R502) -/

/-- The reset of a warm restart (14 R479 row 3): AON, BKP and TIME run on; domains stay as they are switched (log 52). -/
def State.warmReset (s : State) : State :=
  let t := (s.resetUnits ⟨true, true, true, true⟩).resetCause s 3
  let t := t.inc (pg 3 19)
  let t := t.setF (pg 1 3) 5 1 0
  { t with pwr := { s.pwr with st := .run, target := none, cmdBy := none, cmdLw := false, wakes := 0, offPend := 0 }
           upd := { t.upd with warm := true } }

/-- A write of RST.CTRL (15 R502). -/
def rstCtrl (w : Writer) (v : Word) (s : State) : Handler :=
  if bitOf v 0 then
    ⟨if s.bit (pg 14 3) 0 = true ∨ s.bit (pg 15 3) 5 = true then eBUSY else 0, true, 0, s.warmReset⟩
  else ⟨0, true, 0, s.plain w 3 2 v⟩

/-- A write to a word of the RST page (14 R486). -/
def rstHandler (w : Writer) (wd : Nat) (v : Word) (s : State) : Handler :=
  if wd = 2 then rstCtrl w v s else headerHandler w 3 wd v s

/-- WARM_RESTART (15 R502). -/
def execWarmRestart (w : Writer) (v : Word) (s : State) : Host.Outcome State Fault Refusal :=
  done s (guarded w 3 2 (forceBit v 0 true) (rstCtrl w (forceBit v 0 true) s) s)

end Sys2Proof.Machine
end

