-- ==== Sys2Proof/Machine/Update.lean ====
section
/-! DEFINITION. Firmware update and life cycle (spec/15 R504 to R510, R515 to R520, R524, R525): the update lock, block writes,
activation, confirmation, settings writes, the fuses; the exit from SLEEP, at whose end a trial that has run out restarts the
device. -/

namespace Sys2Proof.Machine

/-! ### The UPD page -/

/-- The key of word k of the UPD page. -/
def updKey (k : Nat) : Nat := pg 14 k

/-- A flash operation is in progress. -/
def State.fbusy (s : State) : Bool := s.bit (updKey 3) 0

/-- The recovery state (R501). -/
def State.recovery (s : State) : Bool := s.bit (updKey 3) 4

/-- An OTP operation or a token check is in progress. -/
def State.lcsBusy (s : State) : Bool := s.bit (pg 15 3) 5

/-- The update lock is held by unit u. -/
def State.lockHeldBy (s : State) (u : Nat) : Bool := s.bit (updKey 16) 17 && s.fld (updKey 16) 3 0 == u

/-- The writer holds the update lock. -/
def State.holdsLock (s : State) (w : Writer) : Bool :=
  match writerCode w with
  | some u => s.lockHeldBy u
  | none => false

/-- The writer is the supervisor session. -/
def State.isSupv (s : State) (w : Writer) : Bool :=
  match w with
  | .ses q => q.val == s.supv
  | _ => false

/-- The update lock is free again. -/
def State.freeLock (s : State) : State := (s.setReg (updKey 16) 0).setReg (updKey 17) 0

/-- A trial that has run out restarts the device as soon as the restart is accepted (R505, R522). -/
def State.trialRestart (s : State) : State :=
  if s.bit (updKey 28) 6 = true ∧ s.bit (updKey 28) 1 = true ∧ s.bit (updKey 3) 5 = false ∧ s.fbusy = false ∧ s.lcsBusy = false
      ∧ (s.pwr.st = .run ∨ s.pwr.st = .doze) then s.warmReset else s

/-- A flash operation begins. -/
def State.beginFlash (s : State) (op : FlashOp) : State :=
  let t := s.setB (updKey 3) 0 true
  { t with upd := { t.upd with op := some op } }

/-- A flash operation ends. -/
def State.endFlash (s : State) : State :=
  let t := s.setB (updKey 3) 0 false
  { t with upd := { t.upd with op := none } }

/-- A held two-word number of the UPD page. -/
def State.updNum (s : State) (k : Nat) : Nat := (s.reg (updKey k)).toNat * 262144 + (s.reg (updKey (k + 1))).toNat

/-- A buffer of n words lies in shared RAM. -/
def inShram (a n : Nat) : Bool := decide (shramBase ≤ a) && decide (a + n ≤ shramBase + 524288)

/-- BGO (R509): the bytes are taken and their CRC-32 compared; a block that differs touches no flash. -/
def State.beginBlock (s : State) : State :=
  let r := s.ramBytes (s.updNum 19) 4096
  if crc32 r.1 = s.updNum 21 then
    r.2.beginFlash (.block (folioBase s.inactive + s.fld (updKey 18) 11 0 * 4096) r.1)
  else (r.2.setF (updKey 23) 3 0 eRANGE).raise 14 1

/-- The settings area of a class: its first word in shared RAM (R513). -/
def State.setBase (s : State) (classN : Bool) : Nat :=
  shramBase + s.fld (updKey 35) 12 0 * 64 + (if classN then 8192 else 0)

/-- SPWR and SNWR (R516). -/
def State.beginSettings (s : State) (classN : Bool) : State :=
  let a := s.setBase classN
  let h := s.memReadN a 2
  let r := h.2.2.ramBytes (a + 2) (h.1.getD 1 0).toNat
  r.2.beginFlash (.settings classN (fieldOf (h.1.getD 0 0) 15 0) r.1)

/-- CONFIRM (R506): the trial timer stops, and the write of the record begins. -/
def State.confirm (s : State) : State := (s.setReg (updKey 29) 0).beginFlash .confirm

/-- Bits of UPD.CTRL, in the order in which their checks are made: the code of check 3 or 4, check 5, and what is done. -/
def State.updAct (s : State) (w : Writer) (b : Nat) : Nat × Bool × State :=
  let trial := s.bit (updKey 28) 1
  let buf := inShram (s.updNum 19) 2048
  let locked := if s.holdsLock w = false then eLOCKED else if trial && !s.recovery then eSTATE else if s.fbusy then eBUSY else 0
  let settings := if s.fbusy then eBUSY else if s.recovery then eSTATE else 0
  let len := fun n => decide ((s.rdMem (s.setBase n + 1)).toNat ≤ setLimit n)
  if b = 0 then (locked, buf, s.beginBlock)
  else if b = 1 then (locked, buf, s.beginFlash .activate)
  else if b = 2 then
    (if trial = false ∨ s.bit (updKey 28) 6 = true then eSTATE else if s.fbusy then eBUSY else 0, s.upd.cKey == 0o363636, s.confirm)
  else if b = 3 then (settings, len false, s.beginSettings false)
  else if b = 4 then (settings, len true, s.beginSettings true)
  else (settings, true, s.beginFlash .discard)

/-- The bits of a list that are set in a word. -/
def setBits (v : Word) (n : Nat) : List Nat := (List.range n).filter fun b => bitOf v b

/-- A write of UPD.CTRL; the flash takes one operation at a time, so a second one in the same write meets BUSY (log 16). -/
def updCtrl (w : Writer) (v : Word) (s : State) : Handler :=
  match setBits v 6 with
  | [] => ⟨0, true, 0, s⟩
  | [b] => ⟨(s.updAct w b).1, (s.updAct w b).2.1, 0, (s.updAct w b).2.2⟩
  | b :: _ => ⟨if (s.updAct w b).1 ≠ 0 then (s.updAct w b).1 else eBUSY, true, 0, s⟩

/-- A write of ULOCK (R508). The test access port has no code of its own and cannot hold the lock (log 17). -/
def ulockHandler (w : Writer) (v : Word) (s : State) : Handler :=
  let held := s.bit (updKey 16) 17
  if bitOf v 17 then
    match writerCode w with
    | some u => ⟨if held && !s.lockHeldBy u then eLOCKED else 0, true, 0, (s.setReg (updKey 16) (wordOf (131072 + u))).setReg (updKey 17) 0⟩
    | none => ⟨eSTATE, true, 0, s⟩
  else if held = true ∧ s.holdsLock w = false ∧ s.isSupv w = false then ⟨eLOCKED, true, 0, s⟩
  else ⟨0, true, 0, s.freeLock⟩

/-- A write to a word of the UPD page. -/
def updHandler (w : Writer) (wd : Nat) (v : Word) (s : State) : Handler :=
  if wd = 2 then updCtrl w v s
  else if wd = 16 then ulockHandler w v s
  else if wd = 38 then ⟨0, true, 0, { s with upd := { s.upd with cKey := v } }⟩
  else headerHandler w 14 wd v s

/-- The lock is asked for while another unit holds it: the session's error word takes the owner's code in place of an address
(R508). -/
def State.lockRefused (s : State) (w : Writer) (wd : Nat) (v : Word) : Bool :=
  wd == 16 && bitOf v 17 && s.writerLive w && s.permitted w 14 wd && !s.lockedOut w 14 wd && s.domOn 2
    && (ulockHandler w v s).state == eLOCKED

/-- A write to the UPD page: an accepted write of the lock's owner restarts LKIDLE (R508). -/
def updGuarded (w : Writer) (wd : Nat) (v : Word) (s : State) : State :=
  let h := updHandler w wd v s
  if s.lockRefused w wd v then s.recordRefusal w (some 14) wd eLOCKED (s.fld (updKey 16) 3 0)
  else
    let t := guarded w 14 wd v h s
    if s.writerLive w = true ∧ s.domOn 2 = true ∧ writeRefusal w 14 wd v h s = 0 ∧ s.holdsLock w = true then t.setReg (updKey 17) 0 else t

/-- UPDATE_LOCK_TAKE (R508). -/
def execUpdateLockTake (w : Writer) (v : Word) (s : State) : Host.Outcome State Fault Refusal :=
  done s (updGuarded w 16 (forceBit v 17 true) s)

/-- UPDATE_LOCK_RELEASE (R508). -/
def execUpdateLockRelease (w : Writer) (v : Word) (s : State) : Host.Outcome State Fault Refusal :=
  done s (updGuarded w 16 (forceBit v 17 false) s)

/-- UPDATE_LOCK_EXPIRY (R508). -/
def execUpdateLockExpiry (s : State) : Host.Outcome State Fault Refusal :=
  done s (if s.bit (updKey 16) 17 then s.freeLock.raise 14 5 else s)

/-- BLOCK_WRITE (R509). -/
def execBlockWrite (w : Writer) (v : Word) (s : State) : Host.Outcome State Fault Refusal :=
  done s (updGuarded w 2 (forceBit v 0 true) s)

/-- ACTIVATE (R510) (log 49). -/
def execActivate (w : Writer) (v : Word) (s : State) : Host.Outcome State Fault Refusal :=
  done s (updGuarded w 2 (forceBit v 1 true) s)

/-- HEALTH_CONFIRM (R506). -/
def execHealthConfirm (w : Writer) (v : Word) (s : State) : Host.Outcome State Fault Refusal :=
  done s (updGuarded w 2 (forceBit v 2 true) s)

/-- CLASS_P_SETTINGS_WRITE (R516). -/
def execClassPSettingsWrite (w : Writer) (v : Word) (s : State) : Host.Outcome State Fault Refusal :=
  done s (updGuarded w 2 (forceBit v 3 true) s)

/-- CLASS_N_SETTINGS_WRITE (R516). -/
def execClassNSettingsWrite (w : Writer) (v : Word) (s : State) : Host.Outcome State Fault Refusal :=
  done s (updGuarded w 2 (forceBit v 4 true) s)

/-- CLASS_N_DISCARD (R515, R516). -/
def execClassNDiscard (w : Writer) (v : Word) (s : State) : Host.Outcome State Fault Refusal :=
  done s (updGuarded w 2 (forceBit v 5 true) s)

/-! ### The ends of the flash operations (R489, R497, R509, R510, R516) -/

/-- The operation fails: its area is not programmed as it should be, TIMEOUT is recorded (00 R546) (log 49). -/
def State.failFlash (s : State) : State := s.breakOp.pageErr 14 eTIMEOUT 2

/-- A block ends. -/
def State.blockDone (s : State) (off : Nat) (bytes : List Byte) (ok : Bool) : State :=
  if ok then (((s.flashWrite off (sectorPad bytes)).setF (updKey 23) 3 0 0).inc (updKey 24)).raise 14 0
  else (s.failFlash.setF (updKey 23) 3 0 eTIMEOUT).raise 14 1

/-- An activation ends: the lock is released when the record is written. -/
def State.activateEnd (s : State) (ok : Bool) : State :=
  if ok then
    ((s.writeRec s.newRec).freeLock).raise 14 2
  else s.failFlash

/-- The record write of a confirmation ends: the image is CONFIRMED, or the trial goes on (R506). -/
def State.confirmEnd (s : State) (ok : Bool) : State :=
  if ok then ((s.writeRec s.confirmRec).setB (updKey 3) 3 false).raise 14 3 else s.failFlash

/-- A settings write ends. -/
def State.settingsEnd (s : State) (classN : Bool) (lver : Nat) (payload : List Byte) (ok : Bool) : State :=
  (if ok then s.writeSet classN lver payload else s.failFlash).raise 14 4

/-- A discard of Class N ends (R515). -/
def State.discardEnd (s : State) (ok : Bool) : State :=
  if ok then ((s.writeSet true 0 []).setB (updKey 34) 4 true).raise 14 4 else s.failFlash.raise 14 4

/-- The flash operation at hand ends. -/
def State.finishOp (s : State) (ok : Bool) : State :=
  match s.upd.op with
  | some (.block off bytes) => (s.blockDone off bytes ok).endFlash.trialRestart
  | some .activate => (s.activateEnd ok).endFlash.trialRestart
  | some (.settings n lver l) => (s.settingsEnd n lver l ok).endFlash.trialRestart
  | some .discard => (s.discardEnd ok).endFlash.trialRestart
  | some .confirm => (s.confirmEnd ok).endFlash.trialRestart
  | none => s

/-- BLOCK_WRITE_DONE (R509). -/
def execBlockWriteDone (ok : Bool) (s : State) : Host.Outcome State Fault Refusal :=
  done s (match s.upd.op with
    | some (.block _ _) => s.finishOp ok
    | _ => s)

/-- ACTIVATE_DONE (R510): a record write ends. The table has no row for the end of the one that a confirmation begins, and this command
stands for it too (R506; DESIGN CHOICE, log 49). -/
def execActivateDone (ok : Bool) (s : State) : Host.Outcome State Fault Refusal :=
  done s (if s.upd.op = some .activate ∨ s.upd.op = some .confirm then s.finishOp ok else s)

/-- SETTINGS_WRITE_DONE (R516). -/
def execSettingsWriteDone (ok : Bool) (s : State) : Host.Outcome State Fault Refusal :=
  done s (match s.upd.op with
    | some (.settings _ _ _) => s.finishOp ok
    | some .discard => s.finishOp ok
    | _ => s)

/-- FLASH_TIMEOUT (R489): the operation at hand has not finished within FTMO ms. -/
def execFlashTimeout (s : State) : Host.Outcome State Fault Refusal := done s (s.finishOp false)

/-- Blows fuses in ascending order until the count is n. -/
def State.blowFuses (s : State) (n : Nat) : State :=
  (List.range 64).foldl (fun t i => if i < n then t.blow (12 + i / 16) (BitVec.ofNat 16 (2 ^ (i % 16))) else t) s

/-- ROLLBACK_FUSE_PROGRAM (R507): the running image is CONFIRMED and its SVN exceeds the fuse count. The command stands for the time
of a free number of fuses, one at least; LCS.STAT.BUSY is 1 until the count equals SVN, and a reset before leaves it between (R511) (log 71). -/
def execRollbackFuseProgram (s : State) : Host.Outcome State Fault Refusal :=
  let n := s.fld (updKey 33) 14 8
  done s (if s.bit (updKey 3) 5 = false ∧ s.recovery = false ∧ s.bit (updKey 3) 3 = false ∧ s.upd.lcsOp = none ∧ s.fuseCount < n then
      let t := s.blowFuses (min n (s.fuseCount + max 1 (Config.freeNat s.freeCtr)))
      (t.setF (updKey 33) 6 0 t.fuseCount).setB (pg 15 3) 5 (decide (t.fuseCount < n))
    else s)

/-! ### The trial timer (R505) -/

/-- TRIALT has reached 0 on trial. -/
def State.trialOver (s : State) : State :=
  let t := (s.setReg (updKey 29) 0).setB (updKey 28) 6 true
  if s.pwr.st = .sleep ∨ s.pwr.st = .backup then
    let t := if s.phase = 0 then t.setPhase 3 else t
    { t with pwr := { t.pwr with wakes := t.pwr.wakes ||| 0o20000 }, pins := { t.pins with pwren := true } }
  else t.trialRestart

/-- TRIAL_TIMER_EXPIRY (R505): TRIALT counts on from what it shows; it stands still at 0 and in DORMANT. -/
def execTrialTimerExpiry (s : State) : Host.Outcome State Fault Refusal :=
  done s (if s.reg (updKey 29) ≠ 0 ∧ s.pwr.st ≠ .dormant then
      (if s.bit (updKey 28) 1 then s.trialOver else s.setReg (updKey 29) 0)
    else s)

/-- SLEEP_EXIT (14 R470). A trial that ran out in SLEEP restarts the device (R505). -/
def execSleepExit (s : State) : Host.Outcome State Fault Refusal :=
  done s (if s.pwr.st = .sleep ∧ s.pwr.wakes ≠ 0 ∧ s.pwr.target = none then
      let feedOff := !s.domOn 4
      let back := [15, 2, 3, 10, 14, 13, 12, 11, 9, 8, 7, 6, 5, 4].filter fun d =>
        s.pwr.onAt.getLsbD d && !s.domOn d
      let t := s.slowWoken.setLp false
      let t := back.foldl State.domainUp t
      let t := (List.range 4).foldl (fun t p => if t.pllRuns p && !t.locked p then t.lockPll p else t) t
      let t := ((t.setDev .run).setF (pg 1 3) 8 6 2).setPhase 0
      let t := (t.raise 1 0).ungateAll
      let t : State := { t with pwr := { t.pwr with prev := .sleep, wakes := 0, onAt := 0 } }
      (t.legacyTrain (feedOff && back.contains 4)).trialRestart
    else s)

/-! ### The LCS page -/

/-- The right to write an OTP row in a life-cycle state (R518). -/
def otpRight (lc r : Nat) : Bool :=
  if r = 48 then decide (1 ≤ lc ∧ lc ≤ 3)
  else if decide (16 ≤ r ∧ r ≤ 47) || r == 49 || r == 50 then decide (lc ≤ 1)
  else decide (64 ≤ r) && decide (lc ≤ 2)

/-- Rows that OTPWR may reach. -/
def otpReach (r : Nat) : Bool := decide (16 ≤ r ∧ r ≤ 50) || decide (64 ≤ r)

/-- A write to row 48 leaves a key that is set and not revoked. -/
def State.keysLeft (s : State) (bits : BitVec 16) : Bool :=
  (List.range 2).any fun k => s.keySet k && !groupBlown ((s.otpRow 48 ||| bits).toNat / 256 ^ k)

/-- An OTP operation begins. -/
def State.beginOtp (s : State) (kind r : Nat) (bits : BitVec 16) : State :=
  let t := s.setB (pg 15 3) 5 true
  { t with upd := { t.upd with lcsOp := some (kind, r, bits) } }

/-- The address of the RETURN token. -/
def State.tokenAddr (s : State) : Nat := s.fld (pg 15 19) 5 0 * 262144 + (s.reg (pg 15 20)).toNat

/-- The first failed condition of a RETURN token, as a code; 0 when it is valid (R520) (log 50). -/
def State.tokenCode (s : State) (b : List Byte) : Nat :=
  let part := fun a n => (b.drop a).take n
  if leNum (part 0 4) ≠ 0x544E5452 ∨ leNum (part 4 4) ≠ 0 ∨ leNum (part 0x18 2) ≠ 0x0A50 ∨ leNum (part 0x1a 6) ≠ 0 then eCONFIG
  else if leNum (part 8 16) ≠ s.unitId ∨ ecdsaValid Config.vendorKey (b.take 32) (b.drop 32) = false then ePERM else 0

/-- The row and the bits of the group of a life-cycle state (R517). -/
def groupBits (target : Nat) : Nat × BitVec 16 := (8 + (target - 1) / 2, if target % 2 = 1 then 0x00ff else 0xff00)

/-- Bits of LCS.CTRL: the code of check 4, check 5, a later code, and what is done (R518 to R520). -/
def State.lcsAct (s : State) (b : Nat) : Handler :=
  let row := s.fld (pg 15 17) 6 0
  let bits := BitVec.ofNat 16 (s.fld (pg 15 18) 15 0)
  let target := s.fld (pg 15 16) 2 0
  let lc := s.lcst
  if b = 0 then
    { state := if s.lcsBusy then eBUSY else if otpReach row = true ∧ otpRight lc row = false then eSTATE else 0, range := otpReach row
      extra := if row = 48 ∧ s.keysLeft bits = false then eCONFIG else 0
      result := s.beginOtp 0 row bits }
  else if b = 1 then
    { state := if s.lcsBusy then eBUSY
        else if (decide (1 ≤ target ∧ target ≤ 3) && (target == lc + 1 || target == lc)) = false then eSTATE else 0
      range := true, extra := if lc = 0 ∧ s.keySet 0 = false ∧ s.keySet 1 = false then eCONFIG else 0
      result := s.beginOtp 1 (groupBits target).1 (groupBits target).2 }
  else
    let r := s.ramBytes s.tokenAddr 96
    let c := s.tokenCode r.1
    { state := if s.lcsBusy then eBUSY else if lc = 2 ∨ lc = 3 then 0 else eSTATE, range := inShram s.tokenAddr 48, extra := 0
      result := if c = 0 then r.2.beginOtp 2 9 0xff00 else r.2.beginOtp 3 c 0 }

/-- A write of LCS.CTRL. -/
def lcsCtrl (v : Word) (s : State) : Handler :=
  match setBits v 3 with
  | [] => ⟨0, true, 0, s⟩
  | [b] => s.lcsAct b
  | b :: _ => ⟨if (s.lcsAct b).state ≠ 0 then (s.lcsAct b).state else eBUSY, true, 0, s⟩

/-- A write to a word of the LCS page. -/
def lcsHandler (w : Writer) (wd : Nat) (v : Word) (s : State) : Handler :=
  if wd = 2 then lcsCtrl v s else headerHandler w 15 wd v s

/-- OTP_WRITE (R518). -/
def execOtpWrite (w : Writer) (v : Word) (s : State) : Host.Outcome State Fault Refusal :=
  done s (guarded w 15 2 (forceBit v 0 true) (lcsCtrl (forceBit v 0 true) s) s)

/-- LIFECYCLE_ADVANCE (R519). -/
def execLifecycleAdvance (w : Writer) (v : Word) (s : State) : Host.Outcome State Fault Refusal :=
  done s (guarded w 15 2 (forceBit v 1 true) (lcsCtrl (forceBit v 1 true) s) s)

/-- RETURN_TOKEN (R520) (log 50). -/
def execReturnToken (w : Writer) (v : Word) (s : State) : Host.Outcome State Fault Refusal :=
  done s (guarded w 15 2 (forceBit v 2 true) (lcsCtrl (forceBit v 2 true) s) s)

/-- An OTP operation ends. -/
def State.endOtp (s : State) : State :=
  let t := s.setB (pg 15 3) 5 false
  { t with upd := { t.upd with lcsOp := none } }

/-- OTP_WRITE_DONE (R518). -/
def execOtpWriteDone (s : State) : Host.Outcome State Fault Refusal :=
  done s (match s.upd.lcsOp with
    | some (0, r, bits) => ((s.blow r bits).endOtp.raise 15 1).trialRestart
    | _ => s)

/-- LIFECYCLE_ADVANCE_DONE (R519). -/
def execLifecycleAdvanceDone (s : State) : Host.Outcome State Fault Refusal :=
  done s (match s.upd.lcsOp with
    | some (1, r, bits) => ((s.blow r bits).endOtp.raise 15 0).trialRestart
    | _ => s)

/-- RETURN_TOKEN_DONE (R519, R520). -/
def execReturnTokenDone (s : State) : Host.Outcome State Fault Refusal :=
  done s (match s.upd.lcsOp with
    | some (2, r, bits) => (((s.blow r bits).endOtp.raise 15 0).raise 15 2).trialRestart
    | some (3, c, _) => ((s.pageErr 15 c 2).endOtp.raise 15 3).trialRestart
    | _ => s)

end Sys2Proof.Machine
end

