-- ==== Sys2Proof/Machine/Legacy.lean ====
section
/-! DEFINITION. The legacy window (spec/10 R341, R353 to R364): what a write and a read of each word does, for a host session
and for VC0 in L-mode through bank 0o004. The words are kept on page `lwinPage`. -/

namespace Sys2Proof.Machine

/-- The key of window word k. -/
def lwKey (k : Nat) : Nat := pg lwinPage k

/-- The home domains of a window word: SNAP, times and TP0 in TIME, the sample input in FEEDA and QUIRE, the channels in QUIRE,
the UARTs in PERI, everything else in HIF. -/
def lwHomes (k : Nat) : List Nat :=
  if 8 ≤ k ∧ k ≤ 15 then [15] else if k = 24 ∨ k = 25 then [4, 10] else if 28 ≤ k ∧ k ≤ 30 then [10]
  else if 64 ≤ k ∧ k < 448 then [10] else if 448 ≤ k ∧ k < 456 then [3] else if 456 ≤ k then [15] else [2]

/-- A data address of the DX-18 bank map (R350): a memory key, a window word, or nothing. -/
inductive BankWord where
  | mem (key : Nat)
  | win (k : Nat)
  | none
  deriving DecidableEq, Repr

/-- The bank map. -/
def bankWord (bank ofs : Nat) : BankWord :=
  if bank ≤ 3 then .mem (coreBase + 262144 + bank * 65536 + ofs)
  else if bank = 4 ∧ ofs ≤ 511 then .win ofs
  else if bank = 5 then .mem (coreBase + ofs)
  else if 8 ≤ bank ∧ bank ≤ 15 then .mem (shramBase + (bank - 8) * 65536 + ofs)
  else .none

/-- The home domain of a memory word of the bank map. -/
def bankDomainOf (key : Nat) : Nat := if key < coreBase then 2 else 11

/-- The target of the memory port (R354). -/
def State.portWord (s : State) : BankWord := bankWord (s.fld (lwKey 18) 7 0) (s.fld (lwKey 19) 15 0)

/-- The home domains of the port's target. -/
def State.portHomes (s : State) : List Nat :=
  match s.portWord with
  | .mem key => [bankDomainOf key]
  | .win k => lwHomes k
  | .none => []

/-- OFS moves on, and the next read-ahead begins (R354). -/
def State.portNext (s : State) : State :=
  { s.setReg (lwKey 19) (wordOf ((s.fld (lwKey 19) 15 0 + 1) % 65536)) with leg := { s.leg with portValid := false } }

/-! ### Dumps (R358) -/

/-- The legacy dump ring, RG76. -/
def dumpRing : Nat := 62

/-- Whole records waiting; a native record of a legacy channel has 16 words. -/
def State.ldcnt (s : State) : Nat := s.ringFill dumpRing / 16

/-- Every waiting record is discarded. -/
def State.dumpClear (s : State) : State :=
  let t := s.setReg (ringKey dumpRing 3) (s.reg (ringKey dumpRing 2))
  { t with leg := { t.leg with ldPos := 0 } }

/-- A tap component as the DX-18 shows it: the native sum of two words shifted right by 9 + DSHIFT, held at ±131071. -/
def dumpTap (dshift : Nat) (hi lo : Word) : Word :=
  let x : Int := signedOf 36 (hi.toNat * 262144 + lo.toNat) / (2 ^ (9 + dshift) : Nat)
  wordOfInt (max (-131071) (min 131071 x))

/-- Word n of the DX-18 record of a native record. -/
def State.dumpWord (s : State) (r : List Word) (n : Nat) : Word :=
  let w := fun i => r.getD i 0
  let c := fieldOf (w 0) 17 9
  let ds := s.fld (lwKey (64 + 8 * c)) 13 10
  if n = 0 then
    wordOf (c % 64 * 4096 + b2n (bitOf (w 0) 3) * 2048 + b2n (bitOf (w 0) 2) * 1024 + b2n (bitOf (w 0) 0) * 512
      + b2n (fieldOf (w 2) 17 16 == 2) * 256 + fieldOf (w 1) 7 0)
  else if n ≤ 6 then
    let t := 2 - (n - 1) / 2
    let i := 4 + 4 * t + 2 * ((n - 1) % 2)
    dumpTap ds (w i) (w (i + 1))
  else wordOf (fieldOf (w 3) 17 10 * 1024)

/-- A fresh read of LDFIFO: the next word, and the error that the reads found. -/
def State.dumpRead (s : State) : Word × Nat × State :=
  if s.ldcnt = 0 then (0, 0, s.setB (lwKey 3) 8 true)
  else
    let r := s.ringReadE dumpRing (s.reg (ringKey dumpRing 3)).toNat 16
    let t := r.2.2
    let v := s.dumpWord r.1 s.leg.ldPos
    (v, r.2.1,
     if s.leg.ldPos = 7 then { t.ringTake dumpRing 16 with leg := { t.leg with ldPos := 0 } }
     else { t with leg := { t.leg with ldPos := s.leg.ldPos + 1 } })

/-! ### Time, latch, power (R359, R362, R363) -/

/-- LSNAP.GO (R359; 07 R224, R250). An epoch of the same cycle counts first. -/
def State.legacySnap (s : State) : State :=
  if s.latchBarred then s.skipLatch
  else
    let s := if s.epochNow ∧ s.time.on = true then s.takeEpoch else s
    if s.latchFree s.rxt then s.startLatch 3 0 s.rxt
    else if s.meas.cur.isSome then { s with meas := { s.meas with legWant := true } }
    else s.legacyLatch

/-- The settings that a write of LTPCTL applies (R362). -/
def State.legacyTp (s : State) (v : Word) : TpSet :=
  { mode := b2n (bitOf v 0), pol := bitOf v 1, period := s.fld (lwKey 457) 11 0 * 1000000
    phase := 25 * s.leg.ofs, phf := 0
    width := (s.fld (lwKey 461) 3 0 * 262144 + (s.reg (lwKey 458)).toNat) * 1000, dly := (s.reg (tpKey 0 8)).toInt }

/-- The ranges of the TP0 words. -/
def State.legacyTpOk (x : TpSet) : Bool :=
  decide (1000 ≤ x.width ∧ x.width + 1000 ≤ x.period) && decide (x.phase < x.period)

/-- LTPCTL applies TP0; the native words follow. -/
def State.legacyTpApply (s : State) (v : Word) : State :=
  let x := s.legacyTp v
  let t := ((s.setReg (lwKey 456) (v &&& 3)).setF (tpKey 0 0) 2 0 (2 * x.mode + b2n x.pol)).setReg2 (tpKey 0 1) x.period
  (((t.setReg2 (tpKey 0 3) x.phase).setReg (tpKey 0 5) 0).setReg2 (tpKey 0 6) x.width).applyTp 0 x

/-! ### Sample input and UARTs (R360, R361) -/

/-- FEED0 as LSCTL sets it up: DXR, the rate, DC on, notches and blanker off, both paths plain. -/
def State.legacyFeed (s : State) (rate : Nat) : State :=
  let t := ((s.setF (fdKey 0 16) 2 0 7).setReg (fdKey 0 17) (wordOf (4092 * rate))).setB (fdKey 0 20) 6 true
  let t := (List.range 4).foldl (fun t k => (t.setF (fdKey 0 (23 + 3 * k)) 17 16 0).notchMode 0 k 0) t
  let t := t.setB (fdKey 0 35) 17 false
  let t := (List.range 2).foldl (fun t q =>
    ((((t.setReg (fdKey 0 (38 + 4 * q)) 0).setReg (fdKey 0 (39 + 4 * q)) 0).setF (fdKey 0 (40 + 4 * q)) 16 15 0).setF
      (fdKey 0 (40 + 4 * q)) 14 13 3).setF (fdKey 0 (40 + 4 * q)) 6 0 1) t

  let x := t.feed 0
  let y := { x with sub := x.sub.map fun p => { p with fPend := some 0 } }
  t.setFeed 0 y

/-- The sample input goes on: FEED0 and SMAP0 are set up and training starts. -/
def State.sampleOn (s : State) (w : Writer) (rate : Nat) : State :=
  let t := (s.legacyFeed rate).setB (fdKey 0 2) 0 true
  let t := (smapHandler w 0 0o400000 t).result
  (t.setLane 0 1).setFeed 0 { t.feed 0 with timerOn := true, goArmed := false, confirming := false }

/-- The sample input goes off. -/
def State.sampleOff (s : State) (w : Writer) : State :=
  let t := (smapHandler w 0 0 s).result
  ((t.setB (fdKey 0 2) 0 false).setLane 0 0).setFeed 0 { t.feed 0 with timerOn := false, goArmed := false, confirming := false }

/-- Channels whose LCCTL.EN is 1. -/
def State.lcEnabled (s : State) : Bool := (List.range 48).any fun c => s.bit (lwKey (64 + 8 * c)) 17

/-- A write of LSCTL (R360) (log 48). -/
def lsctlHandler (w : Writer) (v : Word) (s : State) : Handler :=
  let on := s.bit (lwKey 24) 17
  let rate := fieldOf v 2 0
  let t := s.setReg (lwKey 24) (mergeWrite (wordInfo .lwin 24) (s.reg (lwKey 24)) v)
  let en := bitOf v 17
  { state := if on = true ∧ rate ≠ s.fld (lwKey 24) 2 0 then eSTATE
      else if on = true ∧ en = false ∧ (s.lcEnabled = true ∨ s.streamUsed 0 = true) then eBUSY else 0
    range := true
    extra := if on = false ∧ en = true ∧ (s.clockOk 0 7 (4092 * rate) = false ∨
        (smapHandler w 0 0o400000 (s.legacyFeed rate)).extra ≠ 0) then eCONFIG else 0
    result := if en then t.sampleOn w rate else if on then t.sampleOff w else t }

/-- The native port takes the settings of LUCFG and LUDIV (R361). -/
def State.uartApply (s : State) (u : Nat) : State :=
  let c := s.reg (lwKey (450 + 4 * u))
  let n := 5 * s.fld (lwKey (451 + 4 * u)) 11 0
  let t := s.setF (serKey u 2) 1 0 (if bitOf c 0 then 3 else 0)
  let t := t.setReg (serKey u 16) (wordOf (64 * (7 + fieldOf c 5 4) + 1024 * fieldOf c 3 2 + b2n (bitOf c 1) * 16384))
  let t := (t.setReg (serKey u 17) (wordOf n)).setReg (serKey u 18) 0
  (t.setSer u { t.ser u with appN := n }).pendSetting u

/-- A write of word j of legacy UART u (R361). -/
def uartHandler (u j : Nat) (v : Word) (s : State) : Handler :=
  let x := s.ser u
  if j = 0 then
    ⟨if x.txHold.isSome then eBUSY else 0, true, 0, s.setSer u { x with txHold := some (BitVec.ofNat 9 (fieldOf v 8 0)) }⟩
  else if j = 2 ∨ j = 3 then
    let k := 448 + 4 * u + j
    ⟨0, true, 0, (s.setReg (lwKey k) (mergeWrite (wordInfo .lwin k) (s.reg (lwKey k)) v)).uartApply u⟩
  else ⟨0, true, 0, s⟩

/-! ### Channels (R355 to R357) -/

/-- V suits CPROG and RATE (R357): not 0, and the chip rate within 1.024 or 0.5115 Mchip/s. -/
def State.vOk (s : State) (prog1 : Bool) (v : Nat) : Bool :=
  let rate := s.fld (lwKey 24) 2 0
  v != 0 && decide (v * 4092 * rate * 10 ≤ (if prog1 then 5115 else 10240) * 2 ^ 32)

/-- FC and FK of the DX-18 words (R357). -/
def legacyFc (w : Nat) : Nat := codeOf 36 (32 * (w : Int) - 2 ^ 35)

/-- See `legacyFc`. -/
def legacyFk (v : Nat) : Nat := 16 * v

/-- Carrier and code word in force of channel c. -/
def State.legW (s : State) (c : Nat) : Nat := (s.leg.w.get? c).getD 0
/-- See `State.legW`. -/
def State.legV (s : State) (c : Nat) : Nat := (s.leg.v.get? c).getD 0

/-- The context that an enable writes (R356 step 1), words 0 to 33. -/
def State.legacyContext (s : State) (c : Nat) (v : Word) : List Word :=
  let sp := 32 / 2 ^ fieldOf v 15 14
  let prog := 30 + b2n (bitOf v 16)
  let lena := s.fld (lpKey prog 0) 11 6
  let two := fun n => [wordOf (n / 262144), wordOf n]
  [0, wordOf (2048 + dumpRing), wordOf ((512 - sp) * 512 + sp * 8 + 2), 0]
  ++ two (legacyFc (s.legW c)) ++ two (legacyFk (s.legV c)) ++ List.replicate 8 0
  ++ [wordOf (prog * 32), 0, 0] ++ two (2 ^ lena - 1) ++ two (fieldOf v 9 0) ++ List.replicate 8 0 ++ List.replicate 3 0

/-- LCCTL.EN becomes 1 (R356): the context is written and ADM follows, refused like a native one when the channel's setting
is not consistent (log 47). -/
def State.legacyEnable (s : State) (c : Nat) (v : Word) : State :=
  let t := (s.wrMemN (ctxKey c 0) (s.legacyContext c v)).setReg (lwKey (64 + 8 * c)) v
  let t := { t with leg := { t.leg with lcset := t.leg.lcset.del c, stage := t.leg.stage.del c } }
  if t.namesOld c then t.pageErr (512 + c) eBUSY 2
  else if t.admissionOk c = false then t.pageErr (512 + c) eCONFIG 2
  else t.request c none

/-- A write of LCCTL of channel c (R355, R356) (log 48). -/
def lcctlHandler (c : Nat) (v : Word) (s : State) : Handler :=
  let key := lwKey (64 + 8 * c)
  let on := s.bit key 17
  let st := s.chState c
  let moved := on && decide (fieldOf v 16 14 ≠ s.fld key 16 14 ∨ fieldOf v 9 0 ≠ s.fld key 9 0)
  if bitOf v 17 then
    if on then ⟨if moved then eSTATE else 0, true, 0, s.setReg key v⟩
    else
      { state := if st ≠ 0 ∨ s.bit (chKey c 3) 0 = true then eSTATE else if s.lost (ctxKey c 0) then eLOST else 0
        range := s.vOk (bitOf v 16) (s.legV c), extra := if s.bit (lwKey 24) 17 then 0 else eCONFIG
        result := s.legacyEnable c v }
  else
    { state := if moved then eSTATE else if on = true ∧ s.bit (chKey c 3) 0 = true then eBUSY else 0, range := true, extra := 0
      result :=
        let t := s.setReg key v
        if on = true ∧ st ≠ 0 then t.setChan c { t.chan c with disPend := true } else t }

/-- An NCO word of channel c is written: bit b of the words that the next application takes. While the channel correlates
the update is committed (R357). -/
def State.legacyNco (s : State) (c b : Nat) : State :=
  let sel := (s.leg.stage.get? c).getD 0 ||| BitVec.ofNat 2 (2 ^ b)
  let t : State := { s with leg := { s.leg with stage := s.leg.stage.put c sel } }
  if s.bit (lwKey (64 + 8 * c)) 17 = true ∧ correlates (s.chState c) = true then
    let fc := legacyFc (t.legW c)
    let fk := legacyFk (t.legV c)
    t.commitUpdate c sel.toNat [wordOf (fc / 262144), wordOf fc, wordOf (fk / 262144), wordOf fk, 0, 0] none
  else if s.bit (lwKey (64 + 8 * c)) 17 then t
  else s

/-- A write of word j of channel block c (R355 to R357). -/
def lcHandler (c j : Nat) (v : Word) (s : State) : Handler :=
  let k := 64 + 8 * c + j
  let t := s.setReg (lwKey k) (mergeWrite (wordInfo .lwin k) (s.reg (lwKey k)) v)
  if j = 0 then lcctlHandler c v s
  else if j = 2 then
    let x := s.fld (lwKey (k - 1)) 13 0 * 262144 + v.toNat
    ⟨0, true, 0, { t with leg := { t.leg with w := t.leg.w.put c x } }.legacyNco c 0⟩
  else if j = 4 then
    let x := s.fld (lwKey (k - 1)) 13 0 * 262144 + v.toNat
    { state := 0
      range := s.vOk (s.bit (lwKey (64 + 8 * c)) 16) x && (!correlates (s.chState c) || decide (legacyFk x ≤ (s.chan c).fklim))
      extra := 0, result := { t with leg := { t.leg with v := t.leg.v.put c x } }.legacyNco c 1 }
  else if j = 5 then
    let on := s.bit (lwKey (64 + 8 * c)) 17
    let chip := fieldOf v 9 0
    let u : State := { s with leg := { s.leg with lcset := s.leg.lcset.put c (fieldOf v 17 10 * 1024 + chip) } }
    if on = false then ⟨0, true, 0, s⟩
    else if holdsSlots (s.chState c) then
      ⟨if s.bit (chKey c 3) 1 then eBUSY else 0, decide (chip < s.primary c), 0, u.arm c (u.legacyPhase c)⟩
    else ⟨0, true, 0, u⟩
  else ⟨0, true, 0, t⟩

/-! ### Writes of the window -/

/-- A write of LCTL (R353, R358). -/
def lctlHandler (w : Writer) (v : Word) (s : State) : Handler :=
  let was := s.bit (lwKey 1) 0
  let t := s.setReg (lwKey 1) (v &&& 1)
  let t := if bitOf v 2 then t.dumpClear else t
  ⟨0, true, 0,
    if bitOf v 1 then (if s.domOn 11 then (t.setB (lwKey 2) 3 false).resetCore 0 else t)
    else if bitOf v 0 = true ∧ was = false then (t.setB (lwKey 2) 3 false).wantRun 0
    else if bitOf v 0 = false ∧ was = true then t.wantHalt w 0 else t⟩

/-- A write of a window word, the memory port apart. `dsp` says that VC0 writes it. -/
def lwWord (w : Writer) (k : Nat) (v : Word) (s : State) : Handler :=
  let dsp := match w with
    | .core _ => true
    | _ => false
  let t := s.setReg (lwKey k) (mergeWrite (wordInfo .lwin k) (s.reg (lwKey k)) v)
  if k = 1 then lctlHandler w v s
  else if k = 7 then
    ⟨if bitOf v 0 = true ∧ s.phase ≠ 0 then eBUSY else 0, true, 0, if bitOf v 0 then s.beginEntryLw w else s⟩
  else if k = 8 then ⟨0, true, 0, if bitOf v 0 then s.legacySnap else s⟩
  else if k = 16 then ⟨0, true, 0, if dsp then t else (t.setB (lwKey 2) 1 true).setB (lwKey 3) 6 true⟩
  else if k = 17 then ⟨0, true, 0, if dsp then (t.setB (lwKey 2) 2 true).setB (lwKey 3) 7 true else t⟩
  else if k = 18 ∨ k = 19 then ⟨0, true, 0, { t with leg := { t.leg with portValid := false } }⟩
  else if k = 24 then lsctlHandler w v s
  else if k = 25 then ⟨0, true, 0, t.setReg (fdKey 0 47) (wordOf (fieldOf v 9 0))⟩
  else if 64 ≤ k ∧ k < 448 then lcHandler ((k - 64) / 8) ((k - 64) % 8) v s
  else if 448 ≤ k ∧ k < 456 then uartHandler ((k - 448) / 4) ((k - 448) % 4) v s
  else if k = 456 then
    ⟨if s.bit (pg 17 3) 4 then eBUSY else 0, State.legacyTpOk (s.legacyTp v), 0, s.legacyTpApply v⟩
  else if k = 458 then ⟨0, State.legacyTpOk { t.legacyTp 0 with phase := 0 }, 0, t⟩
  else if k = 460 then
    let x := s.fld (lwKey 459) 9 0 * 262144 + v.toNat
    ⟨0, decide (25 * x < (s.legacyTp 0).period), 0, { t with leg := { t.leg with ofs := x } }⟩
  else ⟨0, true, 0, t⟩

/-- A write of LMDAT (R354): the word at BANK, OFS is stored, and OFS moves on. -/
def lmdatHandler (w : Writer) (v : Word) (s : State) : Handler :=
  match s.portWord with
  | .none => ⟨eUNMAPPED, true, 0, s⟩
  | .mem key =>
    ⟨if s.domOn (bankDomainOf key) = false then eSTATE else if s.lost key then eLOST else 0, true, 0, (s.wrMem key v).portNext⟩
  | .win k =>
    if k = 20 then ⟨0, true, 0, { s with leg := { s.leg with port := v } }.portNext⟩
    else
      let h := lwWord w k v s
      ⟨if (lwHomes k).all s.domOn then h.state else eSTATE, h.range && inRange .lwin k v, h.extra, h.result.portNext⟩

/-- A write of a window word. -/
def lwHandler (w : Writer) (k : Nat) (v : Word) (s : State) : Handler :=
  if k = 20 then lmdatHandler w v s else lwWord w k v s

/-- The writer reaches the window (R340, R341): session 0 in LEGACY, the sessions with G11 in DUAL, VC0. -/
def State.lwPermits (s : State) (w : Writer) : Bool :=
  match w with
  | .ses q => if s.pins.persona = .legacy then q.val == 0 else (s.maskOf q.val).testBit 11
  | .core c => c.val == 0
  | .tap => false

/-- A refused window write (R367): LWREF, its count, and the writer's own record. -/
def State.lwRefuse (s : State) (w : Writer) (code k : Nat) : State := ((s.raise 50 0).incSat (pg 50 18)).writerErr w code k

/-- The mark under which a stalled store of VC0 to window word k is kept. -/
def lwMark (k : Nat) : Nat := 0o77777000 + k

/-- The first home domain of a word that is off. -/
def State.lwOff (s : State) (k : Nat) : Option Nat := (lwHomes k).find? fun d => !s.domOn d

/-- The checks of a window write in their order, and its effect. -/
def State.lwApply (s : State) (w : Writer) (k : Nat) (v : Word) : State :=
  let h := lwHandler w k v s
  if h.state ≠ 0 then s.lwRefuse w h.state k
  else if inRange .lwin k v = false ∨ h.range = false then s.lwRefuse w eRANGE k
  else if h.extra ≠ 0 then s.lwRefuse w h.extra k
  else h.result

/-- A window write of a session waits in its posting buffer until the device is awake (R363; 12 R405). -/
def State.lwPost (s : State) (q : Fin 8) (k : Nat) (v : Word) : State :=
  let x := s.sess[q.val]
  if x.post.length < 16 then { s with sess := s.sess.set q.val { x with post := x.post ++ [(BitVec.ofNat 24 k, v)] } }
  else s.lwRefuse (.ses q) eBUSY k

/-- A window write of a session wakes the device from SLEEP, and is latched as an event from the acceptance of an entry to SLEEP on
(01 R44 note 3; R363; 14 R469); VC0 does not run in SLEEP, and its writes are no wake events (DEDUCED, log 46). -/
def State.lwArrive (s : State) (w : Writer) : State :=
  match w with
  | .ses _ => if wakesFrom s.wakeState 11 then s.latchWake 11 else s
  | _ => s

/-- A write of window word k. -/
def State.lwWrite (s : State) (w : Writer) (k : Nat) (v : Word) : State :=
  if s.writerLive w = false then s
  else if s.lwPermits w = false then s.lwRefuse w ePERM k
  else
    match w with
    | .ses q =>
      let t := s.lwArrive w
      if (s.lwOff k).isNone then t.lwApply w k v
      else if s.asleep then t.lwPost q k v
      else t.lwRefuse w eSTATE k
    | .core c =>
      (match s.lwOff k with
      | some d => s.stallMem c (lwMark k) d v
      | none => s.lwApply w k v)
    | .tap => s

/-! ### Reads of the window -/

/-- The native receive register is read and emptied (13 R438). -/
def State.takeRxd (s : State) (n : Nat) : State := (s.setReg (serKey n 19) 0).setB (serKey n 3) 0 false

/-- The value of a window word, read without an effect. -/
def State.lwPeek (s : State) (k : Nat) : Word :=
  if k = 2 then wordOf (s.fld (lwKey 2) 3 1 * 2 + b2n (s.lane 0 == 5))
  else if k = 9 then (words54 (legacyTime s.time.ns)).headD 0
  else if k = 10 ∨ k = 11 then (s.capLow.get? (lwKey k)).getD 0
  else if k = 20 then s.leg.port
  else if k = 21 then
    (if s.ldcnt = 0 then 0
     else s.dumpWord (s.ringRead dumpRing (s.reg (ringKey dumpRing 3)).toNat 16) s.leg.ldPos)
  else if k = 22 then wordOf s.ldcnt
  else if 28 ≤ k ∧ k ≤ 30 then
    wordOf ((List.range 18).foldl (fun a j =>
      if 18 * (k - 28) + j < 48 ∧ correlates (s.chState (18 * (k - 28) + j)) = true then a + 2 ^ j else a) 0)
  else if 448 ≤ k ∧ k < 456 ∧ (k - 448) % 4 = 0 then
    let r := s.reg (serKey ((k - 448) / 4) 19)
    wordOf (b2n (bitOf r 17) * 131072 + fieldOf r 16 15 * 32768 + b2n (bitOf r 13) * 16384 + b2n (bitOf r 14) * 8192 + fieldOf r 8 0)
  else if 448 ≤ k ∧ k < 456 ∧ (k - 448) % 4 = 1 then
    let x := s.ser ((k - 448) / 4)
    wordOf (b2n (x.txShift.isNone && x.txHold.isNone) * 4 + b2n x.txHold.isNone * 2 + b2n (s.bit (serKey ((k - 448) / 4) 3) 0))
  else s.reg (lwKey k)

/-- The word that the memory port reads ahead, and the state after: a window word is read without an effect (log 18). -/
def State.portFetch (s : State) : Word × State :=
  match s.portWord with
  | .none => (0, s)
  | .mem key => let r := s.hostMemRead 0 key 20; (r.1, r.2.2)
  | .win k => (s.lwPeek k, s)

/-- A fresh read of a window word by a session, or by VC0: its value and its effect. -/
def State.lwRead (s : State) (w : Writer) (k : Nat) : Word × State :=
  let dsp := match w with
    | .core _ => true
    | _ => false
  let v := s.lwPeek k
  if k = 9 then
    let l := words54 (legacyTime s.time.ns)
    (v, { s with capLow := (s.capLow.put (lwKey 10) (l.getD 1 0)).put (lwKey 11) (l.getD 2 0) })
  else if k = 16 then (v, if dsp then s.setB (lwKey 2) 1 false else s)
  else if k = 17 then (v, if dsp then s else s.setB (lwKey 2) 2 false)
  else if k = 20 then
    (if s.leg.portValid then (v, s.portNext) else
      let r := s.portFetch
      (r.1, { r.2 with leg := { r.2.leg with port := r.1 } }.portNext))
  else if k = 21 then
    let r := s.dumpRead
    (r.1, if r.2.1 = 2 then r.2.2.writerErr w eECC k else r.2.2)
  else if 448 ≤ k ∧ k < 456 ∧ (k - 448) % 4 = 0 then (v, s.takeRxd ((k - 448) / 4))
  else (v, s)

/-- A session's read of the window is fresh: its home domain and, for the memory port, the read-ahead. -/
def State.lwFresh (s : State) (k : Nat) : Bool :=
  !s.asleep && (s.lwOff k).isNone && (k != 20 || s.leg.portValid)

/-- A session's read of window word k: data, HTAG, state (R341, R353, R354). -/
def State.lwHostRead (s : State) (q : Fin 8) (k : Nat) : Word × BitVec 2 × State :=
  if s.lwPermits (.ses q) = false then (0, 2, s.sesErr q.val ePERM k)
  else if s.lwFresh k then
    let r := s.lwRead (.ses q) k
    (r.1, 0, r.2)
  else (s.lwPeek k, 1, s)

/-- HD and HTAG of a read by a session of the parallel bus (12 R400, R401). -/
def State.driveBus (s : State) (q : Fin 8) (v : Word) (tag : BitVec 2) : State :=
  if q.val < 2 then { s with pins := { s.pins with busOut := some (v, tag) } } else s

/-- A read of window word k as a row of its own; in NATIVE the window does not exist. -/
def State.lwReadRow (s : State) (q : Fin 8) (k : Nat) : State :=
  if s.legacyDual = true ∧ s.writerLive (.ses q) = true then
    let r := s.lwHostRead q k
    r.2.2.driveBus q r.1 r.2.1
  else if s.writerLive (.ses q) then (s.sesErr q.val eUNMAPPED k).driveBus q 0 2
  else s

/-- A write of window word k as a row of its own; in NATIVE the window does not exist. -/
def State.lwRow (s : State) (w : Writer) (k : Nat) (v : Word) : State :=
  if s.legacyDual then s.lwWrite w k v
  else if s.writerLive w then
    match w with
    | .ses q => s.sesErr q.val eUNMAPPED k
    | _ => s
  else s

/-! ### The rows -/

/-- LEGACY_DSP_RUN (R353). -/
def execLegacyDspRun (w : Writer) (v : Word) (s : State) : Host.Outcome State Fault Refusal := done s (s.lwRow w 1 v)

/-- LEGACY_DSP_RESET (R353). -/
def execLegacyDspReset (w : Writer) (v : Word) (s : State) : Host.Outcome State Fault Refusal := done s (s.lwRow w 1 (forceBit v 1 true))

/-- LEGACY_FIFO_CLEAR (R358). -/
def execLegacyFifoClear (w : Writer) (v : Word) (s : State) : Host.Outcome State Fault Refusal := done s (s.lwRow w 1 (forceBit v 2 true))

/-- LEGACY_POWER_DOWN (R363). -/
def execLegacyPowerDown (w : Writer) (v : Word) (s : State) : Host.Outcome State Fault Refusal := done s (s.lwRow w 7 (forceBit v 0 true))

/-- LEGACY_SNAP (R359). -/
def execLegacySnap (w : Writer) (v : Word) (s : State) : Host.Outcome State Fault Refusal := done s (s.lwRow w 8 (forceBit v 0 true))

/-- LEGACY_MAILBOX_HOST_WRITE (R353). -/
def execLegacyMailboxHostWrite (q : Fin 8) (v : Word) (s : State) : Host.Outcome State Fault Refusal := done s (s.lwRow (.ses q) 16 v)

/-- VC0 runs L-mode code and its domain is on. -/
def State.dspLive (s : State) : Bool := s.legacyDual && s.domOn 11

/-- LEGACY_MAILBOX_DSP_READ (R353). -/
def execLegacyMailboxDspRead (s : State) : Host.Outcome State Fault Refusal :=
  done s (if s.dspLive then (s.lwRead (.core 0) 16).2 else s)

/-- LEGACY_MAILBOX_DSP_WRITE (R353). -/
def execLegacyMailboxDspWrite (v : Word) (s : State) : Host.Outcome State Fault Refusal :=
  done s (if s.dspLive then s.lwWrite (.core 0) 17 v else s)

/-- LEGACY_MAILBOX_HOST_READ (R353). -/
def execLegacyMailboxHostRead (q : Fin 8) (s : State) : Host.Outcome State Fault Refusal := done s (s.lwReadRow q 17)

/-- LEGACY_MEMORY_ADDRESS_WRITE (R354). -/
def execLegacyMemoryAddressWrite (w : Writer) (low : Bool) (v : Word) (s : State) : Host.Outcome State Fault Refusal :=
  done s (s.lwRow w (if low then 19 else 18) v)

/-- LEGACY_READAHEAD_COMPLETE (R354): while the home domain of the target is on. -/
def execLegacyReadaheadComplete (s : State) : Host.Outcome State Fault Refusal :=
  done s (if s.legacyDual = true ∧ s.leg.portValid = false ∧ s.portHomes.all s.domOn = true then
      let r := s.portFetch
      { r.2 with leg := { r.2.leg with port := r.1, portValid := true } }
    else s)

/-- LEGACY_MEMORY_PORT_READ (R354). -/
def execLegacyMemoryPortRead (q : Fin 8) (s : State) : Host.Outcome State Fault Refusal := done s (s.lwReadRow q 20)

/-- LEGACY_MEMORY_PORT_WRITE (R354). -/
def execLegacyMemoryPortWrite (w : Writer) (v : Word) (s : State) : Host.Outcome State Fault Refusal := done s (s.lwRow w 20 v)

/-- LEGACY_DUMP_FIFO_READ (R358). -/
def execLegacyDumpFifoRead (q : Fin 8) (s : State) : Host.Outcome State Fault Refusal := done s (s.lwReadRow q 21)

/-- LEGACY_SAMPLE_ENABLE (R360). -/
def execLegacySampleEnable (w : Writer) (v : Word) (s : State) : Host.Outcome State Fault Refusal := done s (s.lwRow w 24 (forceBit v 17 true))

/-- LEGACY_CHANNEL_ENABLE (R356). -/
def execLegacyChannelEnable (w : Writer) (c : Fin 48) (v : Word) (s : State) : Host.Outcome State Fault Refusal :=
  done s (s.lwRow w (64 + 8 * c.val) (forceBit v 17 true))

/-- LEGACY_CHANNEL_DISABLE (R356). -/
def execLegacyChannelDisable (w : Writer) (c : Fin 48) (v : Word) (s : State) : Host.Outcome State Fault Refusal :=
  done s (s.lwRow w (64 + 8 * c.val) (forceBit v 17 false))

/-- LEGACY_CARRIER_WRITE (R357). -/
def execLegacyCarrierWrite (w : Writer) (c : Fin 48) (v : Word) (s : State) : Host.Outcome State Fault Refusal :=
  done s (s.lwRow w (66 + 8 * c.val) v)

/-- LEGACY_CODE_WRITE (R357). -/
def execLegacyCodeWrite (w : Writer) (c : Fin 48) (v : Word) (s : State) : Host.Outcome State Fault Refusal :=
  done s (s.lwRow w (68 + 8 * c.val) v)

/-- LEGACY_CODE_SET (R356). -/
def execLegacyCodeSet (w : Writer) (c : Fin 48) (v : Word) (s : State) : Host.Outcome State Fault Refusal :=
  done s (s.lwRow w (69 + 8 * c.val) v)

/-- LEGACY_UART_WRITE (R361). -/
def execLegacyUartWrite (w : Writer) (u : Fin 2) (v : Word) (s : State) : Host.Outcome State Fault Refusal :=
  done s (s.lwRow w (448 + 4 * u.val) v)

/-- LEGACY_UART_READ (R361). -/
def execLegacyUartRead (q : Fin 8) (u : Fin 2) (s : State) : Host.Outcome State Fault Refusal := done s (s.lwReadRow q (448 + 4 * u.val))

/-- LEGACY_TP_APPLY (R362). -/
def execLegacyTpApply (w : Writer) (v : Word) (s : State) : Host.Outcome State Fault Refusal := done s (s.lwRow w 456 v)

/-- LTPOFL_WRITE (R362). -/
def execLtpoflWrite (w : Writer) (v : Word) (s : State) : Host.Outcome State Fault Refusal := done s (s.lwRow w 460 v)

end Sys2Proof.Machine
end

