-- ==== Sys2Proof/Machine/Read.lean ====
section
/-! DEFINITION. Reads: the words that a page computes, what a fresh read changes, a core's load and a host's read
(spec/00 R15; spec/01 R29, R33 to R39; spec/12 R397, R402 to R405). -/

namespace Sys2Proof.Machine

/-! ### Words that a page computes -/

/-- A number from n bits, bit i given by f. -/
def bitsFrom (n : Nat) (f : Nat → Bool) : Nat := (List.range n).foldl (fun a i => if f i then a + 2 ^ i else a) 0

/-- PWR: DON, DRET, RTC and the backup store's word at BKA (14 R476, R484). -/
def State.pwrWord (s : State) (wd : Nat) : Word :=
  if wd = 16 then wordOf (bitsFrom 16 s.domOn)
  else if wd = 17 then wordOf (bitsFrom 16 fun d => s.pstate d == 3)
  else if wd = 26 then wordOf (s.time.rtc / 2 ^ 36 % 4096)
  else if wd = 27 ∨ wd = 28 then (s.capLow.get? (pg 1 wd)).getD 0
  else if wd = 33 then (let k := bkpKey (s.fld (pg 1 32) 13 0); if s.lost k then 0 else s.rdMem k)
  else s.reg (pg 1 wd)

/-- SES: PRES and the masks (12 R394, R396, R429). -/
def State.sesWord (s : State) (wd : Nat) : Word :=
  let q := (wd - 32) / 16
  if wd = 3 then wordOf (bitsFrom 8 s.present)
  else if 32 ≤ wd ∧ wd < 160 ∧ wd % 16 = 0 then withField (s.reg (pg 5 wd)) 16 16 (b2n (s.present q))
  else if isPmask 5 wd then wordOf (s.maskOf q)
  else s.reg (pg 5 wd)

/-- RING: FILL, and the bits of REV that follow the indices (12 R419, R430). -/
def State.ringWord (s : State) (i wd : Nat) : Word :=
  let r := 32 * i + (wd - 32) / 8
  if wd < 32 ∨ 288 ≤ wd then s.reg (pg (6 + i) wd)
  else if wd % 8 = 4 then wordOf (s.ringFill r)
  else if wd % 8 = 7 then withField (s.reg (pg (6 + i) wd)) 1 0 (2 * b2n (s.ringHasRoom r) + b2n (s.ringData r))
  else s.reg (pg (6 + i) wd)

/-- HIF: WFULL; of the own words WPEND (12 R427). A writer other than a session has no own words. -/
def State.hifWord (s : State) (w : Writer) (wd : Nat) : Word :=
  if wd = 3 then wordOf (bitsFrom 8 fun q => decide (16 ≤ (s.ses q).post.length))
  else if 32 ≤ wd ∧ wd < 128 then
    match w with
    | .ses q => if wd = 37 then wordOf (s.ses q.val).post.length else s.reg (keyFor w 8 wd)
    | _ => 0
  else s.reg (pg 8 wd)

/-- LCS: the life-cycle state, OTP rows, keys and the unit ID (15 R517, R525). -/
def State.lcsWord (s : State) (wd : Nat) : Word :=
  if wd = 3 then s.reg (pg 15 3) ||| wordOf (s.tapRights * 64 + s.lcst)
  else if wd = 18 then wordOf (s.otpRow (s.fld (pg 15 17) 6 0)).toNat
  else if wd = 21 then
    wordOf (8 * b2n (s.keyRevoked 1) + 4 * b2n (s.keyRevoked 0) + 2 * b2n (s.keySet 1) + b2n (s.keySet 0))
  else if 22 ≤ wd ∧ wd ≤ 29 then wordOf (s.otpRow (wd - 22)).toNat
  else s.reg (pg 15 wd)

/-- DUCT: requests, the selected channel, the table entry, the summaries of the channels (05 R179). -/
def State.ductWord (s : State) (wd : Nat) : Word :=
  let c := s.fld (pg 30 28) 8 0
  let x := s.chan c
  let r := s.fld (pg 30 33) 17 15
  let slot := s.fld (pg 30 33) 11 0
  let first := fun base => 32 * ((wd - base) / 2) + (if wd % 2 = 0 then 18 else 0)
  if wd = 3 then s.reg (pg 30 3) ||| wordOf s.duct.admQ.length
  else if wd = 27 then wordOf (s.blockSlots 0)
  else if wd = 29 then wordOf (x.rank * 32768 + x.off)
  else if wd = 30 then wordOf (if holdsSlots (s.chState c) then x.d else 0)
  else if wd = 31 then wordOf (x.fklim / 262144)
  else if wd = 32 then wordOf x.fklim
  else if wd = 34 then
    let lg := s.legacyDual && r == 0 && blockSlot slot
    match s.duct.force.find? fun t => t.rank == r && (t.bandOf slot).isSome with
    | some t => wordOf (131072 + b2n lg * 65536 + t.ch)
    | none => wordOf (b2n lg * 65536)
  else if 64 ≤ wd ∧ wd < 96 then wordOf (bitsFrom (if wd % 2 = 0 then 14 else 18) fun j => s.chState (first 64 + j) == 4)
  else if 96 ≤ wd ∧ wd < 128 then wordOf (bitsFrom (if wd % 2 = 0 then 14 else 18) fun j => s.pageEvent (512 + first 96 + j))
  else s.reg (pg 30 wd)

/-- CORE: STAT, PC, the selected register in HALTED and DHALT, the bundle count (08 R297, R302, R304). -/
def State.coreWord (s : State) (c : Fin 4) (wd : Nat) : Word :=
  let x := s.cores[c.val]
  let p := 45 + c.val
  let n := s.fld (pg p 21) 7 0
  let v := if x.mode = .halted ∨ x.mode = .dhalt then x.get c.val n else 0
  if wd = 3 then wordOf (16 * fieldOf x.sr 7 7 + 8 * b2n (x.wod || (x.mode == .running && x.inBlock) || x.mode == .idle) + s.cstate c)
  else if wd = 16 then wordOf x.pc.toNat
  else if wd = 22 then wordOf (if regIsAcc n then v / 2 ^ 36 else 0)
  else if wd = 23 then wordOf (if regIsAcc n ∨ regIs24 n = true then v / 2 ^ 18 else 0)
  else if wd = 24 then wordOf v
  else if wd = 25 then wordOf (x.bcnt / 2 ^ 18)
  else if wd = 26 then (s.capLow.get? (pg p 26)).getD 0
  else s.reg (pg p wd)

/-- A word of the RUBR page that lies in a core's domain (09 R338): that core. -/
def State.rubrOwner (s : State) (wd : Nat) : Option (Fin 4) :=
  if wd = 18 ∨ wd = 19 then some s.usel
  else if 32 ≤ wd ∧ wd < 96 then some ⟨(wd - 32) / 16 % 4, Nat.mod_lt _ (by decide)⟩
  else none

/-- RUBR: STAT, the microword at UADR (09 R338). -/
def State.rubrWord (s : State) (wd : Nat) : Word :=
  let off := match s.rubrOwner wd with
    | some c => !s.domOn (coreDom c)
    | none => false
  if off then 0
  else if wd = 3 then
    s.reg (pg 49 3) ||| wordOf (16 * bitsFrom 4 fun c => decide (0 < (s.cores.toList.getD c Core.reset).rubLeft))
  else if wd = 18 then wordOf (s.microword s.usel.val (s.fld (pg 49 17) 8 0)).1
  else if wd = 19 then wordOf (s.microword s.usel.val (s.fld (pg 49 17) 8 0)).2
  else s.reg (pg 49 wd)

/-- SER: RXD reads 0 while the drain or the session takes it, and words 29 to 32 exist on SER0 and SER1 only (13 R440, R458). RXBUSY: in
synchronous mode the receive shifter is in use with the transmit shifter; in asynchronous mode no command tells when a character begins,
and the bit is free while the receiver runs (DESIGN CHOICE, log 43). -/
def State.serPeek (s : State) (n wd : Nat) : Word :=
  let v := s.reg (serKey n wd)
  if wd = 3 then
    withField v 3 3 (if s.rxOn n = false then 0
      else if bitOf (s.ser n).rx.cfg 17 then b2n (s.ser n).txShift.isSome else s.free.1 % 2)
  else if wd = 19 ∧ s.rxdTaken n = true then 0
  else if 29 ≤ wd ∧ wd ≤ 32 ∧ 2 ≤ n then 0
  else v

/-- PERS (10 R367). -/
def Persona.code : Persona → Nat
  | .native => 0
  | .legacy => 1
  | .dual => 2

/-- A word of page p as a read by w shows it, without an effect. Header words PID and DOM are computed (01 R35). -/
def State.peekWord (s : State) (w : Writer) (p wd : Nat) : Word :=
  if wd = 9 then wordOf ((s.pstate (homeDomain p)).toNat * 16 + homeDomain p)
  else if p = 1 then s.pwrWord wd
  else if p = 4 ∧ 16 ≤ wd ∧ wd ≤ 26 then
    wordOf (bitsFrom 18 fun j => decide (18 * (wd - 16) + j < 192) && s.asserted (18 * (wd - 16) + j))
  else if p = 5 then s.sesWord wd
  else if p = 6 ∨ p = 7 then s.ringWord (p - 6) wd
  else if p = 8 then s.hifWord w wd
  else if p = 16 ∧ wd = 3 then withField (s.reg (pg 16 3)) 6 6 (b2n s.time.rtcSrc)
  else if p = 20 ∧ wd = 46 then withField (s.reg (pg 20 46)) 17 16 (s.agcMode 0)
  else if 10 ≤ p ∧ p ≤ 13 then s.serPeek (p - 10) wd
  else if p = 14 ∧ wd = 30 then withField (s.reg (pg 14 30)) 17 16 s.pins.bootsrcPins.toNat
  else if p = 14 ∧ wd = 33 then withField (s.reg (pg 14 33)) 6 0 s.fuseCount
  else if p = 15 then s.lcsWord wd
  else if 20 ≤ p ∧ p ≤ 27 ∧ (wd = 41 ∨ wd = 45) then wordOf (s.gdly (p - 20) ((wd - 41) / 4))
  else if p = 28 ∧ wd = 32 then wordOf (bitsFrom 16 fun n => s.bit (smapKey n) 5)
  else if p = 28 ∧ 36 ≤ wd ∧ wd ≤ 42 ∧ wd % 2 = 0 then (s.capLow.get? (pg 28 wd)).getD 0
  else if p = 29 ∧ wd = 3 then wordOf (bitsFrom 8 fun m => s.bit (pg 29 (16 + 4 * m)) 17 && s.lane m == 5)
  else if p = 30 then s.ductWord wd
  else if 31 ≤ p ∧ p ≤ 38 ∧ wd = 3 ∧ s.domOn (homeDomain p) = false then withField (s.reg (pg p 3)) 1 0 0
  else if 31 ≤ p ∧ p ≤ 38 ∧ wd = 16 then wordOf (s.rankUsed (p - 31))
  else if 31 ≤ p ∧ p ≤ 38 ∧ wd = 17 then wordOf (s.rankFree (p - 31))
  else if 31 ≤ p ∧ p ≤ 38 ∧ wd = 18 then wordOf (s.rankChans (p - 31))
  else if 45 ≤ p ∧ p ≤ 48 then s.coreWord ⟨(p - 45) % 4, Nat.mod_lt _ (by decide)⟩ wd
  else if p = 49 then s.rubrWord wd
  else if p = 50 ∧ wd = 3 then wordOf (4 * b2n (s.bit (lwKey 1) 0) + s.pins.persona.code)
  else if p = 50 ∧ wd = 19 then wordOf (4 * b2n (s.pins.personaPins == 3) + s.pins.personaPins.toNat)
  else if 512 ≤ p ∧ 64 ≤ wd ∧ wd < 128 then s.ctx (p - 512) (wd - 64)
  else s.reg (pg p wd)

/-! ### Fresh reads -/

/-- A read clears the RC fields of a word (00 R12, R15). -/
def State.clearRc (s : State) (p wd : Nat) : State :=
  s.setReg (pg p wd) (s.reg (pg p wd) &&& ~~~ wordOf (wordInfo (kindOf p) wd).rc)

/-- A read of a high word captures the low words beside it (02 R59; 08 R304; 14 R476). -/
def State.captureLow (s : State) (p wd : Nat) : State :=
  if p = 1 ∧ wd = 26 then
    { s with capLow := (s.capLow.put (pg 1 27) (wordOf (s.time.rtc / 2 ^ 18))).put (pg 1 28) (wordOf s.time.rtc) }
  else if p = 28 ∧ 35 ≤ wd ∧ wd ≤ 41 ∧ wd % 2 = 1 then { s with capLow := s.capLow.put (pg 28 (wd + 1)) (s.reg (pg 28 (wd + 1))) }
  else if h : 45 ≤ p ∧ p ≤ 48 ∧ wd = 25 then
    { s with capLow := s.capLow.put (pg p 26) (wordOf s.cores[p - 45].bcnt) }
  else s

/-- The effect of a fresh read of a word of page p, the backup store apart. -/
def State.readEffect (s : State) (p wd : Nat) : State :=
  if 10 ≤ p ∧ p ≤ 13 ∧ wd = 19 then (if s.rxdTaken (p - 10) then s else s.takeRxd (p - 10))
  else if 10 ≤ p ∧ p ≤ 13 ∧ wd = 3 then s.free.2
  else if (wordInfo (kindOf p) wd).rc ≠ 0 then s.clearRc p wd
  else s.captureLow p wd

/-- The memory word that a page word shows, if it does: the backup store through BKD, a context through its channel page, a
microword through UDH and UDL. -/
def State.memBehind (s : State) (p wd : Nat) : Option Nat :=
  if p = 1 ∧ wd = 33 then some (bkpKey (s.fld (pg 1 32) 13 0))
  else if 512 ≤ p ∧ 64 ≤ wd ∧ wd < 128 then some (ctxKey (p - 512) (wd - 64))
  else if p = 49 ∧ (wd = 18 ∨ wd = 19) ∧ s.domOn (coreDom s.usel) = true then
    some (rubrKey s.usel.val (s.fld (pg 49 17) 8 0) + (wd - 18))
  else none

/-- The memory word that an access of w to address a reaches, directly or through a page. -/
def State.reaches (s : State) (w : Writer) (a : Nat) : Option Nat :=
  let key := localKey w a
  if isPageAddr key then s.memBehind ((key - 0o70000000) / 1024) ((key - 0o70000000) % 1024)
  else if (regionOf key).isSome then some key
  else none

/-- BKA moves on after a fresh read of BKD (14 R484). -/
def State.nextBka (s : State) (p wd : Nat) : State :=
  if p = 1 ∧ wd = 33 then s.setF (pg 1 32) 13 0 (s.fld (pg 1 32) 13 0 + 1) else s

/-! ### A core's load (01 R29, R33; 11 R371, R376, R388) -/

/-- A load of a memory word; one whose Quire arbitration timed out returns 0 (11 R376). -/
def State.loadMem (s : State) (c : Fin 4) (key : Nat) : Word × State :=
  if quireBase ≤ key ∧ key < exmpBase ∧ s.cores[c.val].qTmo = some (key - quireBase) then
    (0, s.setCore c { s.cores[c.val] with qTmo := none })
  else s.coreMemLoad c.val key

/-- A load by core c from address a, whose home domain is on: the value and the effect of a fresh read. -/
def State.coreLoad (s : State) (c : Fin 4) (a : Nat) : Word × State :=
  let key := localKey (.core c) a
  match regionOf key with
  | none => (0, s.coreErr c.val eUNMAPPED)
  | some _ =>
    if isPageAddr key then
      let p := (key - 0o70000000) / 1024
      let wd := (key - 0o70000000) % 1024
      match s.memBehind p wd with
      | some k => let r := s.loadMem c k; (r.1, r.2.nextBka p wd)
      | none => (s.peekWord (.core c) p wd, s.readEffect p wd)
    else s.loadMem c key

/-! ### A host's read (12 R397, R402 to R405) -/

/-- PID, PVER, LOCK and DOM are held in HIF (01 R39). -/
def headerInHif (wd : Nat) : Bool := wd == 0 || wd == 1 || wd == 8 || wd == 9

/-- Session q may read a word of page p (12 R397). -/
def State.mayRead (s : State) (q p wd : Nat) : Bool :=
  !s.windowOnly q && (headerInHif wd || ownFor q p wd || isPmask p wd && decide (wd = 33 + 16 * q)
    || (s.maskOf q).testBit (pageGroup p))

/-- A write of the session to the address waits in its posting buffer (12 R405). -/
def State.unperformed (s : State) (q a : Nat) : Bool := (s.ses q).post.any fun x => x.1.toNat == a

/-- A page word is answered with its current value (12 R402, R403); DEV.ID is so whenever HIF is powered (00 R7). -/
def State.pageFresh (s : State) (p wd : Nat) : Bool :=
  headerInHif wd || (p == 0 && wd == 16) || (s.domOn (homeDomain p) && s.pwr.refilled.getLsbD (homeDomain p)
    && (p != 49 || match s.rubrOwner wd with
      | some c => s.domOn (coreDom c)
      | none => true))

/-- P to P + 63 lie in one memory region of 01 R32 that hosts reach. -/
def windowFits (p : Nat) : Bool :=
  (regionOf p).isSome && (regionOf (p + 63)).isSome && !isPageAddr (p + 63) && regionNo p == regionNo (p + 63)

/-- The refusal of the pointer P, or 0 (12 R404). -/
def State.windowRefusal (s : State) (q p : Nat) : Nat :=
  if windowFits p = false then eUNMAPPED
  else match regionOf p with
    | some (g, _) => if (s.maskOf q).testBit g then 0 else ePERM
    | none => eUNMAPPED

/-- The pointer P applies and its prefetch starts (12 R404). -/
def State.startPrefetch (s : State) (q p : Nat) : State :=
  let t := s.setReg (pg (ownPage q) 35) 0o400000
  t.setSes q { t.ses q with win := p, winSet := true, winLost := [] }

/-- A fresh read of window word 63 with AUTO moves the window on (12 R404). -/
def State.autoAdvance (s : State) (q : Nat) : State :=
  if s.bit (pg (ownPage q) 34) 0 = false then s
  else
    let p := ((s.ses q).win + 64) % 2 ^ 24
    let e := s.windowRefusal q p
    if e ≠ 0 then s.sesErr q e p
    else ((s.setReg (pg (ownPage q) 32) (wordOf (p / 262144))).setReg (pg (ownPage q) 33) (wordOf p)).startPrefetch q p

/-- A read of window word i (12 R404, R405; 11 R388): a word fetched from a LOST bank is refused (log 54). -/
def State.windowRead (s : State) (q i : Nat) : Word × BitVec 2 × State :=
  let v := s.reg (pg (ownPage q) (64 + i))
  let a := (s.ses q).win + i
  if (s.ses q).winSet = false ∨ s.fld (pg (ownPage q) 35) 6 0 ≤ i then (v, 1, s)
  else if (s.ses q).winLost.contains i then (0, 2, s.sesErr q eLOST a)
  else if s.unperformed q a then (v, 1, s)
  else (v, 0, if i = 63 then s.autoAdvance q else s)

/-- The shadow of a page word, which a stale read returns. That of a context word is the word as it stands, or as it stood when the
Quire switched off without retention (12 R403). -/
def State.shadowWord (s : State) (q : Fin 8) (p wd : Nat) : Word :=
  if 512 ≤ p ∧ 64 ≤ wd ∧ wd < 128 then
    let k := ctxKey (p - 512) (wd - 64)
    ((s.mem.get? k).orElse fun _ => s.ctxShadow.get? k).getD (Config.memWord s.memEpoch k 0)
  else s.peekWord (.ses q) p wd

/-- A permitted read of a page word by session q: data, HTAG, state. -/
def State.pageRead (s : State) (q : Fin 8) (p wd : Nat) : Word × BitVec 2 × State :=
  let v := s.shadowWord q p wd
  if p = 8 ∧ 64 ≤ wd ∧ wd < 128 then s.windowRead q.val (wd - 64)
  else if s.pageFresh p wd = false ∨ s.unperformed q.val (pageAddr p wd) = true then (v, 1, s)
  else
    match s.memBehind p wd with
    | some k =>
      if s.lost k then (0, 2, s.sesErr q.val eLOST (pageAddr p wd))
      else let r := s.hostMemRead q.val k (pageAddr p wd); (r.1, r.2.1, r.2.2.nextBka p wd)
    | none => (v, 0, s.readEffect p wd)

/-- A read by session q of address a: data, HTAG, state. A memory region is read through the window alone (01 R34): the
answer is refused, and whether UNMAPPED is recorded is free (log 19). -/
def State.hostRead (s : State) (q : Fin 8) (a : Nat) : Word × BitVec 2 × State :=
  if s.legacyDual = true ∧ a < 512 then s.lwHostRead q a
  else
    match regionOf a with
    | none => (0, 2, s.sesErr q.val eUNMAPPED a)
    | some (g, _) =>
      if isPageAddr a then
        let p := (a - 0o70000000) / 1024
        let wd := (a - 0o70000000) % 1024
        if s.mayRead q.val p wd then s.pageRead q p wd else (0, 2, s.sesErr q.val ePERM a)
      else if s.windowOnly q.val = true ∨ (s.maskOf q.val).testBit g = false then (0, 2, s.sesErr q.val ePERM a)
      else
        let f := s.free
        (0, 2, if f.1 % 2 = 0 then f.2.sesErr q.val eUNMAPPED a else f.2)

/-- Reads of n consecutive addresses by session q: data and HTAG of each, state. -/
def State.hostReadN (s : State) (q : Fin 8) (a : Nat) : Nat → List (Word × BitVec 2) × State
  | 0 => ([], s)
  | n + 1 =>
    let r := s.hostRead q (a % 2 ^ 24)
    let t := r.2.2.hostReadN q (a + 1) n
    ((r.1, r.2.1) :: t.1, t.2)

end Sys2Proof.Machine
end

