-- ==== Sys2Proof/Machine/Write.lean ====
section
/-! DEFINITION. The write of any address of the device map by any writer (spec/01 R27 to R33, R37; spec/12 R404; spec/15 R521), and
the pages that have no file of their own: DEV, HIF, SPI, LEGACY. -/

namespace Sys2Proof.Machine

/-- A write of RAPL by session q (12 R404). -/
def raplHandler (w : Writer) (q : Nat) (v : Word) (s : State) : Handler :=
  let p := s.fld (pg (ownPage q) 32) 5 0 * 262144 + v.toNat
  ⟨0, true, s.windowRefusal q p, (s.plain w 8 33 v).startPrefetch q p⟩

/-- A write to a word of the HIF page: the own words are out of reach of every writer but a session (12 R404, R427). -/
def hifHandler (w : Writer) (wd : Nat) (v : Word) (s : State) : Handler :=
  if 32 ≤ wd ∧ wd < 128 then
    match w with
    | .ses q => if wd = 33 then raplHandler w q.val v s else Handler.plain w 8 wd v s
    | _ => Handler.refuse eSTATE s
  else headerHandler w 8 wd v s

/-- A write to a word of the SPI page: SCFG waits for the end of a frame (12 R407, R428). -/
def spiHandler (w : Writer) (wd : Nat) (v : Word) (s : State) : Handler :=
  if (wd = 16 ∧ s.bit (pg 9 3) 0 = true) ∨ (wd = 24 ∧ s.bit (pg 9 3) 1 = true) then Handler.refuse eBUSY s
  else headerHandler w 9 wd v s

/-- A write to a word of the LEGACY page (10 R367). -/
def legacyHandler (w : Writer) (wd : Nat) (v : Word) (s : State) : Handler :=
  if 16 ≤ wd ∧ s.legacyDual = false then Handler.refuse eSTATE s else headerHandler w 50 wd v s

/-- An index below n. -/
def finMod (n : Nat) (h : 0 < n) (x : Nat) : Fin n := ⟨x % n, Nat.mod_lt _ h⟩

/-- What the block of page p says of a write to word wd. -/
def pageHandler (w : Writer) (p wd : Nat) (v : Word) (s : State) : Handler :=
  if p = 1 then pwrHandler w wd v s else if p = 2 then clkHandler w wd v s else if p = 3 then rstHandler w wd v s
  else if p = 4 then evcHandler w wd v s else if p = 5 then sesHandler w wd v s
  else if p = 6 ∨ p = 7 then ringHandler w (p - 6) wd v s
  else if p = 8 then hifHandler w wd v s else if p = 9 then spiHandler w wd v s
  else if 10 ≤ p ∧ p ≤ 13 then serHandler w (p - 10) wd v s
  else if p = 14 then updHandler w wd v s else if p = 15 then lcsHandler w wd v s
  else if p = 16 then timeHandler w wd v s else if p = 17 then tpHandler w wd v s
  else if p = 18 then evtHandler w wd v s else if p = 19 then measHandler w wd v s
  else if 20 ≤ p ∧ p ≤ 27 then feedHandler w (finMod 8 (by decide) (p - 20)) wd v s
  else if p = 28 then routeHandler w wd v s else if p = 29 then specHandler w wd v s
  else if p = 30 then ductHandler w wd v s else if 31 ≤ p ∧ p ≤ 38 then rankHandler w (p - 31) wd v s
  else if p = 39 then exmpHandler w wd v s else if p = 40 then scrpHandler w wd v s
  else if p = 41 then inkwHandler w wd v s else if p = 42 then quireHandler w wd v s
  else if p = 43 then blotHandler w wd v s else if p = 44 then retnHandler w wd v s
  else if 45 ≤ p ∧ p ≤ 48 then coreHandler w (finMod 4 (by decide) (p - 45)) wd v s
  else if p = 49 then rubrHandler w wd v s else if p = 50 then legacyHandler w wd v s
  else if 512 ≤ p then chanHandler w (p - 512) wd v s
  else headerHandler w p wd v s

/-- A store of core c whose Quire arbitration timed out is discarded (11 R376). -/
def State.quireLate (s : State) (w : Writer) (o : Nat) : Option (Fin 4) :=
  match w with
  | .core c => if s.cores[c.val].qTmo = some o then some c else none
  | _ => none

/-- The core that waits for the Quire no longer. -/
def State.endLate (s : State) (c : Fin 4) : State := s.setCore c { s.cores[c.val] with qTmo := none }

/-- A write of a word of a channel page; its context words lie in the Quire (04 R124; 11 R376). -/
def State.chanWrite (s : State) (w : Writer) (c wd : Nat) (v : Word) : State :=
  match (if 64 ≤ wd ∧ wd < 128 then s.quireLate w (64 * c + (wd - 64)) else none) with
  | some k => s.endLate k
  | none => guarded w (512 + c) wd v (chanHandler w c wd v s) s

/-- A register write. Index writes, writes of the UPD and SCRP pages and of a channel page have a path of their own. -/
def State.pageWrite (s : State) (w : Writer) (p wd : Nat) (v : Word) : State :=
  if p = 6 ∨ p = 7 then ringGuarded w (p - 6) wd v s
  else if p = 14 then updGuarded w wd v s
  else if p = 40 then scrpGuarded w wd v s
  else if 512 ≤ p then s.chanWrite w (p - 512) wd v
  else guarded w p wd v (pageHandler w p wd v s) s

/-- The refusal of a write to a memory word, or 0. -/
def State.memCode (s : State) (w : Writer) (key : Nat) (v : Word) : Nat :=
  if key < quireBase then s.regionCode w 13 2 key false
  else if key < exmpBase then s.quireCode w (key - quireBase)
  else if key < scrpBase then s.exmpCode w (key - exmpBase) v
  else if key < inkwBase then s.regionCode w 14 8 key (s.pbusy != 0)
  else if key < coreBase then s.regionCode w 14 9 key (s.captureHolds (key - inkwBase) || s.jobReads (key - inkwBase) (key - inkwBase + 1))
  else s.regionCode w 10 (11 + (key - coreBase) / 524288) key false

/-- A write to a memory word. -/
def State.memWrite (s : State) (w : Writer) (key : Nat) (v : Word) : State :=
  if key < quireBase then s.regionWrite w 13 2 key false v id
  else if key < exmpBase then
    match s.quireLate w (key - quireBase) with
    | some c => s.endLate c
    | none => s.quireWrite w (key - quireBase) v
  else if key < scrpBase then s.exmpWrite w (key - exmpBase) v
  else if key < inkwBase then s.ramWrite w (key - scrpBase) v
  else if key < coreBase then s.inkwWrite w (key - inkwBase) v
  else s.regionWrite w 10 (11 + (key - coreBase) / 524288) key false v id

/-- The address lies in the legacy window for the writer (10 R341). -/
def State.windowWord (s : State) (w : Writer) (a : Nat) : Option Nat :=
  match w with
  | .ses _ => if s.legacyDual = true ∧ a < 512 then some a else none
  | _ => none

/-- A write to address a. A write of the LEGACY session 0 outside the window, for which 10 R341 names no code, is refused with PERM,
in the page's ERR word too when a page lies there, and with UNMAPPED where nothing is mapped (DESIGN CHOICE, log 61). -/
def State.writeAddr (s : State) (w : Writer) (a : Nat) (v : Word) : State :=
  if s.writerLive w = false then s
  else
    match s.windowWord w a with
    | some k => s.lwWrite w k v
    | none =>
      let key := localKey w a
      let deaf := match w with
        | .ses q => s.windowOnly q.val
        | _ => false
      match regionOf key with
      | none => s.recordRefusal w none 0 eUNMAPPED a
      | some _ =>
        if deaf then
          s.recordRefusal w (if isPageAddr key then some ((key - 0o70000000) / 1024) else none) ((key - 0o70000000) % 1024) ePERM a
        else if isPageAddr key then s.pageWrite w ((key - 0o70000000) / 1024) ((key - 0o70000000) % 1024) v
        else s.memWrite w key v

/-- A read of address a by w, where only its effect remains: a session's, a core's, or one through the test access port with
the rights of a core (15 R521). -/
def State.readAddr (s : State) (w : Writer) (a : Nat) : State :=
  if s.writerLive w = false then s
  else
    match w with
    | .ses q => let r := s.hostRead q a; r.2.2.driveBus q r.1 r.2.1
    | .core c =>
      (match regionOf (localKey w a) with
      | some (_, d) => if s.domOn d then (s.coreLoad c a).2 else s.wakeDom d
      | none => (s.coreLoad c a).2)
    | .tap =>
      let on := match regionOf a with
        | some (_, d) => s.domOn d
        | none => false
      if on = false then s
      else if isPageAddr a then
        let p := (a - 0o70000000) / 1024
        let wd := (a - 0o70000000) % 1024
        match s.memBehind p wd with
        | some k => (s.memRead k).2.2.nextBka p wd
        | none => s.readEffect p wd
      else (s.memRead a).2.2

/-- REGISTER_WRITE (00 R16): a write to an address of the device map. -/
def execRegisterWrite (w : Writer) (a : BitVec 24) (v : Word) (s : State) : Host.Outcome State Fault Refusal :=
  done s (s.writeAddr w a.toNat v)

/-- PAGE_LOCK_TAKE (01 R37). -/
def execPageLockTake (w : Writer) (pg : BitVec 10) (s : State) : Host.Outcome State Fault Refusal :=
  done s (s.writeAddr w (pageAddr pg.toNat 8) 8)

/-- PAGE_LOCK_RELEASE (01 R37). -/
def execPageLockRelease (w : Writer) (pg : BitVec 10) (s : State) : Host.Outcome State Fault Refusal :=
  done s (s.writeAddr w (pageAddr pg.toNat 8) 0)

/-- TAP_DEBUG_ACCESS (15 R521), where the life-cycle state grants debug access. -/
def execTapDebugAccess (write : Bool) (a : BitVec 24) (v : Word) (s : State) : Host.Outcome State Fault Refusal :=
  done s (if s.tapRights < 2 then s else if write then s.writeAddr .tap a.toNat v else s.readAddr .tap a.toNat)

/-- SER_RXD_READ (13 R438). -/
def execSerRxdRead (w : Writer) (n : Fin 4) (s : State) : Host.Outcome State Fault Refusal :=
  done s (s.readAddr w (pageAddr (10 + n.val) 19))

/-- BACKUP_STORE_READ (14 R484). -/
def execBackupStoreRead (w : Writer) (s : State) : Host.Outcome State Fault Refusal :=
  done s (s.readAddr w (pageAddr 1 33))

/-! ### Domains that come on, and the accesses that waited (14 R461 to R463) -/

/-- Every PLL of domain d runs. -/
def State.pllsRun (s : State) (d : Nat) : Bool := (List.range 4).all fun p => !(pllUsers p).contains d || s.pllRuns p

/-- The stall of core c ends: a store that waited is performed, and stalls again where another domain is off. An address from
`lwMark` on, where the device map ends, marks a window store of VC0. -/
def State.release (s : State) (c : Fin 4) : State :=
  let x := s.cores[c.val]
  if x.wod = false then s
  else
    match x.stallW with
    | none => s.setCore c { x with wod := false }
    | some (a, v) =>
      let t := s.setCore c { x with wod := false, stallW := none }
      if lwMark 0 ≤ a.toNat then t.lwWrite (.core c) (a.toNat - lwMark 0) v else t.writeAddr (.core c) a.toNat v

/-- DOMAIN_ON (R461, R462). -/
def execDomainOn (d : Fin 16) (s : State) : Host.Outcome State Fault Refusal :=
  done s (if s.pstate d.val = 1 ∧ s.pllsRun d.val = true then
      let t := s.domainUp d.val
      let t := (List.range 4).foldl (fun t p =>
        if (pllUsers p).contains d.val = true ∧ t.locked p = false then t.lockPll p else t) t
      (List.finRange 4).foldl State.release t
    else s)

/-- WAKE_ON_DEMAND_TIMEOUT (R463; 08 R281): a store is discarded, a load returns 0 when its bundle is issued. -/
def execWakeOnDemandTimeout (c : Fin 4) (s : State) : Host.Outcome State Fault Refusal :=
  let x := s.cores[c.val]
  done s (if x.wod then
      let t := (s.coreErr c.val eTIMEOUT).raise 1 4
      t.setCore c { x with wod := false, stallW := none, wodTmo := x.stallW.isNone }
    else s)

end Sys2Proof.Machine
end

