-- ==== Sys2Proof/Machine/Boot.lean ====
section
/-! DEFINITION. The boot ROM (spec/15 R487, R488, R493 to R504, R512 to R515, R523; spec/07 R238; spec/12 R396, R417): the clock, the
checks of a Folio, the load of its components, the settings, the start of the cores, and the recovery state. -/

namespace Sys2Proof.Machine

/-! ### The Colophon (R493, R494) -/

/-- The fields of a header that the boot ROM uses after its checks. -/
structure Colophon where
  totlen : Nat
  ncomp : Nat
  flags : Nat
  imgver : Nat
  svn : Nat
  supv : Nat
  hwmin : Nat
  hwmax : Nat
  msgver : Nat
  arun : Nat
  setbase : Nat
  deriving DecidableEq, Repr

/-- The header of Folio f. -/
def State.colophon (s : State) (f : Nat) : Colophon :=
  let n := fun o k => s.flashNum (folioBase f + o) k
  { totlen := n 8 4, ncomp := n 12 2, flags := n 14 2, imgver := n 16 4, svn := n 20 1, supv := n 21 1, hwmin := n 24 1, hwmax := n 25 1
    msgver := n 26 2, arun := n 28 1, setbase := n 30 2 }

/-- An entry of the component table. -/
structure Comp where
  kind : Nat
  inst : Nat
  version : Nat
  offset : Nat
  length : Nat
  hwmin : Nat
  hwmax : Nat
  msgver : Nat
  reqkind : Nat
  reqinst : Nat
  reqmin : Nat
  reqmax : Nat
  digest : List Byte
  deriving DecidableEq, Repr

/-- Entry i of Folio f. -/
def State.compEntry (s : State) (f i : Nat) : Comp :=
  let n := fun o k => s.flashNum (folioBase f + 128 + 64 * i + o) k
  { kind := n 0 2, inst := n 2 1, version := n 4 4, offset := n 8 4, length := n 12 4, hwmin := n 16 1, hwmax := n 17 1
    msgver := n 18 2, reqkind := n 20 2, reqinst := n 22 1, reqmin := n 24 4, reqmax := n 28 4
    digest := s.flashRead (folioBase f + 128 + 64 * i + 32) 32 }

/-- The component table, at most 32 entries. -/
def State.compTable (s : State) (f : Nat) : List Comp := (List.range (min (s.colophon f).ncomp 32)).map (s.compEntry f)

/-- The component of a kind and an instance. -/
def findComp (l : List Comp) (kind inst : Nat) : Option Comp := l.find? fun c => c.kind == kind && c.inst == inst

/-- Silicon revision: DEV.ID[5:0] (00 R6). MAJOR and MINOR are per silicon; the model is the first production silicon, revision 1.0
(DESIGN CHOICE, log 60). -/
def siliconRev : Nat := 0o10

/-! ### Checks 1 to 10 (R499) -/

/-- Check 1: the fixed fields and the reserved bytes of header and table (log 30). -/
def State.check1 (s : State) (f : Nat) : Bool :=
  let n := fun o k => s.flashNum (folioBase f + o) k
  let h := s.colophon f
  n 0 4 == 0x48504C43 && n 4 2 == 1 && n 6 2 == 128 && decide (1 ≤ h.ncomp ∧ h.ncomp ≤ 32) && h.totlen == 128 + 64 * h.ncomp
    && n 29 1 == 0 && n 112 16 == 0
    && (List.range (min h.ncomp 32)).all fun i => n (128 + 64 * i + 3) 1 == 0 && n (128 + 64 * i + 23) 1 == 0

/-- The hash of a public key is trusted in the life-cycle state (R521). -/
def State.trusts (s : State) (hash : List Byte) : Bool :=
  if s.lcst = 0 ∨ s.lcst = 4 then hash == sha256 Config.vendorKey
  else (List.range 2).any fun k => s.keySet k && !s.keyRevoked k && hash == s.keyHash k

/-- PUBKEY. -/
def State.pubKey (s : State) (f : Nat) : List Byte := s.flashRead (folioBase f + 0x30) 64

/-- Check 3: the signature of bytes 0 to TOTLEN − 1. -/
def State.check3 (s : State) (f : Nat) : Bool :=
  let len := (s.colophon f).totlen
  ecdsaValid (s.pubKey f) (s.flashRead (folioBase f) len) (s.flashRead (folioBase f + len) 64)

/-- Check 4: type and silicon revision. -/
def State.check4 (s : State) (f : Nat) : Bool :=
  let h := s.colophon f
  s.flashNum (folioBase f + 22) 2 == 0o5120 && decide (h.hwmin ≤ siliconRev ∧ siliconRev ≤ h.hwmax)

/-- Check 5: the binding to a unit; UNITID is a number of a flash structure (00 R10) (log 30). -/
def State.check5 (s : State) (f : Nat) : Bool :=
  let bind := (s.colophon f).flags.testBit 0
  (!bind || s.flashNum (folioBase f + 0x20) 16 == s.unitId) && (bind || !(s.otpRow 50).getLsbD 0)

/-- A component's KIND and INST are as R495 gives. -/
def Comp.known (c : Comp) : Bool :=
  if c.kind = 1 ∨ c.kind = 2 then decide (c.inst ≤ 3)
  else if 3 ≤ c.kind ∧ c.kind ≤ 6 then c.inst == 0
  else c.kind == 7 && decide (c.inst ≤ 1)

/-- Two entries may stand in one table: no pair twice, no overlap. -/
def Comp.apart (a b : Comp) : Bool :=
  !(a.kind == b.kind && a.inst == b.inst) && !(decide (a.offset < b.offset + b.length) && decide (b.offset < a.offset + a.length))

/-- Every two entries of a list may stand in one table. -/
def compsApart : List Comp → Bool
  | [] => true
  | c :: r => r.all c.apart && compsApart r

/-- The components that the personality requires (R523). -/
def State.required (s : State) (l : List Comp) (arun : Nat) : Bool :=
  let cores := fun n => (List.range 4).all fun c => decide (c < n) || !arun.testBit c || (findComp l 1 c).isSome
  match s.pins.persona with
  | .native => cores 0
  | .legacy => (findComp l 1 0).isSome && (findComp l 6 0).isSome
  | .dual => (findComp l 1 0).isSome && (findComp l 6 0).isSome && cores 1

/-- Check 7, and the fit of the settings area (R513). -/
def State.check7 (s : State) (f : Nat) : Bool :=
  let h := s.colophon f
  let l := s.compTable f
  (l.all fun c => c.known && decide (c.offset + c.length ≤ 0x1000000) && decide (c.hwmin ≤ siliconRev ∧ siliconRev ≤ c.hwmax))
    && compsApart l && s.required l h.arun && decide (h.setbase * 64 + 73728 ≤ 524288)

/-- Check 8: required components. -/
def check8 (l : List Comp) : Bool := l.all fun c =>
  c.reqkind == 0 || match findComp l c.reqkind c.reqinst with
    | some r => decide (c.reqmin ≤ r.version ∧ r.version ≤ c.reqmax)
    | none => false

/-- Check 9: a core image asks for nothing but its own Rubric. -/
def check9 (l : List Comp) : Bool := l.all fun c => c.kind != 1 || c.reqkind == 0 || (c.reqkind == 2 && c.reqinst == c.inst)

/-- Check 10: one message version. -/
def check10 (l : List Comp) (msgver : Nat) : Bool := l.all fun c => c.kind != 1 || c.msgver == msgver

/-- The first of checks 1 to 10 that Folio f fails, and its code; (0, 0) when none does. -/
def State.bootChecks (s : State) (f : Nat) : Nat × Nat :=
  let l := s.compTable f
  if s.muted (6 + f) = true then (1, eTIMEOUT)
  else if s.check1 f = false then (1, eCONFIG)
  else if s.trusts (sha256 (s.pubKey f)) = false then (2, ePERM)
  else if s.check3 f = false then (3, ePERM)
  else if s.check4 f = false then (4, eCONFIG)
  else if s.check5 f = false then (5, ePERM)
  else if (s.colophon f).svn < s.fuseCount then (6, eRANGE)
  else if s.check7 f = false then (7, eCONFIG)
  else if check8 l = false then (8, eCONFIG)
  else if check9 l = false then (9, eCONFIG)
  else if check10 l (s.colophon f).msgver = false then (10, eCONFIG)
  else (0, 0)

/-! ### The load of a component (R491, R495, R499) -/

/-- The words of n groups of 9 bytes. -/
def groupWords (l : List Byte) : Nat → List Word
  | 0 => []
  | n + 1 =>
    let g := leNum (l.take 9)
    [wordOf g, wordOf (g / 2 ^ 18), wordOf (g / 2 ^ 36), wordOf (g / 2 ^ 54)] ++ groupWords (l.drop 9) n

/-- The boot ROM's access wakes a domain as a core's does, and waits for it (14 R462) (log 32). -/
def State.bootWake (s : State) (d : Nat) : State := if s.domOn d then s else (s.domainUp d).setB (pg 1 (48 + d)) 17 true

/-- A write with the rights of a core (01 R27): the code, 0 when it is accepted, and the state (log 32). -/
def State.bootWrite (s : State) (a : Nat) (v : Word) : Nat × State :=
  match regionOf a with
  | none => (eUNMAPPED, s)
  | some (_, d) =>
    let t := s.bootWake d
    if isPageAddr a then
      let p := (a - 0o70000000) / 1024
      let wd := (a - 0o70000000) % 1024
      (writeRefusal .tap p wd v (pageHandler .tap p wd v t) t, t.pageWrite .tap p wd v)
    else (t.memCode .tap a v, t.memWrite .tap a v)

/-- A target that a load list of a kind may reach (R495). -/
def loadTarget (kind a : Nat) : Bool :=
  let p := (a - 0o70000000) / 1024
  let w := (a - 0o70000000) % 1024
  let page := decide (0o70000000 ≤ a)
  if kind = 3 then
    decide (exmpBase ≤ a ∧ a < exmpBase + 524288) || (page && p == 39 && (decide (22 ≤ w ∧ w ≤ 24) || decide (32 ≤ w ∧ w ≤ 767)))
  else if kind = 4 then page && decide (20 ≤ p ∧ p ≤ 27) && decide (20 ≤ w ∧ w ≤ 51)
  else if kind = 5 then page && p == 17 && decide (64 ≤ w ∧ w < 320) && (w % 64 == 8 || decide (16 ≤ w % 64 ∧ w % 64 ≤ 55))
  else
    page && ((p == 50 && w == 16) || (p == 39 && decide (392 ≤ w ∧ w ≤ 415))
      || (decide (16 ≤ w) && (p == 1 || p == 2 || p == 3 || p == 42 || p == 43 || p == 44)))

/-- A write of a load list: TP0 and the legacy programs are the boot ROM's to write in every personality (03 R115; 07 R238). -/
def State.listWrite (s : State) (kind a : Nat) (v : Word) : Nat × State :=
  if loadTarget kind a = false then (eCONFIG, s)
  else if kind = 5 ∨ (kind = 6 ∧ (a - 0o70000000) / 1024 = 39) then
    let r := ({ s with pins := { s.pins with persona := .native } } : State).bootWrite a v
    (r.1, { r.2 with pins := s.pins })
  else s.bootWrite a v

/-- The reading of a load list, word by word. -/
structure Loader where
  s : State
  hdr : List Word          -- words of a record's head read so far
  left : Nat               -- words of the record to come
  addr : Nat
  fin : Bool               -- the record with n = 0 was met
  code : Nat
  deriving DecidableEq, Repr

/-- The next word of a load list. -/
def Loader.next (kind : Nat) (l : Loader) (v : Word) : Loader :=
  if l.fin = true ∨ l.code ≠ 0 then l
  else if 0 < l.left then
    let r := l.s.listWrite kind l.addr v
    { l with s := r.2, code := r.1, left := l.left - 1, addr := l.addr + 1 }
  else
    match l.hdr with
    | [a, b] => if v = 0 then { l with fin := true } else { l with hdr := [], left := v.toNat, addr := a.toNat % 64 * 262144 + b.toNat }
    | h => { l with hdr := h ++ [v] }

/-- A load list. A body that ends before its last record fails with CONFIG (log 24). -/
def State.loadList (s : State) (kind : Nat) (ws : List Word) : Nat × State :=
  let l := ws.foldl (Loader.next kind) ⟨s, [], 0, 0, false, 0⟩
  (if l.code ≠ 0 then l.code else if l.fin then 0 else eCONFIG, l.s)

/-- Words stored at consecutive addresses, up to the first that is refused. -/
def State.bootRun (s : State) (a : Nat) (ws : List Word) : Nat × State :=
  let r := ws.foldl (fun (x : Nat × Nat × State) v =>
    if x.1 ≠ 0 then x else let y := x.2.2.bootWrite x.2.1 v; (y.1, x.2.1 + 1, y.2)) (0, a, s)
  (r.1, r.2.2)

/-- A core image. -/
def State.loadCore (s : State) (c : Nat) (ws : List Word) : Nat × State :=
  let len := fun i => (ws.getD i 0).toNat * 262144 + (ws.getD (i + 1) 0).toNat
  if 262144 < len 0 ∨ 262144 < len 2 ∨ ws.length < 4 + len 0 + len 2 then (eCONFIG, s)
  else
    let base := coreBase + c * 524288
    let r := s.bootRun base ((ws.drop 4).take (len 0))
    if r.1 ≠ 0 then r else r.2.bootRun (base + 262144) ((ws.drop (4 + len 0)).take (len 2))

/-- One microword of a Rubric (09 R334): OP 15 is refused. -/
def State.loadMicro (s : State) (c u : Nat) (hi lo : Word) : Nat × State :=
  if fieldOf hi 16 13 = 15 then (eRANGE, s) else (0, (s.wrMem (rubrKey c u) hi).wrMem (rubrKey c u + 1) lo)

/-- A Rubric (09 R336). -/
def State.loadRubric (s : State) (c : Nat) (version : Nat) (ws : List Word) : Nat × State :=
  if ws.length < 1040 then (eCONFIG, s)
  else
    let t := (s.bootWake (11 + c)).bootWake 2
    let keep := fun (x : Nat × State) (f : State → Nat × State) => if x.1 ≠ 0 then x else f x.2
    let r := (List.range 512).foldl (fun x u => keep x fun t => t.loadMicro c u (ws.getD (2 * u) 0) (ws.getD (2 * u + 1) 0)) (0, t)
    let r := (List.range 16).foldl (fun x e => keep x fun t => t.bootWrite (pageAddr 49 (32 + 16 * c + e)) (ws.getD (1024 + e) 0)) r
    if r.1 ≠ 0 then r else (0, r.2.setReg (pg 49 (20 + c)) (wordOf version))

/-- The Hairline table, after which the boot ROM writes APPLY for all four outputs (07 R238). -/
def State.loadHairline (s : State) (ws : List Word) : Nat × State :=
  let r := s.loadList 5 ws
  if r.1 ≠ 0 then r else (0, (List.range 4).foldl (fun t n => t.applyTp n (t.tpStaged n)) r.2)

/-- The boot ROM passes over a component (R502, R523). -/
def State.skips (s : State) (c : Comp) : Bool :=
  (c.kind == 5 && s.upd.warm) || (c.kind == 6 && s.pins.persona == .native)

/-- The load of a component: the code of check 12 and the state. -/
def State.loadBody (s : State) (c : Comp) (ws : List Word) : Nat × State :=
  if c.kind = 1 then s.loadCore c.inst ws
  else if c.kind = 2 then s.loadRubric c.inst c.version ws
  else if c.kind = 5 then s.loadHairline ws
  else if c.kind = 7 then (0, s)
  else s.loadList c.kind ws

/-- The bytes of a component's body in Folio f. -/
def State.compBody (s : State) (f : Nat) (c : Comp) : List Byte := s.flashRead (folioBase f + c.offset) c.length

/-- A component under checks 11 and 12, made in that order (log 25): the check that fails, its code, the state. A body whose read times out
fails check 11 with TIMEOUT, before a word of it is loaded (R489; DEDUCED, log 23). -/
def State.loadComp (s : State) (f : Nat) (c : Comp) : Nat × Nat × State :=
  if s.skips c then (0, 0, s)
  else if s.muted (8 + f) then (11, eTIMEOUT, s)
  else
    let body := s.compBody f c
    let r := s.loadBody c (groupWords body (body.length / 9))
    if sha256 body ≠ c.digest then (11, eCONFIG, r.2) else if r.1 ≠ 0 then (12, r.1, r.2) else (0, 0, r.2)

/-- Step 7: the components in ascending table order, up to the first failure. Descriptors and programs that none of them names read
VALID = 0, after an attempt with the other Folio too (03 R109). -/
def State.loadFolio (s : State) (f : Nat) : Nat × Nat × State :=
  (s.compTable f).foldl (fun x c => if x.1 ≠ 0 then x else x.2.2.loadComp f c) (0, 0, s.noCodes)

/-! ### Settings (R513 to R515) -/

/-- A settings area in shared RAM: LVER, LEN, the payload at two bytes a word. -/
def State.putSettings (s : State) (classN : Bool) (c : SetCopy) : State :=
  s.wrMemN (s.setBase classN) (wordOf c.2.1 :: wordOf c.2.2.length :: bytesWords c.2.2)

/-- The default payload of a Class P schema; at most the limit of R512 is taken (log 24). -/
def schemaPayload (ws : List Word) : List Byte := (((ws.drop 1).flatMap wordBytes).take (min (ws.getD 0 0).toNat (setLimit false)))

/-- Class P (R514); `ok`: the write of the default copy ends well. A schema body that cannot be read leaves the area unwritten. -/
def State.loadClassP (s : State) (f : Nat) (ok : Bool) : State :=
  let put := fun (t : State) (c : SetCopy) =>
    ((t.putSettings false c).setB (updKey 34) 1 true).setReg (updKey 36) (wordOf c.2.1)
  let have_ := s.curSet false
  match findComp (s.compTable f) 7 0 with
  | some c =>
    let lver := c.version / 65536 % 65536
    if (match have_ with
      | some x => x.2.1 == lver
      | none => false) then (match have_ with
        | some x => put s x
        | none => s)
    else
      let body := s.compBody f c
      let pay := schemaPayload (groupWords body (body.length / 9))
      if s.muted (8 + f) then s.pageErr 14 eTIMEOUT 2 else (put (s.trySet ok false lver pay) (0, lver, pay)).setB (updKey 34) 3 true
  | none => match have_ with
    | some x => put s x
    | none => s

/-- Class N (R515). -/
def State.loadClassN (s : State) : State :=
  match s.curSet true with
  | some c => ((s.putSettings true c).setB (updKey 34) 2 true).setReg (updKey 37) (wordOf c.2.1)
  | none => s

/-! ### The end of a boot (R500, R501) -/

/-- The boot source in force (R487): HOLD counts only where the life cycle and BOOTCFG.NOHOLD allow it. -/
def State.bootSrc (s : State) : Nat :=
  let b := s.pins.bootsrcPins.toNat
  if b = 3 then 0 else if b = 1 ∧ (s.lcst = 2 ∨ s.lcst = 3 ∨ (s.otpRow 50).getLsbD 1 = true) then 0 else b

/-- BOOTST takes the Folio, the check and the code of a failure; one that the flash caused is recorded as its TIMEOUT too (00 R546). -/
def State.bootFail (s : State) (f check code : Nat) : State :=
  let t := ((s.setF (updKey 30) 12 12 f).setF (updKey 30) 11 8 check).setF (updKey 30) 3 0 code
  if check ≠ 0 ∧ code = eTIMEOUT then t.pageErr 14 eTIMEOUT 2 else t

/-- The recovery state (R501): the boot ROM stops, and sessions 4 to 7 that are present are enabled (log 34). -/
def State.enterRecovery (s : State) : State :=
  let t := (s.setB (updKey 3) 5 false).setB (updKey 3) 4 true
  let t := [4, 5, 6, 7].foldl (fun t q => if t.present q then t.setB (pg 5 (32 + 16 * q)) 17 true else t) t
  { t with upd := { t.upd with warm := false } }

/-- CORE.CTRL.ARUN and RUN of core c. In LEGACY and DUAL the window runs VC0 (10 R353; 08 R303). -/
def State.bootCore (s : State) (run : Bool) (c : Fin 4) : State :=
  let t := (s.setB (pg (45 + c.val) 2) 5 run).setB (pg (45 + c.val) 2) 0 run
  if run = true ∧ s.lmode c = false then t.wantRun c else t

/-- RG76 in LEGACY and DUAL (12 R417): on, SZ 6, PROD 12, CONS 19, empty (log 34). -/
def State.setupDumpRing (s : State) : State :=
  if s.legacyDual then
    ((s.setReg (ringKey dumpRing 0) (wordOf (131072 + 6 * 8192 + 12 * 256 + 19 * 8))).setReg (ringKey dumpRing 2) 0).setReg
      (ringKey dumpRing 3) 0
  else s

/-- Steps 8 and 9 with Folio f. `fresh`: step 4 found no valid copy; `fell`: a fallback record was written (log 33); `bad`: the flash writes
of the boot that end with TIMEOUT, the trial's record, the fallback record, the default Class P copy, the first record. -/
def State.finishBoot (s : State) (f : Nat) (fresh fell : Bool) (ms : Word) (bad : BitVec 4) : State :=
  let h := s.colophon f
  let t := s.setReg (updKey 35) (wordOf h.setbase)
  let t := (t.loadClassP f (!bad.getLsbD 2)).loadClassN
  let t := if fresh then t.tryRec (!bad.getLsbD 3) ⟨0, f, false, 0, false, false, t.folioVer f⟩ else t
  let trial := t.bit (updKey 28) 1
  let t := if trial then t.setReg (updKey 29) 600 else t
  let t := t.setF (pg 5 16) 2 0 (if h.flags.testBit 1 then h.supv else 0)
  let t := t.setupDumpRing
  let t := (List.finRange 4).foldl (fun t c => t.bootCore (h.arun.testBit c.val && s.bootSrc != 1) c) t
  let t := (t.setReg (updKey 31) (wordOf (h.imgver / 262144))).setReg (updKey 32) (wordOf h.imgver)
  let t := t.setReg (updKey 33) (wordOf (h.svn % 128 * 256 + t.fuseCount))
  let t := ((t.setB (updKey 3) 1 (f == 1)).setB (updKey 3) 3 trial).setB (updKey 3) 5 false
  let t := if fell then t.raise 14 6 else t
  let t := t.setReg (updKey 39) ms
  { t with upd := { t.upd with warm := false } }

/-- The fallback record (R504): the other Folio than f, CONFIRMED; TEXP is cleared (log 33). -/
def State.fallBack (s : State) (f : Nat) (ok : Bool) : State :=
  (s.tryRec ok ⟨0, 1 - f, false, 0, true, false, s.folioVer (1 - f)⟩).setB (updKey 28) 6 false

/-- The other Folio after a fallback from Folio f: steps 5 to 9, or the recovery state. -/
def State.bootOther (s : State) (f : Nat) (fresh : Bool) (ms : Word) (bad : BitVec 4) : State :=
  let g := 1 - f
  let t := s.fallBack f (!bad.getLsbD 1)
  let c := t.bootChecks g
  if c.1 ≠ 0 then (t.bootFail g c.1 c.2).enterRecovery
  else
    let r := t.loadFolio g
    if r.1 ≠ 0 then (r.2.2.bootFail g r.1 r.2.1).enterRecovery else r.2.2.finishBoot g fresh true ms bad

/-- Steps 5 to 9 from the Folio that the record in force names (R498, R501, R504). -/
def State.bootActive (s : State) (ms : Word) (bad : BitVec 4) : State :=
  let r := s.recNow
  let fresh := s.curRec.isNone
  let c := s.bootChecks r.active
  if c.1 ≠ 0 then (s.bootFail r.active c.1 c.2).bootOther r.active fresh ms bad
  else if r.trial = true ∧ (r.tries = 3 ∨ s.bit (updKey 28) 6 = true) then s.bootOther r.active fresh ms bad
  else
    let t := if r.trial then s.tryRec (!bad.getLsbD 0) { r with tries := r.tries + 1 } else s
    let l := t.loadFolio r.active
    if l.1 ≠ 0 then (l.2.2.bootFail r.active l.1 l.2.1).bootOther r.active fresh ms bad
    else l.2.2.finishBoot r.active fresh false ms bad

/-- REFKHZ at step 2 (R488): from OTP row 49, or measured where the row is 0, which takes the crystal; the measured frequency is
free within the range of 14 R478 (log 1). None while REFKHZ cannot be written; a warm restart keeps it (log 31). -/
def State.bootKhz (s : State) : Option Nat :=
  let k := (s.otpRow 49).toNat
  if s.upd.warm then some (s.reg (pg 2 16)).toNat
  else if k = 0 then (if s.bit (pg 2 3) 4 then some (10000 + Config.freeNat s.freeCtr % 42001) else none)
  else if 10000 ≤ k ∧ k ≤ 52000 then some k else none

/-- Step 2: the PLLs that a domain needs start and lock (14 R478). -/
def State.bootClock (s : State) (khz : Nat) : State :=
  if s.upd.warm then s
  else (List.range 4).foldl (fun t p => if t.pllRuns p && !t.locked p then t.lockPll p else t)
    (({ s with freeCtr := s.freeCtr + 1 } : State).setReg (pg 2 16) (wordOf khz))

/-- The boot ROM waits to run: it has started and the device is out of reset. -/
def State.booting (s : State) : Bool := s.pins.rstN && s.bit (updKey 3) 5

/-- The flash operations of a boot whose part cannot be read end with TIMEOUT: the record copies at step 4, the settings copies at step 8
(R489; 00 R546). -/
def State.muteErr (s : State) (parts : BitVec 10) : State := if s.upd.mute &&& parts ≠ 0 then s.pageErr 14 eTIMEOUT 2 else s

/-- The boot after step 2: from the flash, or the recovery state. -/
def State.bootFlash (s : State) (ms : Word) (bad : BitVec 4) : State :=
  let t := (s.muteErr 0b11).showRec
  if s.bootSrc = 2 then t.enterRecovery
  else
    let u := t.bootActive ms bad
    if u.recovery then u else u.muteErr 0b111100

/-- BOOT_SEQUENCE (R498): steps 1 to 9, as the flash answers them (log 23). -/
def execBootSequence (run : BootRun) (s : State) : Host.Outcome State Fault Refusal :=
  done s (match s.booting, s.bootKhz with
    | true, some k =>
      let t := s.bootClock k
      let u := ({ t with upd := { t.upd with mute := run.mute } } : State).bootFlash run.ms run.bad
      { u with upd := { u.upd with mute := 0 } }
    | _, _ => s)

/-- REFCLK_MEASURE_TIMEOUT (R488): row REFKHZ is 0 and the crystal has not come up within 1 s. -/
def execRefclkMeasureTimeout (s : State) : Host.Outcome State Fault Refusal :=
  done s (if s.booting = true ∧ s.upd.warm = false ∧ s.otpRow 49 = 0 ∧ s.bit (pg 2 3) 4 = false then
      (s.bootFail 0 0 eTIMEOUT).enterRecovery
    else s)

end Sys2Proof.Machine
end

