-- ==== Sys2Proof/Machine/Vemel.lean ====
section
/-! DEFINITION. A Vemel core in native mode: the issue of a bundle, hardware loops, block operations, interrupts and traps
(spec/08 R267 to R300; spec/09 R312 to R335; spec/14 R462). -/

namespace Sys2Proof.Machine

/-! ### Memory accesses of a core (08 R274, R280, R281; 09 R312 to R316; 14 R462, R463) -/

/-- The domain of an address that is off, as core c sees it. -/
def State.addrOff (s : State) (c : Fin 4) (a : Nat) : Option Nat :=
  match regionOf (localKey (.core c) a) with
  | some (_, d) => if s.domOn d then none else some d
  | none => none

/-- A load: one that timed out waiting for a domain returns 0. -/
def State.ldWord (s : State) (c : Fin 4) (a : Nat) : Nat × State :=
  if (s.addrOff c a).isSome then (0, s) else let r := s.coreLoad c a; (r.1.toNat, r.2)

/-- A store: one that timed out waiting for a domain is discarded. -/
def State.stWord (s : State) (c : Fin 4) (a v : Nat) : State :=
  if (s.addrOff c a).isSome then s else s.writeAddr (.core c) a (wordOf v)

/-- Shared RAM and the core's own data memory through the core-local window, where atomics work (09 R316). -/
def atomicAddr (a : Nat) : Bool := decide (0o01000000 ≤ a) && decide (a < 0o04000000)

/-- The granule of an address (09 R315). -/
def granule (c : Fin 4) (a : Nat) : Nat := localKey (.core c) a / 8

/-- The results of an SA or SB syllable that need no memory, and its loads: first the loads of both slots are made (08 R280). -/
def State.sLoad (s : State) (c : Fin 4) (x : Core) (b : Nat) : List Result × Nat × State :=
  let o := bf b 31 26
  let a := x.a1 b
  let r := bf b 24 21
  if bf b 31 28 = 0o16 then ([(0o40 + bf b 27 24, bf b 23 0, 1)], 0, s)
  else if bf b 31 28 = 0o17 then ([(0o40 + bf b 27 24, x.ptrSum (bf b 27 24) (signedOf 24 (bf b 23 0)), 1)], 0, s)
  else if o = 1 ∧ bf b 25 25 = 1 then
    let w0 := s.ldWord c a.1
    let w1 := w0.2.ldWord c ((a.1 + 1) % 2 ^ 24)
    ((0o40 + r, w0.1 % 64 * 262144 + w1.1, 2) :: a.2, 0, w1.2)
  else if o = 1 ∨ o = 3 ∨ o = 4 then
    let w := s.ldWord c a.1
    ((r, w.1, 2) :: a.2, w.1, w.2)
  else if o = 2 ∨ o = 5 then (a.2, 0, s)
  else if o = 6 then ((0o40 + r, a.1, 1) :: a.2, 0, s)
  else if o = 0o20 then
    let w := s.ldWord c (x.a2 b)
    ([(bf b 25 22, w.1, 2)], w.1, w.2)
  else ([], 0, s)

/-- The stores, and the reservation of an LRSV, of an SA or SB syllable; `old` is the word that a TAS loaded. SCND adds its
result. -/
def State.sStore (s : State) (c : Fin 4) (x : Core) (b old : Nat) : List Result × State :=
  let o := bf b 31 26
  let a := (x.a1 b).1
  let r := bf b 24 21
  let keep := fun (t : State) (v : Option Nat) => t.setCore c { t.cores[c.val] with resv := v }
  if bf b 31 28 = 0o16 ∨ bf b 31 28 = 0o17 then ([], s)
  else if o = 2 ∧ bf b 25 25 = 1 then
    let p := x.get c.val (0o40 + r)
    ([], (s.stWord c a (p / 262144)).stWord c ((a + 1) % 2 ^ 24) (p % 262144))
  else if o = 2 then ([], s.stWord c a (x.dv r))
  else if o = 3 then ([], if atomicAddr a then s.stWord c a (old ||| 0o400000) else s)
  else if o = 4 then ([], if atomicAddr a then keep s (some (granule c a)) else s)
  else if o = 5 then
    if atomicAddr a = true ∧ s.cores[c.val].resv = some (granule c a) then
      ([(r, 0, 2)], keep (s.stWord c a (x.dv r)) none)
    else ([(r, 1, 2)], keep s none)
  else if o = 0o21 then ([], s.stWord c (x.a2 b) (x.dv (bf b 25 22)))
  else ([], s)

/-! ### Program flow (08 R282, R283, R294; 09 R324) -/

/-- The number of syllables of the bundle at address a, for a loop that is skipped (08 R282) (log 38). -/
def State.bundleLen (s : State) (c : Fin 4) (a : Nat) : Nat :=
  match (List.range 6).find? fun i => (s.rdMem (coreBase + c.val * 524288 + 2 * (a + i))).getLsbD 17 with
  | some i => i + 1
  | none => 6

/-- Ends of hardware loops at the bundle that started at `start`: the next address, with the counts and LD moved on (08 R283) (log 38). -/
def Core.loopBack (x : Core) (start next : Nat) : Nat → Nat × Core
  | 0 => (next, x)
  | n + 1 =>
    let ld := fieldOf x.sr 6 5
    let j := ld - 1
    if ld = 0 ∨ x.get 0 (0o156 + j) ≠ start then (next, x)
    else
      let lc := x.get 0 (0o150 + j)
      if 1 < lc then (x.get 0 (0o153 + j), x.put (0o150 + j) (lc - 1))
      else ((x.put (0o150 + j) 0).put rLd (ld - 1)).loopBack start next n

/-- What a C syllable does but a block operation. -/
structure Flow where
  next : Nat                -- the next bundle
  branch : Bool             -- a branch is taken
  res : List Result
  sr : Option Word          -- SR after the bundle (RTI, RTT)
  idle : Bool
  trap : Option Nat         -- NUM of a software trap
  deriving DecidableEq, Repr

/-- A C syllable of a bundle whose successor in sequence is at `next`. -/
def State.runC (s : State) (c : Fin 4) (x : Core) (b next : Nat) : Flow :=
  let o := bf b 31 26
  let taken := condHolds (fieldOf x.sr 3 0) (bf b 25 22)
  let on : Flow := ⟨next, false, [], none, false, none⟩
  if o = 1 then { on with next := if taken then bf b 16 0 else next, branch := taken }
  else if o = 2 then
    { on with next := if taken then bf b 16 0 else next, branch := taken, res := if taken then [(0o142, next, 1)] else [] }
  else if o = 3 then { on with next := x.ra.toNat, branch := true }
  else if o = 4 then { on with next := x.ira.toNat, branch := true, sr := some x.isr }
  else if o = 5 then { on with next := x.tra.toNat, branch := true, sr := some x.tsr }
  else if o = 0o10 then
    let k := bf b 25 24
    let n := if bf b 23 23 = 1 then bf b 22 17 + 1 else x.dv (bf b 20 17)
    if n = 0 then { on with next := bf b 16 0 + s.bundleLen c (bf b 16 0) }
    else { on with res := [(0o150 + k, n, 1), (0o153 + k, next, 1), (0o156 + k, bf b 16 0, 1), (rLd, k + 1, 1)] }
  else if o = 0o20 then { on with trap := some (bf b 4 0) }
  else if o = 0o21 then { on with idle := true }
  else on

/-! ### The issue of a bundle -/

/-- The addresses that a bundle accesses. -/
def Core.bundleAddrs (x : Core) (ys : List Syl) : List Nat :=
  ys.flatMap fun y =>
    if y.slot = 2 ∨ y.slot = 3 then x.sAddrs y.body
    else if y.slot = 5 ∧ isBlockOp (bf y.body 31 26) = true then
      let o := bf y.body 31 26
      if x.dv (bf y.body 17 14) = 0 then []
      else (if o = 0o31 then [] else [x.get 0 (0o40 + bf y.body 25 22)]) ++ (if o = 0o33 then [] else [x.get 0 (0o40 + bf y.body 21 18)])
    else []

/-- The body of the syllable of a slot, if the bundle has one. -/
def slotBody (ys : List Syl) (slot : Nat) : Option Nat := (ys.find? fun y => y.slot == slot).map Syl.body

/-- The end of a bundle: PC, the count, results that land, and the halt after a STEP (08 R275 to R279, R299). -/
def State.endBundle (s : State) (c : Fin 4) (res : List Result) (next : Nat) : State :=
  let x := s.cores[c.val]
  let y := { x with inflight := x.inflight ++ res, pc := BitVec.ofNat 17 next, noBreak := false, inBlock := false, wodTmo := false
                    begun := false }
  s.setCore c y.land

/-- A STEP ends unless a trap is pending, which its entry completes (08 R299). -/
def State.endStep (s : State) (c : Fin 4) : State :=
  let x := s.cores[c.val]
  if (x.stepping || x.haltReq) && x.trap.isNone then s.haltCore c 1 else s

/-- A bundle issues again (BCNT counts program bundles, 08 R304). -/
def State.countBundle (s : State) (c : Fin 4) : State :=
  let x := s.cores[c.val]
  if x.inBlock then s else s.setCore c { x with bcnt := (x.bcnt + 1) % 2 ^ 36 }

/-- The Rubric unit runs the entry that a CX syllable names: it reads its microwords, with what those reads report (11 R370,
R371; DEDUCED, log 57). -/
def State.runsMicro (s : State) (c : Fin 4) (b : Nat) : State :=
  let t := (s.memReadN (rubrKey c.val (fieldOf (s.cxEntry c b) 8 0)) (2 * s.cxLen c b)).2.2
  t.setCore c { t.cores[c.val] with rubLeft := s.cxLen c b }

/-- The memory words that a bundle of core c reads and writes: its own words, and those that its accesses reach. -/
def State.bundleKeys (s : State) (c : Fin 4) (ys : List Syl) : List Nat :=
  let x := s.cores[c.val]
  (List.range (2 * ys.length)).map (fun i => coreBase + c.val * 524288 + 2 * x.pc.toNat + i)
  ++ (x.bundleAddrs ys).filterMap fun a => s.reaches (.core c) a

/-- A store of the core's own bundle has reset the core, whose other results are lost (R298). -/
def State.coreGone (s : State) (c : Fin 4) : Bool := s.cores[c.val].mode == .reset

/-- A bundle without a block operation issues: every source is read from the core as it stands (log 39). A core that its own
store resets keeps nothing of the bundle. -/
def State.issue (s : State) (c : Fin 4) (ys : List Syl) : State :=
  let x := s.cores[c.val]
  let start := x.pc.toNat
  let s := s.countBundle c
  let body := slotBody ys
  let ma := (body 0).elim [] x.runM
  let mb := (body 1).elim [] x.runM
  let la := (body 2).elim ([], 0, s) fun b => s.sLoad c x b
  let lb := (body 3).elim ([], 0, la.2.2) fun b => la.2.2.sLoad c x b
  let ta := (body 2).elim ([], lb.2.2) fun b => lb.2.2.sStore c x b la.2.1
  let tb := (body 3).elim ([], ta.2) fun b => ta.2.sStore c x b lb.2.1
  let cx := (body 4).elim false fun b => bf b 31 26 == 0o70
  let xr : List Result × Bool := (body 4).elim ([], false) fun b => if cx then (s.runCx c b, false) else x.runX c.val b
  let f : Flow := (body 5).elim ⟨start + ys.length, false, [], none, false, none⟩ fun b => s.runC c x b (start + ys.length)
  let t := tb.2
  let t := if cx then t.runsMicro c ((body 4).getD 0) else t
  let lbk := if f.branch then (f.next, t.cores[c.val]) else t.cores[c.val].loopBack start f.next 4
  let t := (t.setCore c lbk.2).endBundle c (ma ++ mb ++ la.1 ++ lb.1 ++ ta.1 ++ tb.1 ++ xr.1 ++ f.res) lbk.1
  let t := match f.sr with
    | some v => t.setCore c (t.cores[c.val].put 0o140 v.toNat)
    | none => t
  let t := if f.idle then t.setCore c { t.cores[c.val] with mode := .idle } else t
  let dz := xr.2 && bitOf x.sr 10
  let traps := (if dz then [tcsWord 3 0 4 0] else []) ++ (f.trap.elim [] fun n => [tcsWord 4 0 5 n])
  let t := if traps = [] then t else let p := t.pick traps; p.2.raiseTrap c p.1 lbk.1 start
  if tb.2.coreGone c then tb.2 else t.endStep c

/-! ### Block operations (09 R325 to R328) -/

/-- A block operation has ended: flags land for the next bundle, and the loops are looked at. -/
def State.blockEnd (s : State) (c : Fin 4) (flags : Option Nat) : State :=
  let x := s.cores[c.val]
  let start := x.pc.toNat
  let lbk := x.loopBack start (start + 1) 4
  ((s.setCore c lbk.2).endBundle c (flags.elim [] fun f => [(rFlags, f, 1)]) lbk.1).endStep c

/-- An element is done: D(DC) counts it, and the pointers of the list advance. The operation ends at 0. -/
def State.blockNext (s : State) (c : Fin 4) (ptrs : List Nat) (dc : Nat) (flags : Option Nat) : State :=
  let x := s.cores[c.val]
  let y := ptrs.foldl (fun y n => y.put (0o40 + n) (y.ptrSum n 1)) x
  let n := x.dv dc - 1
  if s.coreGone c then s else
  let t := s.setCore c { y.put dc n with inBlock := true, wodTmo := false, begun := false }
  if n = 0 then t.blockEnd c flags else t.endStep c

/-- One element of a block operation. -/
def State.blockStep (s : State) (c : Fin 4) (b : Nat) : State :=
  let x := s.cores[c.val]
  let s := s.countBundle c
  let o := bf b 31 26
  let ps := bf b 25 22
  let pd := bf b 21 18
  let dc := bf b 17 14
  let src := x.get 0 (0o40 + ps)
  let dst := x.get 0 (0o40 + pd)
  let ends : Option Nat := if o = 0o32 then some 4 else if o = 0o33 then some 0 else none
  if x.dv dc = 0 then s.blockEnd c ends
  else if o = 0o30 then
    let w := s.ldWord c src
    (w.2.stWord c dst w.1).blockNext c [ps, pd] dc ends
  else if o = 0o31 then (s.stWord c dst (x.dv (bf b 13 10))).blockNext c [pd] dc ends
  else if o = 0o32 then
    let v := s.ldWord c src
    let w := v.2.ldWord c dst
    if v.1 = w.1 then w.2.blockNext c [ps, pd] dc ends else w.2.blockEnd c (some (aluSub v.1 w.1 0).2)
  else
    let v := s.ldWord c src
    if (v.1 ^^^ x.dv (bf b 13 10)) &&& x.dv (bf b 9 6) = 0 then v.2.blockEnd c (some 4) else v.2.blockNext c [ps] dc ends

/-! ### The rows -/


/-- The core is at a boundary before a program bundle, and nothing goes first (08 R292). -/
def State.mayIssue (s : State) (c : Fin 4) : Bool :=
  let x := s.cores[c.val]
  x.mode == .running && s.domOn (coreDom c) && !s.lmode c && x.trap.isNone && !x.wod
  && (x.begun || (!s.atBreak c && !s.acceptable c))

/-- BUNDLE_ISSUE (08 R268): one bundle, or one element of a block operation. An access to a domain that is off wakes it, and
the bundle waits (14 R462); one to a region that the Blotter has borrowed starts its restore and waits for it (11 R383). -/
def execBundleIssue (c : Fin 4) (s : State) : Host.Outcome State Fault Refusal :=
  done s (if s.mayIssue c = false then s
    else if s.cores[c.val].haltReq && !s.cores[c.val].begun then s.haltCore c 1
    else
      let x := s.cores[c.val]
      let d := s.decodeBundle c
      let off := (x.bundleAddrs d.1).findSome? (s.addrOff c)
      match s.decodeTrap c with
      | some t => t
      | none =>
        if s.rubWaits c d.1 then s.endStep c
        else if off.isSome ∧ x.wodTmo = false then
          let t := s.wakeDom (off.getD 0)
          t.setCore c { x with wod := true, begun := true }
        else
          match s.restoreFor (s.bundleKeys c d.1) with
          | some t => t.setCore c { x with begun := true }
          | none =>
            match slotBody d.1 5 with
            | some b => if isBlockOp (bf b 31 26) then d.2.2.blockStep c b else d.2.2.issue c d.1
            | none => d.2.2.issue c d.1)

/-- The drain, then the entry of the highest level that is eligible at its end (08 R285). In L-mode the vectors are syllable
addresses of words 2 and 4 (10 R348). -/
def State.vectorIn (s : State) (c : Fin 4) : State :=
  let t := s.setCore c s.cores[c.val].drain
  match t.eligible c with
  | none => t
  | some p =>
    let y := t.cores[c.val]
    let sr := withField (withField (withField (withField y.sr 17 17 0) 16 16 1) 15 13 p) 6 5 0
    let pc := if s.lmode c then (if p = 6 then 2 else 4) else (8 + p) * 16
    let t : State := if s.lmode c then { t with leg := { t.leg with pace := 0 } } else t
    t.setCore c { y with mode := .running, ira := y.pc, isr := y.sr, sr := sr, resv := none, pc := BitVec.ofNat 17 pc
                         inBlock := false, noBreak := false }

/-- INTERRUPT_ENTRY (08 R284, R285): a trap of the next bundle goes first, then a halt or breakpoint (R292); no entry falls in a
load shadow (10 R348). -/
def execInterruptEntry (c : Fin 4) (s : State) : Host.Outcome State Fault Refusal :=
  let x := s.cores[c.val]
  done s (if s.atBoundary c = true ∧ x.shadow = false ∧ x.haltReq = false ∧ s.atBreak c = false ∧ s.acceptable c = true then
      (s.decodeTrap c).getD (s.vectorIn c)
    else s)

/-- IDLE_WAKE (08 R288). -/
def execIdleWake (c : Fin 4) (s : State) : Host.Outcome State Fault Refusal :=
  let x := s.cores[c.val]
  done s (if x.mode = .idle ∧ s.domOn (coreDom c) = true ∧ bitOf x.sr 17 = false ∧ (s.eligible c).isSome = true then
      s.setCore c { x with mode := .running }
    else s)

/-- A trap that arises while a trap handler runs stops the core (08 R293). -/
def State.doubleTrap (s : State) (c : Fin 4) (a : BitVec 17) : State :=
  let t := s.setCore c { s.cores[c.val].drain with mode := .dhalt, pc := a, trap := none, stepping := false, haltReq := false }
  (t.setReg (pg (45 + c.val) 19) (wordOf a.toNat)).raise (45 + c.val) 3

/-- The entry of a trap (08 R291, R295). -/
def State.trapIn (s : State) (c : Fin 4) (tcs : Nat) (a bundle : BitVec 17) : State :=
  let y := s.cores[c.val].drain
  let p := 45 + c.val
  let sr := withField (withField (withField y.sr 17 17 0) 6 5 0) 4 4 1
  let t := s.setCore c { y with mode := .running, tra := a, tsr := y.sr, sr := sr, tcs := wordOf tcs, resv := none, trap := none
                                pc := BitVec.ofNat 17 (tcs / 16384 * 16), inBlock := false, noBreak := false }
  (((t.setReg (pg p 18) (wordOf tcs)).setReg (pg p 19) (wordOf bundle.toNat)).raise p 0).endStep c

/-- TRAP_ENTRY (08 R291 to R293). -/
def execTrapEntry (c : Fin 4) (s : State) : Host.Outcome State Fault Refusal :=
  let x := s.cores[c.val]
  done s (match x.trap with
    | some (tcs, a, bundle) =>
      if s.domOn (coreDom c) = false ∨ (x.mode ≠ .running ∧ x.mode ≠ .idle) then s
      else if bitOf x.drain.sr 4 then s.doubleTrap c a
      else s.trapIn c tcs a bundle
    | none => s)

end Sys2Proof.Machine
end

