-- ==== Sys2Proof/Machine/LMode.lean ====
section
/-! DEFINITION. VC0 in L-mode, the DX-18 instruction set (spec/10 R342 to R352). Each row issues the instruction that VC0 has
fetched when it is the row's, and changes nothing otherwise. -/

namespace Sys2Proof.Machine

/-- The L-mode operations. -/
inductive LOp where
  | nop | ret | rti | idle | ei | di | reg | addi | ldi | cmpi | shli | shri | asri | ldw | stw | ldp | stp | lpi | lap
  | mpy | mac | msu | ext | exh | ldh | clra | mova | adda | nega | b | jmp | call | mfl | mtl
  deriving DecidableEq, Repr

/-- The operation of a word, if its code is defined (R345). -/
def lOp (w : Nat) : Option LOp :=
  let o := bf w 17 14
  if o = 0 then ([some .nop, some .ret, some .rti, some .idle, some .ei, some .di] : List (Option LOp)).getD (bf w 5 0) none
  else if o = 1 then (if bf w 4 0 < 16 then some .reg else none)
  else if o = 2 then some .addi else if o = 3 then some .ldi else if o = 4 then some .cmpi
  else if o = 5 then ([some .shli, some .shri, some .asri] : List (Option LOp)).getD (bf w 10 9) none
  else if o = 6 then some (if bf w 10 10 = 0 then .ldw else .stw)
  else if o = 7 then some (if bf w 10 10 = 0 then .ldp else .stp)
  else if o = 8 then some .lpi else if o = 9 then some .lap
  else if o = 10 then ([some .mpy, some .mac, some .msu] : List (Option LOp)).getD (bf w 6 5) none
  else if o = 11 then
    ([some .ext, some .exh, some .ldh, some .clra, some .mova, some .adda, some .nega] : List (Option LOp)).getD (bf w 3 0) none
  else if o = 12 then some .b
  else if o = 13 then some (if bf w 13 13 = 0 then .jmp else .call)
  else if o = 14 then
    (if bf w 3 0 = 3 ∨ 8 ≤ bf w 3 0 then none else some (if bf w 13 13 = 0 then .mfl else .mtl))
  else none

/-- The operation has a second word (R344). -/
def LOp.two : LOp → Bool
  | .ldw => true
  | .stw => true
  | .lpi => true
  | .jmp => true
  | .call => true
  | _ => false

/-- The reserved fields of an instruction, 0 when they are all 0 (R344 to R346). -/
def lReserved (op : LOp) (w w2 : Nat) : Nat :=
  (if op.two then bf w2 17 16 else 0) +
  match op with
  | .nop => bf w 13 6
  | .ret => bf w 13 6
  | .rti => bf w 13 6
  | .idle => bf w 13 6
  | .ei => bf w 13 6
  | .di => bf w 13 6
  | .reg =>
    (if bf w 4 0 = 4 then bf w 13 11 else 0)
    + (if (8 ≤ bf w 4 0 ∧ bf w 4 0 ≤ 11) ∨ bf w 4 0 = 15 then bf w 7 5 else 0)
  | .shli => bf w 8 6
  | .shri => bf w 8 6
  | .asri => bf w 8 6
  | .ldw => bf w 9 0
  | .stw => bf w 9 0
  | .ldp => if bf w 7 6 = 3 then 0 else bf w 5 0
  | .stp => if bf w 7 6 = 3 then 0 else bf w 5 0
  | .lpi => bf w 11 0
  | .lap => bf w 11 11
  | .mpy => bf w 3 0
  | .mac => bf w 3 0
  | .msu => bf w 3 0
  | .exh => bf w 9 4
  | .ldh => bf w 9 4
  | .clra => bf w 12 4
  | .mova => bf w 12 4
  | .adda => bf w 12 4
  | .nega => bf w 12 4
  | .b => if bf w 13 10 = 15 then 1 else 0
  | .jmp => bf w 12 0
  | .call => bf w 12 0
  | .mfl => bf w 9 4
  | .mtl => bf w 9 4
  | .addi => 0
  | .ldi => 0
  | .cmpi => 0
  | .ext => 0

/-- DX-18 cycles (R345). -/
def LOp.cycles (op : LOp) (taken : Bool) : Nat :=
  match op with
  | .ret => 2
  | .rti => 2
  | .ldw => 2
  | .stw => 2
  | .lpi => 2
  | .jmp => 2
  | .call => 2
  | .b => if taken then 2 else 1
  | _ => 1

/-! ### Fetch (R342, R346) -/

/-- What VC0 has fetched: the operation with its two words, or the TCS word of an illegal instruction or a fetch error; and the
state after the fetch. -/
structure LFetch where
  op : Except Nat LOp
  w : Nat
  w2 : Nat
  state : State

/-- The instruction at VC0's PC. -/
def State.lFetch (s : State) : LFetch :=
  let a := s.cores[0].pc.toNat
  let bad := fun (cause d : Nat) => Except.error (tcsWord cause d 7 0)
  if 65536 ≤ a then ⟨bad 1 8, 0, 0, s⟩
  else
    let r := s.memRead (coreBase + a)
    let w := r.1.toNat
    if r.2.1 = 2 then ⟨bad 2 1, 0, 0, r.2.2⟩
    else
      match lOp w with
      | none => ⟨bad 1 1, w, 0, r.2.2⟩
      | some op =>
        if op.two = false then ⟨if lReserved op w 0 = 0 then .ok op else bad 1 2, w, 0, r.2.2⟩
        else if 65536 ≤ a + 1 then ⟨bad 1 8, w, 0, r.2.2⟩
        else
          let q := r.2.2.memRead (coreBase + a + 1)
          if q.2.1 = 2 then ⟨bad 2 1, w, 0, q.2.2⟩
          else ⟨if lReserved op w q.1.toNat = 0 then .ok op else bad 1 2, w, q.1.toNat, q.2.2⟩

/-! ### The issue of an instruction -/

/-- What an instruction does: the state with its memory access made, its results, the next address. -/
structure LEffect where
  state : State
  res : List Result
  next : Nat
  taken : Bool

/-- The effect of an instruction that only computes. -/
def lPlain (s : State) (next : Nat) (res : List Result) : LEffect := ⟨s, res, next, false⟩

/-- Every result but a load's lands for the next instruction (R347). -/
def lSoon (l : List Result) : List Result := l.map fun r => (r.1, r.2.1, 1)

/-- The halts and interrupts that go before the next instruction are looked at outside a load shadow (R348). -/
def State.lReady (s : State) : Bool :=
  let x := s.cores[0]
  s.lmode 0 && x.mode == .running && s.domOn 11 && !x.wod && (x.shadow || x.begun || (!x.haltReq && !s.acceptable 0))

/-- The pace counter after an instruction of n DX-18 cycles (R351) (log 55). -/
def State.lPace (s : State) (n : Nat) : State :=
  { s with leg := { s.leg with pace := if s.bit (pg 50 16) 17 then n * s.fld (pg 50 16) 7 0 else 0 } }

/-- The end of an instruction: PC, results, the load shadow, a halt that waited for its end. -/
def State.lEnd (_s : State) (op : LOp) (e : LEffect) : State :=
  let x := e.state.cores[0]
  let load := op == .ldw || op == .ldp
  let y := { x with inflight := x.inflight ++ e.res, pc := BitVec.ofNat 17 e.next, bcnt := (x.bcnt + 1) % 2 ^ 36
                    wodTmo := false, begun := false, noBreak := false }
  let t := (e.state.setCore 0 { y.land with shadow := load }).lPace (op.cycles e.taken)
  if e.state.coreGone 0 then e.state else if y.haltReq && !load then t.haltCore 0 1 else t

/-- The memory word of a data address. -/
def BankWord.key? : BankWord → Option Nat
  | .mem key => some key
  | .win _ => Option.none
  | .none => Option.none

/-- The domain of a data address that is off. -/
def State.bankOff2 (s : State) (t : BankWord) : Option Nat :=
  match t with
  | .mem key => if s.domOn (bankDomainOf key) then none else some (bankDomainOf key)
  | .win k => s.lwOff k
  | .none => none

/-- The memory words that an instruction at VC0's PC with data address `a` reaches: its own words and its data word. -/
def State.lKeys (s : State) (op : LOp) (a : Option BankWord) : List Nat :=
  let k := coreBase + s.cores[0].pc.toNat
  k :: (if op.two then [k + 1] else []) ++ (a.bind BankWord.key?).toList

/-- An instruction issues when VC0 has fetched it. `addr` is its data address, if it has one: an access to a domain that is off
wakes it, and the instruction waits (log 37). -/
def State.lIssue (s : State) (op : LOp) (addr : State → Nat → Nat → Option BankWord) (run : State → Nat → Nat → Nat → LEffect) : State :=
  if s.lReady = false then s
  else
    let f := s.lFetch
    match f.op with
    | .error _ => s
    | .ok o =>
      if o ≠ op then s
      else
        let off := (addr s f.w f.w2).bind s.bankOff2
        let x := s.cores[0]
        if off.isSome ∧ x.wodTmo = false then (s.wakeDom (off.getD 0)).setCore 0 { x with wod := true, begun := true }
        else
          match s.restoreFor (s.lKeys op (addr s f.w f.w2)) with
          | some t => t.setCore 0 { x with begun := true }
          | none => f.state.lEnd op (run f.state f.w f.w2 (x.pc.toNat + (if op.two then 2 else 1)))

/-- An instruction without a data address. -/
def State.lCompute (s : State) (op : LOp) (run : Core → Nat → Nat → Nat → List Result) : State :=
  s.lIssue op (fun _ _ _ => none) fun t w w2 n => lPlain t n (lSoon (run t.cores[0] w w2 n))

/-- The body of an X1 syllable. -/
def x1Body (o d a b : Nat) : Nat := o * 2 ^ 26 + d * 2 ^ 22 + a * 2 ^ 18 + b * 2 ^ 14

/-- The body of an X2 syllable. -/
def x2Body (o d a imm : Nat) : Nat := o * 2 ^ 26 + d * 2 ^ 22 + a * 2 ^ 18 + imm

/-- The body of an M3 syllable. -/
def m3Body (o acc acb d sh : Nat) : Nat := o * 2 ^ 26 + acc * 2 ^ 23 + acb * 2 ^ 20 + d * 2 ^ 16 + sh * 2 ^ 10

/-- The immediate of format LI, sign-extended to 18 bits. -/
def lImm (w : Nat) : Nat := codeOf 18 (signedOf 11 (bf w 10 0))

/-- The X1 opcode of FN (R345). -/
def lFn (fn : Nat) : Nat := ([1, 2, 3, 4, 5, 6, 7, 0o10, 0o12, 0o13, 0o14, 0o17, 0o20, 0o21, 0o22, 0o26] : List Nat).getD fn 0

/-! ### Data addresses (R350) -/

/-- The bank of VC0. -/
def State.lBank (s : State) : Nat := s.cores[0].pg.toNat

/-- Pointer n as L-mode uses it: bits 15:0 (R343). -/
def State.lPtr (s : State) (n : Nat) : Nat := s.cores[0].get 0 (0o40 + n) % 65536

/-- The address of LDW and STW. -/
def lDirect (s : State) (_ w2 : Nat) : Option BankWord := some (bankWord s.lBank (bf w2 15 0))

/-- The offset of LDP and STP: the pointer, or the pointer with DISP. -/
def State.lOffset (s : State) (w : Nat) : Nat :=
  let p := s.lPtr (bf w 9 8)
  if bf w 7 6 = 3 then codeOf 16 (p + signedOf 6 (bf w 5 0)) else p

/-- The address of LDP and STP. -/
def lIndirect (s : State) (w _ : Nat) : Option BankWord := some (bankWord s.lBank (s.lOffset w))

/-- The pointer after LDP and STP. -/
def State.lUpdate (s : State) (w : Nat) : List Result :=
  let n := bf w 9 8
  let p := s.lPtr n
  if bf w 7 6 = 1 then [(0o40 + n, (p + 1) % 65536, 1)] else if bf w 7 6 = 2 then [(0o40 + n, (p + 65535) % 65536, 1)] else []

/-- A load from a data address; one that timed out returns 0. -/
def State.lLoad (s : State) (t : BankWord) : Nat × State :=
  if (s.bankOff2 t).isSome then (0, s)
  else
    match t with
    | .mem key => let r := s.coreMemLoad 0 key; (r.1.toNat, r.2)
    | .win k => let r := s.lwRead (.core 0) k; (r.1.toNat, r.2)
    | .none => (0, s.coreErr 0 eUNMAPPED)

/-- A store to a data address; one that timed out is discarded. -/
def State.lStore (s : State) (t : BankWord) (v : Nat) : State :=
  if (s.bankOff2 t).isSome then s
  else
    match t with
    | .mem key => s.writeAddr (.core 0) key (wordOf v)
    | .win k => s.lwWrite (.core 0) k (wordOf v)
    | .none => s.recordRefusal (.core 0) none 0 eUNMAPPED 0

/-- LDW and LDP. -/
def lLoadTo (s : State) (t : Option BankWord) (d next : Nat) (res : List Result) : LEffect :=
  let r := s.lLoad (t.getD .none)
  ⟨r.2, (d, r.1, 2) :: res, next, false⟩

/-- STW and STP. -/
def lStoreFrom (s : State) (t : Option BankWord) (d next : Nat) (res : List Result) : LEffect :=
  ⟨s.lStore (t.getD .none) (s.cores[0].dv d), res, next, false⟩

/-! ### The rows -/

/-- L_NOP. -/
def execLNop (s : State) : Host.Outcome State Fault Refusal := done s (s.lCompute .nop fun _ _ _ _ => [])

/-- L_RET. -/
def execLRet (s : State) : Host.Outcome State Fault Refusal :=
  done s (s.lIssue .ret (fun _ _ _ => none) fun t _ _ _ => ⟨t, [], t.cores[0].ra.toNat, true⟩)

/-- L_RTI (R348; 08 R294). -/
def execLRti (s : State) : Host.Outcome State Fault Refusal :=
  done s (s.lIssue .rti (fun _ _ _ => none) fun t _ _ _ =>
    ⟨t, [(0o140, t.cores[0].isr.toNat, 1)], t.cores[0].ira.toNat, true⟩)

/-- L_IDLE. -/
def execLIdle (s : State) : Host.Outcome State Fault Refusal :=
  done s (s.lIssue .idle (fun _ _ _ => none) fun t _ _ n => ⟨t.setCore 0 { t.cores[0] with mode := .idle }, [], n, false⟩)

/-- L_EI. -/
def execLEi (s : State) : Host.Outcome State Fault Refusal := done s (s.lCompute .ei fun _ _ _ _ => [(rIe, 1, 1)])

/-- L_DI. -/
def execLDi (s : State) : Host.Outcome State Fault Refusal := done s (s.lCompute .di fun _ _ _ _ => [(rIe, 0, 1)])

/-- L_REGISTER_OPERATION: the X1 operation that FN names. -/
def execLRegisterOperation (s : State) : Host.Outcome State Fault Refusal :=
  done s (s.lCompute .reg fun c w _ _ => (c.runX 0 (x1Body (lFn (bf w 4 0)) (bf w 13 11) (bf w 10 8) (bf w 7 5))).1)

/-- L_ADDI. -/
def execLAddi (s : State) : Host.Outcome State Fault Refusal :=
  done s (s.lCompute .addi fun c w _ _ => (c.runX 0 (x2Body 0o41 (bf w 13 11) (bf w 13 11) (lImm w))).1)

/-- L_LDI. -/
def execLLdi (s : State) : Host.Outcome State Fault Refusal :=
  done s (s.lCompute .ldi fun c w _ _ => (c.runX 0 (x2Body 0o57 (bf w 13 11) 0 (lImm w))).1)

/-- L_CMPI. -/
def execLCmpi (s : State) : Host.Outcome State Fault Refusal :=
  done s (s.lCompute .cmpi fun c w _ _ => (c.runX 0 (x2Body 0o45 0 (bf w 13 11) (lImm w))).1)

/-- L_SHLI. -/
def execLShli (s : State) : Host.Outcome State Fault Refusal :=
  done s (s.lCompute .shli fun c w _ _ => (c.runX 0 (x2Body 0o60 (bf w 13 11) (bf w 13 11) (bf w 5 0))).1)

/-- L_SHRI. -/
def execLShri (s : State) : Host.Outcome State Fault Refusal :=
  done s (s.lCompute .shri fun c w _ _ => (c.runX 0 (x2Body 0o61 (bf w 13 11) (bf w 13 11) (bf w 5 0))).1)

/-- L_ASRI. -/
def execLAsri (s : State) : Host.Outcome State Fault Refusal :=
  done s (s.lCompute .asri fun c w _ _ => (c.runX 0 (x2Body 0o62 (bf w 13 11) (bf w 13 11) (bf w 5 0))).1)

/-- L_LDW. -/
def execLLdw (s : State) : Host.Outcome State Fault Refusal :=
  done s (s.lIssue .ldw lDirect fun t w w2 n => lLoadTo t (lDirect t w w2) (bf w 13 11) n [])

/-- L_STW. -/
def execLStw (s : State) : Host.Outcome State Fault Refusal :=
  done s (s.lIssue .stw lDirect fun t w w2 n => lStoreFrom t (lDirect t w w2) (bf w 13 11) n [])

/-- L_LDP. -/
def execLLdp (s : State) : Host.Outcome State Fault Refusal :=
  done s (s.lIssue .ldp lIndirect fun t w w2 n => lLoadTo t (lIndirect t w w2) (bf w 13 11) n (t.lUpdate w))

/-- L_STP. -/
def execLStp (s : State) : Host.Outcome State Fault Refusal :=
  done s (s.lIssue .stp lIndirect fun t w w2 n => lStoreFrom t (lIndirect t w w2) (bf w 13 11) n (t.lUpdate w))

/-- L_LPI. -/
def execLLpi (s : State) : Host.Outcome State Fault Refusal :=
  done s (s.lCompute .lpi fun _ w w2 _ => [(0o40 + bf w 13 12, bf w2 15 0, 1)])

/-- L_LAP. -/
def execLLap (s : State) : Host.Outcome State Fault Refusal :=
  done s (s.lCompute .lap fun c w _ _ =>
    [(0o40 + bf w 13 12, codeOf 16 (c.get 0 (0o40 + bf w 13 12) % 65536 + signedOf 11 (bf w 10 0)), 1)])

/-- A multiply of L-mode with native opcode o. -/
def lMul (o : Nat) (c : Core) (w : Nat) : List Result :=
  c.runM (o * 2 ^ 26 + bf w 13 13 * 2 ^ 23 + bf w 12 10 * 2 ^ 19 + bf w 9 7 * 2 ^ 15 + bf w 4 4 * 2 ^ 12)

/-- L_MPY. -/
def execLMpy (s : State) : Host.Outcome State Fault Refusal := done s (s.lCompute .mpy fun c w _ _ => lMul 1 c w)

/-- L_MAC. -/
def execLMac (s : State) : Host.Outcome State Fault Refusal := done s (s.lCompute .mac fun c w _ _ => lMul 2 c w)

/-- L_MSU. -/
def execLMsu (s : State) : Host.Outcome State Fault Refusal := done s (s.lCompute .msu fun c w _ _ => lMul 3 c w)

/-- L_EXT. -/
def execLExt (s : State) : Host.Outcome State Fault Refusal :=
  done s (s.lCompute .ext fun c w _ _ => c.runM (m3Body 0o20 (bf w 13 13) 0 (bf w 12 10) (bf w 9 4)))

/-- L_EXH. -/
def execLExh (s : State) : Host.Outcome State Fault Refusal :=
  done s (s.lCompute .exh fun c w _ _ => c.runM (m3Body 0o22 (bf w 13 13) 0 (bf w 12 10) 0))

/-- L_LDH. -/
def execLLdh (s : State) : Host.Outcome State Fault Refusal :=
  done s (s.lCompute .ldh fun c w _ _ => c.runM (m3Body 0o24 (bf w 13 13) 0 (bf w 12 10) 0))

/-- L_CLRA. -/
def execLClra (s : State) : Host.Outcome State Fault Refusal :=
  done s (s.lCompute .clra fun c w _ _ => c.runM (m3Body 0o35 (bf w 13 13) 0 0 0))

/-- L_MOVA: from the other accumulator. -/
def execLMova (s : State) : Host.Outcome State Fault Refusal :=
  done s (s.lCompute .mova fun c w _ _ => c.runM (m3Body 0o30 (bf w 13 13) (1 - bf w 13 13) 0 0))

/-- L_ADDA: the other accumulator. -/
def execLAdda (s : State) : Host.Outcome State Fault Refusal :=
  done s (s.lCompute .adda fun c w _ _ => c.runM (m3Body 0o31 (bf w 13 13) (1 - bf w 13 13) 0 0))

/-- L_NEGA: of the accumulator itself. -/
def execLNega (s : State) : Host.Outcome State Fault Refusal :=
  done s (s.lCompute .nega fun c w _ _ => c.runM (m3Body 0o33 (bf w 13 13) (bf w 13 13) 0 0))

/-- L_B. -/
def execLB (s : State) : Host.Outcome State Fault Refusal :=
  done s (s.lIssue .b (fun _ _ _ => none) fun t w _ n =>
    if condHolds (fieldOf t.cores[0].sr 3 0) (bf w 13 10) then ⟨t, [], codeOf 16 (n + signedOf 10 (bf w 9 0)), true⟩
    else ⟨t, [], n, false⟩)

/-- L_JMP. -/
def execLJmp (s : State) : Host.Outcome State Fault Refusal :=
  done s (s.lIssue .jmp (fun _ _ _ => none) fun t _ w2 _ => ⟨t, [], bf w2 15 0, true⟩)

/-- L_CALL. -/
def execLCall (s : State) : Host.Outcome State Fault Refusal :=
  done s (s.lIssue .call (fun _ _ _ => none) fun t _ w2 n => ⟨t, [(0o142, n, 1)], bf w2 15 0, true⟩)

/-- L_MFL (R343, R345). -/
def execLMfl (s : State) : Host.Outcome State Fault Refusal :=
  done s (s.lCompute .mfl fun c w _ _ =>
    let r := bf w 3 0
    [(bf w 12 10, if r = 0 then (c.sr &&& 0o411017).toNat else if r = 1 then c.pg.toNat else if r = 2 then c.ra.toNat
      else c.get 0 (0o40 + (r - 4)) % 65536, 1)])

/-- L_MTL (R343, R345). -/
def execLMtl (s : State) : Host.Outcome State Fault Refusal :=
  done s (s.lCompute .mtl fun c w _ _ =>
    let r := bf w 3 0
    let v := c.dv (bf w 12 10)
    [if r = 0 then (rSrL, v, 1) else if r = 1 then (0o141, v, 1) else if r = 2 then (0o142, v, 1)
      else (0o40 + (r - 4), v % 65536, 1)])

/-- VC0 halts before an instruction that it cannot issue (R346). -/
def State.lHalt (s : State) (tcs : Nat) : State :=
  let x := s.cores[0]
  let t := s.setCore 0 { x.drain with mode := .halted, tcs := wordOf tcs, haltReq := false, stepping := false }
  let t := ((t.setReg (pg 45 18) (wordOf tcs)).setReg (pg 45 19) (wordOf x.pc.toNat)).raise 45 0
  (((t.raise 50 3).setB (lwKey 2) 3 true).setB (lwKey 3) 8 true)

/-- L_ILLEGAL_HALT (R346): an illegal instruction or a fetch error. -/
def execLIllegalHalt (s : State) : Host.Outcome State Fault Refusal :=
  done s (if s.lReady then
      let f := s.lFetch
      match f.op with
      | .error t => f.state.lHalt t
      | .ok _ => s
    else s)

end Sys2Proof.Machine
end

