-- ==== Sys2Proof/Machine/Port.lean ====
section
/-! DEFINITION. The host ports (spec/12 R400 to R414): the parallel bus, posted writes, the read-ahead window, the SPI targets and
Iluhi frames. -/

namespace Sys2Proof.Machine

/-! ### The parallel bus and posted writes (R400 to R405) -/

/-- A bus cycle that breaks the rules of R400. -/
def State.busError (s : State) : State :=
  let t := (s.incSat (pg 8 16)).raise 8 1
  { t with pins := { t.pins with busOut := none } }

/-- The bus is answered: the device runs and HIF is on. -/
def State.busLive (s : State) : Bool := s.pins.rstN && s.domOn 2

/-- The bus drives nothing. -/
def State.busOff (s : State) : State := { s with pins := { s.pins with busOut := none } }

/-- HOST_BUS_READ (R400 to R404): HRD_N is low; cs0, cs1 and wrLow say which of the other strobes are. -/
def execHostBusRead (cs0 cs1 wrLow : Bool) (a : BitVec 24) (s : State) : Host.Outcome State Fault Refusal :=
  done s (if s.busLive = false then s.busOff
    else if (cs0 && cs1) || wrLow then s.busError
    else
      let q : Fin 8 := if cs0 then 0 else 1
      if (!cs0 && !cs1) || !s.writerLive (.ses q) then s.busOff
      else let r := s.hostRead q a.toNat; r.2.2.driveBus q r.1 r.2.1)

/-- Session q reaches the legacy window. -/
def State.reachesWindow (s : State) (q : Nat) : Bool :=
  if h : q < 8 then s.legacyDual && s.lwPermits (.ses ⟨q, h⟩) else false

/-- A write joins the posting buffer of session q, or is discarded when it is full (R405). A write to the legacy window by a session that
reaches it wakes a device that sleeps (01 R44 note 3; 10 R363). -/
def State.post (s : State) (q : Nat) (a : BitVec 24) (v : Word) : State :=
  let x := s.ses q
  if 16 ≤ x.post.length then ((s.sesErr q eBUSY a.toNat).incSat (pg 8 17)).raise 8 0
  else
    let t := s.setSes q { x with post := x.post ++ [(a, v)] }
    if wakesFrom s.wakeState 11 && s.reachesWindow q && decide (a.toNat < 512) then t.latchWake 11 else t

/-- HOST_BUS_WRITE (R400, R405). -/
def execHostBusWrite (cs0 cs1 rdLow : Bool) (a : BitVec 24) (v : Word) (s : State) : Host.Outcome State Fault Refusal :=
  done s (if s.busLive = false then s.busOff
    else if (cs0 && cs1) || rdLow then s.busError
    else
      let q : Fin 8 := if cs0 then 0 else 1
      if (!cs0 && !cs1) || !s.writerLive (.ses q) then s.busOff else (s.busOff.post q.val a v))

/-- The head of the buffer waits: it is for the legacy window, and the device sleeps or the word's domain is waking. -/
def State.postWaits (s : State) (a : Nat) : Bool :=
  s.legacyDual && decide (a < 512) && (s.asleep || (lwHomes a).any fun d => s.pstate d == 1)

/-- A performed write of the session to an address in its window updates the fetched copy (R404). -/
def State.windowCopy (s : State) (q a : Nat) (v : Word) : State :=
  let x := s.ses q
  let i := a - x.win
  if x.winSet = true ∧ x.win ≤ a ∧ i < 64 ∧ i < s.fld (pg (ownPage q) 35) 6 0 then
    (s.setReg (pg (ownPage q) (64 + i)) v).setSes q { x with winLost := x.winLost.filter fun k => k != i }
  else s

/-- The write is accepted into a memory region. -/
def State.memAccepts (s : State) (w : Writer) (a : Nat) (v : Word) : Bool :=
  (s.windowWord w a).isNone && (regionOf a).isSome && !isPageAddr a && s.memCode w a v == 0

/-- POSTED_WRITE_PERFORM (R405). A write to a region that the Blotter has borrowed is performed after its restore (11 R383). -/
def execPostedWritePerform (q : Fin 8) (s : State) : Host.Outcome State Fault Refusal :=
  done s (match (s.ses q.val).post with
    | [] => s
    | (a, v) :: l =>
      if s.writerLive (.ses q) = false ∨ s.postWaits a.toNat = true then s
      else
        match s.restoreFor (s.reaches (.ses q) a.toNat).toList with
        | some t => t
        | none =>
          let t := s.setSes q.val { s.ses q.val with post := l }
          let u := t.writeAddr (.ses q) a.toNat v
          if t.memAccepts (.ses q) a.toNat v then u.windowCopy q.val a.toNat v else u)

/-- SHADOW_REFILL (R403). -/
def execShadowRefill (d : Fin 16) (s : State) : Host.Outcome State Fault Refusal :=
  done s (if s.domOn d.val then { s with pwr := { s.pwr with refilled := s.pwr.refilled ||| BitVec.ofNat 16 (2 ^ d.val) } } else s)

/-- READAHEAD_POINTER_WRITE (R404). -/
def execReadaheadPointerWrite (q : Fin 8) (v : Word) (s : State) : Host.Outcome State Fault Refusal :=
  done s (s.writeAddr (.ses q) (pageAddr 8 33) v)

/-- Window word i is fetched (R404; 11 R371, R388). -/
def State.fetchWord (s : State) (q : Nat) (i : Nat) : State :=
  let x := s.ses q
  let key := x.win + i
  if s.lost key then (s.setReg (pg (ownPage q) (64 + i)) 0).setSes q { x with winLost := i :: x.winLost }
  else
    let r := s.memRead key
    let t := r.2.2.setReg (pg (ownPage q) (64 + i)) r.1
    if r.2.1 = 2 then t.sesErr q eECC key else t

/-- The home domain of the window is on. -/
def State.windowOn (s : State) (q : Nat) : Bool :=
  match regionOf (s.ses q).win with
  | some (_, d) => s.domOn d
  | none => false

/-- A prefetch of session q is in progress. -/
def State.prefetching (s : State) (q : Nat) : Bool := s.bit (pg (ownPage q) 35) 17

/-- PREFETCH_COMPLETE (R404). A prefetch never wakes a domain, and waits for the restore of a region that the Blotter has borrowed
(11 R383). -/
def execPrefetchComplete (q : Fin 8) (s : State) : Host.Outcome State Fault Refusal :=
  done s (if s.prefetching q.val = true ∧ s.windowOn q.val = true then
      (s.restoreFor ((List.range 64).map fun i => (s.ses q.val).win + i)).getD
        (((List.range 64).foldl (fun t i => t.fetchWord q.val i) s).setReg (pg (ownPage q.val) 35) 64)
    else s)

/-- PREFETCH_TIMEOUT (R404): `got` words were fetched while the domain was on. -/
def execPrefetchTimeout (q : Fin 8) (got : Fin 64) (s : State) : Host.Outcome State Fault Refusal :=
  done s (if s.prefetching q.val then
      let n := if s.windowOn q.val then got.val else 0
      let t := (List.range n).foldl (fun t i => t.fetchWord q.val i) s
      (t.setReg (pg (ownPage q.val) 35) (wordOf (65536 + n))).sesErr q.val eTIMEOUT (s.ses q.val).win
    else s)

/-! ### Frames -/

/-- One byte into the CRC-16 of ISO/IEC 13239 (R410). -/
def crcByte (c : BitVec 16) (b : Byte) : BitVec 16 :=
  (List.range 8).foldl (fun x _ => if x.getLsbD 0 then (x >>> 1) ^^^ 0x8408 else x >>> 1) (c ^^^ b.setWidth 16)

/-- The CRC-16 of a list of bytes. -/
def crc16 (l : List Byte) : BitVec 16 := l.foldl crcByte 0xFFFF ^^^ 0xFFFF

/-- The status byte (R406). -/
def State.statusByte (s : State) (q : Nat) : Byte :=
  let ev := s.fld (sesKey q 8) 5 0
  BitVec.ofNat 8 (128 * b2n (s.fld (sesKey q 2) 3 0 != 0) + 64 * b2n (s.consIs ev q && s.ringFill ev != 0)
    + 32 * b2n (decide (16 ≤ (s.ses q).post.length)))

/-- The three bytes of a word on SPI, most significant first, with HTAG (R406). -/
def spiWord (x : Word × BitVec 2) : List Byte := beBytes (x.2.toNat * 4194304 + x.1.toNat) 3

/-- The session of SPI port n. -/
def spiSession (n : Fin 2) : Fin 8 := ⟨2 + n.val, by omega⟩

/-- Port n answers: its session is live and SCFG.EN is 1. -/
def State.spiLive (s : State) (n : Fin 2) : Bool := s.writerLive (.ses (spiSession n)) && s.bit (pg 9 (16 + 8 * n.val)) 0

/-- CRCEN of port n. -/
def State.spiCrc (s : State) (n : Fin 2) : Bool := s.bit (pg 9 (16 + 8 * n.val)) 2

/-- The bytes that the device sends in a frame are kept, and the frame counts in FRC when it is complete (log 51). -/
def State.spiEnd (s : State) (n : Fin 2) (out : List Byte) (whole : Bool) : State :=
  let q := (spiSession n).val
  let t := s.setSes q { s.ses q with out := out }
  if whole then t.inc (pg 9 (18 + 8 * n.val)) else t

/-- The words of a write are posted at consecutive addresses. -/
def State.postN (s : State) (q : Nat) (a : Nat) : List Word → State
  | [] => s
  | v :: l => (s.post q (BitVec.ofNat 24 a) v).postN q (a + 1) l

/-- A frame on SPI port n (R407, R428): CSLOn is 1 while its bytes run, and 0 after it. -/
def State.spiFrame (s : State) (n : Fin 2) (f : State → State) : State :=
  (if s.spiLive n then f (s.setB (pg 9 3) n.val true) else s).setB (pg 9 3) n.val false

/-- SPI_READ_FRAME (R406). -/
def execSpiReadFrame (n : Fin 2) (a : BitVec 24) (nw : Fin 64) (s : State) : Host.Outcome State Fault Refusal :=
  done s (s.spiFrame n fun s =>
      let q := spiSession n
      let r := s.hostReadN q a.toNat (nw.val + 1)
      let body := s.statusByte q.val :: 0 :: 0 :: 0 :: 0 :: r.1.flatMap spiWord
      r.2.spiEnd n (if s.spiCrc n then body ++ beBytes (crc16 body).toNat 2 else body) true)

/-- The bytes of a write frame as the host sends them, bits 23:18 of each word among them. -/
def spiWriteBytes (a : BitVec 24) (ws : List (BitVec 24)) : List Byte :=
  BitVec.ofNat 8 (64 + (ws.length - 1) % 64) :: beBytes a.toNat 3 ++ ws.flatMap fun v => beBytes v.toNat 3

/-- SPI_WRITE_FRAME (R406, R407): with CRCEN = 1 no word is posted unless the CRC matches. -/
def execSpiWriteFrame (n : Fin 2) (a : BitVec 24) (ws : List (BitVec 24)) (crc : BitVec 16) (s : State) :
    Host.Outcome State Fault Refusal :=
  let q := (spiSession n).val
  done s (if ws = [] ∨ 64 < ws.length then s
    else s.spiFrame n fun s =>
      let crcOn := s.spiCrc n
      let out := s.statusByte q :: List.replicate (3 + 3 * ws.length + (if crcOn then 2 else 0)) 0
      if crcOn = true ∧ crc16 (spiWriteBytes a ws) ≠ crc then
        (((s.incSat (pg 9 (20 + 8 * n.val))).raise 9 (1 + 2 * n.val)).spiEnd n out false)
      else (s.postN q a.toNat (ws.map fun v => v.setWidth 18)).spiEnd n out true)

/-- SPI_STATUS_FRAME (R406). -/
def execSpiStatusFrame (n : Fin 2) (s : State) : Host.Outcome State Fault Refusal :=
  done s (s.spiFrame n fun s => s.spiEnd n [s.statusByte (spiSession n).val] true)

/-- SPI_OP_REFUSED (R406): the address that goes with the code is free (log 20). -/
def execSpiOpRefused (n : Fin 2) (s : State) : Host.Outcome State Fault Refusal :=
  done s (s.spiFrame n fun s =>
      let f := s.free
      (f.2.sesErr (spiSession n).val eRANGE (f.1 % 2 ^ 24)).spiEnd n [s.statusByte (spiSession n).val] true)

/-- A frame that ends inside a byte or a word (R407): the whole words before it were answered, or posted when CRCEN = 0. The bytes
kept are those up to the last whole word (log 51). -/
def State.spiPartial (s : State) (n : Fin 2) (write : Bool) (a : BitVec 24) (ws : List Word) : State :=
  let q := spiSession n
  let st := s.statusByte q.val
  let t := if write then
      (if s.spiCrc n then s else s.postN q.val a.toNat ws).spiEnd n (st :: List.replicate (3 + 3 * ws.length) 0) false
    else
      let r := s.hostReadN q a.toNat ws.length
      r.2.spiEnd n (st :: 0 :: 0 :: 0 :: 0 :: r.1.flatMap spiWord) false
  (t.incSat (pg 9 (19 + 8 * n.val))).raise 9 (2 * n.val)

/-- SPI_PARTIAL_FRAME (R407). -/
def execSpiPartialFrame (n : Fin 2) (write : Bool) (a : BitVec 24) (ws : List Word) (s : State) : Host.Outcome State Fault Refusal :=
  done s (s.spiFrame n fun s => s.spiPartial n write a ws)

/-- SPI_CLOCK_IDLE_TIMEOUT (R407): SPIn_CS_N is still low; it rises before the port's next frame. -/
def execSpiClockIdleTimeout (n : Fin 2) (write : Bool) (a : BitVec 24) (ws : List Word) (s : State) :
    Host.Outcome State Fault Refusal :=
  done s (if s.spiLive n then
      ((s.setB (pg 9 3) n.val true).spiPartial n write a ws).sesErr (spiSession n).val eTIMEOUT a.toNat
    else s)

/-! ### Iluhi (R408 to R414) -/

/-- The session of link l. -/
def linkSession (l : Fin 4) : Fin 8 := ⟨4 + l.val, by omega⟩

/-- The bytes of a frame from TYPE to the FCS, before stuffing (R408, R410). -/
def iluhiFrame (typ seq : Byte) (payload : List Byte) : List Byte :=
  let body := typ :: seq :: BitVec.ofNat 8 payload.length :: payload
  body ++ leBytes (crc16 body).toNat 2

/-- A byte inside a frame on the line (R408): escaped when it is a flag or an escape, or a flow character and the port uses them. -/
def stuffByte (flow : Bool) (b : Byte) : List Byte :=
  if b = 0x7E ∨ b = 0x7D ∨ (flow = true ∧ (b = 0x11 ∨ b = 0x13)) then [0x7D, b ^^^ 0x20] else [b]

/-- A frame of link l as it stands on the line: between flags of its own, its bytes stuffed (R408) (log 51). -/
def State.onLine (s : State) (l : Fin 4) (frame : List Byte) : List Byte :=
  0x7E :: frame.flatMap (stuffByte (s.fld (serKey l.val 22) 17 16 != 0)) ++ [0x7E]

/-- The link receives frames: its session is live and the receiver of its port runs. -/
def State.linkOn (s : State) (l : Fin 4) : Bool := s.writerLive (.ses (linkSession l)) && s.rxOn l.val

/-- The three bytes of a word on Iluhi, low byte first, with HTAG in responses (R411). -/
def iluhiWord (x : Word × BitVec 2) : List Byte := leBytes (x.2.toNat * 4194304 + x.1.toNat) 3

/-- The words of the payload of a WRITE. -/
def iluhiWords : List Byte → List Word
  | a :: b :: c :: l => wordOf (a.toNat + 256 * b.toNat + 65536 * c.toNat) :: iluhiWords l
  | _ => []

/-- Posts words until the first one is refused; the code of that refusal, or 0 (R412). -/
def State.postUntil (s : State) (q : Nat) (a : Nat) : List Word → State × Nat
  | [] => (s, 0)
  | v :: l =>
    if 16 ≤ (s.ses q).post.length then (s.post q (BitVec.ofNat 24 a) v, eBUSY)
    else (s.post q (BitVec.ofNat 24 a) v).postUntil q (a + 1) l

/-- An ERROR response. -/
def iluhiError (seq : Byte) (code : Nat) : List Byte := iluhiFrame 0x80 seq [BitVec.ofNat 8 code]

/-- A request runs: the answer and the state (R412). -/
def State.iluhiRun (s : State) (q : Fin 8) (typ seq : Byte) (pl : List Byte) : List Byte × State :=
  let a := leNum (pl.take 3)
  let n := (pl.length - 3) / 3
  if typ = 0x01 ∧ pl.length = 4 ∧ (pl.getD 3 0).toNat ≤ 63 then
    let r := s.hostReadN q a ((pl.getD 3 0).toNat + 1)
    (iluhiFrame 0x81 seq (r.1.flatMap iluhiWord), r.2)
  else if typ = 0x02 ∧ pl.length = 3 + 3 * n ∧ 1 ≤ n ∧ n ≤ 64 then
    let r := s.postUntil q.val a (iluhiWords (pl.drop 3))
    (iluhiFrame 0x82 seq [BitVec.ofNat 8 r.2], r.1)
  else if typ = 0x03 ∧ pl = [] then (iluhiFrame 0x83 seq [BitVec.ofNat 8 q.val, s.statusByte q.val], s)
  else (iluhiError seq eRANGE, s)

/-- A response waits for the transmitter and leaves as soon as nothing holds it (R414). -/
def State.respond (s : State) (l : Fin 4) (frame : List Byte) : State :=
  let q := (linkSession l).val
  (s.setSes q { s.ses q with resp := (s.ses q).resp ++ [s.onLine l frame] }).sendResp l.val

/-- An accepted request of link l: one that equals the last one is answered with the kept response (R413). -/
def State.iluhiRequest (s : State) (l : Fin 4) (typ seq : Byte) (pl : List Byte) : State :=
  let q := linkSession l
  if s.linkOn l = false then s
  else if 196 < pl.length then s.incSat (sesKey q.val 14)
  else
    let t := s.inc (sesKey q.val 15)
    let x := t.ses q.val
    if x.lastReq = typ :: seq :: pl then t.respond l x.lastResp
    else
      let r := t.iluhiRun q typ seq pl
      (r.2.setSes q.val { r.2.ses q.val with lastReq := typ :: seq :: pl, lastResp := r.1 }).respond l r.1

/-- ILUHI_READ (R412). -/
def execIluhiRead (l : Fin 4) (seq : Byte) (payload : List Byte) (s : State) : Host.Outcome State Fault Refusal :=
  done s (s.iluhiRequest l 0x01 seq payload)

/-- ILUHI_WRITE (R412). -/
def execIluhiWrite (l : Fin 4) (seq : Byte) (payload : List Byte) (s : State) : Host.Outcome State Fault Refusal :=
  done s (s.iluhiRequest l 0x02 seq payload)

/-- ILUHI_PING (R412). -/
def execIluhiPing (l : Fin 4) (seq : Byte) (payload : List Byte) (s : State) : Host.Outcome State Fault Refusal :=
  done s (s.iluhiRequest l 0x03 seq payload)

/-- ILUHI_UNKNOWN_TYPE (R412). -/
def execIluhiUnknownType (l : Fin 4) (typ seq : Byte) (payload : List Byte) (s : State) : Host.Outcome State Fault Refusal :=
  done s (s.iluhiRequest l typ seq payload)

/-- A frame is discarded (R409). -/
def State.iluhiDrop (s : State) (l : Fin 4) : State :=
  if s.linkOn l then s.incSat (sesKey (linkSession l).val 14) else s

/-- ILUHI_FRAME_DISCARD (R409). -/
def execIluhiFrameDiscard (l : Fin 4) (s : State) : Host.Outcome State Fault Refusal := done s (s.iluhiDrop l)

/-- ILUHI_GAP_TIMEOUT (R409). -/
def execIluhiGapTimeout (l : Fin 4) (s : State) : Host.Outcome State Fault Refusal := done s (s.iluhiDrop l)

/-- The link may push ring r, by its SCTL bit: it is the session's ring, the session is its consumer, and it holds words (R414). -/
def State.pushable (s : State) (q bit r : Nat) : Bool := s.bit (sesKey q 0) bit && s.consIs r q && s.ringFill r != 0

/-- A push frame of link l begins: TYPE 0x84 of the event ring, or 0x85 of the delivery ring, with the SEQ of the ring (R412, R414). -/
def State.beginPush (s : State) (l : Fin 4) (event : Bool) (r : Nat) : State :=
  let q := (linkSession l).val
  let seq := (s.pushSeq.get? r).getD 0
  let cidx := s.reg (ringKey r 3)
  let n := min 64 (s.ringFill r)
  let e := s.ringReadE r cidx.toNat n
  let pl := BitVec.ofNat 8 r :: iluhiWord (cidx, 0) ++ e.1.flatMap fun v => iluhiWord (v, 0)
  let t := if e.2.1 = 2 then e.2.2.pageErr 5 eECC 2 else e.2.2
  { t.setSes q { t.ses q with out := t.onLine l (iluhiFrame (if event then 0x84 else 0x85) seq pl), push := some (r, n) } with
    pushSeq := t.pushSeq.put r (seq + 1) }

/-- ILUHI_PUSH (R414): the transmitter is idle and not paused, and no response waits. With both rings holding words the choice is free
(log 21). With HIF off the link cannot read its ring (14 R462). -/
def execIluhiPush (l : Fin 4) (s : State) : Host.Outcome State Fault Refusal :=
  let q := (linkSession l).val
  let x := s.ser l.val
  let re := s.fld (sesKey q 8) 5 0
  let rd := s.fld (sesKey q 11) 5 0
  let e := s.pushable q 2 re
  let d := s.pushable q 3 rd
  done s (if s.writerLive (.ses (linkSession l)) = false ∨ (s.ses q).push.isSome = true ∨ (s.ses q).resp ≠ [] ∨ x.txHold.isSome = true
      ∨ x.txShift.isSome = true ∨ s.txReady l.val = false then s
    else if (e || d) && !s.domOn 2 then s.unitFails (10 + l.val)
    else if e && d then
      let f := s.free
      f.2.beginPush l (f.1 % 2 == 0) (if f.1 % 2 = 0 then re else rd)
    else if e then s.beginPush l true re
    else if d then s.beginPush l false rd
    else s)

/-- ILUHI_PUSH_SENT (R414): the closing flag has been sent; responses that came meanwhile follow. -/
def execIluhiPushSent (l : Fin 4) (s : State) : Host.Outcome State Fault Refusal :=
  let q := (linkSession l).val
  done s (match (s.ses q).push with
    | some (r, n) =>
      let t := s.setSes q { s.ses q with push := none }
      (if s.writerLive (.ses (linkSession l)) && s.consIs r q then t.ringTake r n else t).sendResp l.val
    | none => s)

end Sys2Proof.Machine
end

