-- ==== Sys2Proof/Machine/Tick.lean ====
section
/-! DEFINITION. The passage of time while no command waits: one nanosecond of RXT (spec/07 R214, R217), of the RTC (spec/14 R476,
R477; spec/07 R244) and of the PWM of the AGC outputs (spec/02 R83), and what counts RTC seconds (spec/15 R505, R508). The RTC runs at
its nominal rate here (log 6). Every
other thing that happens at a time has a command of its own. -/

namespace Sys2Proof.Machine

/-- RXT counts one nanosecond; at a multiple of 10^9 the second tick is asserted (12 R420). -/
def State.rxtTick (s : State) : State :=
  if s.time.on = false then s
  else
    let t := s.reach (s.time.ns + 1)
    if t.time.ns % 1000000000 = 0 then t.setB (pg 4 32) 1 true else t

/-- The nominal period of the RTC's source in units of 2^-16 ns: 32768 Hz or 32 kHz (14 R477). -/
def State.rtcPeriod (s : State) : Nat := if s.time.rtcSrc then 2048000000 else 2000000000

/-- Ticks of the RTC's source in a second. -/
def State.rtcRate (s : State) : Nat := if s.time.rtcSrc then 32000 else 32768

/-- The RTC runs: BKP is on, and the source is the RC oscillator or a crystal that runs. -/
def State.rtcRuns (s : State) : Bool := s.domOn 1 && (s.time.rtcSrc || s.bit (pg 2 3) 4)

/-- A second of the RTC: TRIALT counts down in every state but DORMANT (R505); LKIDLE counts, and at 30 the lock is free
(R508) (log 58). -/
def State.rtcSecond (s : State) : State :=
  let t := if s.bit (updKey 16) 17 then
      (if 29 ≤ s.fld (updKey 17) 4 0 then s.freeLock.raise 14 5 else s.inc (updKey 17))
    else s
  if t.reg (updKey 29) = 0 ∨ t.pwr.st = .dormant then t
  else if t.reg (updKey 29) = 1 then (if t.bit (updKey 28) 1 then t.trialOver else t.setReg (updKey 29) 0)
  else t.setReg (updKey 29) (t.reg (updKey 29) - 1)

/-- One tick of the RTC: the alarm is compared (R476). -/
def State.rtcTick (s : State) : State :=
  let t := s.rtcTicks 1
  let t := if t.time.almOn = true ∧ t.time.rtc = t.time.alm then t.wakeEvent 8 3 else t
  if t.time.rtc % t.rtcRate = 0 then t.rtcSecond else t

/-- The source changed during the sleep (07 R246). -/
def State.noteSwitch (s : State) : State :=
  { s with time := { s.time with slSwitched := s.time.slSwitched || (s.time.kept && !s.time.on) } }

/-- The RTC's source is b from here on. -/
def State.onSource (s : State) (b : Bool) : State := { s with time := { s.time with rtcSrc := b } }

/-- RTC_FALLBACK (14 R477; 07 R244): the crystal in use, or due, gives no edge for 4 RC periods. When it was in use, the RC ticks
of those periods count after the event. -/
def execRtcFallback (s : State) : Host.Outcome State Fault Refusal :=
  done s (if s.bit (pg 2 17) 1 = true ∧ s.rtcSel = false ∧ s.domOn 1 = true then
      let t := (s.rtcWant true).raise 2 4
      if s.time.rtcSrc then t
      else ((((t.onSource true).rtcTick.rtcTick.rtcTick.rtcTick).onSource false).noteSwitch)
    else s)

/-- RTC_SOURCE_CHANGE (14 R477; 07 R244): the due change takes effect at a tick edge of the new source, which counts. -/
def execRtcSourceChange (s : State) : Host.Outcome State Fault Refusal :=
  done s (match s.time.rtcDue with
    | some b => (State.onSource { s with time := { s.time with rtcDue := none, rtcAcc := 0 } } b).noteSwitch.rtcTick
    | none => s)

/-- The RTC over one nanosecond. -/
def State.rtcNano (s : State) : State :=
  if s.rtcRuns = false then s
  else if s.rtcPeriod ≤ s.time.rtcAcc + 65536 then
    State.rtcTick { s with time := { s.time with rtcAcc := s.time.rtcAcc + 65536 - s.rtcPeriod } }
  else { s with time := { s.time with rtcAcc := s.time.rtcAcc + 65536 } }

/-- One nanosecond without a command. -/
def State.idle (s : State) : State := settle s s.rxtTick.rtcNano.pwmNano

end Sys2Proof.Machine
end

