-- ==== Sys2Proof/Machine/Dispatch.lean ====
section
/-! DEFINITION. The dispatcher: one arm per command, each a direct call of its meaning. -/

namespace Sys2Proof.Machine

def exec (i : Instr) (s : State) : Host.Outcome State Fault Refusal :=
  match i with
  | .registerWrite w a v => Sys2Proof.Machine.execRegisterWrite w a v s
  | .pageLockTake w pg => Sys2Proof.Machine.execPageLockTake w pg s
  | .pageLockRelease w pg => Sys2Proof.Machine.execPageLockRelease w pg s
  | .feedEnable w p v => Sys2Proof.Machine.execFeedEnable w p v s
  | .feedDisable w p v => Sys2Proof.Machine.execFeedDisable w p v s
  | .laneTrain w p v => Sys2Proof.Machine.execLaneTrain w p v s
  | .waitclkCountDone p inTol => Sys2Proof.Machine.execWaitclkCountDone p inTol s
  | .waitclkGap p => Sys2Proof.Machine.execWaitclkGap p s
  | .sweepDone p ok => Sys2Proof.Machine.execSweepDone p ok s
  | .alignDone p => Sys2Proof.Machine.execAlignDone p s
  | .trainConfirmDone p => Sys2Proof.Machine.execTrainConfirmDone p s
  | .trainTimeout p => Sys2Proof.Machine.execTrainTimeout p s
  | .laneGo w p v => Sys2Proof.Machine.execLaneGo w p v s
  | .laneWord p b => Sys2Proof.Machine.execLaneWord p b s
  | .clockLoss m => Sys2Proof.Machine.execClockLoss m s
  | .notchAdapt p k => Sys2Proof.Machine.execNotchAdapt p k s
  | .blankerLimit p => Sys2Proof.Machine.execBlankerLimit p s
  | .substreamFreqWrite w p sub v => Sys2Proof.Machine.execSubstreamFreqWrite w p sub v s
  | .clockGateEnd m count => Sys2Proof.Machine.execClockGateEnd m count s
  | .streamEnable w n v => Sys2Proof.Machine.execStreamEnable w n v s
  | .streamDisable w n v => Sys2Proof.Machine.execStreamDisable w n v s
  | .spectrumRecordTick m blocksDone t0 => Sys2Proof.Machine.execSpectrumRecordTick m blocksDone t0 s
  | .agcUpdate p => Sys2Proof.Machine.execAgcUpdate p s
  | .rfspiTransfer w v => Sys2Proof.Machine.execRfspiTransfer w v s
  | .rfspiReady => Sys2Proof.Machine.execRfspiReady s
  | .rfspiReadyTimeout => Sys2Proof.Machine.execRfspiReadyTimeout s
  | .rfspiDone rx => Sys2Proof.Machine.execRfspiDone rx s
  | .programValidate w p v => Sys2Proof.Machine.execProgramValidate w p v s
  | .programInvalidate w p v => Sys2Proof.Machine.execProgramInvalidate w p v s
  | .regionValidate w r v => Sys2Proof.Machine.execRegionValidate w r v s
  | .regionInvalidate w r v => Sys2Proof.Machine.execRegionInvalidate w r v s
  | .exemplarWrite w o v => Sys2Proof.Machine.execExemplarWrite w o v s
  | .retarget w v => Sys2Proof.Machine.execRetarget w v s
  | .tmblWrite w v => Sys2Proof.Machine.execTmblWrite w v s
  | .contextWrite w viaQuire c k v => Sys2Proof.Machine.execContextWrite w viaQuire c k v s
  | .channelAdmit w c => Sys2Proof.Machine.execChannelAdmit w c s
  | .admissionDecision => Sys2Proof.Machine.execAdmissionDecision s
  | .channelDisable w c => Sys2Proof.Machine.execChannelDisable w c s
  | .channelTrack w c => Sys2Proof.Machine.execChannelTrack w c s
  | .channelDrop w c => Sys2Proof.Machine.execChannelDrop w c s
  | .phaseSetArm w c v => Sys2Proof.Machine.execPhaseSetArm w c v s
  | .updateCommit w c v => Sys2Proof.Machine.execUpdateCommit w c v s
  | .frameBoundary stamps => Sys2Proof.Machine.execFrameBoundary stamps s
  | .rankSlot r slot => Sys2Proof.Machine.execRankSlot r slot s
  | .windowWrite w v => Sys2Proof.Machine.execWindowWrite w v s
  | .rankDisable w r v => Sys2Proof.Machine.execRankDisable w r v s
  | .rankEnable w r v => Sys2Proof.Machine.execRankEnable w r v s
  | .inkwellWrite w o v => Sys2Proof.Machine.execInkwellWrite w o v s
  | .captureGo w e v => Sys2Proof.Machine.execCaptureGo w e v s
  | .captureStop w e v => Sys2Proof.Machine.execCaptureStop w e v s
  | .captureDone e => Sys2Proof.Machine.execCaptureDone e s
  | .jobRingConfig w k v => Sys2Proof.Machine.execJobRingConfig w k v s
  | .jobStart => Sys2Proof.Machine.execJobStart s
  | .jobExtractionDone pipe => Sys2Proof.Machine.execJobExtractionDone pipe s
  | .jobCommit pipe => Sys2Proof.Machine.execJobCommit pipe s
  | .recordRoomTimeout pipe => Sys2Proof.Machine.execRecordRoomTimeout pipe s
  | .jobAbort w v => Sys2Proof.Machine.execJobAbort w v s
  | .abortScanDone => Sys2Proof.Machine.execAbortScanDone s
  | .jobAbortStop pipe => Sys2Proof.Machine.execJobAbortStop pipe s
  | .handoff w v => Sys2Proof.Machine.execHandoff w v s
  | .cacheWrite w v => Sys2Proof.Machine.execCacheWrite w v s
  | .workingRamWrite w o v => Sys2Proof.Machine.execWorkingRamWrite w o v s
  | .rxtWrap => Sys2Proof.Machine.execRxtWrap s
  | .rxtSecond => Sys2Proof.Machine.execRxtSecond s
  | .rxtCapture w v => Sys2Proof.Machine.execRxtCapture w v s
  | .tdiscClear w v => Sys2Proof.Machine.execTdiscClear w v s
  | .rebuiltClear w v => Sys2Proof.Machine.execRebuiltClear w v s
  | .mapGo w v => Sys2Proof.Machine.execMapGo w v s
  | .mapApply => Sys2Proof.Machine.execMapApply s
  | .periodicEnable w v => Sys2Proof.Machine.execPeriodicEnable w v s
  | .periodicEpoch => Sys2Proof.Machine.execPeriodicEpoch s
  | .snap w v => Sys2Proof.Machine.execSnap w v s
  | .latchCommit => Sys2Proof.Machine.execLatchCommit s
  | .tpApply w n v => Sys2Proof.Machine.execTpApply w n v s
  | .tpApplyTakeEffect n => Sys2Proof.Machine.execTpApplyTakeEffect n s
  | .tpActiveEdge n => Sys2Proof.Machine.execTpActiveEdge n s
  | .tpInactiveEdge n => Sys2Proof.Machine.execTpInactiveEdge n s
  | .hairlineCalibrate w v => Sys2Proof.Machine.execHairlineCalibrate w v s
  | .hairlineCalDone taps => Sys2Proof.Machine.execHairlineCalDone taps s
  | .eventEdge n rising tap => Sys2Proof.Machine.execEventEdge n rising tap s
  | .eventFifoMove => Sys2Proof.Machine.execEventFifoMove s
  | .rtcCalGo w v => Sys2Proof.Machine.execRtcCalGo w v s
  | .rtcCalDone span => Sys2Proof.Machine.execRtcCalDone span s
  | .calplWrite w v => Sys2Proof.Machine.execCalplWrite w v s
  | .rcplWrite w v => Sys2Proof.Machine.execRcplWrite w v s
  | .rxtRebuild => Sys2Proof.Machine.execRxtRebuild s
  | .bundleIssue c => Sys2Proof.Machine.execBundleIssue c s
  | .interruptEntry c => Sys2Proof.Machine.execInterruptEntry c s
  | .idleWake c => Sys2Proof.Machine.execIdleWake c s
  | .trapEntry c => Sys2Proof.Machine.execTrapEntry c s
  | .coreReset w c v => Sys2Proof.Machine.execCoreReset w c v s
  | .coreResetDone c => Sys2Proof.Machine.execCoreResetDone c s
  | .coreRun w c v => Sys2Proof.Machine.execCoreRun w c v s
  | .coreHalt w c v => Sys2Proof.Machine.execCoreHalt w c v s
  | .coreStep w c v => Sys2Proof.Machine.execCoreStep w c v s
  | .breakpointHalt c => Sys2Proof.Machine.execBreakpointHalt c s
  | .coreRegisterWrite w c v => Sys2Proof.Machine.execCoreRegisterWrite w c v s
  | .corePcWrite w c v => Sys2Proof.Machine.execCorePcWrite w c v s
  | .swevSet w c => Sys2Proof.Machine.execSwevSet w c s
  | .rubricMicrowordWrite w v => Sys2Proof.Machine.execRubricMicrowordWrite w v s
  | .rubricEntryWrite w c e v => Sys2Proof.Machine.execRubricEntryWrite w c e v s
  | .quiesceRequest w c v => Sys2Proof.Machine.execQuiesceRequest w c v s
  | .quiesceDone c => Sys2Proof.Machine.execQuiesceDone c s
  | .quiesceRelease w c v => Sys2Proof.Machine.execQuiesceRelease w c v s
  | .lNop => Sys2Proof.Machine.execLNop s
  | .lRet => Sys2Proof.Machine.execLRet s
  | .lRti => Sys2Proof.Machine.execLRti s
  | .lIdle => Sys2Proof.Machine.execLIdle s
  | .lEi => Sys2Proof.Machine.execLEi s
  | .lDi => Sys2Proof.Machine.execLDi s
  | .lRegisterOperation => Sys2Proof.Machine.execLRegisterOperation s
  | .lAddi => Sys2Proof.Machine.execLAddi s
  | .lLdi => Sys2Proof.Machine.execLLdi s
  | .lCmpi => Sys2Proof.Machine.execLCmpi s
  | .lShli => Sys2Proof.Machine.execLShli s
  | .lShri => Sys2Proof.Machine.execLShri s
  | .lAsri => Sys2Proof.Machine.execLAsri s
  | .lLdw => Sys2Proof.Machine.execLLdw s
  | .lStw => Sys2Proof.Machine.execLStw s
  | .lLdp => Sys2Proof.Machine.execLLdp s
  | .lStp => Sys2Proof.Machine.execLStp s
  | .lLpi => Sys2Proof.Machine.execLLpi s
  | .lLap => Sys2Proof.Machine.execLLap s
  | .lMpy => Sys2Proof.Machine.execLMpy s
  | .lMac => Sys2Proof.Machine.execLMac s
  | .lMsu => Sys2Proof.Machine.execLMsu s
  | .lExt => Sys2Proof.Machine.execLExt s
  | .lExh => Sys2Proof.Machine.execLExh s
  | .lLdh => Sys2Proof.Machine.execLLdh s
  | .lClra => Sys2Proof.Machine.execLClra s
  | .lMova => Sys2Proof.Machine.execLMova s
  | .lAdda => Sys2Proof.Machine.execLAdda s
  | .lNega => Sys2Proof.Machine.execLNega s
  | .lB => Sys2Proof.Machine.execLB s
  | .lJmp => Sys2Proof.Machine.execLJmp s
  | .lCall => Sys2Proof.Machine.execLCall s
  | .lMfl => Sys2Proof.Machine.execLMfl s
  | .lMtl => Sys2Proof.Machine.execLMtl s
  | .lIllegalHalt => Sys2Proof.Machine.execLIllegalHalt s
  | .legacyDspRun w v => Sys2Proof.Machine.execLegacyDspRun w v s
  | .legacyDspReset w v => Sys2Proof.Machine.execLegacyDspReset w v s
  | .legacyFifoClear w v => Sys2Proof.Machine.execLegacyFifoClear w v s
  | .legacyPowerDown w v => Sys2Proof.Machine.execLegacyPowerDown w v s
  | .legacySnap w v => Sys2Proof.Machine.execLegacySnap w v s
  | .legacyMailboxHostWrite q v => Sys2Proof.Machine.execLegacyMailboxHostWrite q v s
  | .legacyMailboxDspRead => Sys2Proof.Machine.execLegacyMailboxDspRead s
  | .legacyMailboxDspWrite v => Sys2Proof.Machine.execLegacyMailboxDspWrite v s
  | .legacyMailboxHostRead q => Sys2Proof.Machine.execLegacyMailboxHostRead q s
  | .legacyMemoryAddressWrite w low v => Sys2Proof.Machine.execLegacyMemoryAddressWrite w low v s
  | .legacyReadaheadComplete => Sys2Proof.Machine.execLegacyReadaheadComplete s
  | .legacyMemoryPortRead q => Sys2Proof.Machine.execLegacyMemoryPortRead q s
  | .legacyMemoryPortWrite w v => Sys2Proof.Machine.execLegacyMemoryPortWrite w v s
  | .legacyDumpFifoRead q => Sys2Proof.Machine.execLegacyDumpFifoRead q s
  | .legacySampleEnable w v => Sys2Proof.Machine.execLegacySampleEnable w v s
  | .legacyChannelEnable w c v => Sys2Proof.Machine.execLegacyChannelEnable w c v s
  | .legacyChannelDisable w c v => Sys2Proof.Machine.execLegacyChannelDisable w c v s
  | .legacyCarrierWrite w c v => Sys2Proof.Machine.execLegacyCarrierWrite w c v s
  | .legacyCodeWrite w c v => Sys2Proof.Machine.execLegacyCodeWrite w c v s
  | .legacyCodeSet w c v => Sys2Proof.Machine.execLegacyCodeSet w c v s
  | .legacyUartWrite w u v => Sys2Proof.Machine.execLegacyUartWrite w u v s
  | .legacyUartRead q u => Sys2Proof.Machine.execLegacyUartRead q u s
  | .legacyTpApply w v => Sys2Proof.Machine.execLegacyTpApply w v s
  | .ltpoflWrite w v => Sys2Proof.Machine.execLtpoflWrite w v s
  | .eccWriteback => Sys2Proof.Machine.execEccWriteback s
  | .quireAccessTimeout q o => Sys2Proof.Machine.execQuireAccessTimeout q o s
  | .blotterBorrow => Sys2Proof.Machine.execBlotterBorrow s
  | .blotterBorrowDone fail => Sys2Proof.Machine.execBlotterBorrowDone fail s
  | .blotterAbort => Sys2Proof.Machine.execBlotterAbort s
  | .blotterRestoreDone => Sys2Proof.Machine.execBlotterRestoreDone s
  | .blotterRestart w v => Sys2Proof.Machine.execBlotterRestart w v s
  | .exclusionApply w v => Sys2Proof.Machine.execExclusionApply w v s
  | .lostAcknowledge w high v => Sys2Proof.Machine.execLostAcknowledge w high v s
  | .hostBusRead cs0 cs1 wrLow a => Sys2Proof.Machine.execHostBusRead cs0 cs1 wrLow a s
  | .hostBusWrite cs0 cs1 rdLow a v => Sys2Proof.Machine.execHostBusWrite cs0 cs1 rdLow a v s
  | .postedWritePerform q => Sys2Proof.Machine.execPostedWritePerform q s
  | .shadowRefill d => Sys2Proof.Machine.execShadowRefill d s
  | .readaheadPointerWrite q v => Sys2Proof.Machine.execReadaheadPointerWrite q v s
  | .prefetchComplete q => Sys2Proof.Machine.execPrefetchComplete q s
  | .prefetchTimeout q got => Sys2Proof.Machine.execPrefetchTimeout q got s
  | .spiReadFrame n a nw => Sys2Proof.Machine.execSpiReadFrame n a nw s
  | .spiWriteFrame n a ws crc => Sys2Proof.Machine.execSpiWriteFrame n a ws crc s
  | .spiStatusFrame n => Sys2Proof.Machine.execSpiStatusFrame n s
  | .spiOpRefused n => Sys2Proof.Machine.execSpiOpRefused n s
  | .spiPartialFrame n write a ws => Sys2Proof.Machine.execSpiPartialFrame n write a ws s
  | .spiClockIdleTimeout n write a ws => Sys2Proof.Machine.execSpiClockIdleTimeout n write a ws s
  | .iluhiRead l seq payload => Sys2Proof.Machine.execIluhiRead l seq payload s
  | .iluhiWrite l seq payload => Sys2Proof.Machine.execIluhiWrite l seq payload s
  | .iluhiPing l seq payload => Sys2Proof.Machine.execIluhiPing l seq payload s
  | .iluhiUnknownType l typ seq payload => Sys2Proof.Machine.execIluhiUnknownType l typ seq payload s
  | .iluhiFrameDiscard l => Sys2Proof.Machine.execIluhiFrameDiscard l s
  | .iluhiGapTimeout l => Sys2Proof.Machine.execIluhiGapTimeout l s
  | .iluhiPush l => Sys2Proof.Machine.execIluhiPush l s
  | .iluhiPushSent l => Sys2Proof.Machine.execIluhiPushSent l s
  | .sessionEnable w q v => Sys2Proof.Machine.execSessionEnable w q v s
  | .permissionMaskWrite w q v => Sys2Proof.Machine.execPermissionMaskWrite w q v s
  | .doorbellSet w q v => Sys2Proof.Machine.execDoorbellSet w q v s
  | .ringConfig w r v => Sys2Proof.Machine.execRingConfig w r v s
  | .ringIndexWrite w r prod v => Sys2Proof.Machine.execRingIndexWrite w r prod v s
  | .swsetWrite w high v => Sys2Proof.Machine.execSwsetWrite w high v s
  | .timerLoad w k v => Sys2Proof.Machine.execTimerLoad w k v s
  | .timerExpiry k => Sys2Proof.Machine.execTimerExpiry k s
  | .routeWrite w k v => Sys2Proof.Machine.execRouteWrite w k v s
  | .eventRecordWrite => Sys2Proof.Machine.execEventRecordWrite s
  | .deliveryRecord => Sys2Proof.Machine.execDeliveryRecord s
  | .serRxCharacter n data par stop => Sys2Proof.Machine.execSerRxCharacter n data par stop s
  | .serBreak n => Sys2Proof.Machine.execSerBreak n s
  | .serXoffReceived n => Sys2Proof.Machine.execSerXoffReceived n s
  | .serXonReceived n => Sys2Proof.Machine.execSerXonReceived n s
  | .serRxdRead w n => Sys2Proof.Machine.execSerRxdRead w n s
  | .serTxdWrite w n v => Sys2Proof.Machine.execSerTxdWrite w n v s
  | .serTxStart n => Sys2Proof.Machine.execSerTxStart n s
  | .serTxCharacterDone n => Sys2Proof.Machine.execSerTxCharacterDone n s
  | .serConfigWrite w n v => Sys2Proof.Machine.execSerConfigWrite w n v s
  | .serBaudWrite w n v => Sys2Proof.Machine.execSerBaudWrite w n v s
  | .serSendBreak w n v => Sys2Proof.Machine.execSerSendBreak w n v s
  | .serFlowWrite w n v => Sys2Proof.Machine.execSerFlowWrite w n v s
  | .serFlowCharacterSend n => Sys2Proof.Machine.execSerFlowCharacterSend n s
  | .serFlowTimeout n => Sys2Proof.Machine.execSerFlowTimeout n s
  | .serDrainEnable w n v => Sys2Proof.Machine.execSerDrainEnable w n v s
  | .serDrainMove n => Sys2Proof.Machine.execSerDrainMove n s
  | .serFeedTake n => Sys2Proof.Machine.execSerFeedTake n s
  | .slowRxCharacter u data par stop => Sys2Proof.Machine.execSlowRxCharacter u data par stop s
  | .domainSwitchOff w d v => Sys2Proof.Machine.execDomainSwitchOff w d v s
  | .domainIdleExpiry d => Sys2Proof.Machine.execDomainIdleExpiry d s
  | .domainPowerUp w d v => Sys2Proof.Machine.execDomainPowerUp w d v s
  | .domainOn d => Sys2Proof.Machine.execDomainOn d s
  | .wakeOnDemandTimeout c => Sys2Proof.Machine.execWakeOnDemandTimeout c s
  | .deviceStateGo w v => Sys2Proof.Machine.execDeviceStateGo w v s
  | .deviceIdleTimerExpiry k => Sys2Proof.Machine.execDeviceIdleTimerExpiry k s
  | .entryWaitTimeout => Sys2Proof.Machine.execEntryWaitTimeout s
  | .dozeEntry => Sys2Proof.Machine.execDozeEntry s
  | .dozeExit => Sys2Proof.Machine.execDozeExit s
  | .sleepEntry => Sys2Proof.Machine.execSleepEntry s
  | .sleepExit => Sys2Proof.Machine.execSleepExit s
  | .backupEntry => Sys2Proof.Machine.execBackupEntry s
  | .dormantEntry => Sys2Proof.Machine.execDormantEntry s
  | .backupExit => Sys2Proof.Machine.execBackupExit s
  | .wakePin n level => Sys2Proof.Machine.execWakePin n level s
  | .rtcAlarm => Sys2Proof.Machine.execRtcAlarm s
  | .alm2Write w v => Sys2Proof.Machine.execAlm2Write w v s
  | .rtcSourceWrite w v => Sys2Proof.Machine.execRtcSourceWrite w v s
  | .rtcFallback => Sys2Proof.Machine.execRtcFallback s
  | .rtcSourceChange => Sys2Proof.Machine.execRtcSourceChange s
  | .xtalOk => Sys2Proof.Machine.execXtalOk s
  | .pllUnlock k => Sys2Proof.Machine.execPllUnlock k s
  | .pllRelock k => Sys2Proof.Machine.execPllRelock k s
  | .backupStoreRead w => Sys2Proof.Machine.execBackupStoreRead w s
  | .backupStoreWrite w v => Sys2Proof.Machine.execBackupStoreWrite w v s
  | .warmRestart w v => Sys2Proof.Machine.execWarmRestart w v s
  | .resetAssert => Sys2Proof.Machine.execResetAssert s
  | .powerOnReset => Sys2Proof.Machine.execPowerOnReset s
  | .brownOut => Sys2Proof.Machine.execBrownOut s
  | .supplyFall => Sys2Proof.Machine.execSupplyFall s
  | .pwrenRetry => Sys2Proof.Machine.execPwrenRetry s
  | .bootSequence ms => Sys2Proof.Machine.execBootSequence ms s
  | .refclkMeasureTimeout => Sys2Proof.Machine.execRefclkMeasureTimeout s
  | .trialTimerExpiry => Sys2Proof.Machine.execTrialTimerExpiry s
  | .healthConfirm w v => Sys2Proof.Machine.execHealthConfirm w v s
  | .rollbackFuseProgram => Sys2Proof.Machine.execRollbackFuseProgram s
  | .updateLockTake w v => Sys2Proof.Machine.execUpdateLockTake w v s
  | .updateLockRelease w v => Sys2Proof.Machine.execUpdateLockRelease w v s
  | .updateLockExpiry => Sys2Proof.Machine.execUpdateLockExpiry s
  | .blockWrite w v => Sys2Proof.Machine.execBlockWrite w v s
  | .blockWriteDone ok => Sys2Proof.Machine.execBlockWriteDone ok s
  | .activate w v => Sys2Proof.Machine.execActivate w v s
  | .activateDone ok => Sys2Proof.Machine.execActivateDone ok s
  | .classPSettingsWrite w v => Sys2Proof.Machine.execClassPSettingsWrite w v s
  | .classNSettingsWrite w v => Sys2Proof.Machine.execClassNSettingsWrite w v s
  | .classNDiscard w v => Sys2Proof.Machine.execClassNDiscard w v s
  | .settingsWriteDone ok => Sys2Proof.Machine.execSettingsWriteDone ok s
  | .flashTimeout => Sys2Proof.Machine.execFlashTimeout s
  | .otpWrite w v => Sys2Proof.Machine.execOtpWrite w v s
  | .otpWriteDone => Sys2Proof.Machine.execOtpWriteDone s
  | .lifecycleAdvance w v => Sys2Proof.Machine.execLifecycleAdvance w v s
  | .lifecycleAdvanceDone => Sys2Proof.Machine.execLifecycleAdvanceDone s
  | .returnToken w v => Sys2Proof.Machine.execReturnToken w v s
  | .returnTokenDone => Sys2Proof.Machine.execReturnTokenDone s
  | .rstNRelease pins bootpins => Sys2Proof.Machine.execRstNRelease pins bootpins s
  | .crystalFailure => Sys2Proof.Machine.execCrystalFailure s
  | .retentionMonitorTrip b => Sys2Proof.Machine.execRetentionMonitorTrip b s
  | .powerRailsInRange => Sys2Proof.Machine.execPowerRailsInRange s
  | .tapDebugAccess write a v => Sys2Proof.Machine.execTapDebugAccess write a v s

end Sys2Proof.Machine
end

