-- ==== Sys2Proof/Safety.lean ====
section
/-! DEFINITION. What counts as a safe state, and the terms that claims use: the canonical form of the tables, the checks that
every accepted register write passes, and the register write that a command stands for. -/

namespace Sys2Proof.Machine

/-- The tables keep their canonical form: the register words rise strictly and list no reset value, the memory words
rise strictly. -/
def State.tablesWf (s : State) : Prop := regsWf s.regs = true ∧ Store.wf s.mem = true

/-- The checks of spec/00 R16 that do not depend on the word's own rule all pass for a write of v to word wd of page p by w:
the writer exists, the page's domain is on, the mask permits it, no other session holds the page, the boot ROM does not refuse
it, and every field lies in its range. -/
structure State.Clear (s : State) (w : Writer) (p wd : Nat) (v : Word) : Prop where
  live : s.writerLive w = true
  on : s.domOn (homeDomain p) = true
  permitted : s.permitted w p wd = true
  free : s.lockedOut w p wd = false
  booted : s.bootRefuses w p = false
  range : inRange (kindOf p) wd v = true

/-- The checks of a write of v to word k of the legacy window by w pass: the personality has a window, the writer exists and reaches
it, the word's home domains are on, every field lies in its range (spec/10 R340, R341, R367). -/
structure State.LwClear (s : State) (w : Writer) (k : Nat) (v : Word) : Prop where
  dual : s.legacyDual = true
  live : s.writerLive w = true
  permits : s.lwPermits w = true
  on : s.lwOff k = none
  range : inRange .lwin k v = true

/-- A read of word k of the legacy window by session q is fresh (spec/10 R341). -/
structure State.LwReads (s : State) (q : Fin 8) (k : Nat) : Prop where
  dual : s.legacyDual = true
  live : s.writerLive (.ses q) = true
  permits : s.lwPermits (.ses q) = true
  fresh : s.lwFresh k = true

/-- A window word after a plain write of v. -/
def State.lwPlain (s : State) (k : Nat) (v : Word) : State :=
  s.setReg (lwKey k) (mergeWrite (wordInfo .lwin k) (s.reg (lwKey k)) v)

end Sys2Proof.Machine
end

