-- ==== Sys2Proof/Certificates/Slice0/Obligations.lean ====
section
/-! DEFINITION. The statements for the provers. Each docstring names the rules of the spec that the statement follows; a clause that
rests on the model's own choice names the log entry. -/

open Sys2Proof Sys2Proof.Machine


/-! ### The machine as a whole -/

/-- One step takes the command at the front of the queue and runs it with the rest; on an empty queue one nanosecond passes (the model's
own tick, log 6), which is the end of a command like any other. -/
def Obligations.StepRunsFrontCommand : Prop :=
  (∀ (c : Instr) (r : List Instr) (s : State), s.pending = c :: r → step s = exec c { s with pending := r })
  ∧ (∀ s : State, s.pending = [] → step s = .next s.idle)
  ∧ (∀ s : State, s.pending = [] → s.time.on = true → s.rtcRuns = false → s.time.ns + 1 < rxtMod → ∃ t, step s = .next t ∧ t.time.ns = s.time.ns + 1
      ∧ t.pending = [] ∧ t.chans = s.chans ∧ t.mem = s.mem)

/-- Every command is answered by a next state, leaves the queue as it is, and ends alike: what `settle` adds are the rises that wait for
their event records (12 R424), the next free value and the power-up of a core whose level became pending (14 R462); no memory word,
core, channel, session or pin changes in it. -/
def Obligations.EveryCommandCompletes : Prop :=
  (∀ (i : Instr) (s : State), ∃ t, exec i s = .next (settle s t) ∧ t.pending = s.pending)
  ∧ (∀ s t : State, (settle s t).freeCtr = t.freeCtr + 1 ∧ (settle s t).ev.rises = t.ev.rises ++ risesOf s t
      ∧ (settle s t).pending = t.pending ∧ (settle s t).mem = t.mem ∧ (settle s t).cores = t.cores ∧ (settle s t).chans = t.chans
      ∧ (settle s t).sess = t.sess ∧ (settle s t).pins = t.pins ∧ (settle s t).time = t.time ∧ (settle s t).upd = t.upd
      ∧ (∀ k, (∀ c, c < 4 → k ≠ pg 1 (59 + c)) → (settle s t).reg k = t.reg k)
      ∧ (∀ d, (d < 11 ∨ 15 ≤ d) → (settle s t).pstate d = t.pstate d))

/-- Reset: no command waits, every register word reads its reset value and no memory word is listed, so the tables have their canonical
form; the device runs, its boot ROM has started, the domains that R459 names are on. -/
def Obligations.ResetState : Prop :=
  State.reset.pending = [] ∧ State.reset.tablesWf ∧ (∀ k, State.reset.reg k = resetWord k) ∧ (∀ k, State.reset.mem.get? k = none)
  ∧ State.reset.bit (pg 14 3) 5 = true ∧ State.reset.pwr.st = .run
  ∧ (∀ d, d < 16 → (State.reset.domOn d = true ↔ d ∈ [0, 1, 2, 3, 10, 11, 12, 13, 14, 15]))
  ∧ (∀ c : Fin 4, State.reset.cores[c.val].mode = .reset ∧ State.reset.cores[c.val].sr = 0 ∧ State.reset.cores[c.val].resv = none)
  ∧ State.reset.time.ns = 0 ∧ (∀ q, q < 8 → (State.reset.ses q).post = []) ∧ (∀ r, r < 64 → State.reset.ringOn r = false)

/-- Every step keeps the canonical form of the tables of register words and of memory words: keys rise strictly, and no register word
is listed at its reset value; so equal registers and equal memories are equal data. -/
def Obligations.StepKeepsTables : Prop :=
  ∀ s t : State, s.tablesWf → step s = .next t → t.tablesWf

/-- The personality is sampled on the rising edge of RST_N and holds until then: no other step changes it, neither a warm restart, a wake
nor an activation (00 R2); a brown-out restarts the device as after an assertion and release of RST_N, which samples it (14 R479). -/
def Obligations.PersonaHolds : Prop :=
  (∀ (p b : BitVec 2) (s : State), s.pins.rstN = false → ∃ t, exec (.rstNRelease p b) s = .next t ∧ t.pins.rstN = true
    ∧ t.pins.persona = (if p = 1 then .legacy else if p = 2 then .dual else .native))
  ∧ (∀ (p : BitVec 2) (s : State), s.pins.rstN = true → p = BitVec.ofNat 2 (Config.freeNat s.freeCtr) → ∃ t, exec .brownOut s = .next t
    ∧ t.pins.persona = (if p = 1 then .legacy else if p = 2 then .dual else .native))
  ∧ (∀ s t : State, step s = .next t → (∀ p b l, s.pending = .rstNRelease p b :: l → s.pins.rstN = true) →
      (∀ l, s.pending = .brownOut :: l → s.pins.rstN = false) → t.pins.persona = s.pins.persona)

/-- A blown OTP bit never returns to 0, whatever command runs and whatever power does (15 R517). -/
def Obligations.OtpBitsNeverClear : Prop :=
  ∀ (s t : State) (r i : Nat), step s = .next t → (s.otpRow r).getLsbD i = true → (t.otpRow r).getLsbD i = true

/-- The checks of a register write are made in their order, and the first that fails gives the code (00 R16): an unmapped address, the
writer's mask, a page that another session holds, the domain or the block that does not accept it, the range. Here for a session
and a page that has no path of its own; the writer that is not there writes nothing. -/
def Obligations.WriteChecksInOrder : Prop :=
  ∀ (s : State) (q : Fin 8) (v : Word), s.writerLive (.ses q) = true → s.windowOnly q.val = false →
    (∀ a : BitVec 24, s.windowWord (.ses q) a.toNat = none → regionOf a.toNat = none →
      exec (.registerWrite (.ses q) a v) s = .next (settle s (s.recordRefusal (.ses q) none 0 eUNMAPPED a.toNat)))
    ∧ (∀ (p wd : Nat) (h : Handler) (a : BitVec 24) (refuse : Nat → Host.Outcome State Fault Refusal),
      (p ≤ 50 ∨ 512 ≤ p ∧ p < 1024) → p ≠ 6 → p ≠ 7 → p ≠ 14 → p ≠ 40 → wd < 1024 → a.toNat = pageAddr p wd → h = pageHandler (.ses q) p wd v s →
      (∀ c, refuse c = .next (settle s (s.recordRefusal (.ses q) (some p) wd c (pageAddr p wd)))) →
      exec (.registerWrite (.ses q) a v) s =
        if s.permitted (.ses q) p wd = false then refuse ePERM
        else if s.lockedOut (.ses q) p wd = true then refuse eLOCKED
        else if s.domOn (homeDomain p) = false then refuse eSTATE
        else if s.bootRefuses (.ses q) p = true then refuse eBUSY
        else if h.state ≠ 0 then refuse h.state
        else if inRange (kindOf p) wd v = false ∨ h.range = false then refuse eRANGE
        else if h.extra ≠ 0 then refuse h.extra
        else .next (settle s h.result))
    ∧ (∀ (w : Writer) (a : BitVec 24), s.writerLive w = false → exec (.registerWrite w a v) s = .next (settle s s))

/-- What a refused write records (00 R17, R19): code and offset in the page's ERR and ERRADR unless ERR holds a code; for a session the
code, or the mark of a further one, with the address and the count; for a core the code in its CORE page with offset 0 and ERRE.
No other register word, no memory word and no other state changes. -/
def Obligations.RefusedWritesAreRecorded : Prop :=
  ∀ (s : State) (p off code a : Nat), Store.wf s.regs = true → p < 1024 → 1 ≤ code → code < 16 → off < 1024 → a < 16777216 →
    (∀ (w : Writer) (t : State), t = s.recordRefusal w (some p) off code a →
      (s.fld (pg p 6) 3 0 = 0 → (∀ c : Fin 4, w = .core c → p ≠ 45 + c.val) → t.fld (pg p 6) 3 0 = code ∧ t.fld (pg p 7) 9 0 = off)
      ∧ (s.fld (pg p 6) 3 0 ≠ 0 → (∀ c : Fin 4, w = .core c → p ≠ 45 + c.val) → t.reg (pg p 6) = s.reg (pg p 6)
        ∧ t.reg (pg p 7) = s.reg (pg p 7)))
    ∧ (∀ (q : Fin 8) (pp : Option Nat) (t : State), t = s.recordRefusal (.ses q) pp off code a → (pp = none ∨ pp = some p) →
      (s.fld (pg 5 (34 + 16 * q.val)) 3 0 = 0 → t.fld (pg 5 (34 + 16 * q.val)) 3 0 = code
        ∧ t.reg (pg 5 (35 + 16 * q.val)) = wordOf (a / 262144) ∧ t.reg (pg 5 (36 + 16 * q.val)) = wordOf a)
      ∧ (s.fld (pg 5 (34 + 16 * q.val)) 3 0 ≠ 0 → t.fld (pg 5 (34 + 16 * q.val)) 3 0 = s.fld (pg 5 (34 + 16 * q.val)) 3 0
        ∧ t.bit (pg 5 (34 + 16 * q.val)) 17 = true ∧ t.reg (pg 5 (35 + 16 * q.val)) = s.reg (pg 5 (35 + 16 * q.val))
        ∧ t.reg (pg 5 (36 + 16 * q.val)) = s.reg (pg 5 (36 + 16 * q.val)))
      ∧ t.asserted (131 + q.val) = true
      ∧ (∀ k, k ≠ pg p 6 → k ≠ pg p 7 → (∀ i, 34 ≤ i → i ≤ 37 → k ≠ pg 5 (i + 16 * q.val)) → t.reg k = s.reg k)
      ∧ { t with regs := s.regs } = s)
    ∧ (∀ (c : Fin 4) (pp : Option Nat) (t : State), t = s.recordRefusal (.core c) pp off code a → (pp = none ∨ pp = some p ∧ p ≠ 45 + c.val) →
      t.bit (pg (45 + c.val) 4) 4 = true
      ∧ (s.fld (pg (45 + c.val) 6) 3 0 = 0 → t.fld (pg (45 + c.val) 6) 3 0 = code ∧ t.reg (pg (45 + c.val) 7) = 0)
      ∧ (s.fld (pg (45 + c.val) 6) 3 0 ≠ 0 → t.reg (pg (45 + c.val) 6) = s.reg (pg (45 + c.val) 6)
        ∧ t.reg (pg (45 + c.val) 7) = s.reg (pg (45 + c.val) 7))
      ∧ (∀ k, k ≠ pg p 6 → k ≠ pg p 7 → k ≠ pg (45 + c.val) 4 → k ≠ pg (45 + c.val) 6 → k ≠ pg (45 + c.val) 7 → t.reg k = s.reg k)
      ∧ { t with regs := s.regs } = s)

/-- ERR.CODE and ERRADR.OFFSET become 0 together when the bits written with 1 cover CODE; fewer leave the rest and OFFSET; after the clear
the next refusal is recorded (01 R36). -/
def Obligations.ErrClearsTogether : Prop :=
  ∀ (s : State) (w : Writer) (p : Nat) (v : Word) (a : BitVec 24), Store.wf s.regs = true → (p ≤ 50 ∨ 512 ≤ p ∧ p < 1024) →
    a.toNat = pageAddr p 6 → s.Clear w p 6 v → (∀ q, w = .ses q → s.windowOnly q.val = false) →
    (10 ≤ p → p ≤ 13 → s.serClosed (p - 10) = false) → (p = 20 → s.legacyHeld = false) →
    ∃ t, exec (.registerWrite w a v) s = .next (settle s t) ∧ t.mem = s.mem
      ∧ (s.fld (pg p 6) 3 0 &&& fieldOf v 3 0 = s.fld (pg p 6) 3 0 → s.reg (pg p 6) &&& 0o17 = s.reg (pg p 6) →
        t.reg (pg p 6) = 0 ∧ t.reg (pg p 7) = 0
        ∧ (∀ code off, 1 ≤ code → code < 16 → off < 1024 → (t.pageErr p code off).fld (pg p 6) 3 0 = code
          ∧ (t.pageErr p code off).fld (pg p 7) 9 0 = off))
      ∧ (s.fld (pg p 6) 3 0 &&& fieldOf v 3 0 ≠ s.fld (pg p 6) 3 0 → t.reg (pg p 6) = s.reg (pg p 6) &&& ~~~ (v &&& 0o17)
        ∧ t.reg (pg p 7) = s.reg (pg p 7))

/-- What a write without a rule of its own does to each bit of its word (00 R12, R14): a bit of an RW field takes the value written, a
W1C bit clears where a 1 is written, every other bit stays; no other word changes. -/
def Obligations.PlainWritesFollowTheAccessCodes : Prop :=
  ∀ (s : State) (w : Writer) (p wd : Nat) (v : Word) (i : Nat) (f : WInfo), Store.wf s.regs = true → i < 18 → f = wordInfo (kindOf p) wd →
    (f.rw.testBit i = true → f.w1c.testBit i = false → (s.plain w p wd v).bit (keyFor w p wd) i = bitOf v i)
    ∧ (f.rw.testBit i = false → f.w1c.testBit i = true →
      (s.plain w p wd v).bit (keyFor w p wd) i = (s.bit (keyFor w p wd) i && !bitOf v i))
    ∧ (f.rw.testBit i = false → f.w1c.testBit i = false → (s.plain w p wd v).bit (keyFor w p wd) i = s.bit (keyFor w p wd) i)
    ∧ (∀ k, k ≠ keyFor w p wd → (s.plain w p wd v).reg k = s.reg k) ∧ { s.plain w p wd v with regs := s.regs } = s

/-- REGISTER_WRITE, PAGE_LOCK_TAKE, PAGE_LOCK_RELEASE and TAP_DEBUG_ACCESS run (00 R16; 01 R37; 15 R521): a word of shared RAM is stored, a
plain register takes its word. The lock of a page that is free goes to the session, one that is held is refused with LOCKED; the holder, the
supervisor, or any session where the page is free, frees it, another is refused with LOCKED; a writer that is no session, and one of a page that the
personality closes, is refused with STATE. The port reaches an address as it is granted, and nothing where it is not. -/
def Obligations.AddressedCommandsRun : Prop :=
  ∀ (s : State),
    (∀ (q : Fin 8) (o : BitVec 19) (v : Word), s.writerLive (.ses q) = true → s.windowOnly q.val = false → s.domOn 2 = true →
      s.memRefusal (.ses q) 13 2 (shramBase + o.toNat) = 0 →
      exec (.registerWrite (.ses q) (BitVec.ofNat 24 (shramBase + o.toNat)) v) s = .next (settle s (s.wrMem (shramBase + o.toNat) v)))
    ∧ (∀ (w : Writer) (v : Word), s.Clear w 9 17 v → (∀ q, w = .ses q → s.windowOnly q.val = false) →
      exec (.registerWrite w (BitVec.ofNat 24 (pageAddr 9 17)) v) s = .next (settle s (s.plain w 9 17 v)))
    ∧ (∀ (w : Writer) (p : BitVec 10) (closed : Prop) (own : State → State) (refuse : Nat → Host.Outcome State Fault Refusal),
      p.toNat ≤ 50 ∨ 512 ≤ p.toNat → (∀ q, w = .ses q → s.windowOnly q.val = false) →
      (closed ↔ (10 ≤ p.toNat ∧ p.toNat ≤ 13 ∧ s.serClosed (p.toNat - 10) = true) ∨ (p.toNat = 20 ∧ s.legacyHeld = true)) →
      (∀ t, own t = if p.toNat = 14 ∧ s.holdsLock w = true then t.setReg (updKey 17) 0 else t) →
      (∀ c, refuse c = .next (settle s (s.recordRefusal w (some p.toNat) 8 c (pageAddr p.toNat 8)))) →
      (s.Clear w p.toNat 8 8 →
        (closed ∨ (∀ q, w ≠ .ses q) → exec (.pageLockTake w p) s = refuse eSTATE)
        ∧ (¬ closed → ∀ q, w = .ses q →
          (s.bit (pg p.toNat 8) 3 = false →
            exec (.pageLockTake w p) s = .next (settle s (own (s.setReg (pg p.toNat 8) (wordOf (8 + q.val))))))
          ∧ (s.bit (pg p.toNat 8) 3 = true → exec (.pageLockTake w p) s = refuse eLOCKED)))
      ∧ (s.Clear w p.toNat 8 0 →
        (closed ∨ (∀ q, w ≠ .ses q) → exec (.pageLockRelease w p) s = refuse eSTATE)
        ∧ (¬ closed → ∀ q, w = .ses q →
          (s.bit (pg p.toNat 8) 3 = false ∨ s.fld (pg p.toNat 8) 2 0 = q.val ∨ q.val = s.supv →
            exec (.pageLockRelease w p) s = .next (settle s (own (s.setReg (pg p.toNat 8) 0))))
          ∧ (s.bit (pg p.toNat 8) 3 = true → s.fld (pg p.toNat 8) 2 0 ≠ q.val → q.val ≠ s.supv →
            exec (.pageLockRelease w p) s = refuse eLOCKED))))
    ∧ (∀ (a : BitVec 24) (v : Word), 2 ≤ s.tapRights → exec (.tapDebugAccess true a v) s = .next (settle s (s.writeAddr .tap a.toNat v)))
    ∧ (∀ (a : BitVec 24) (v : Word), 2 ≤ s.tapRights → exec (.tapDebugAccess false a v) s = .next (settle s (s.readAddr .tap a.toNat)))
    ∧ (∀ (w : Bool) (a : BitVec 24) (v : Word), s.tapRights < 2 → exec (.tapDebugAccess w a v) s = .next (settle s s))

/-! ### Sample ports and the Feed (spec/02) -/

/-- FEED_ENABLE, FEED_DISABLE, LANE_TRAIN and LANE_GO run (02 R49, R55, R57, R58, R75, R88). A write of FEEDn.CTRL is refused with STATE for
FEED0 where the personality holds it, with BUSY when it disables a port that a stream maps, with STATE when it asks for GO outside LOCKED, with
CONFIG when it enables a clock out of range or unlike that of the pair. Else the word is taken: EN = 0 sends the lane to DOWN, GO arms the
wait for data, TRAIN sends it to WAITCLK with the training timer started. -/
def Obligations.FeedCtrlCommandsRun : Prop :=
  ∀ (s : State) (w : Writer) (p : Fin 8) (v u : Word) (row : Instr) (refuse : Nat → Host.Outcome State Fault Refusal) (t x : State),
    (row, u) ∈ [(.feedEnable w p v, forceBit v 0 true), (.feedDisable w p v, forceBit v 0 false), (.laneTrain w p v, forceBit v 1 true),
      (.laneGo w p v, forceBit v 2 true)] → s.Clear w (20 + p.val) 2 u →
    (∀ c, refuse c = .next (settle s (s.recordRefusal w (some (20 + p.val)) 2 c (pageAddr (20 + p.val) 2)))) →
    t = s.plain w (20 + p.val) 2 u → x = (if bitOf u 2 then t.setFeed p { s.feed p with goArmed := true } else t) →
    (p.val = 0 → s.legacyHeld = true → exec row s = refuse eSTATE)
    ∧ ((p.val = 0 → s.legacyHeld = false) →
      (bitOf u 0 = false → (∃ n, n < 16 ∧ s.maps n p.val = true) → exec row s = refuse eBUSY)
      ∧ ((bitOf u 0 = false → ∀ n, n < 16 → s.maps n p.val = false) →
        (bitOf u 2 = true → s.lane p.val ≠ 4 → exec row s = refuse eSTATE)
        ∧ ((bitOf u 2 = true → s.lane p.val = 4) →
          (bitOf u 0 = false → exec row s = .next (settle s ((t.setLane p 0).setFeed p
            { s.feed p with goArmed := false, timerOn := false, confirming := false })))
          ∧ (bitOf u 0 = true → s.clockOk p.val (s.fmt p.val) (s.reg (fdKey p.val 17)).toNat = false → exec row s = refuse eCONFIG)
          ∧ (bitOf u 0 = true → s.clockOk p.val (s.fmt p.val) (s.reg (fdKey p.val 17)).toNat = true → exec row s
            = .next (settle s (if bitOf u 1 then
                (x.setLane p 1).setFeed p { x.feed p with timerOn := true, goArmed := false, confirming := false } else x))))))

/-- The events of lane training run (02 R55 to R58; 10 R360): the count of step 2, a gap in it, the sweep, the alignment, the confirmation,
the time-out, the loss of the clock. In each the lane takes the state that the table of R55 names; the legacy sample input arms GO at its
confirmation; in another state, or before its count of words, an event changes nothing.

LANE_WORD runs in every lane state (02 R55 to R57, R60): a training word that differs restarts the sweep, in the confirmation too, one
that matches counts; in LOCKED a training word is passed over, the first differing word after GO is data, without GO a failure; in DATA the
word carries samples (in LEGACY those of SP0 only, 02 R88); in the other states it is not looked at. A running capture follows in each. -/
def Obligations.LaneEventsRun : Prop :=
  (∀ (s : State) (p : Fin 8) (x : Feed), x = s.feed p →
      (s.lane p.val = 1 → exec (.waitclkCountDone p true) s = .next (settle s (s.setLane p 2))
        ∧ exec (.waitclkCountDone p false) s = .next (settle s (s.laneFail p eCONFIG))
        ∧ exec (.waitclkGap p) s = .next (settle s (s.setLane p 1)))
      ∧ (s.lane p.val ≠ 1 → ∀ ok, exec (.waitclkCountDone p ok) s = .next (settle s s) ∧ exec (.waitclkGap p) s = .next (settle s s))
      ∧ (∀ ok, (∀ d, s.lane p.val = 2 → chooseStep ok = some d →
          exec (.sweepDone p ok) s = .next (settle s (((s.setF (fdKey p.val 3) 11 6 d).setLane p 3).setFeed p
            { x with wordCnt := 0, rotCand := 255, confirming := false })))
        ∧ (s.lane p.val = 2 → chooseStep ok = none → exec (.sweepDone p ok) s = .next (settle s (s.laneFail p eTIMEOUT)))
        ∧ (s.lane p.val ≠ 2 → exec (.sweepDone p ok) s = .next (settle s s)))
      ∧ (s.lane p.val = 3 → x.confirming = false → 64 ≤ x.wordCnt →
        exec (.alignDone p) s = .next (settle s ((s.setF (fdKey p.val 3) 5 3 (lowBit x.rotCand)).setFeed p
          { x with confirming := true, wordCnt := 0 })))
      ∧ (s.lane p.val ≠ 3 ∨ x.confirming = true ∨ x.wordCnt < 64 → exec (.alignDone p) s = .next (settle s s))
      ∧ (s.lane p.val = 3 → x.confirming = true → 1024 ≤ x.wordCnt →
        exec (.trainConfirmDone p) s = .next (settle s (((s.setLane p 4).setFeed p { x with
          confirming := false, timerOn := false
          goArmed := decide (p.val = 0) && s.legacyDual && s.bit (pg lwinPage 0o30) 17 }).raise (20 + p.val) 0)))
      ∧ (s.lane p.val ≠ 3 ∨ x.confirming = false ∨ x.wordCnt < 1024 → exec (.trainConfirmDone p) s = .next (settle s s))
      ∧ exec (.trainTimeout p) s = .next (settle s (if x.timerOn then s.laneFail p eTIMEOUT else s))
      ∧ (∀ (m : Fin 4) (down : State → Fin 8 → State), (∀ t k, down t k = if 2 ≤ t.lane k.val ∧ t.lane k.val ≤ 5 then
          ((t.setLane k 6).setFeed k { t.feed k with goArmed := false, timerOn := false, confirming := false }).raise (20 + k.val) 2
        else t) →
        exec (.clockLoss m) s = .next (settle s (down (down s ⟨2 * m.val, by omega⟩) ⟨2 * m.val + 1, by omega⟩))))
  ∧ (∀ (s : State) (p : Fin 8) (b pat m : BitVec 8) (x : Feed) (ends : State → Host.Outcome State Fault Refusal), x = s.feed p →
      pat = trainPattern (s.fmt p.val) → m = x.rotCand &&& matchRot pat b → (∀ t, ends t = .next (settle s t.captureAll)) →
      (s.lane p.val = 3 → x.confirming = false →
        exec (.laneWord p b) s = ends (if m = 0 then (s.setLane p 2).setFeed p { x with wordCnt := 0, rotCand := 255 }
          else s.setFeed p { x with wordCnt := x.wordCnt + 1, rotCand := m }))
      ∧ (s.lane p.val = 3 → x.confirming = true → exec (.laneWord p b) s
        = ends (if b = pat then s.setFeed p { x with wordCnt := x.wordCnt + 1 }
          else (s.setLane p 2).setFeed p { x with wordCnt := 0, rotCand := 255, confirming := false }))
      ∧ (∀ t, t = (s.setLane p 5).setFeed p { x with goArmed := false } → s.lane p.val = 4 →
        (b = pat → exec (.laneWord p b) s = ends s)
        ∧ (b ≠ pat → x.goArmed = true → exec (.laneWord p b) s
          = ends (if s.pins.persona = .legacy ∧ p.val ≠ 0 then t else t.dataWord p b))
        ∧ (b ≠ pat → x.goArmed = false → exec (.laneWord p b) s = ends (s.laneFail p 0)))
      ∧ (s.lane p.val = 5 → exec (.laneWord p b) s = ends (if s.pins.persona = .legacy ∧ p.val ≠ 0 then s else s.dataWord p b))
      ∧ (s.lane p.val ≠ 3 → s.lane p.val ≠ 4 → s.lane p.val ≠ 5 → exec (.laneWord p b) s = ends s))

/-- NOTCH_ADAPT, BLANKER_LIMIT, SUBSTREAM_FREQ_WRITE, CLOCK_GATE_END and AGC_UPDATE run (02 R59, R65, R68, R70, R85).
NOTCH_ADAPT: in ADAPT and AUTO, 2^UDIV samples after the last step or later, THETA moves by 2^MU, modulo 2^18, towards the sign of the
gradient and keeps its value where the gradient is 0. BLANKER_LIMIT: with the blanker enabled and its count at the limit or above, the
blanker stops, LIMIT is set and event 5 raised. These two and AGC_UPDATE do nothing where they are not due or not on.
SUBSTREAM_FREQ_WRITE: the word is taken and FRH and the word wait as the frequency for the
frame boundary. CLOCK_GATE_END: while CKRUN = 1 the count of the module is shown in its two words, and while CKRUN = 0 nothing changes.
AGC_UPDATE: in AUTO AOCC and DUTY are written: DUTY moves by STEP, in the direction of APOL, where AOCC lies outside ATGT ± HYST, is
held within AMIN to AMAX, and event 6 is raised where it was held. Samples per frame of a real format with an odd PRATE, and the span
and the rounding of AOCC, are the model's choice (log 63). -/
def Obligations.FeedLoopsRun : Prop :=
  ∀ (s : State) (p : Fin 8),
    (∀ (k : Fin 4) (g : Rat) (th d : Word), 2 ≤ s.fld (fdKey p.val (23 + 3 * k.val)) 17 16 →
      2 ^ s.fld (fdKey p.val (23 + 3 * k.val)) 7 4 ≤ (s.feed p).notch[k.val].n → g = notchG s p.val k.val (s.feed p).notch[k.val] →
      th = s.reg (fdKey p.val (24 + 3 * k.val)) → d = wordOf (2 ^ s.fld (fdKey p.val (23 + 3 * k.val)) 11 8) →
      exec (.notchAdapt p k) s = .next (settle s ((s.setReg (fdKey p.val (24 + 3 * k.val))
        (if 0 < g then th + d else if g < 0 then th - d else th)).setFeed p
          { s.feed p with notch := (s.feed p).notch.set k.val { (s.feed p).notch[k.val] with n := 0 } })))
    ∧ (∀ k : Fin 4, s.fld (fdKey p.val (23 + 3 * k.val)) 17 16 < 2
        ∨ (s.feed p).notch[k.val].n < 2 ^ s.fld (fdKey p.val (23 + 3 * k.val)) 7 4 →
      exec (.notchAdapt p k) s = .next (settle s s))
    ∧ (∀ spf : Nat, s.bit (fdKey p.val 35) 17 = true → (s.feed p).blkStop = false →
      spf = (s.reg (fdKey p.val 17)).toNat / (if isReal (s.fmt p.val) then 2 else 1) →
      s.fld (fdKey p.val 36) 17 10 * spf ≤ (s.feed p).blkHits * 256 →
      exec (.blankerLimit p) s
        = .next (settle s (((s.setFeed p { s.feed p with blkStop := true }).setB (fdKey p.val 37) 17 true).raise (20 + p.val) 5)))
    ∧ (∀ spf : Nat, spf = (s.reg (fdKey p.val 17)).toNat / (if isReal (s.fmt p.val) then 2 else 1) → s.bit (fdKey p.val 35) 17 = false
        ∨ (s.feed p).blkStop = true ∨ (s.feed p).blkHits * 256 < s.fld (fdKey p.val 36) 17 10 * spf →
      exec (.blankerLimit p) s = .next (settle s s))
    ∧ (∀ (w : Writer) (sub : Fin 2) (v : Word), s.Clear w (20 + p.val) (39 + 4 * sub.val) v → (p.val = 0 → s.legacyHeld = false) →
      exec (.substreamFreqWrite w p sub v) s = .next (settle s ((s.plain w (20 + p.val) (39 + 4 * sub.val) v).setFeed p
        { s.feed p with sub := (s.feed p).sub.set sub.val { (s.feed p).sub[sub.val] with
            fPend := some (BitVec.ofNat 36 ((s.reg (fdKey p.val (38 + 4 * sub.val))).toNat * 262144 + v.toNat)) } })))
    ∧ (∀ (w : Writer) (sub : Fin 2) (v : Word), s.Clear w 20 (39 + 4 * sub.val) v → s.legacyHeld = true →
      exec (.substreamFreqWrite w 0 sub v) s
        = .next (settle s (s.recordRefusal w (some 20) (39 + 4 * sub.val) eSTATE (pageAddr 20 (39 + 4 * sub.val)))))
    ∧ (∀ (m : Fin 4) (n : BitVec 36), exec (.clockGateEnd m n) s
        = .next (settle s (if s.bit (pg 28 2) 0 then s.setReg2 (pg 28 (35 + 2 * m.val)) n.toNat else s)))
    ∧ (∀ (occ tgt hyst : Nat) (duty gain want got : Int) (t : State), s.fld (fdKey p.val 46) 17 16 = 2 →
      occ = min 1023 (if (s.feed p).agcTotal = 0 then 0 else (s.feed p).agcHits * 1024 / (s.feed p).agcTotal) →
      tgt = (s.reg (fdKey p.val 48)).toNat → hyst = s.fld (fdKey p.val 46) 3 0 → duty = s.fld (fdKey p.val 47) 9 0 →
      gain = (if s.bit (fdKey p.val 46) 15 then -(s.fld (fdKey p.val 46) 8 4 : Int) else s.fld (fdKey p.val 46) 8 4) →
      want = (if occ + hyst < tgt then duty + gain else if tgt + hyst < occ then duty - gain else duty) →
      got = max (s.fld (fdKey p.val 49) 9 0 : Int) (min (s.fld (fdKey p.val 50) 9 0 : Int) want) →
      t = ((s.setReg (fdKey p.val 51) (wordOf occ)).setReg (fdKey p.val 47) (wordOfInt got)).setFeed p
        { s.feed p with agcHits := 0, agcTotal := 0 } →
      exec (.agcUpdate p) s = .next (settle s (if got = want then t else t.raise (20 + p.val) 6)))
    ∧ (s.fld (fdKey p.val 46) 17 16 ≠ 2 → exec (.agcUpdate p) s = .next (settle s s))

/-- STREAM_ENABLE and STREAM_DISABLE run (02 R75, R79, R88): an enabled stream takes its units of the Feed buffer and begins with an empty
buffer; a disabled stream that nobody uses gives them back and keeps the number of its next sample alone. A write of SMAP0 where the
personality holds it, and one that moves an enabled stream to another path, is refused with STATE, a disable of a stream in use with BUSY, an
enable on a path that another stream maps, or beyond the buffer, with CONFIG; one that changes neither is a plain write. RFSPI_TRANSFER,
RFSPI_READY, RFSPI_READY_TIMEOUT and RFSPI_DONE run (R86, R87): the chip select goes low and RFBUSY is set, unless a transfer runs, which is
BUSY; the LEN + 1 bits from RFTX0 bit 17 on go out at once or when the peripheral is ready; a peripheral that is not ready in time ends the
transfer with TIMEOUT, and the received bits stand in RFRX0 to RFRX3 with unused bits 0. SPECTRUM_RECORD_TICK runs (R81, R82): a record goes
to the monitor's ring and counts in SPSEQ, or is dropped and counts in SPDRP where the ring is not its own, is full or the HIF domain is off
(log 64: a dropped record's blocks are not offered again). An event with nothing at hand changes nothing. -/
def Obligations.StreamAndRfCommandsRun : Prop :=
  ∀ (s : State) (w : Writer) (v : Word),
    (∀ (n : Fin 16) (u : Word) (row : Instr) (refuse : Nat → Host.Outcome State Fault Refusal) (t : State) (moved : Prop) (need : Nat),
      (row, u) ∈ [(.streamEnable w n v, forceBit v 17 true), (.streamDisable w n v, forceBit v 17 false)] → s.Clear w 28 (16 + n.val) u →
      (∀ c, refuse c = .next (settle s (s.recordRefusal w (some 28) (16 + n.val) c (pageAddr 28 (16 + n.val))))) →
      t = s.plain w 28 (16 + n.val) u → (moved ↔ fieldOf u 3 1 ≠ s.fld (smapKey n.val) 3 1 ∨ fieldOf u 0 0 ≠ s.fld (smapKey n.val) 0 0) →
      need = s.unitsOf (fieldOf u 3 1) (fieldOf u 0 0) →
      (n.val = 0 → s.legacyHeld = true → exec row s = refuse eSTATE)
      ∧ ((n.val = 0 → s.legacyHeld = false) →
        (s.bit (smapKey n.val) 17 = true →
          (bitOf u 17 = false → s.streamUsed n.val = true → exec row s = refuse eBUSY)
          ∧ ((bitOf u 17 = false → s.streamUsed n.val = false) → moved → exec row s = refuse eSTATE)
          ∧ (bitOf u 17 = true → ¬ moved → exec row s = .next (settle s t))
          ∧ (bitOf u 17 = false → s.streamUsed n.val = false → ¬ moved → exec row s = .next (settle s
            { (t.setValid n.val false).setReg (pg 28 33) (wordOf ((s.reg (pg 28 33)).toNat - s.streams[n.val].units)) with
                streams := s.streams.set n.val { Stream.reset with next := s.streams[n.val].next } })))
        ∧ (s.bit (smapKey n.val) 17 = false →
          (bitOf u 17 = false → exec row s = .next (settle s t))
          ∧ (bitOf u 17 = true → (∃ m, m < 16 ∧ m ≠ n.val ∧ s.mapsPath m (fieldOf u 3 1) (fieldOf u 0 0) = true)
              ∨ 65536 < (s.reg (pg 28 33)).toNat + need → exec row s = refuse eCONFIG)
          ∧ (bitOf u 17 = true → (∀ m, m < 16 → m ≠ n.val → s.mapsPath m (fieldOf u 3 1) (fieldOf u 0 0) = false) →
            (s.reg (pg 28 33)).toNat + need ≤ 65536 → exec row s = .next (settle s
              { t.setReg (pg 28 33) (wordOf ((s.reg (pg 28 33)).toNat + need)) with
                streams := s.streams.set n.val { Stream.reset with
                  next := s.streams[n.val].next, units := need, zeroAt := s.time.ns } })))))
    ∧ (∀ u, u = forceBit v 1 true → s.Clear w 28 2 u →
      (s.bit (pg 28 3) 0 = true →
        exec (.rfspiTransfer w v) s = .next (settle s (s.recordRefusal w (some 28) 2 eBUSY (pageAddr 28 2))))
      ∧ (s.bit (pg 28 3) 0 = false →
        exec (.rfspiTransfer w v) s = .next (settle s { (s.plain w 28 2 u).setB (pg 28 3) 0 true with
          rf := ⟨s.bit (pg 28 43) 13, some (Fin.ofNat 4 (s.fld (pg 28 43) 17 16)), Fin.ofNat 4 (s.fld (pg 28 43) 15 14),
            if s.bit (pg 28 43) 13 then [] else s.rfBits⟩ })))
    ∧ (s.rf.waiting = true →
      exec .rfspiReady s = .next (settle s { s with rf := { s.rf with waiting := false, out := s.rfBits } })
      ∧ exec .rfspiReadyTimeout s = .next (settle s (((s.rfIdle.setB (pg 28 3) 0 false).raise 28 1).pageErr 28 eTIMEOUT 2)))
    ∧ (s.rf.waiting = false → exec .rfspiReady s = .next (settle s s) ∧ exec .rfspiReadyTimeout s = .next (settle s s))
    ∧ (∀ (rx : BitVec 64) (n x : Nat), s.bit (pg 28 3) 0 = true → s.rf.waiting = false → n = s.fld (pg 28 43) 5 0 + 1 →
      x = rx.toNat / 2 ^ (64 - n) * 2 ^ (64 - n) * 256 →
      exec (.rfspiDone rx) s = .next (settle s (((s.rfIdle.setRegs (pg 28 49)
        [wordOf (x / 2 ^ 54), wordOf (x / 2 ^ 36), wordOf (x / 2 ^ 18), wordOf x]).setB (pg 28 3) 0 false).raise 28 0)))
    ∧ (∀ rx, s.bit (pg 28 3) 0 = false ∨ s.rf.waiting = true → exec (.rfspiDone rx) s = .next (settle s s))
    ∧ (∀ (m : Fin 8) (t0 : BitVec 16) (b : Nat × List Rat) (r : Nat) (t : State), s.bit (spcKey m.val) 17 = true → (s.feed m).spec.done = some b →
      r = s.fld (spcKey m.val + 1) 5 0 → t = s.setFeed m { s.feed m with spec := { (s.feed m).spec with done := none } } →
      (s.prodIs r 13 = true → 1032 ≤ s.ringRoom r → s.domOn 2 = true →
        exec (.spectrumRecordTick m true t0) s = .next (settle s
          (((t.ringPut r (s.specRecord m.val ((b.1 + t0.toNat) % 2 ^ 64, b.2))).setReg (spcKey m.val + 2) (s.reg (spcKey m.val + 2) + 1)).raise 29 m.val)))
      ∧ (s.prodIs r 13 = false ∨ s.ringRoom r < 1032 → s.domOn 2 = true →
        exec (.spectrumRecordTick m true t0) s = .next (settle s ((t.incSat (spcKey m.val + 3)).raise 29 (8 + m.val))))
      ∧ (s.domOn 2 = false →
        exec (.spectrumRecordTick m true t0) s = .next (settle s (((t.unitFails 29).incSat (spcKey m.val + 3)).raise 29 (8 + m.val)))))
    ∧ (∀ (m : Fin 8) (blocksDone : Bool) (t0 : BitVec 16), s.bit (spcKey m.val) 17 = false ∨ blocksDone = false ∨ (s.feed m).spec.done = none →
      exec (.spectrumRecordTick m blocksDone t0) s = .next (settle s s))

/-- While a transfer of the RF control SPI runs, RFGO and the words of RFCTL, RFRDY and RFTX are refused with BUSY, and nothing but the
error records changes (02 R87). -/
def Obligations.RfspiWaitsForTheTransfer : Prop :=
  ∀ (s : State) (w : Writer) (v : Word) (wd : Nat) (a : BitVec 24), s.bit (pg 28 3) 0 = true → s.Clear w 28 wd v →
    (∀ q, w = .ses q → s.windowOnly q.val = false) → (wd = 2 ∧ bitOf v 1 = true ∨ 43 ≤ wd ∧ wd ≤ 48) → a.toNat = pageAddr 28 wd →
    exec (.registerWrite w a v) s = .next (settle s (s.recordRefusal w (some 28) wd eBUSY (pageAddr 28 wd)))
    ∧ (∀ u, wd = 2 → v = forceBit u 1 true →
      exec (.rfspiTransfer w u) s = .next (settle s (s.recordRefusal w (some 28) wd eBUSY (pageAddr 28 wd))))

/-! ### Codes, channels and the Ductus (spec/03, spec/04, spec/05) -/

/-- PROGRAM_VALIDATE, PROGRAM_INVALIDATE, REGION_VALIDATE and REGION_INVALIDATE run (03 R101, R104): the word is written, and a change
of VALID empties the cache of generated chips (06 R203).

A program or a region that channels use cannot be made invalid (03 R101, R104): the write is refused with BUSY, and nothing but the
error records changes.

RETARGET, TMBL_WRITE and EXEMPLAR_WRITE run (03 R102, R105, R110, R113). A retarget of two alike regions names them and switches the
channels that are ADMITTED, PARKED or in FAULT at once; TMBL applies the held TMB; a code word with good parity that no valid
region in use covers is stored and the chip cache emptied. -/
def Obligations.CodeCommandsRun : Prop :=
  (∀ (s : State) (w : Writer) (v : Word),
      (∀ (p : Fin 32) (u : Word), u = forceBit v 17 true → s.Clear w 39 (32 + 12 * p.val) u → (s.legacyDual = true → p.val < 30) →
        s.lpValid p.val = false → s.programOk p.val (fieldOf u 16 15) (fieldOf u 11 6) (fieldOf u 5 0) = true →
        exec (.programValidate w p v) s = .next (settle s (s.plain w 39 (32 + 12 * p.val) u).dropCache))
      ∧ (∀ (p : Fin 32) (u : Word), u = forceBit v 17 false → s.Clear w 39 (32 + 12 * p.val) u → (s.legacyDual = true → p.val < 30) →
        s.lpValid p.val = true → s.puse p.val = 0 →
        exec (.programInvalidate w p v) s = .next (settle s (s.plain w 39 (32 + 12 * p.val) u).dropCache))
      ∧ (∀ (r : Fin 64) (u : Word) (len stride : Nat), u = forceBit v 17 true → s.Clear w 39 (416 + 4 * r.val) u → s.rdValid r.val = false →
        len = fieldOf u 15 12 * 262144 + (s.reg (rdKey r.val 3)).toNat → stride = s.fld (rdKey r.val 2) 14 0 → 1 ≤ len →
        len ≤ stride * 256 → s.fld (rdKey r.val 1) 14 0 + (fieldOf u 7 0 + 1) * stride ≤ 32768 →
        exec (.regionValidate w r v) s = .next (settle s (s.plain w 39 (416 + 4 * r.val) u).dropCache))
      ∧ (∀ (r : Fin 64) (u : Word), u = forceBit v 17 false → s.Clear w 39 (416 + 4 * r.val) u → s.rdValid r.val = true →
        s.ruse r.val = 0 → exec (.regionInvalidate w r v) s = .next (settle s (s.plain w 39 (416 + 4 * r.val) u).dropCache)))
  ∧ (∀ (s : State) (w : Writer) (v : Word),
      (∀ p : Fin 32, s.Clear w 39 (32 + 12 * p.val) (forceBit v 17 false) → (s.legacyDual = true → p.val < 30) → 0 < s.puse p.val →
        exec (.programInvalidate w p v) s
          = .next (settle s (s.recordRefusal w (some 39) (32 + 12 * p.val) eBUSY (pageAddr 39 (32 + 12 * p.val)))))
      ∧ (∀ r : Fin 64, s.Clear w 39 (416 + 4 * r.val) (forceBit v 17 false) → 0 < s.ruse r.val →
        exec (.regionInvalidate w r v) s
          = .next (settle s (s.recordRefusal w (some 39) (416 + 4 * r.val) eBUSY (pageAddr 39 (416 + 4 * r.val))))))
  ∧ (∀ (s : State) (w : Writer) (v : Word),
      (∀ (u : Word) (o n : Nat) (x : State), u = forceBit v 0 true → s.Clear w 39 2 u → s.bit (pg 39 3) 0 = false →
        o = s.fld (pg 39 16) 11 6 → n = s.fld (pg 39 16) 5 0 → s.rdValid o = true → s.rdValid n = true →
        s.bit (rdKey o 0) 16 = s.bit (rdKey n 0) 16 → s.rdLen o = s.rdLen n → s.rdCount o = s.rdCount n → o ≠ n →
        x = { (s.plain w 39 2 u).setB (pg 39 3) 0 true with exm := { s.exm with retOld := o, retNew := n } } →
        exec (.retarget w v) s = .next (settle s
          ((x.chansIn fun st => st == 1 || st == 4 || st == 5).foldl (fun t c => t.switchChan c) x).retargetDone))
      ∧ (s.Clear w 39 24 v → exec (.tmblWrite w v) s = .next (settle s { s.plain w 39 24 v with
          exm := { s.exm with tmb := BitVec.ofNat 33 (s.fld (pg 39 23) 14 0 * 262144 + v.toNat) } }))
      ∧ (∀ o : BitVec 19, s.writerLive w = true → s.domOn 10 = true → s.memRefusal w 15 10 (exmpBase + o.toNat) = 0 →
        s.exmpInUse o.toNat = false → exmpParity v = true →
        exec (.exemplarWrite w o v) s = .next (settle s ((s.wrMem (exmpBase + o.toNat) v).dropCache))))

/-- CHANNEL_ADMIT, CHANNEL_DISABLE, CHANNEL_TRACK and CHANNEL_DROP run (04 R118 to R121): an admission waits in the Ductus queue with its
request bit set, a disable takes effect at the frame boundary, track and drop change the state at once and raise their event.

A channel command that its state does not allow is refused (04 R119): ADMIT outside OFF and PARKED, DIS in OFF, TRACK outside
SEARCHING-HANDOFF and DROP outside TRACKING with STATE. -/
def Obligations.ChannelCommandsRun : Prop :=
  (∀ (s : State) (w : Writer) (c : Fin 512), s.isLegacy c.val = false → s.bit (chKey c.val 16) 17 = false →
      (s.Clear w (512 + c.val) 2 1 → (s.chState c.val = 0 ∨ s.chState c.val = 4) → s.bit (chKey c.val 3) 0 = false →
        s.namesOld c.val = false → s.admissionOk c.val = true →
        exec (.channelAdmit w c) s = .next (settle s { (s.setB (chKey c.val 3) 0 true).setChan c.val { s.chan c.val with reqBy := some w } with
          duct := { s.duct with admQ := s.duct.admQ ++ [c.val] } }))
      ∧ (s.Clear w (512 + c.val) 2 2 → s.chState c.val ≠ 0 → s.bit (chKey c.val 3) 0 = false →
        exec (.channelDisable w c) s = .next (settle s (s.setChan c.val { s.chan c.val with disPend := true })))
      ∧ (s.Clear w (512 + c.val) 2 4 → s.chState c.val = 2 →
        exec (.channelTrack w c) s = .next (settle s (s.moveTo c.val 3 3)))
      ∧ (s.Clear w (512 + c.val) 2 8 → s.chState c.val = 3 →
        exec (.channelDrop w c) s = .next (settle s (s.moveTo c.val 2 2))))
  ∧ (∀ (s : State) (w : Writer) (c : Fin 512), s.isLegacy c.val = false → s.bit (chKey c.val 16) 17 = false →
      ∀ r, r = s.recordRefusal w (some (512 + c.val)) 2 eSTATE (pageAddr (512 + c.val) 2) →
      (s.Clear w (512 + c.val) 2 1 → s.chState c.val ≠ 0 → s.chState c.val ≠ 4 → exec (.channelAdmit w c) s = .next (settle s r))
      ∧ (s.Clear w (512 + c.val) 2 2 → s.chState c.val = 0 → exec (.channelDisable w c) s = .next (settle s r))
      ∧ (s.Clear w (512 + c.val) 2 4 → s.chState c.val ≠ 2 → exec (.channelTrack w c) s = .next (settle s r))
      ∧ (s.Clear w (512 + c.val) 2 8 → s.chState c.val ≠ 3 → exec (.channelDrop w c) s = .next (settle s r)))

/-- CONTEXT_WRITE, PHASE_SET_ARM and UPDATE_COMMIT run (04 R125, R126, R134, R135, R143). A context word that its class lets the writer
change is stored, by the channel page or through the Quire region alike; a phase set waits for its boundary; an update is staged
with the boundary that the closure window gives it.

A store to one context word reaches no other word of memory, and ends the reservations of its granule (04 R125; 09 R315). -/
def Obligations.ContextCommandsRun : Prop :=
  (∀ (s : State) (w : Writer) (c : Fin 512) (v : Word),
      (∀ k : Fin 64, s.Clear w (512 + c.val) (64 + k.val) v → s.lost (ctxKey c.val k.val) = false → s.ctxRefusal c.val k.val = 0 →
        exec (.contextWrite w false c k v) s = .next (settle s (s.wrMem (ctxKey c.val k.val) v)))
      ∧ (∀ k : Fin 64, s.writerLive w = true → s.domOn 10 = true → s.memRefusal w 15 10 (ctxKey c.val k.val) = 0 →
        s.lockedOut w (512 + c.val) (64 + k.val) = false → s.ctxRefusal c.val k.val = 0 →
        exec (.contextWrite w true c k v) s = .next (settle s (s.wrMem (ctxKey c.val k.val) v)))
      ∧ (∀ u : Word, u = forceBit v 17 true → s.Clear w (512 + c.val) 38 u → s.isLegacy c.val = false → s.bit (chKey c.val 16) 17 = false →
        holdsSlots (s.chState c.val) = true → s.bit (chKey c.val 3) 1 = false → s.chPage2 c.val 32 < s.primary c.val →
        (s.align c.val = 3 ∨ fieldOf u 4 0 < s.imul c.val) → s.fk c.val ≤ (s.chan c.val).fklim →
        exec (.phaseSetArm w c v) s
          = .next (settle s ((s.plain w (512 + c.val) 38 u).arm c.val ((s.plain w (512 + c.val) 38 u).staged c.val (fieldOf u 4 0)))))
      ∧ (s.Clear w (512 + c.val) 30 v → s.isLegacy c.val = false → s.bit (chKey c.val 16) 17 = false →
        correlates (s.chState c.val) = true → fieldOf v 3 0 ≠ 0 → ((fieldOf v 3 0).testBit 1 = true → 1 ≤ s.chPage2 c.val 26
          ∧ s.chPage2 c.val 26 ≤ 2 ^ 35 ∧ s.chPage2 c.val 26 ≤ (s.chan c.val).fklim ∧ s.timeOk c.val (s.chPage2 c.val 26) = true) →
        exec (.updateCommit w c v) s = .next (settle s (s.commitUpdate c.val (fieldOf v 3 0)
          [s.reg (chKey c.val 24), s.reg (chKey c.val 25), s.reg (chKey c.val 26), s.reg (chKey c.val 27), s.reg (chKey c.val 28),
            s.reg (chKey c.val 29)] (some w)))))
  ∧ (∀ (s t : State) (w : Writer) (via : Bool) (c : Fin 512) (k : Fin 64) (v : Word),
      exec (.contextWrite w via c k v) s = .next t →
        (∀ a, a ≠ ctxKey c.val k.val → t.mem.get? a = s.mem.get? a)
        ∧ (t.mem.get? (ctxKey c.val k.val) = some v ∨ t.mem.get? (ctxKey c.val k.val) = s.mem.get? (ctxKey c.val k.val))
        ∧ t.chans = s.chans ∧ t.duct = s.duct ∧ t.feeds = s.feeds ∧ t.streams = s.streams ∧ t.sess = s.sess ∧ t.upd = s.upd
        ∧ t.time = s.time ∧ t.pins = s.pins)

/-- ADMISSION_DECISION, WINDOW_WRITE, RANK_DISABLE, RANK_ENABLE and RANK_SLOT run (05 R157, R163 to R166, R172, R174, R176, R178): the
request at the front of the queue is admitted to the rank and the slots that are chosen, a legacy one to its own slots of rank 0,
reported and taken off the queue; a request whose checks fail leaves the queue with CONFIG, one for which no rank has the slots with
ADMIT; nothing is decided with an empty queue or the Quire off. A window within the slots of every channel is taken, another is CONFIG;
an enabled rank drains, an enabling one is disabled, a disabled one is enabling, other states stay, and a draining one refuses to be
enabled; an enabled or draining rank serves the channel that its table names for the slot, if there is one. -/
def Obligations.DuctusCommandsRun : Prop :=
  ∀ (s : State) (w : Writer) (v : Word),
    (∀ (c : Nat) (q : List Nat) (s0 : State) (d : Nat), s.duct.admQ = c :: q → s.domOn 10 = true →
      s0 = s.dequeue c q → s0.namesOld c = false → s0.admissionOk c = true →
      s.isLegacy c = false → d = max (s.dRate c) ((s.dClose c (fklimOf (s.fk c)) s.winNow).getD 0) → (s0.choose d).1 = 0 →
      exec .admissionDecision s = .next (settle s ((s0.reportDecision c (s0.choose d).2.1 0 d (s.dRate c)
        ((s.dClose c (fklimOf (s.fk c)) s.winNow).getD 0) (s0.choose d).2.2).takeSlots c (s0.choose d).2.1 (s0.choose d).2.2 d)))
    ∧ (s.duct.admQ = [] ∨ s.domOn 10 = false → exec .admissionDecision s = .next (settle s s))
    ∧ (∀ (c : Nat) (q : List Nat) (s0 : State), s.duct.admQ = c :: q → s.domOn 10 = true → s0 = s.dequeue c q → s0.namesOld c = false →
      s0.admissionOk c = true →
      (s.isLegacy c = true → s.rstate 0 ≠ 1 → ∃ rank off, exec .admissionDecision s = .next (settle s
        ((s0.free.2.free.2.reportDecision c rank 3 4 (s.dRate c) ((s.dClose c (fklimOf (s.fk c)) s.winNow).getD 0) off).refuseRequest
          c eADMIT)))
      ∧ (∀ d, s.isLegacy c = false → d = max (s.dRate c) ((s.dClose c (fklimOf (s.fk c)) s.winNow).getD 0) → (s0.choose d).1 ≠ 0 →
        ∃ rank off, exec .admissionDecision s = .next (settle s ((s0.free.2.free.2.reportDecision c rank (s0.choose d).1 d (s.dRate c)
          ((s.dClose c (fklimOf (s.fk c)) s.winNow).getD 0) off).refuseRequest c eADMIT))))
    ∧ (∀ (c : Nat) (q : List Nat) (s0 : State), s.duct.admQ = c :: q → s.domOn 10 = true → s0 = s.dequeue c q → s0.namesOld c = false →
      s0.admissionOk c = true → s.isLegacy c = true → s.rstate 0 = 1 →
      exec .admissionDecision s = .next (settle s ((s0.reportDecision c 0 0 4 (s.dRate c)
        ((s.dClose c (fklimOf (s.fk c)) s.winNow).getD 0) c).takeSlots c 0 c 4)))
    ∧ (∀ (c : Nat) (q : List Nat) (s0 : State), s.duct.admQ = c :: q → s.domOn 10 = true → s0 = s.dequeue c q →
      (s0.namesOld c = true ∨ s0.admissionOk c = false) → ∃ f : State, f = s0.free.2.free.2.free.2.free.2.free.2
        ∧ ∃ rank d rt cl off, exec .admissionDecision s
          = .next (settle s ((f.reportDecision c rank 4 d rt cl off).refuseRequest c eCONFIG)))
    ∧ (s.Clear w 30 16 v → (∀ c ∈ s.chansIn holdsSlots, ∃ d, s.dClose c (s.chan c).fklim (fieldOf v 8 0) = some d ∧ d ≤ (s.chan c).d) →
      exec (.windowWrite w v) s = .next (settle s ((s.plain w 30 16 v).setB (pg 30 3) 10 true)))
    ∧ (∀ c, s.Clear w 30 16 v → c ∈ s.chansIn holdsSlots → (∀ d, s.dClose c (s.chan c).fklim (fieldOf v 8 0) = some d → (s.chan c).d < d) →
      exec (.windowWrite w v) s = .next (settle s (s.recordRefusal w (some 30) 16 eCONFIG (pageAddr 30 16))))
    ∧ (∀ (r : Fin 8) (u : State), s.Clear w (31 + r.val) 2 (forceBit v 0 false) → u = s.plain w (31 + r.val) 2 (forceBit v 0 false) →
      exec (.rankDisable w r v) s = .next (settle s
        (if s.rstate r.val = 1 then u.setRstate r.val 2 else if s.rstate r.val = 3 then u.setRstate r.val 0 else u)))
    ∧ (∀ (r : Fin 8) (u : State), s.Clear w (31 + r.val) 2 (forceBit v 0 true) → u = s.plain w (31 + r.val) 2 (forceBit v 0 true) →
      exec (.rankEnable w r v) s = .next (settle s (if s.rstate r.val = 2 then
        s.recordRefusal w (some (31 + r.val)) 2 eBUSY (pageAddr (31 + r.val) 2)
        else if s.rstate r.val = 0 then u.setRstate r.val 3 else u)))
    ∧ (∀ (r : Fin 8) (slot : Fin 3125), s.rstate r.val ≠ 1 ∧ s.rstate r.val ≠ 2 ∨ s.domOn (rankDomain r.val) = false ∨ s.domOn 10 = false
        ∨ 3000 ≤ slot.val ∨ s.duct.force.find? (fun x => x.rank == r.val && (x.bandOf slot.val).isSome) = none →
      exec (.rankSlot r slot) s = .next (settle s s))
    ∧ (∀ (r : Fin 8) (slot : Fin 3125) (x : TabRow) (i : Nat), (s.rstate r.val = 1 ∨ s.rstate r.val = 2) →
      s.domOn (rankDomain r.val) = true → s.domOn 10 = true → slot.val < 3000 →
      s.duct.force.find? (fun x => x.rank == r.val && (x.bandOf slot.val).isSome) = some x →
      x.bandOf slot.val = some i → exec (.rankSlot r slot) s = .next (settle s (s.serve x i)))

/-! ### The Inkwell and the Scriptorium (spec/06) -/

/-- INKWELL_WRITE, CAPTURE_GO, CAPTURE_STOP and CAPTURE_DONE run (06 R183 to R188). A word that no capture holds and no running job
reads is stored. A write of CTRL that sets GO or STOP of an engine is checked whole, and each engine takes its GO and then its STOP. A
capture whose words are written, or that stops at a word boundary, ends as DONE or STOPPED, shows how many words it wrote, leaves
their description and raises its event; one that goes on has taken the samples that are there. -/
def Obligations.InkwellCommandsRun : Prop :=
  ∀ (s : State) (w : Writer) (v : Word),
    (∀ o : BitVec 22, s.writerLive w = true → s.domOn 9 = true → s.memRefusal w 14 9 (inkwBase + o.toNat) = 0 →
      s.captureHolds o.toNat = false → s.jobReads o.toNat (o.toNat + 1) = false →
      exec (.inkwellWrite w o v) s = .next (settle s (s.wrMem (inkwBase + o.toNat) v)))
    ∧ (∀ (e : Fin 2) (u : Word) (f : State → Nat → State), s.Clear w 41 2 u →
      f = (fun t k => if bitOf u (2 + k) then (if bitOf u k then t.armCapture k else t).stopCapture k
        else if bitOf u k then t.armCapture k else t) →
      (∀ k, k < 2 → s.capRefusal k (bitOf u k) (bitOf u (2 + k)) = 0
        ∧ (bitOf u k = true → s.capRange k = true ∧ s.capConfig k (bitOf u 0 && bitOf u 1) = true)) →
      (u = forceBit v e.val true → exec (.captureGo w e v) s = .next (settle s (f (f (s.plain w 41 2 u) 0) 1)))
      ∧ (u = forceBit v (2 + e.val) true → exec (.captureStop w e v) s = .next (settle s (f (f (s.plain w 41 2 u) 0) 1))))
    ∧ (∀ (e : Fin 2) (t : State) (x : Capture) (k : Nat → Nat), t = s.captureAll → x = t.cap e.val → k = capKey e.val →
      (t.cst e.val = 2 → (x.written = t.capLen e.val ∨ x.stopReq = true ∧ x.acc = []) →
        exec (.captureDone e) s = .next (settle s (((((((t.setCst e.val (if x.written = t.capLen e.val then 3 else 4)).setReg2
          (k 6) x.written).setReg (k 12) (wordOf (131072 + b2n x.inv * 65536 + s.fld (k 0) 17 14 * 4096 + s.fld (k 0) 13 10 * 256))).setReg
            (k 13) (s.reg (k 1))).setReg (k 14) (s.reg (k 2))).setCap e.val { Capture.reset with fiN := x.fiN, fiD := x.fiD }).raise
              41 (2 + e.val))))
      ∧ (t.cst e.val ≠ 2 ∨ x.written ≠ t.capLen e.val ∧ (x.stopReq = false ∨ x.acc ≠ []) →
        exec (.captureDone e) s = .next (settle s t)))

/-- JOB_RING_CONFIG, CACHE_WRITE, WORKING_RAM_WRITE, JOB_ABORT and HANDOFF run (06 R196, R203 to R205, R208, R209; 11 R371). An entry of an
idle job ring is switched off, or on where its rings are the Scriptorium's and no other entry names its job ring. The cache size and a
word of the working RAM are written while no job runs, which empties the cache. A write of CTRL that sets ABGO or HOGO is checked whole:
a handoff whose checks pass arms the channel's phase set with the rates, the code phase and RXT0 of the record, and an abort marks what
it matches and starts its scan. A handoff that fails a check is refused with its code, and the record has been read in either case.

The start of a job (06 R195, R197, R198; 11 R371; 14 R462): the chosen head of a job ring is taken off it when the pipelines that it
needs are free, both for PAIR = 1. A cancelled descriptor ends ABORTED at once; one that fails a check, whose capture or code lies in a
domain that is off (log 70), or whose code has an uncorrectable error ends FAILED at once; any other runs. A chosen job with PAIR = 1
that finds a pipeline busy waits, as any job does when both are. JOB_START changes nothing while the Scriptorium is disabled or off; with
the rings' domain off it fails with STATE; with no head to start a choice that waits no more ends.

The later events of a job run (06 R198, R199, R205, R206; 11 R371; 14 R462): a running job builds its record, or ends FAILED when the
working RAM gave an uncorrectable error; a finished job commits when its result ring has room, else waits, and times out as FAILED when
it was COMPLETE; an aborted job stops and ends ABORTED; a scan reports its count, or ABORTLATE when it met no job. An event that finds no
job or scan to end changes nothing. -/
def Obligations.ScriptoriumCommandsRun : Prop :=
  (∀ (s : State) (w : Writer) (v : Word),
      (∀ k : Fin 8, s.Clear w 40 (20 + k.val) v → s.abBusy = false → (∀ j ∈ s.scr.jobs, j.jr ≠ k.val) →
        (bitOf v 17 = true → s.consIs (fieldOf v 11 6) 14 = true ∧ s.prodIs (fieldOf v 5 0) 14 = true
          ∧ ∀ j, j < 8 → j ≠ k.val → s.jrOn j = true → s.jring j ≠ fieldOf v 11 6) →
        exec (.jobRingConfig w k v) s = .next (settle s (s.plain w 40 (20 + k.val) v)))
      ∧ (s.Clear w 40 16 v → s.pbusy = 0 → s.jobQueued = false →
        exec (.cacheWrite w v) s = .next (settle s (s.plain w 40 16 v).dropCache))
      ∧ (∀ o : BitVec 20, s.writerLive w = true → s.domOn 8 = true → s.memRefusal w 14 8 (scrpBase + o.toNat) = 0 → s.pbusy = 0 →
        exec (.workingRamWrite w o v) s = .next (settle s (s.wrMem (scrpBase + o.toNat) v).dropCache))
      ∧ (∀ (u : Word) (t x : State), s.Clear w 40 2 u →
        (bitOf u 2 = true → s.abBusy = false ∧ s.jrOn (s.fld (pg 40 32) 2 0) = true) → (bitOf u 1 = true → s.hoRefusal = 0) →
        t = (if bitOf u 1 then (s.plain w 40 2 u).arm (s.fld (pg 40 35) 8 0) ⟨s.time.ns, 0, 0, 0, 0,
          some (s.hoRates.1, codeOf 36 s.hoRates.2, s.hoWord2 (10 + 8 * s.fld (pg 40 36) 9 6), s.hoRxt0)⟩ else s.plain w 40 2 u) →
        x = (if bitOf u 2 then t.startAbort w else t) →
        (u = forceBit v 2 true → exec (.jobAbort w v) s = .next (settle s (if bitOf u 1 then x.hoReport else x)))
        ∧ (u = forceBit v 1 true → exec (.handoff w v) s = .next (settle s x.hoReport)))
      ∧ (∀ u : Word, u = forceBit v 1 true → s.Clear w 40 2 u → bitOf u 2 = false → s.hoRefusal ≠ 0 →
        exec (.handoff w v) s = .next (settle s (s.recordRefusal w (some 40) 2 s.hoRefusal (pageAddr 40 2)).hoReport)))
  ∧ ((∀ s : State, s.chosenJr = none →
      exec .jobStart s = .next (settle s (if s.scr.pair.any s.pairWaits then s else s.setPair none)))
    ∧ ∀ (s : State) (k : Nat) (d : List Word) (free ps : List Nat) (e : List Word × Nat × State) (t : State) (j : Job), s.chosenJr = some k →
      d = s.headDesc k → free = (List.range 2).filter (fun p => !s.bit (pg 40 3) p) →
      ps = (if bitOf (dw d 0) 16 && !bitOf (dw d 0) 17 then [0, 1] else free.take 1) →
      e = s.ringReadE (s.jring k) (s.reg (ringKey (s.jring k) 3)).toNat 24 →
      t = { ((((if e.2.1 = 2 then e.2.2.pageErr 40 eECC 2 else e.2.2).ringTake (s.jring k) 24).setPair none).setPipes ps true) with
        scr := { ((((if e.2.1 = 2 then e.2.2.pageErr 40 eECC 2 else e.2.2).ringTake (s.jring k) 24).setPair none).setPipes ps true).scr with
          last := k } } →
      j = { jr := k, desc := d, pipes := ps, phase := .extracted, outcome := 1, abort := false, lo := 0, hi := 0, plen := s.dP d
            replica := [], inv := s.bit (capKey (dCap d) 12) 16, fiN := (s.cap (dCap d)).fiN, fiD := (s.cap (dCap d)).fiD
            rxt0 := s.jobRxt0 d, record := [] } →
      (s.bit (pg 40 2) 0 = false ∨ s.domOn 8 = false → exec .jobStart s = .next (settle s s))
      ∧ (s.bit (pg 40 2) 0 = true → s.domOn 8 = true → s.domOn 2 = false → exec .jobStart s = .next (settle s (s.unitFails 40)))
      ∧ (s.bit (pg 40 2) 0 = true → s.domOn 8 = true → s.domOn 2 = true →
        (bitOf (dw d 0) 16 = true → bitOf (dw d 0) 17 = false → free.length < 2 → exec .jobStart s = .next (settle s (s.setPair (some k))))
        ∧ (bitOf (dw d 0) 16 = false ∨ bitOf (dw d 0) 17 = true → free = [] → exec .jobStart s = .next (settle s s))
        ∧ (ps.length ≤ free.length → free ≠ [] →
          (bitOf (dw d 0) 17 = true →
            exec .jobStart s = .next (settle s ((t.plainRecord j 1 0 none).2.commitJob { j with record := (t.plainRecord j 1 0 none).1 })))
          ∧ (bitOf (dw d 0) 17 = false → s.dCheck d ≠ 0 → exec .jobStart s = .next (settle s
            ((t.plainRecord j 2 (s.dCheck d) none).2.commitJob { j with outcome := 2, record := (t.plainRecord j 2 (s.dCheck d) none).1 })))
          ∧ (bitOf (dw d 0) 17 = false → s.dCheck d = 0 → s.domOn 9 = false ∨ s.domOn 10 = false ∧ s.cached d = false →
            exec .jobStart s = .next (settle s (((t.unitFails 40).plainRecord j 2 eSTATE none).2.commitJob
              { j with outcome := 2, record := ((t.unitFails 40).plainRecord j 2 eSTATE none).1 })))
          ∧ (bitOf (dw d 0) 17 = false → s.dCheck d = 0 → s.domOn 9 = true → s.domOn 10 = true ∨ s.cached d = true →
            ((t.useCache d).1 = none → exec .jobStart s = .next (settle s (((t.useCache d).2.plainRecord j 2 eECC none).2.commitJob
              { j with outcome := 2, record := ((t.useCache d).2.plainRecord j 2 eECC none).1 })))
            ∧ (∀ (rep : List Int) (lo hi : Nat), (t.useCache d).1 = some rep → lo = (s.descRange (dCap d)).1 + dSoff d / 4 →
              hi = (s.descRange (dCap d)).1 + ceilDiv (s.dEnd d) 4 →
              exec .jobStart s = .next (settle s ((((t.useCache d).2.forgetRam.abortRange 11 0 1048576).abortRange 12 lo hi).putJob
                { j with phase := .running, outcome := 0, lo := lo, hi := hi, replica := rep } true)))))))
  ∧ (∀ (s : State),
      (∀ (pipe : Fin 2) (j : Job) (m : List (Option Word) × Bool × State), s.jobOn pipe.val = some j → j.phase = .running → j.abort = false →
        m = s.inkRead (inkwBase + j.lo) (j.hi - j.lo) →
        (∀ r : List Word × State, s.ramBad j = false → r = m.2.2.completeRecord j m.1 m.2.1 → exec (.jobExtractionDone pipe) s
          = .next (settle s (r.2.forgetRam.putJob { j with phase := .extracted, outcome := 0, record := r.1 } true)))
        ∧ (∀ r : List Word × State, s.ramBad j = true → r = m.2.2.plainRecord j 2 eECC (some m.2.1) → exec (.jobExtractionDone pipe) s
          = .next (settle s (r.2.forgetRam.putJob { j with phase := .extracted, outcome := 2, record := r.1 } true))))
      ∧ (∀ (pipe : Fin 2) (j : Job), s.jobOn pipe.val = some j → j.phase ≠ .running → j.abort = false →
        (s.domOn 2 = true → s.prodIs (s.rring j.jr) 14 = true → j.record.length ≤ s.ringRoom (s.rring j.jr) →
          exec (.jobCommit pipe) s
            = .next (settle s (((s.ringPut (s.rring j.jr) j.record).countOutcome j.outcome).putJob j false)))
        ∧ (s.domOn 2 = true → s.prodIs (s.rring j.jr) 14 = false ∨ s.ringRoom (s.rring j.jr) < j.record.length →
          exec (.jobCommit pipe) s = .next (settle s (s.putJob { j with phase := .waitRoom } true)))
        ∧ (s.domOn 2 = false → exec (.jobCommit pipe) s = .next (settle s ((s.unitFails 40).putJob { j with phase := .waitRoom } true))))
      ∧ (∀ (pipe : Fin 2) (j : Job), s.jobOn pipe.val = some j → j.phase = .waitRoom →
        exec (.recordRoomTimeout pipe) s = .next (settle s (((((s.incSat (pg 40 31)).raise 40 4).pageErr 40 eTIMEOUT 19).countOutcome
          (if j.outcome = 0 then 2 else j.outcome)).putJob j false)))
      ∧ (∀ (pipe : Fin 2) (j : Job) (r : List Word × State), s.jobOn pipe.val = some j → j.abort = true →
        r = (if j.phase = .running then s.plainRecord j 1 0 none else (abortedRecord j.record, s)) →
        exec (.jobAbortStop pipe) s
          = .next (settle s (r.2.forgetRam.commitJob { j with phase := .extracted, outcome := 1, abort := false, record := r.1 })))
      ∧ (∀ t : State, s.abBusy = true → t = s.setB (pg 40 3) 3 false →
        (0 < s.scr.abCount → exec .abortScanDone s = .next (settle s (t.setReg (pg 40 34) (wordOf (s.scr.abCount % 16384 * 16)))))
        ∧ (∀ u : State, s.scr.abCount = 0 → u = ((t.setReg (pg 40 34) (wordOf eABORTLATE)).pageErr 40 eABORTLATE 2).raise 40 3 →
          (∀ q : Fin 8, s.scr.abBy = some (.ses q) →
            exec .abortScanDone s = .next (settle s (u.sesErr q.val eABORTLATE (pageAddr 40 2))))
          ∧ ((∀ q : Fin 8, s.scr.abBy ≠ some (.ses q)) → exec .abortScanDone s = .next (settle s u))))
      ∧ (s.abBusy = false → exec .abortScanDone s = .next (settle s s))
      ∧ (∀ pipe : Fin 2,
        ((∀ j, s.jobOn pipe.val = some j → j.phase ≠ .running ∨ j.abort = true) → exec (.jobExtractionDone pipe) s = .next (settle s s))
        ∧ ((∀ j, s.jobOn pipe.val = some j → j.phase = .running ∨ j.abort = true) → exec (.jobCommit pipe) s = .next (settle s s))
        ∧ ((∀ j, s.jobOn pipe.val = some j → j.phase ≠ .waitRoom) → exec (.recordRoomTimeout pipe) s = .next (settle s s))
        ∧ ((∀ j, s.jobOn pipe.val = some j → j.abort = false) → exec (.jobAbortStop pipe) s = .next (settle s s))))

/-- The peaks of a search (06 R198): no more than were asked for; each is a cell of the grid that reaches THR/8 of the mean and lies
outside the exclusion of every earlier peak; each is the largest of the cells that do so, the first of equals; and the list is shorter
than asked only when no cell is left or the largest one left stays below the threshold. -/
def Obligations.SearchPeaksAreTheLargestCells : Prop :=
  ∀ (d : List Word) (mean n : Nat) (grid : List (Nat × Int × Nat)) (ps : List (Nat × Int × Nat)), ps = takePeaks d mean grid n [] →
    ps.length ≤ n
    ∧ (∀ k x, ps[k]? = some x → largestCell (grid.filter (farFrom d (ps.take k))) = some x ∧ x ∈ grid
      ∧ (∀ y ∈ grid, farFrom d (ps.take k) y = true → y.2.2 ≤ x.2.2) ∧ fieldOf (dw d 19) 17 10 * mean ≤ 8 * x.2.2
      ∧ ∀ e ∈ ps.take k, fieldOf (dw d 20) 17 6 < cellDist (dCells d) x.1 e.1 ∨ fieldOf (dw d 20) 5 0 < (x.2.1 - e.2.1).natAbs)
    ∧ (ps.length < n → ∀ y ∈ grid, farFrom d ps y = true → 8 * y.2.2 < fieldOf (dw d 19) 17 10 * mean)

/-! ### Time and measurements (spec/07) -/

/-- RXT_WRAP and RXT_SECOND (07 R214, R217; 12 R420): RXT runs on to 2^48 ns, where it returns to 0, WRAPC adds 1 and WRAP is raised; or
to the next multiple of 10^9 ns, the wrap among them, where the second tick is asserted. While RXT stands still neither changes it. That
these commands move RXT to their instant is the model's choice (log 12).

RXT_CAPTURE, RTC_CAL_GO, MAP_GO, TDISC_CLEAR and REBUILT_CLEAR run (07 R218, R219, R221, R243, R245). Each is a write of TIME.CTRL, which
does what each of its bits 0 to 4 commands: the capture words show RXT; a calibration runs; a map waits for its millisecond; TD clears
while TPLL is locked; REB clears. It is accepted unless it starts a calibration or a map while one is in progress: then it is refused
whole with BUSY.

MAP_APPLY, RTC_CAL_DONE, CALPL_WRITE, RCPL_WRITE and RXT_REBUILD run (07 R220, R221, R243 to R246). At its instant a waiting map takes
REF, DRIFT, OFS and SV, and MAPAPL is raised: OFS is the staged one, or with KEEP the one that leaves S where it stands; a measured span
is shown and its event raised; a period in its range is applied, another refused with RANGE. RXT is rebuilt as the stop plus the ticks of
each source at its period, with the wraps in between, and N1, N2, UNC, REB and REBUILT are set and SV is cleared. An event that nothing
waits for changes nothing. -/
def Obligations.TimeCommandsRun : Prop :=
  (∀ (s : State), s.time.ns < rxtMod →
      (s.time.on = true →
        exec .rxtWrap s = .next (settle s ((({ s with time := { s.time with ns := 0 } } : State).inc (pg 16 20)).raise 16 2).settlePols)
        ∧ (∀ n, n = (s.time.ns / 1000000000 + 1) * 1000000000 →
          (n < rxtMod → exec .rxtSecond s
            = .next (settle s ((({ s with time := { s.time with ns := n } } : State).settlePols).setB (pg 4 32) 1 true)))
          ∧ (rxtMod ≤ n → exec .rxtSecond s = .next (settle s
            ((((({ s with time := { s.time with ns := 0 } } : State).inc (pg 16 20)).raise 16 2).settlePols).setB (pg 4 32) 1 true)))))
      ∧ (s.time.on = false → exec .rxtWrap s = .next (settle s s) ∧ exec .rxtSecond s = .next (settle s s)))
  ∧ (∀ (s : State) (w : Writer) (v u : Word) (busy : Bool) (t0 t1 t2 t3 t4 t5 t6 : State), s.Clear w 16 2 u →
      busy = (bitOf u 1 && s.bit (pg 16 3) 1 || bitOf u 2 && s.bit (pg 16 3) 2) →
      t0 = s.plain w 16 2 u →
      t1 = (if bitOf u 0 then t0.setRegs (pg 16 16) (rxtWords s.rxt) else t0) →
      t2 = (if bitOf u 1 then t1.setB (pg 16 3) 1 true else t1) →
      t3 = (if bitOf u 2 then { t2.setB (pg 16 3) 2 true with time := { s.time with mapAt := s.mapDue } } else t2) →
      t4 = (if bitOf u 3 && s.bit (pg 16 3) 0 then t3.setB (pg 16 3) 4 false else t3) →
      t5 = (if bitOf u 4 then t4.setB (pg 16 3) 5 false else t4) →
      t6 = (if busy then s.recordRefusal w (some 16) 2 eBUSY (pageAddr 16 2) else t5) →
      (u = forceBit v 0 true → exec (.rxtCapture w v) s = .next (settle s t6))
      ∧ (u = forceBit v 1 true → exec (.rtcCalGo w v) s = .next (settle s t6))
      ∧ (u = forceBit v 2 true → exec (.mapGo w v) s = .next (settle s t6))
      ∧ (u = forceBit v 3 true → exec (.tdiscClear w v) s = .next (settle s t6))
      ∧ (u = forceBit v 4 true → exec (.rebuiltClear w v) s = .next (settle s t6)))
  ∧ (∀ (s : State),
      (∀ t x : State, s.bit (pg 16 3) 2 = true → s.time.on = true → t = s.reachX s.time.mapAt →
        x = (((((((t.setRegs (pg 16 34) (rxtWords t.rxt)).setReg (pg 16 32) (t.reg (pg 16 25))).setReg
          (pg 16 33) (t.reg (pg 16 26))).setRegs (pg 16 28) (sxtWords (if t.bit (pg 16 27) 1 then
            roundDiv (t.ofs * 281474976710656 + t.drift * ((t.rxtExt : Int) - (t.time.refExt : Int))) 281474976710656
            else signedOf 64 (t.rxtAt (pg 16 21))))).setB (pg 16 3) 3 (t.bit (pg 16 27) 0)).setB (pg 16 3) 2 false).raise 16 4) →
        exec .mapApply s = .next (settle s { x with time := { x.time with refExt := t.rxtExt } }))
      ∧ (s.bit (pg 16 3) 2 = false ∨ s.time.on = false → exec .mapApply s = .next (settle s s))
      ∧ (∀ span : BitVec 54, exec (.rtcCalDone span) s = .next (settle s (if s.bit (pg 16 3) 1 = true ∧ s.time.on = true then
          ((s.setRegs (pg 16 39) [wordOf (span.toNat / 2 ^ 36), wordOf (span.toNat / 2 ^ 18), wordOf span.toNat]).setB
            (pg 16 3) 1 false).raise 16 5 else s)))
      ∧ (∀ (w : Writer) (v : Word), s.Clear w 16 43 v → exec (.calplWrite w v) s
          = .next (settle s (if 1900000000 ≤ s.period 42 v ∧ s.period 42 v ≤ 2100000000 then
            { s.plain w 16 43 v with time := { s.time with calp := s.period 42 v } }
            else s.recordRefusal w (some 16) 43 eRANGE (pageAddr 16 43))))
      ∧ (∀ (w : Writer) (v : Word), s.Clear w 16 47 v → exec (.rcplWrite w v) s
          = .next (settle s (if 1536000000 ≤ s.period 46 v ∧ s.period 46 v ≤ 2560000000 then
            { s.plain w 16 47 v with time := { s.time with rcp := s.period 46 v } }
            else s.recordRefusal w (some 16) 47 eRANGE (pageAddr 16 47))))
      ∧ (s.time.on = true ∨ s.time.kept = false ∨ s.domOn 15 = false ∨ s.bit (pg 16 3) 0 = false →
        exec .rxtRebuild s = .next (settle s s))
      ∧ (∀ (x : Nat) (t : State), s.time.on = false → s.time.kept = true → s.domOn 15 = true → s.bit (pg 16 3) 0 = true →
        x = s.rxtAt (pg 16 58) + s.time.n1 * s.time.calp + s.time.n2 * s.time.rcp →
        t = ((((((((s.setReg (pg 16 20) (s.reg (pg 16 20) + wordOf (x / 65536 / rxtMod))).setReg2 (pg 16 52) s.time.n1).setReg2
          (pg 16 54) s.time.n2).setReg2 (pg 16 56) s.uncertainty).setB (pg 16 3) 5 true).setB (pg 16 3) 3 false).setB (pg 16 3) 7 false).raise
            16 3) →
        exec .rxtRebuild s = .next (settle s { t with
          time := { t.time with ns := x / 65536 % rxtMod, frac := x % 65536, on := true, kept := false } })))

/-- PERIODIC_ENABLE, SNAP, PERIODIC_EPOCH and LATCH_COMMIT run (07 R223, R224, R229, R230; 10 R359; 14 R462). A write of MEAS.CTRL that sets
PEN or SNAP is checked whole: a PEN that was 0 starts the grid anew, a SNAP is a trigger, or is skipped where triggers are; a count not
above its phase or a ring of another producer is CONFIG. The next periodic epoch is a trigger at its instant, and none comes while PEN is
0 or time stands. A latch in progress ends: its record goes to the ring, or is dropped and counted where the
ring was lost, is full or lies in a domain that is off; it goes nowhere in LEGACY, and for a window latch whose ring the latch did not
produce (log 46); the window then takes its values when it asked for them.

Between two accepted triggers lie at least 5 ms (07 R224): a SNAP sooner is refused with BUSY, as is one in the cycle of a periodic
epoch; a periodic or an event trigger is counted as skipped, and no latch starts.

EVENT_EDGE and EVENT_FIFO_MOVE run (07 R239 to R241; 14 R462): a selected edge gets the next sequence number, its stamp, its event and
a place in the FIFO, or is lost and counted when the FIFO is full; it triggers a latch when its input is selected for that; an edge that
is not selected, or comes while time stands or the domain is off, is not seen. The FIFO's
first record goes to the ring of the event unit when there is room, and waits otherwise; with the ring's domain off the unit fails with
STATE. -/
def Obligations.MeasurementCommandsRun : Prop :=
  (∀ (s : State) (w : Writer) (v : Word),
      (∀ (u : Word) (t : State), s.Clear w 19 2 u → s.prodIs s.lring 15 = true →
        (bitOf u 1 = true → s.fld (pg 19 17) 9 0 < s.fld (pg 19 16) 9 0) →
        (bitOf u 0 = true → s.latchBarred = true ∨ s.latchFree s.rxt = true ∧ s.epochNow = false) →
        t = (if bitOf u 1 && !s.bit (pg 19 2) 1 then
          { s.plain w 19 2 u with meas := { s.meas with penNs := s.extN, epochAt := none } } else s.plain w 19 2 u) →
        (u = forceBit v 1 true → exec (.periodicEnable w v) s = .next (settle s (if bitOf u 0 then t.trigger 1 0 s.rxt else t)))
        ∧ (u = forceBit v 0 true → exec (.snap w v) s = .next (settle s (t.trigger 1 0 s.rxt))))
      ∧ (∀ u : Word, s.Clear w 19 2 u → (bitOf u 0 = true → s.latchBarred = true ∨ s.latchFree s.rxt = true ∧ s.epochNow = false) →
        s.prodIs s.lring 15 = false ∨ bitOf u 1 = true ∧ s.fld (pg 19 16) 9 0 ≤ s.fld (pg 19 17) 9 0 →
        (u = forceBit v 1 true → exec (.periodicEnable w v) s = .next (settle s (s.recordRefusal w (some 19) 2 eCONFIG (pageAddr 19 2))))
        ∧ (u = forceBit v 0 true → exec (.snap w v) s = .next (settle s (s.recordRefusal w (some 19) 2 eCONFIG (pageAddr 19 2)))))
      ∧ (s.bit (pg 19 2) 1 = false ∨ s.time.on = false → exec .periodicEpoch s = .next (settle s s))
      ∧ (s.meas.cur = none → exec .latchCommit s = .next (settle s s))
      ∧ (∀ t : State, s.bit (pg 19 2) 1 = true → s.time.on = true → t = s.reachX (s.nextEpoch / 65536) →
        exec .periodicEpoch s = .next (settle s
          (({ t with meas := { t.meas with epochAt := some t.extN } } : State).trigger 0 0 (s.nextEpoch % 2 ^ 64))))
      ∧ (∀ (l : Latch) (seq : Word) (r : List Word) (t x : State), s.meas.cur = some l → seq = s.reg (pg 19 21) + 1 →
        r = s.latchRecord l seq → t = { ((s.memReadN (stagingKey 0) r.length).2.2.setReg (pg 19 21) seq).setB (pg 19 3) 0 false with
          meas := { s.meas with cur := none, legWant := false } } →
        ((s.pins.persona = .legacy ∨ l.own = false ∧ l.src = 3) ∧ x = (t.setRegs (pg 19 24) (rxtWords l.t)).raise 19 0
          ∨ s.pins.persona ≠ .legacy ∧ (l.own = true ∨ l.src ≠ 3) ∧ l.lost = false ∧ s.prodIs s.lring 15 = true
            ∧ r.length ≤ s.ringRoom s.lring ∧ s.domOn 2 = true
            ∧ x = ((t.ringPut s.lring r).setRegs (pg 19 24) (rxtWords l.t)).raise 19 0
          ∨ s.pins.persona ≠ .legacy ∧ (l.own = true ∨ l.src ≠ 3) ∧ s.domOn 2 = true
            ∧ (l.lost = true ∨ s.prodIs s.lring 15 = false ∨ s.ringRoom s.lring < r.length) ∧ x = (t.incSat (pg 19 23)).raise 19 2
          ∨ s.pins.persona ≠ .legacy ∧ (l.own = true ∨ l.src ≠ 3) ∧ s.domOn 2 = false
            ∧ x = ((t.unitFails 19).incSat (pg 19 23)).raise 19 2) →
        exec .latchCommit s = .next (settle s (if s.meas.legWant then x.legacyLatch else x))))
  ∧ (∀ (s : State) (src evin t : Nat),
      (s.latchFree t = false → s.trigger src evin t = (s.incSat (pg 19 22)).raise 19 1)
      ∧ (∀ (w : Writer) (v : Word), s.Clear w 19 2 (forceBit v 0 true) → s.latchBarred = false →
        (s.latchFree s.rxt = false ∨ s.epochNow = true) →
        exec (.snap w v) s = .next (settle s (s.recordRefusal w (some 19) 2 eBUSY (pageAddr 19 2))))
      ∧ (s.latchFree t = true → s.meas.cur = none ∧ (∀ u, s.meas.lastT = some u → u + 5000000 * 65536 ≤ s.extOf t)))
  ∧ (∀ (s : State),
      (∀ (n : Fin 8) (rising : Bool) (tap : Fin 40) (u x : State) (seq : Word) (t : Nat), s.time.on = true → s.domOn 15 = true →
        bitOf (s.reg (pg 18 (24 + n.val))) (if rising then 0 else 1) = true → t = s.edgeTime n.val tap.val → seq = s.reg (pg 18 17) + 1 →
        u = ((s.setReg (pg 18 17) seq).setRegs (pg 18 (40 + 4 * n.val)) (rxtWords t)).raise 18 n.val →
        x = (if 32 ≤ s.ev.fifo.length then ((u.incSat (pg 18 18)).raise 18 8).setFifo s.ev.fifo true
          else u.setFifo (s.ev.fifo ++ [⟨n.val, rising, s.ev.lost, seq, t⟩]) false) →
        exec (.eventEdge n rising tap) s
          = .next (settle s (if s.bit (pg 19 2) 2 = true ∧ s.fld (pg 19 2) 5 3 = n.val then x.trigger 2 n.val t else x)))
      ∧ (∀ (e : EvEntry) (l : List EvEntry) (r : Nat), s.ev.fifo = e :: l → r = s.fld (pg 18 16) 5 0 → s.bit (pg 18 16) 6 = true →
        s.prodIs r 16 = true → 6 ≤ s.ringRoom r →
        (s.domOn 2 = true → exec .eventFifoMove s = .next (settle s ((s.ringPut r
          ([wordOf (e.input * 32768 + (if e.rising then 1 else 2) * 8192 + b2n e.ovr * 4096), e.seq] ++ rxtWords e.t)).setFifo l s.ev.lost)))
        ∧ (s.domOn 2 = false → exec .eventFifoMove s = .next (settle s (s.unitFails 18))))
      ∧ (∀ (n : Fin 8) (rising : Bool) (tap : Fin 40), s.time.on = false ∨ s.domOn 15 = false
          ∨ bitOf (s.reg (pg 18 (24 + n.val))) (if rising then 0 else 1) = false → exec (.eventEdge n rising tap) s = .next (settle s s))
      ∧ (s.ev.fifo = [] ∨ s.bit (pg 18 16) 6 = false ∨ s.prodIs (s.fld (pg 18 16) 5 0) 16 = false ∨ s.ringRoom (s.fld (pg 18 16) 5 0) < 6 →
        exec .eventFifoMove s = .next (settle s s)))

/-- TP_APPLY, TP_APPLY_TAKE_EFFECT, TP_ACTIVE_EDGE, TP_INACTIVE_EDGE, HAIRLINE_CALIBRATE and HAIRLINE_CAL_DONE run (07 R234 to R238, R248). A
write of TP.CTRL takes the staged settings of each output that it names, in force 10 µs on, and starts a calibration; BUSY refuses it
while an APPLY of a named output or a calibration is pending, CONFIG when a staged setting fails its checks. At an active edge
an APPLY or a map that is due is taken first; then the output is suppressed in mode 3 without SV, or skips a grid instant whose pulse
would begin during the previous one or less than 10 ns after it, or begins a pulse and shows its stamp. The end of a pulse is placed
with the DLY of its beginning. A calibration puts the measured delays into the tables. -/
def Obligations.TimePulseCommandsRun : Prop :=
  ∀ (s : State) (w : Writer) (v : Word) (n : Fin 4),
    (∀ (u : Word) (f : State → Nat → State) (t : State), s.Clear w 17 2 u → (s.legacyDual = true → bitOf u 0 = false) →
      (∀ k, k < 4 → bitOf u k = true → s.bit (pg 17 3) (4 + k) = false ∧ (s.tpStaged k).ok = true) →
      (bitOf u 4 = true → s.bit (pg 17 3) 8 = false) → f = (fun t k => if bitOf u k then t.applyTp k (s.tpStaged k) else t) →
      t = f (f (f (f (s.plain w 17 2 u) 0) 1) 2) 3 →
      (u = forceBit v n.val true → exec (.tpApply w n v) s = .next (settle s (if bitOf u 4 then t.setB (pg 17 3) 8 true else t)))
      ∧ (u = forceBit v 4 true → exec (.hairlineCalibrate w v) s = .next (settle s (t.setB (pg 17 3) 8 true))))
    ∧ (∀ (u : Word) (r : Nat), s.Clear w 17 2 u → (s.legacyDual = true → bitOf u 0 = false) →
      ((∃ k, k < 4 ∧ bitOf u k = true ∧ s.bit (pg 17 3) (4 + k) = true) ∨ bitOf u 4 = true ∧ s.bit (pg 17 3) 8 = true) ∧ r = eBUSY
        ∨ (∀ k, k < 4 → bitOf u k = true → s.bit (pg 17 3) (4 + k) = false) ∧ (bitOf u 4 = true → s.bit (pg 17 3) 8 = false)
          ∧ (∃ k, k < 4 ∧ bitOf u k = true ∧ (s.tpStaged k).ok = false) ∧ r = eCONFIG →
      (u = forceBit v n.val true → exec (.tpApply w n v) s = .next (settle s (s.recordRefusal w (some 17) 2 r (pageAddr 17 2))))
      ∧ (u = forceBit v 4 true → exec (.hairlineCalibrate w v) s = .next (settle s (s.recordRefusal w (some 17) 2 r (pageAddr 17 2)))))
    ∧ (s.bit (pg 17 3) (4 + n.val) = false ∨ s.time.on = false → exec (.tpApplyTakeEffect n) s = .next (settle s s))
    ∧ ((s.tp n.val).cur.mode = 0 ∨ s.time.on = false → exec (.tpActiveEdge n) s = .next (settle s s))
    ∧ ((s.tp n.val).cur.mode ≠ 0 → s.time.on = true → ((s.beforeEdge n.val 2).tp n.val).cur.mode = 0
        ∨ (s.beforeEdge n.val 2).nextGrid n.val = none → exec (.tpActiveEdge n) s = .next (settle s (s.beforeEdge n.val 2)))
    ∧ ((s.tp n.val).pulse = none → exec (.tpInactiveEdge n) s = .next (settle s s))
    ∧ (∀ taps, s.bit (pg 17 3) 8 = false → exec (.hairlineCalDone taps) s = .next (settle s s))
    ∧ (s.bit (pg 17 3) (4 + n.val) = true → s.time.on = true → ∀ t, t = (s.reachX (s.tp n.val).applyAt).setB (pg 17 3) (4 + n.val) false →
      exec (.tpApplyTakeEffect n) s = .next (settle s (t.takeTp n.val (t.tp n.val).staged)))
    ∧ (∀ (b t : State) (g : Rat) (e : Int × Rat × Int) (x : TpSt) (close : Bool), (s.tp n.val).cur.mode ≠ 0 → s.time.on = true →
      b = s.beforeEdge n.val 2 → (b.tp n.val).cur.mode ≠ 0 → b.nextGrid n.val = some g →
      e = b.placeEdge n.val (b.tp n.val).cur.dly (b.tpTarget n.val g) → t = b.reachExt e.1 →
      x = { t.tp n.val with doneTick := some e.1 } →
      close = (x.pulse.isSome || x.lastEnd.any fun q => decide (e.2.1 < q + 10)) →
      (x.cur.mode = 3 → t.bit (pg 16 3) 3 = false → exec (.tpActiveEdge n) s = .next (settle s (t.setTp n.val x)))
      ∧ (x.cur.mode ≠ 3 ∨ t.bit (pg 16 3) 3 = true → close = true →
        exec (.tpActiveEdge n) s = .next (settle s (((t.setTp n.val x).incSat (tpKey n.val 9)).raise 17 (4 + n.val))))
      ∧ (∀ y : State, x.cur.mode ≠ 3 ∨ t.bit (pg 16 3) 3 = true → close = false →
        y = (if n.val = 0 ∧ t.legacyDual = true then t.setB (pg lwinPage 3) 5 true else t) →
        exec (.tpActiveEdge n) s = .next (settle s ((((y.setTp n.val { x with
          pulse := some (x.cur.pol, b.tpTarget n.val g + (x.cur.width : Rat), x.cur.dly)
          level := !idleLevel x.cur.pol, polAt := none }).setB (pg 17 3) n.val true).setRegs (tpKey n.val 10)
            (rxtWords (e.2.2 % 2 ^ 64).toNat)).raise 17 n.val))))
    ∧ (∀ (pol : Bool) (target : Rat) (dly : Int) (e : Int × Rat × Int) (t : State), (s.tp n.val).pulse = some (pol, target, dly) →
      e = s.placeEdge n.val dly target → t = s.reachExt e.1 →
      exec (.tpInactiveEdge n) s = .next (settle s ((t.setTp n.val { t.tp n.val with
        pulse := none, lastEnd := some e.2.1, level := idleLevel pol
        polAt := if (t.tp n.val).cur.pol = pol then none else some (e.2.1 + 10) }).setB (pg 17 3) n.val false)))
    ∧ (∀ taps : List (BitVec 13), taps.length = 160 → s.bit (pg 17 3) 8 = true → Store.wf s.regs = true →
      ∃ t, exec (.hairlineCalDone taps) s = .next (settle s t) ∧ t.bit (pg 17 3) 8 = false ∧ t.bit (pg 17 4) 11 = true
        ∧ (∀ i, i < 160 → t.reg (tpKey (i / 40) (16 + i % 40)) = wordOf (min 7999 (taps.getD i 0).toNat)) ∧ t.mem = s.mem
        ∧ t.time = s.time)

/-! ### The Vemel cores (spec/08, spec/09) -/

/-- CORE_RESET, CORE_RUN, CORE_HALT and CORE_STEP run (08 R292, R298 to R300). Each is a write of CTRL, which is checked whole: STEP needs a
halted core, and RUN a core that is not in DHALT. The word is taken, and the core resets for CRST; else RUN resumes at PC a core that is
halted, at once or when DOZE ends, and takes a wish to halt back from any other; else STEP issues one bundle; else a core that runs
halts: at the boundary at hand, or after the bundle in issue, the store that halts the core itself, the trap that is pending or that
decode finds there, or DOZE.

A core reset leaves every register of the core at its reset value and no reservation, with SR.LM set in L-mode alone (08 R298, R266);
a core that DOZE has gated stays gated until DOZE ends.

CORE_REGISTER_WRITE, CORE_PC_WRITE and SWEV_SET run (08 R302, R304): in HALTED or DHALT the selected register takes the held words,
PC takes the word, and a software event is raised.

A write of CTRL, of PC or of RDAT that the core's mode does not allow is refused with STATE (08 R298 to R300, R302; 10 R341): all of
them in L-mode, STEP and PC outside HALTED, RUN in DHALT, RDAT outside HALTED and DHALT.

CORE_RESET_DONE, BREAKPOINT_HALT and IDLE_WAKE run (08 R288, R292, R298, R300; 10 R340, R350): a reset ends in RUNNING or HALTED as
RUN says, in L-mode as LCTL.DRUN says; at the bundle of BRKPT a breakpoint halts the core, unless that bundle raises a trap, which goes
first; an eligible level ends IDLE.

An event of a core that finds nothing to end, to take or to issue changes nothing (08 R288, R292, R298, R300). -/
def Obligations.CoreCommandsRun : Prop :=
  (∀ (s : State) (w : Writer) (c : Fin 4) (v u : Word) (t r : State) (x : Core), s.Clear w (45 + c.val) 2 u → s.lmode c = false →
      t = s.plain w (45 + c.val) 2 u → x = s.cores[c.val] → (bitOf u 1 = true → x.mode = .halted) → (bitOf u 0 = true → x.mode ≠ .dhalt) →
      r = (if bitOf u 2 then t.resetCore c else if bitOf u 0 then t.wantRun c
        else if bitOf u 1 then t.setCore c { x with mode := .running, stepping := true, noBreak := true } else t.wantHalt w c) →
      (u = forceBit v 2 true → exec (.coreReset w c v) s = .next (settle s r))
      ∧ (u = forceBit v 0 true → exec (.coreRun w c v) s = .next (settle s r))
      ∧ (u = forceBit v 1 true → exec (.coreStep w c v) s = .next (settle s r))
      ∧ (u = forceBit v 0 false → exec (.coreHalt w c v) s = .next (settle s r))
      ∧ (x.mode = .halted → t.wantRun c = t.setCore c { x with mode := .running, noBreak := true, stepping := false, haltReq := false })
      ∧ (x.mode = .gated → x.gatedFrom = .halted →
        t.wantRun c = t.setCore c { x with haltReq := false, gatedFrom := .running, noBreak := true })
      ∧ ((x.mode = .running ∧ t.decodeTrap c = none ∨ x.mode = .idle) → w ≠ .core c → x.shadow = false → x.trap = none → x.wod = false →
        x.begun = false → t.wantHalt w c = (t.setCore c
          { x.drain with mode := .halted, haltReq := false, stepping := false, inBlock := false }).raise (45 + c.val) 1)
      ∧ ((x.mode = .running ∨ x.mode = .idle) → (w = .core c ∨ x.shadow = true ∨ x.trap ≠ none ∨ x.wod = true ∨ x.begun = true) →
        t.wantHalt w c = t.setCore c { x with haltReq := true }))
  ∧ (∀ (s : State) (c : Fin 4),
      (s.resetCore c).cores[c.val] = { Core.reset with
        sr := if s.lmode c then 128 else 0, mode := if s.cores[c.val].mode = .gated then .gated else .reset, gatedFrom := .reset }
      ∧ (∀ k, k < 4 → k ≠ c.val → (s.resetCore c).cores[k]? = s.cores[k]?)
      ∧ (s.resetCore c).regs = s.regs ∧ (s.resetCore c).mem = s.mem)
  ∧ (∀ (s : State) (w : Writer) (c : Fin 4) (v : Word), s.lmode c = false →
      (s.Clear w (45 + c.val) 24 v → (s.cores[c.val].mode = .halted ∨ s.cores[c.val].mode = .dhalt) →
        exec (.coreRegisterWrite w c v) s = .next (settle s (s.setCore c
          (s.cores[c.val].put (s.fld (pg (45 + c.val) 21) 7 0) (s.rdatValue c (s.fld (pg (45 + c.val) 21) 7 0) v)))))
      ∧ (s.Clear w (45 + c.val) 16 v → s.cores[c.val].mode = .halted →
        exec (.corePcWrite w c v) s
          = .next (settle s (s.setCore c { s.cores[c.val] with pc := BitVec.ofNat 17 v.toNat, inBlock := false })))
      ∧ (s.Clear w (45 + c.val) 20 1 → exec (.swevSet w c) s = .next (settle s (s.raise (45 + c.val) 5))))
  ∧ (∀ (s : State) (w : Writer) (c : Fin 4) (v : Word),
      (∀ u : Word, s.Clear w (45 + c.val) 2 u →
        s.lmode c = true ∨ bitOf u 1 = true ∧ s.cores[c.val].mode ≠ .halted ∨ bitOf u 0 = true ∧ s.cores[c.val].mode = .dhalt →
        ∀ r, r = s.recordRefusal w (some (45 + c.val)) 2 eSTATE (pageAddr (45 + c.val) 2) →
        (u = forceBit v 2 true → exec (.coreReset w c v) s = .next (settle s r))
        ∧ (u = forceBit v 0 true → exec (.coreRun w c v) s = .next (settle s r))
        ∧ (u = forceBit v 1 true → exec (.coreStep w c v) s = .next (settle s r))
        ∧ (u = forceBit v 0 false → exec (.coreHalt w c v) s = .next (settle s r)))
      ∧ (s.Clear w (45 + c.val) 16 v → s.lmode c = true ∨ s.cores[c.val].mode ≠ .halted → exec (.corePcWrite w c v) s
          = .next (settle s (s.recordRefusal w (some (45 + c.val)) 16 eSTATE (pageAddr (45 + c.val) 16))))
      ∧ (s.Clear w (45 + c.val) 24 v → s.lmode c = true ∨ s.cores[c.val].mode ≠ .halted ∧ s.cores[c.val].mode ≠ .dhalt →
        exec (.coreRegisterWrite w c v) s
          = .next (settle s (s.recordRefusal w (some (45 + c.val)) 24 eSTATE (pageAddr (45 + c.val) 24)))))
  ∧ (∀ (s : State) (c : Fin 4), s.domOn (coreDom c) = true →
      (s.cores[c.val].mode = .reset → (s.pins.persona = .legacy → c.val = 0) →
        exec (.coreResetDone c) s = .next (settle s (s.setCore c { s.cores[c.val] with
          mode := if (if s.lmode c then s.bit (pg lwinPage 1) 0 else s.runBit c) then .running else .halted })))
      ∧ ((s.cores[c.val].mode = .running ∨ s.cores[c.val].mode = .idle ∧ s.acceptable c = true) → s.cores[c.val].trap = none →
        s.cores[c.val].wod = false → s.cores[c.val].begun = false → s.bit (pg (45 + c.val) 2) 4 = true →
        s.cores[c.val].pc.toNat = s.fld (pg (45 + c.val) 17) 16 0 → s.cores[c.val].noBreak = false → s.lmode c = false →
        (s.decodeTrap c = none → exec (.breakpointHalt c) s = .next (settle s ((s.setCore c
          { s.cores[c.val].drain with mode := .halted, haltReq := false, stepping := false, inBlock := false }).raise (45 + c.val) 2)))
        ∧ (∀ t, s.decodeTrap c = some t → exec (.breakpointHalt c) s = .next (settle s t)))
      ∧ (s.cores[c.val].mode = .idle → bitOf s.cores[c.val].sr 17 = false → (s.eligible c).isSome = true →
        exec (.idleWake c) s = .next (settle s (s.setCore c { s.cores[c.val] with mode := .running }))))
  ∧ (∀ (s : State) (c : Fin 4) (x : Core), x = s.cores[c.val] →
      (x.mode ≠ .reset ∨ s.domOn (coreDom c) = false ∨ s.pins.persona = .legacy ∧ c.val ≠ 0 →
        exec (.coreResetDone c) s = .next (settle s s))
      ∧ (x.mode ≠ .idle ∨ s.domOn (coreDom c) = false ∨ bitOf x.sr 17 = true ∨ s.eligible c = none →
        exec (.idleWake c) s = .next (settle s s))
      ∧ (x.trap = none ∨ s.domOn (coreDom c) = false ∨ x.mode ≠ .running ∧ x.mode ≠ .idle → exec (.trapEntry c) s = .next (settle s s))
      ∧ (s.atBoundary c = false ∨ s.atBreak c = false → exec (.breakpointHalt c) s = .next (settle s s))
      ∧ (s.atBoundary c = false ∨ x.shadow = true ∨ x.haltReq = true ∨ s.atBreak c = true ∨ s.acceptable c = false →
        exec (.interruptEntry c) s = .next (settle s s))
      ∧ (s.mayIssue c = false → exec (.bundleIssue c) s = .next (settle s s)))

/-- BUNDLE_ISSUE runs (08 R268, R270, R292, R299; 09 R326, R335; 11 R383; 14 R462, R463). A wish to halt is met at the boundary. A bundle
that raises a trap leaves it pending. One that names the Rubric waits while its quiescence is requested. One that accesses a domain that
is off wakes the domain and waits, unless it has timed out already; one that accesses what the Blotter has borrowed starts the restore
and waits. Any other issues whole, or does one element of its block operation. -/
def Obligations.BundleIssueRuns : Prop :=
  ∀ (s : State) (c : Fin 4) (x : Core) (d : List Syl × List Nat × State) (off : Option Nat), s.mayIssue c = true → x = s.cores[c.val] →
    d = s.decodeBundle c → off = (x.bundleAddrs d.1).findSome? (s.addrOff c) →
    (x.haltReq = true → x.begun = false → exec (.bundleIssue c) s = .next (settle s (s.haltCore c 1)))
    ∧ (x.haltReq = false ∨ x.begun = true →
      (∀ t, s.decodeTrap c = some t → exec (.bundleIssue c) s = .next (settle s t))
      ∧ (s.decodeTrap c = none → s.rubWaits c d.1 = true → exec (.bundleIssue c) s = .next (settle s (s.endStep c)))
      ∧ (∀ o, s.decodeTrap c = none → s.rubWaits c d.1 = false → off = some o → x.wodTmo = false →
        exec (.bundleIssue c) s = .next (settle s ((s.wakeDom o).setCore c { x with wod := true, begun := true })))
      ∧ (s.decodeTrap c = none → s.rubWaits c d.1 = false → off = none ∨ x.wodTmo = true →
        (∀ t, s.restoreFor (s.bundleKeys c d.1) = some t →
          exec (.bundleIssue c) s = .next (settle s (t.setCore c { x with begun := true })))
        ∧ (s.restoreFor (s.bundleKeys c d.1) = none →
          (slotBody d.1 5 = none → exec (.bundleIssue c) s = .next (settle s (d.2.2.issue c d.1)))
          ∧ (∀ b, slotBody d.1 5 = some b → isBlockOp (bf b 31 26) = false →
            exec (.bundleIssue c) s = .next (settle s (d.2.2.issue c d.1)))
          ∧ (∀ b, slotBody d.1 5 = some b → isBlockOp (bf b 31 26) = true →
            exec (.bundleIssue c) s = .next (settle s (d.2.2.blockStep c b))))))

/-- A bundle that one ADD syllable makes up writes its sum and the flags of the sum, and the core goes on at the next syllable; register
words and memory stay (08 R268, R276; 09 R307, R318). -/
def Obligations.AddBundleWritesItsSum : Prop :=
  ∀ (s : State) (c : Fin 4) (b : Nat) (x : Core), x = s.cores[c.val] → x.mode = .running → bf b 31 26 = 1 → x.inflight = [] →
    fieldOf x.sr 6 5 = 0 → x.stepping = false → x.haltReq = false → x.trap = none → ∀ t, t = s.issue c [⟨4, b, true⟩] →
      t.cores[c.val].get c.val (bf b 25 22) = (x.dv (bf b 21 18) + x.dv (bf b 17 14)) % 262144
      ∧ fieldOf t.cores[c.val].sr 3 0 = (aluAdd (x.dv (bf b 21 18)) (x.dv (bf b 17 14)) 0).2
      ∧ t.cores[c.val].pc = x.pc + 1 ∧ t.regs = s.regs ∧ t.mem = s.mem
      ∧ (∀ n, n < 16 → n ≠ bf b 25 22 → t.cores[c.val].get c.val n = x.get c.val n)

/-- N, Z, C and V of an addition and a subtraction of 18-bit words (09 R307): the top bit, zero, the carry or the borrow, and the
overflow of the signed reading.

A division by zero gives the quotient of its sign and the dividend as remainder (09 R322). -/
def Obligations.ArithmeticFollowsTheTables : Prop :=
  (∀ (a b : Word),
      (aluAdd a.toNat b.toNat 0).1 = (a + b).toNat
      ∧ (aluAdd a.toNat b.toNat 0).2 = 8 * b2n (a + b).msb + 4 * b2n (a + b == 0) + 2 * b2n (decide (2 ^ 18 ≤ a.toNat + b.toNat))
          + b2n (decide ((a + b).toInt ≠ a.toInt + b.toInt))
      ∧ (aluSub a.toNat b.toNat 0).1 = (a - b).toNat
      ∧ (aluSub a.toNat b.toNat 0).2 = 8 * b2n (a - b).msb + 4 * b2n (a - b == 0) + 2 * b2n (decide (a.toNat < b.toNat))
          + b2n (decide ((a - b).toInt ≠ a.toInt - b.toInt)))
  ∧ (∀ a : Nat, (aluDiv false a 0).1 = 0o777777 ∧ (aluDiv false a 0).2.1 = a ∧ (aluDiv false a 0).2.2.2 = true
      ∧ (aluDiv true a 0).1 = (if a.testBit 17 then 0o400001 else 0o377777) ∧ (aluDiv true a 0).2.1 = a
      ∧ (aluDiv true a 0).2.2.2 = true)

/-- ROL by a multiple of 18 leaves the value and sets C = 0 (09 R320), in the native X slot as in L-mode. -/
def Obligations.RotateByFullTurns : Prop :=
  ∀ (a n : Nat), a < 262144 → (aluRol a (18 * n)).1 = a ∧ (aluRol a (18 * n)).2.testBit 1 = false

/-- INTERRUPT_ENTRY runs (08 R284, R285, R292; 10 R348): at a boundary where nothing goes first the core drains, PC and SR are saved, IE
and LD become 0, SM and the level are set, the reservation ends, and the handler of the highest eligible level runs, in L-mode at word 2
or 4. A trap of the bundle there goes first, and a level that is no longer eligible after the drain is not entered. -/
def Obligations.InterruptEntryRuns : Prop :=
  ∀ (s : State) (c : Fin 4) (x : Core), x = s.cores[c.val] → (x.mode = .running ∨ x.mode = .idle) → s.domOn (coreDom c) = true →
    x.trap = none → x.wod = false → x.begun = false → x.shadow = false → x.haltReq = false → s.atBreak c = false → s.acceptable c = true →
    (∀ t, s.decodeTrap c = some t → exec (.interruptEntry c) s = .next (settle s t))
    ∧ (s.decodeTrap c = none → (s.setCore c x.drain).eligible c = none →
      exec (.interruptEntry c) s = .next (settle s (s.setCore c x.drain)))
    ∧ (∀ p, s.decodeTrap c = none → (s.setCore c x.drain).eligible c = some p →
      ∃ t, exec (.interruptEntry c) s = .next (settle s t) ∧ t.regs = s.regs ∧ t.mem = s.mem
        ∧ t.cores[c.val].ira = x.drain.pc ∧ t.cores[c.val].isr = x.drain.sr
        ∧ t.cores[c.val].pc = BitVec.ofNat 17 (if s.lmode c then (if p = 6 then 2 else 4) else (8 + p) * 16)
        ∧ t.cores[c.val].mode = .running ∧ t.cores[c.val].resv = none ∧ bitOf t.cores[c.val].sr 17 = false
        ∧ bitOf t.cores[c.val].sr 16 = true ∧ fieldOf t.cores[c.val].sr 15 13 = p ∧ fieldOf t.cores[c.val].sr 6 5 = 0
        ∧ (∀ k, k < 4 → k ≠ c.val → t.cores[k]? = s.cores[k]?))

/-- TRAP_ENTRY runs (08 R291 to R293, R295): the core drains, the address, SR and the cause are saved, IE and LD become 0, the trap words
of the CORE page show the cause and the offending bundle, the vector of the cause runs, and a STEP or a wish to halt ends there; while a
trap handler runs the core stops in DHALT instead. -/
def Obligations.TrapEntryRuns : Prop :=
  ∀ (s : State) (c : Fin 4) (y : Core) (tcs : Nat) (a bundle : BitVec 17), y = s.cores[c.val].drain →
    s.cores[c.val].trap = some (tcs, a, bundle) → s.domOn (coreDom c) = true →
    (s.cores[c.val].mode = .running ∨ s.cores[c.val].mode = .idle) →
    (∀ t : State, bitOf y.sr 4 = false →
      t = (((s.setCore c { y with
          mode := .running, tra := a, tsr := y.sr, sr := withField (withField (withField y.sr 17 17 0) 6 5 0) 4 4 1, tcs := wordOf tcs
          resv := none, trap := none, pc := BitVec.ofNat 17 (tcs / 16384 * 16), inBlock := false, noBreak := false }).setReg
        (pg (45 + c.val) 18) (wordOf tcs)).setReg (pg (45 + c.val) 19) (wordOf bundle.toNat)).raise (45 + c.val) 0 →
      exec (.trapEntry c) s = .next (settle s (if y.stepping || y.haltReq then t.haltCore c 1 else t)))
    ∧ (bitOf y.sr 4 = true → exec (.trapEntry c) s = .next (settle s (((s.setCore c
        { y with mode := .dhalt, pc := a, trap := none, stepping := false, haltReq := false }).setReg
          (pg (45 + c.val) 19) (wordOf a.toNat)).raise (45 + c.val) 3)))

/-- RUBRIC_MICROWORD_WRITE, RUBRIC_ENTRY_WRITE, QUIESCE_REQUEST, QUIESCE_DONE and QUIESCE_RELEASE run (09 R334, R335; 11 R388). The microword
at UADR is stored and UADR advances. An entry that is switched off is taken, and one whose microwords end where it says is valid, with WR
as they write. Both are refused while the core's Rubric may not change, a microword in a LOST bank with LOST, an entry whose microwords
do not end there with CONFIG. A write of CTRL takes every QREQ bit, and ends the quiescence of the cores whose bit it clears. A core
whose quiescence is requested is quiescent when its Rubric unit has finished. -/
def Obligations.RubricCommandsRun : Prop :=
  ∀ (s : State) (w : Writer) (v : Word),
    (∀ (hi : Word) (k : Nat), s.Clear w 49 19 v → s.rubrRefusal s.usel false = 0 → k = rubrKey s.usel.val (s.fld (pg 49 17) 8 0) →
      s.lost k = false → hi = (s.udh.get? (writerNo w)).getD 0 → fieldOf hi 16 13 ≠ 15 →
      exec (.rubricMicrowordWrite w v) s
        = .next (settle s (((s.wrMem k hi).wrMem (k + 1) v).setF (pg 49 17) 8 0 (s.fld (pg 49 17) 8 0 + 1))))
    ∧ (∀ (c : Fin 4) (e : Fin 16) (k start len : Nat) (t : State), k = 32 + 16 * c.val + e.val → s.Clear w 49 k v →
      s.rubrRefusal c false = 0 → start = fieldOf v 8 0 → len = fieldOf v 16 15 + 1 → t = s.plain w 49 k v →
      (bitOf v 17 = false → exec (.rubricEntryWrite w c e v) s = .next (settle s t))
      ∧ (bitOf v 17 = true → s.entryOk c.val start len = true → exec (.rubricEntryWrite w c e v) s = .next (settle s
        ((t.memReadN (rubrKey c.val start) (2 * len)).2.2.setB (pg 49 k) 14 (s.entryWrites c.val start len)))))
    ∧ (∀ (c : Fin 4) (u : Word) (f : State → Nat → State), s.Clear w 49 2 u →
      f = (fun t k => if bitOf u k then t else t.setB (pg 49 3) k false) →
      (u = forceBit v c.val true → exec (.quiesceRequest w c v) s = .next (settle s (f (f (f (f (s.plain w 49 2 u) 0) 1) 2) 3)))
      ∧ (u = forceBit v c.val false → exec (.quiesceRelease w c v) s = .next (settle s (f (f (f (f (s.plain w 49 2 u) 0) 1) 2) 3))))
    ∧ (∀ c : Fin 4, s.bit (pg 49 2) c.val = true → s.bit (pg 49 3) c.val = false → exec (.quiesceDone c) s
        = .next (settle s (((s.setB (pg 49 3) c.val true).raise 49 c.val).setCore c { s.cores[c.val] with rubLeft := 0 })))
    ∧ (∀ c : Fin 4, s.bit (pg 49 2) c.val = false ∨ s.bit (pg 49 3) c.val = true → exec (.quiesceDone c) s = .next (settle s s))
    ∧ (∀ r : Nat, s.Clear w 49 19 v → r = s.rubrRefusal s.usel false ∧ r ≠ 0
        ∨ s.rubrRefusal s.usel false = 0 ∧ s.lost (rubrKey s.usel.val (s.fld (pg 49 17) 8 0)) = true ∧ r = eLOST →
      exec (.rubricMicrowordWrite w v) s = .next (settle s (s.recordRefusal w (some 49) 19 r (pageAddr 49 19))))
    ∧ (∀ (c : Fin 4) (e : Fin 16) (k r : Nat), k = 32 + 16 * c.val + e.val → s.Clear w 49 k v →
      r = s.rubrRefusal c false ∧ r ≠ 0 ∨ s.rubrRefusal c false = 0 ∧ bitOf v 17 = true
        ∧ s.entryOk c.val (fieldOf v 8 0) (fieldOf v 16 15 + 1) = false ∧ r = eCONFIG →
      exec (.rubricEntryWrite w c e v) s = .next (settle s (s.recordRefusal w (some 49) k r (pageAddr 49 k))))

/-! ### L-mode and the legacy window (spec/10) -/

/-- The L-mode instructions that compute in the D registers run (10 R345): each issues when VC0 has fetched it, with the operation of the
native opcode that the table names, and leaves its result and its flags to the end of the instruction. Where its word is being restored from
a borrow (11 R383), that waits to be done and the instruction has begun, and nothing else changes.

The L-mode instructions on the accumulators run (10 R345; 09 R308 to R311): product, accumulation and subtraction, extraction, the parts
of an accumulator, clear, copy, sum, negation; each result lands at the end of its instruction (10 R347). Where the word of the instruction
is being restored from a borrow (11 R383), the instruction has begun and waits. -/
def Obligations.LModeComputingRuns : Prop :=
  (∀ (s : State) (f : LFetch) (x : Core) (n : Nat), f = s.lFetch → s.lReady = true → x = f.state.cores[0] →
      ∀ (fin : LOp → Nat → List Result → State),
      (∀ op next res, fin op next res = settle s (((s.restoreFor (s.lKeys op none)).map
        fun t => t.setCore 0 { s.cores[0] with begun := true }).getD (f.state.lEnd op ⟨f.state, res, next, false⟩))) →
      n = s.cores[0].pc.toNat + 1 →
      (f.op = .ok .nop → exec .lNop s = .next (fin .nop n []))
      ∧ (f.op = .ok .reg → exec .lRegisterOperation s = .next (fin .reg n
          (lSoon (x.runX 0 (x1Body (lFn (bf f.w 4 0)) (bf f.w 13 11) (bf f.w 10 8) (bf f.w 7 5))).1)))
      ∧ (f.op = .ok .addi → exec .lAddi s = .next (fin .addi n (flagResult (bf f.w 13 11) (aluAdd (x.dv (bf f.w 13 11)) (lImm f.w) 0))))
      ∧ (f.op = .ok .ldi → exec .lLdi s = .next (fin .ldi n [(bf f.w 13 11, lImm f.w, 1)]))
      ∧ (f.op = .ok .cmpi → exec .lCmpi s = .next (fin .cmpi n [(rFlags, (aluSub (x.dv (bf f.w 13 11)) (lImm f.w) 0).2, 1)]))
      ∧ (f.op = .ok .shli → exec .lShli s = .next (fin .shli n (flagResult (bf f.w 13 11) (aluShl (x.dv (bf f.w 13 11)) (bf f.w 5 0)))))
      ∧ (f.op = .ok .shri → exec .lShri s = .next (fin .shri n (flagResult (bf f.w 13 11) (aluShr (x.dv (bf f.w 13 11)) (bf f.w 5 0)))))
      ∧ (f.op = .ok .asri → exec .lAsri s = .next (fin .asri n (flagResult (bf f.w 13 11) (aluAsr (x.dv (bf f.w 13 11)) (bf f.w 5 0)))))
      ∧ (f.op = .ok .lap → exec .lLap s = .next (fin .lap n
          [(0o40 + bf f.w 13 12, codeOf 16 (x.get 0 (0o40 + bf f.w 13 12) % 65536 + signedOf 11 (bf f.w 10 0)), 1)]))
      ∧ (f.op = .ok .lpi → exec .lLpi s = .next (fin .lpi (n + 1) [(0o40 + bf f.w 13 12, bf f.w2 15 0, 1)]))
      ∧ (f.op = .ok .ei → exec .lEi s = .next (fin .ei n [(rIe, 1, 1)]))
      ∧ (f.op = .ok .di → exec .lDi s = .next (fin .di n [(rIe, 0, 1)])))
  ∧ (∀ (s : State) (f : LFetch) (x : Core) (n a b : Nat) (sat : Bool), f = s.lFetch → s.lReady = true → x = f.state.cores[0] →
      ∀ (fin : LOp → List Result → State),
      (∀ op res, fin op res = settle s (((s.restoreFor (s.lKeys op none)).map
        fun t => t.setCore 0 { s.cores[0] with begun := true }).getD
        (f.state.lEnd op ⟨f.state, lSoon res, s.cores[0].pc.toNat + 1, false⟩))) →
      sat = bitOf x.sr 12 → a = x.dv (bf f.w 12 10) → b = x.dv (bf f.w 9 7) → n = bf f.w 13 13 →
      (f.op = .ok .mpy → exec .lMpy s = .next (fin .mpy (accWrite sat n (macProduct (bf f.w 4 4) a b))))
      ∧ (f.op = .ok .mac → exec .lMac s = .next (fin .mac (accWrite sat n (s44 (x.accInput n) + macProduct (bf f.w 4 4) a b))))
      ∧ (f.op = .ok .msu → exec .lMsu s = .next (fin .msu (accWrite sat n (s44 (x.accInput n) - macProduct (bf f.w 4 4) a b))))
      ∧ (f.op = .ok .ext → exec .lExt s = .next (fin .ext
          [(bf f.w 12 10, accExtract sat (bitOf x.sr 11) (x.get 0 (0o20 + n)) (signedOf 6 (bf f.w 9 4)), 3)]))
      ∧ (f.op = .ok .exh → exec .lExh s = .next (fin .exh [(bf f.w 12 10, x.get 0 (0o20 + n) / 2 ^ 18 % w18, 3)]))
      ∧ (f.op = .ok .ldh → exec .lLdh s = .next (fin .ldh (accWrite sat n (s18 a * 262144))))
      ∧ (f.op = .ok .clra → exec .lClra s = .next (fin .clra (accWrite sat n 0)))
      ∧ (f.op = .ok .mova → exec .lMova s = .next (fin .mova (accWrite sat n (s44 (x.get 0 (0o20 + (1 - n)))))))
      ∧ (f.op = .ok .adda → exec .lAdda s = .next (fin .adda (accWrite sat n (s44 (x.accInput n) + s44 (x.get 0 (0o20 + (1 - n)))))))
      ∧ (f.op = .ok .nega → exec .lNega s = .next (fin .nega (accWrite sat n (-(s44 (x.get 0 (0o20 + n))))))))

/-- The L-mode instructions of program flow and of register moves run (10 R345, R348): return, return from interrupt, idle, branch, jump,
call, and the moves between D and the L-mode registers; an illegal instruction or a fetch error halts VC0. Where the word of an instruction
that runs is being restored from a borrow (11 R383), the instruction has begun and waits.

The L-mode loads and stores run (10 R345, R350): a direct access takes the offset of the second word, an indirect one a pointer with its
update, both in the bank that PG names. An access to a domain that is off wakes it and waits for it; one whose wait timed out goes on
(14 R461). Where a word it needs is being restored from a borrow (11 R383), the instruction has begun and waits. -/
def Obligations.LModeFlowAndMemoryRun : Prop :=
  (∀ (s : State) (f : LFetch) (x : Core) (n : Nat), f = s.lFetch → s.lReady = true → x = f.state.cores[0] →
      ∀ (closeIt : LOp → LEffect → State) (fin : LOp → List Result → Nat → Bool → State),
      (∀ op e, closeIt op e = settle s (((s.restoreFor (s.lKeys op none)).map
        fun t => t.setCore 0 { s.cores[0] with begun := true }).getD (f.state.lEnd op e))) →
      (∀ op res next taken, fin op res next taken = closeIt op ⟨f.state, res, next, taken⟩) →
      n = s.cores[0].pc.toNat + 1 →
      (f.op = .ok .ret → exec .lRet s = .next (fin .ret [] x.ra.toNat true))
      ∧ (f.op = .ok .rti → exec .lRti s = .next (fin .rti [(0o140, x.isr.toNat, 1)] x.ira.toNat true))
      ∧ (f.op = .ok .idle → exec .lIdle s
          = .next (closeIt .idle ⟨f.state.setCore 0 { x with mode := .idle }, [], n, false⟩))
      ∧ (f.op = .ok .b → condHolds (fieldOf x.sr 3 0) (bf f.w 13 10) = true →
        exec .lB s = .next (fin .b [] (codeOf 16 (n + signedOf 10 (bf f.w 9 0))) true))
      ∧ (f.op = .ok .b → condHolds (fieldOf x.sr 3 0) (bf f.w 13 10) = false → exec .lB s = .next (fin .b [] n false))
      ∧ (f.op = .ok .jmp → exec .lJmp s = .next (fin .jmp [] (bf f.w2 15 0) true))
      ∧ (f.op = .ok .call → exec .lCall s = .next (fin .call [(0o142, n + 1, 1)] (bf f.w2 15 0) true))
      ∧ (∀ r, r = bf f.w 3 0 → f.op = .ok .mfl → exec .lMfl s = .next (fin .mfl [(bf f.w 12 10,
          if r = 0 then (x.sr &&& 0o411017).toNat else if r = 1 then x.pg.toNat else if r = 2 then x.ra.toNat
          else x.get 0 (0o40 + (r - 4)) % 65536, 1)] n false))
      ∧ (∀ r v, r = bf f.w 3 0 → v = x.dv (bf f.w 12 10) → f.op = .ok .mtl → exec .lMtl s = .next (fin .mtl
          [if r = 0 then (rSrL, v, 1) else if r = 1 then (0o141, v, 1) else if r = 2 then (0o142, v, 1) else (0o40 + (r - 4), v % 65536, 1)]
          n false))
      ∧ (∀ tcs, f.op = .error tcs → exec .lIllegalHalt s = .next (settle s (f.state.lHalt tcs))))
  ∧ (∀ (s : State) (f : LFetch) (t : State) (d n : Nat), f = s.lFetch → s.lReady = true → t = f.state → d = bf f.w 13 11 →
      n = s.cores[0].pc.toNat + 1 →
      ∀ (out : BankWord → LOp → LEffect → State),
      (∀ a op e, out a op e = settle s (
        if (s.bankOff2 a).isSome ∧ s.cores[0].wodTmo = false then
          (s.wakeDom ((s.bankOff2 a).getD 0)).setCore 0 { s.cores[0] with wod := true, begun := true }
        else ((s.restoreFor (s.lKeys op (some a))).map
          fun t => t.setCore 0 { s.cores[0] with begun := true }).getD (t.lEnd op e))) →
      (f.op = .ok .ldw → exec .lLdw s = .next (out (bankWord s.lBank (bf f.w2 15 0)) .ldw
        (lLoadTo t (some (bankWord t.lBank (bf f.w2 15 0))) d (n + 1) [])))
      ∧ (f.op = .ok .stw → exec .lStw s = .next (out (bankWord s.lBank (bf f.w2 15 0)) .stw
        (lStoreFrom t (some (bankWord t.lBank (bf f.w2 15 0))) d (n + 1) [])))
      ∧ (f.op = .ok .ldp → exec .lLdp s = .next (out (bankWord s.lBank (s.lOffset f.w)) .ldp
        (lLoadTo t (some (bankWord t.lBank (t.lOffset f.w))) d n (t.lUpdate f.w))))
      ∧ (f.op = .ok .stp → exec .lStp s = .next (out (bankWord s.lBank (s.lOffset f.w)) .stp
        (lStoreFrom t (some (bankWord t.lBank (t.lOffset f.w))) d n (t.lUpdate f.w)))))

/-- The results of an L-mode instruction that computes are in the registers after it (10 R347): ADDI leaves the sum in its register, the
flags of the sum in SR, and VC0 at the next word; no other D register, no register word and no word of memory changes. -/
def Obligations.LModeAddLandsAtOnce : Prop :=
  ∀ (s : State) (f : LFetch) (x : Core) (a : AluRes), f = s.lFetch → s.lReady = true → f.op = .ok .addi → x = f.state.cores[0] →
    s.restoreFor (s.lKeys .addi none) = none → x.inflight = [] → x.haltReq = false → a = aluAdd (x.dv (bf f.w 13 11)) (lImm f.w) 0 →
    ∃ t, exec .lAddi s = .next (settle s t) ∧ t.cores[0].get 0 (bf f.w 13 11) = a.1 ∧ fieldOf t.cores[0].sr 3 0 = a.2
      ∧ t.cores[0].pc = BitVec.ofNat 17 (s.cores[0].pc.toNat + 1) ∧ t.regs = f.state.regs ∧ t.mem = f.state.mem
      ∧ (∀ k, k < 16 → k ≠ bf f.w 13 11 → t.cores[0].get 0 k = x.get 0 k)

/-- Every write row of the window is checked (10 R340, R341, R353, R363, R367): in NATIVE the word does not exist; a writer that does not
reach the window is refused with PERM; where the word's domain is off, a session's write waits in its buffer in SLEEP and is refused with STATE
otherwise, and VC0's waits for the domain; then the word's own state rule, its range and its other checks refuse with their codes. A session's
write that arrives from the acceptance of an entry to SLEEP on is latched as a wake event (14 R469). A writer that is not there does nothing.

Every read row of the window that is not fresh (10 R340, R341, R354): in NATIVE the word does not exist, a session that does not reach the
window gets 0 and PERM, and a read that is not fresh gives the word as it stands, marked stale.

The commands of the window that control VC0, the dump FIFO, the latch, power and the mailboxes run (10 R353, R358, R359, R363): RUN moves
VC0, RESET takes its bits before RUN, CLR empties the FIFO; SLP asks for SLEEP; SNAP counts an epoch of the same cycle first, takes a latch of
its own, joins the one in progress, or gives the last one again, and is skipped in a warm restart and in SLEEP; a mailbox word raises its flags.

The UARTs and the time pulse of the window run (10 R361, R362): a character is loaded to send, the received one is given and removed,
TP0 is applied from the legacy words, the offset is taken with its held part and stands within the period. -/
def Obligations.LegacyControlCommandsRun : Prop :=
  (∀ (s t : State) (w : Writer) (row : Instr) (k : Nat) (x v : Word) (c : Fin 48) (u : Fin 2),
      (row, k, v) ∈ [(.legacyDspRun w x, 1, x), (.legacyDspReset w x, 1, forceBit x 1 true), (.legacyFifoClear w x, 1, forceBit x 2 true),
        (.legacyPowerDown w x, 7, forceBit x 0 true), (.legacySnap w x, 8, forceBit x 0 true), (.legacyMemoryAddressWrite w false x, 18, x),
        (.legacyMemoryAddressWrite w true x, 19, x), (.legacyMemoryPortWrite w x, 20, x), (.legacySampleEnable w x, 24, forceBit x 17 true),
        (.legacyChannelEnable w c x, 64 + 8 * c.val, forceBit x 17 true), (.legacyChannelDisable w c x, 64 + 8 * c.val, forceBit x 17 false),
        (.legacyCarrierWrite w c x, 66 + 8 * c.val, x), (.legacyCodeWrite w c x, 68 + 8 * c.val, x), (.legacyCodeSet w c x, 69 + 8 * c.val, x),
        (.legacyUartWrite w u x, 448 + 4 * u.val, x), (.legacyTpApply w x, 456, x), (.ltpoflWrite w x, 460, x)] →
      t = s.lwArrive w →
      (s.writerLive w = false → exec row s = .next (settle s s))
      ∧ (∀ q, w = .ses q → s.legacyDual = false → s.writerLive w = true → exec row s = .next (settle s (s.sesErr q.val eUNMAPPED k)))
      ∧ (s.legacyDual = true → s.writerLive w = true →
        (s.lwPermits w = false → exec row s = .next (settle s (s.lwRefuse w ePERM k)))
        ∧ (s.lwPermits w = true →
          (∀ q d, w = .ses q → s.lwOff k = some d →
            exec row s = .next (settle s (if s.asleep then t.lwPost q k v else t.lwRefuse w eSTATE k)))
          ∧ (∀ c d, w = .core c → s.lwOff k = some d → exec row s = .next (settle s (s.stallMem c (lwMark k) d v)))
          ∧ (s.lwOff k = none →
            ((lwHandler w k v t).state ≠ 0 → exec row s = .next (settle s (t.lwRefuse w (lwHandler w k v t).state k)))
            ∧ ((lwHandler w k v t).state = 0 → inRange .lwin k v = false ∨ (lwHandler w k v t).range = false →
              exec row s = .next (settle s (t.lwRefuse w eRANGE k)))
            ∧ ((lwHandler w k v t).state = 0 → inRange .lwin k v = true → (lwHandler w k v t).range = true → (lwHandler w k v t).extra ≠ 0 →
              exec row s = .next (settle s (t.lwRefuse w (lwHandler w k v t).extra k)))))))
  ∧ (∀ (s : State) (q : Fin 8) (u : Fin 2) (row : Instr) (k : Nat),
      (row, k) ∈ [(.legacyMailboxHostRead q, 17), (.legacyMemoryPortRead q, 20), (.legacyDumpFifoRead q, 21),
        (.legacyUartRead q u, 448 + 4 * u.val)] →
      (s.writerLive (.ses q) = false → exec row s = .next (settle s s))
      ∧ (s.writerLive (.ses q) = true → s.legacyDual = false →
        exec row s = .next (settle s ((s.sesErr q.val eUNMAPPED k).driveBus q 0 2)))
      ∧ (s.writerLive (.ses q) = true → s.legacyDual = true → s.lwPermits (.ses q) = false →
        exec row s = .next (settle s ((s.sesErr q.val ePERM k).driveBus q 0 2)))
      ∧ (s.writerLive (.ses q) = true → s.legacyDual = true → s.lwPermits (.ses q) = true → s.lwFresh k = false →
        exec row s = .next (settle s (s.driveBus q (s.lwPeek k) 1))))
  ∧ (∀ (s t : State) (w : Writer) (v : Word), t = s.lwArrive w →
      (∀ (row : Instr) (u : Word) (y : State),
        (row, u) ∈ [(.legacyDspRun w v, v), (.legacyDspReset w v, forceBit v 1 true), (.legacyFifoClear w v, forceBit v 2 true)] →
        s.LwClear w 1 u → y = (if bitOf u 2 then (t.setReg (lwKey 1) (u &&& 1)).dumpClear else t.setReg (lwKey 1) (u &&& 1)) →
        (bitOf u 1 = true → t.domOn 11 = true → exec row s = .next (settle s ((y.setB (lwKey 2) 3 false).resetCore 0)))
        ∧ (bitOf u 1 = true → t.domOn 11 = false → exec row s = .next (settle s y))
        ∧ (bitOf u 1 = false → bitOf u 0 = true → t.bit (lwKey 1) 0 = false →
          exec row s = .next (settle s ((y.setB (lwKey 2) 3 false).wantRun 0)))
        ∧ (bitOf u 1 = false → bitOf u 0 = false → t.bit (lwKey 1) 0 = true → exec row s = .next (settle s (y.wantHalt w 0)))
        ∧ (bitOf u 1 = false → bitOf u 0 = t.bit (lwKey 1) 0 → exec row s = .next (settle s y)))
      ∧ (s.LwClear w 7 (forceBit v 0 true) → t.phase = 0 → exec (.legacyPowerDown w v) s = .next (settle s (t.beginEntryLw w)))
      ∧ (s.LwClear w 8 (forceBit v 0 true) →
        (t.latchBarred = true → exec (.legacySnap w v) s = .next (settle s t.skipLatch))
        ∧ (∀ y, t.latchBarred = false → y = (if t.epochNow = true ∧ t.time.on = true then t.takeEpoch else t) →
          (y.latchFree y.rxt = true → exec (.legacySnap w v) s = .next (settle s (y.startLatch 3 0 y.rxt)))
          ∧ (y.latchFree y.rxt = false → y.meas.cur.isSome = true →
            exec (.legacySnap w v) s = .next (settle s { y with meas := { y.meas with legWant := true } }))
          ∧ (y.latchFree y.rxt = false → y.meas.cur = none → exec (.legacySnap w v) s = .next (settle s y.legacyLatch))))
      ∧ (∀ q, w = .ses q → s.LwClear w 16 v → exec (.legacyMailboxHostWrite q v) s
          = .next (settle s (((t.lwPlain 16 v).setB (lwKey 2) 1 true).setB (lwKey 3) 6 true)))
      ∧ (s.dspLive = true → exec .legacyMailboxDspRead s = .next (settle s (s.setB (lwKey 2) 1 false)))
      ∧ (s.LwClear (.core 0) 17 v → s.dspLive = true → exec (.legacyMailboxDspWrite v) s
          = .next (settle s (((s.lwPlain 17 v).setB (lwKey 2) 2 true).setB (lwKey 3) 7 true)))
      ∧ (s.dspLive = false → exec .legacyMailboxDspRead s = .next (settle s s) ∧ exec (.legacyMailboxDspWrite v) s = .next (settle s s))
      ∧ (∀ q, s.LwReads q 17 → exec (.legacyMailboxHostRead q) s
          = .next (settle s ((s.setB (lwKey 2) 2 false).driveBus q (s.reg (lwKey 17)) 0))))
  ∧ (∀ (s t : State) (w : Writer) (v : Word), t = s.lwArrive w →
      (∀ u : Fin 2, s.LwClear w (448 + 4 * u.val) v → (t.ser u.val).txHold = none →
        exec (.legacyUartWrite w u v) s
          = .next (settle s (t.setSer u.val { t.ser u.val with txHold := some (BitVec.ofNat 9 (fieldOf v 8 0)) })))
      ∧ (∀ (q : Fin 8) (u : Fin 2), s.LwReads q (448 + 4 * u.val) → exec (.legacyUartRead q u) s
          = .next (settle s (((s.setReg (serKey u.val 19) 0).setB (serKey u.val 3) 0 false).driveBus q (s.lwPeek (448 + 4 * u.val)) 0)))
      ∧ (s.LwClear w 456 v → t.bit (pg 17 3) 4 = false → State.legacyTpOk (t.legacyTp v) = true →
        exec (.legacyTpApply w v) s = .next (settle s (t.legacyTpApply v)))
      ∧ (∀ x, s.LwClear w 460 v → x = t.fld (lwKey 459) 9 0 * 262144 + v.toNat → 25 * x < (t.legacyTp 0).period →
        exec (.ltpoflWrite w v) s = .next (settle s { t.lwPlain 460 v with leg := { t.leg with ofs := x } })))

/-- The memory port and the dump FIFO of the window run (10 R354, R358): an address word takes the written value and ends the read-ahead; a
word of memory or of the window is read ahead while its domain is on; a fresh read returns it and moves OFS on; a write stores its word and
moves OFS on, into memory, the window or the port itself, and is refused where the target is unmapped, off or LOST; the FIFO gives its next
word, and records an uncorrectable one.

The sample input and the channels of the window are controlled (10 R355 to R357, R360): LSCTL with EN = 1 sets FEED0 and SMAP0 up and
trains, also while EN is 1; LCCTL writes the context and asks for admission, keeps a channel as it is, or disables; LCARL and LCODL take their
word for the channel: nothing more while EN = 0, a word of the next application while EN = 1, an update while it correlates; LCSET does nothing
while EN = 0, is kept for the admission, or arms a phase set. -/
def Obligations.LegacyPortAndChannelCommandsRun : Prop :=
  (∀ (s t : State) (w : Writer) (q : Fin 8) (v : Word), t = s.lwArrive w →
      (s.LwClear w 18 v → exec (.legacyMemoryAddressWrite w false v) s
        = .next (settle s { t.lwPlain 18 v with leg := { t.leg with portValid := false } }))
      ∧ (s.LwClear w 19 v → exec (.legacyMemoryAddressWrite w true v) s
        = .next (settle s { t.lwPlain 19 v with leg := { t.leg with portValid := false } }))
      ∧ (s.legacyDual = true → s.leg.portValid = false → s.portHomes.all s.domOn = true →
        (∀ key y, s.portWord = .mem key → y = (s.hostMemRead 0 key 20).2.2 → exec .legacyReadaheadComplete s
          = .next (settle s { y with leg := { y.leg with port := (s.hostMemRead 0 key 20).1, portValid := true } }))
        ∧ (∀ k, s.portWord = .win k → exec .legacyReadaheadComplete s
          = .next (settle s { s with leg := { s.leg with port := s.lwPeek k, portValid := true } }))
        ∧ (s.portWord = .none → exec .legacyReadaheadComplete s
          = .next (settle s { s with leg := { s.leg with port := 0, portValid := true } })))
      ∧ (s.legacyDual = false ∨ s.leg.portValid = true ∨ s.portHomes.all s.domOn = false →
        exec .legacyReadaheadComplete s = .next (settle s s))
      ∧ (s.LwReads q 20 → exec (.legacyMemoryPortRead q) s = .next (settle s (s.portNext.driveBus q s.leg.port 0)))
      ∧ (s.LwClear w 20 v →
        (∀ key, t.portWord = .mem key → t.domOn (bankDomainOf key) = true → t.lost key = false →
          exec (.legacyMemoryPortWrite w v) s = .next (settle s (t.wrMem key v).portNext))
        ∧ (∀ key, t.portWord = .mem key → t.domOn (bankDomainOf key) = false →
          exec (.legacyMemoryPortWrite w v) s = .next (settle s (t.lwRefuse w eSTATE 20)))
        ∧ (∀ key, t.portWord = .mem key → t.domOn (bankDomainOf key) = true → t.lost key = true →
          exec (.legacyMemoryPortWrite w v) s = .next (settle s (t.lwRefuse w eLOST 20)))
        ∧ (t.portWord = .none → exec (.legacyMemoryPortWrite w v) s = .next (settle s (t.lwRefuse w eUNMAPPED 20)))
        ∧ (t.portWord = .win 20 → exec (.legacyMemoryPortWrite w v) s
          = .next (settle s { t with leg := { t.leg with port := v } }.portNext))
        ∧ (∀ k, t.portWord = .win k → k ≠ 20 → (lwHomes k).all t.domOn = true → inRange .lwin k v = true → (lwWord w k v t).state = 0 →
          (lwWord w k v t).range = true → (lwWord w k v t).extra = 0 →
          exec (.legacyMemoryPortWrite w v) s = .next (settle s (lwWord w k v t).result.portNext)))
      ∧ (s.LwReads q 21 →
        (s.ldcnt = 0 → exec (.legacyDumpFifoRead q) s = .next (settle s ((s.setB (lwKey 3) 8 true).driveBus q 0 0)))
        ∧ (s.ldcnt ≠ 0 → ∀ (y : State) (d : Word) (bad : Bool), bad = ((s.ringReadE dumpRing (s.reg (ringKey dumpRing 3)).toNat 16).2.1 == 2) →
          y = (s.ringReadE dumpRing (s.reg (ringKey dumpRing 3)).toNat 16).2.2 →
          d = s.dumpWord (s.ringReadE dumpRing (s.reg (ringKey dumpRing 3)).toNat 16).1 s.leg.ldPos →
          ∀ z, z = (if s.leg.ldPos = 7 then { y.ringTake dumpRing 16 with leg := { y.leg with ldPos := 0 } }
              else { y with leg := { y.leg with ldPos := s.leg.ldPos + 1 } }) →
          exec (.legacyDumpFifoRead q) s = .next (settle s ((if bad then z.writerErr (.ses q) eECC 21 else z).driveBus q d 0)))))
  ∧ (∀ (s t : State) (w : Writer) (v : Word), t = s.lwArrive w →
      (∀ u, u = forceBit v 17 true → s.LwClear w 24 u →
        (t.bit (lwKey 24) 17 = true → fieldOf u 2 0 = t.fld (lwKey 24) 2 0) →
        (t.bit (lwKey 24) 17 = false → t.clockOk 0 7 (4092 * fieldOf u 2 0) = true
          ∧ (smapHandler w 0 0o400000 (t.legacyFeed (fieldOf u 2 0))).extra = 0) →
        exec (.legacySampleEnable w v) s = .next (settle s ((t.lwPlain 24 u).sampleOn w (fieldOf u 2 0))))
      ∧ (∀ (c : Fin 48) (u : Word) (k : Nat), k = lwKey (64 + 8 * c.val) → u = forceBit v 17 true → s.LwClear w (64 + 8 * c.val) u →
        (t.bit k 17 = false → t.chState c.val = 0 → t.bit (chKey c.val 3) 0 = false → t.lost (ctxKey c.val 0) = false →
          t.vOk (bitOf u 16) (t.legV c.val) = true → t.bit (lwKey 24) 17 = true →
          exec (.legacyChannelEnable w c v) s = .next (settle s (t.legacyEnable c.val u)))
        ∧ (t.bit k 17 = true → fieldOf u 16 14 = t.fld k 16 14 → fieldOf u 9 0 = t.fld k 9 0 →
          exec (.legacyChannelEnable w c v) s = .next (settle s (t.setReg k u))))
      ∧ (∀ (c : Fin 48) (u : Word) (k : Nat), k = lwKey (64 + 8 * c.val) → u = forceBit v 17 false → s.LwClear w (64 + 8 * c.val) u →
        (t.bit k 17 = true → fieldOf u 16 14 = t.fld k 16 14 → fieldOf u 9 0 = t.fld k 9 0 → t.bit (chKey c.val 3) 0 = false →
          (t.chState c.val ≠ 0 → exec (.legacyChannelDisable w c v) s
            = .next (settle s ((t.setReg k u).setChan c.val { t.chan c.val with disPend := true })))
          ∧ (t.chState c.val = 0 → exec (.legacyChannelDisable w c v) s = .next (settle s (t.setReg k u))))
        ∧ (t.bit k 17 = false → exec (.legacyChannelDisable w c v) s = .next (settle s (t.setReg k u))))
      ∧ (∀ (c : Fin 48) (x : Nat) (y : State), s.LwClear w (66 + 8 * c.val) v → x = t.fld (lwKey (65 + 8 * c.val)) 13 0 * 262144 + v.toNat →
        y = { t.lwPlain (66 + 8 * c.val) v with leg := { t.leg with w := t.leg.w.put c.val x } } →
        exec (.legacyCarrierWrite w c v) s = .next (settle s (y.legacyNco c.val 0)))
      ∧ (∀ (c : Fin 48) (x : Nat) (y : State), s.LwClear w (68 + 8 * c.val) v → x = t.fld (lwKey (67 + 8 * c.val)) 13 0 * 262144 + v.toNat →
        t.vOk (t.bit (lwKey (64 + 8 * c.val)) 16) x = true → (correlates (t.chState c.val) = true → 16 * x ≤ (t.chan c.val).fklim) →
        y = { t.lwPlain (68 + 8 * c.val) v with leg := { t.leg with v := t.leg.v.put c.val x } } →
        exec (.legacyCodeWrite w c v) s = .next (settle s (y.legacyNco c.val 1)))
      ∧ (∀ (c b fc fk : Nat) (sel : BitVec 2) (y : State), sel = (t.leg.stage.get? c).getD 0 ||| BitVec.ofNat 2 (2 ^ b) →
        y = { t with leg := { t.leg with stage := t.leg.stage.put c sel } } → fc = legacyFc (t.legW c) → fk = 16 * t.legV c →
        (t.bit (lwKey (64 + 8 * c)) 17 = false → t.legacyNco c b = t)
        ∧ (t.bit (lwKey (64 + 8 * c)) 17 = true → correlates (t.chState c) = false → t.legacyNco c b = y)
        ∧ (t.bit (lwKey (64 + 8 * c)) 17 = true → correlates (t.chState c) = true → t.legacyNco c b
          = y.commitUpdate c sel.toNat [wordOf (fc / 262144), wordOf fc, wordOf (fk / 262144), wordOf fk, 0, 0] none))
      ∧ (∀ (c : Fin 48) (y : State), s.LwClear w (69 + 8 * c.val) v →
        y = { t with leg := { t.leg with lcset := t.leg.lcset.put c.val (fieldOf v 17 10 * 1024 + fieldOf v 9 0) } } →
        (t.bit (lwKey (64 + 8 * c.val)) 17 = false → exec (.legacyCodeSet w c v) s = .next (settle s t))
        ∧ (t.bit (lwKey (64 + 8 * c.val)) 17 = true → holdsSlots (t.chState c.val) = false →
          exec (.legacyCodeSet w c v) s = .next (settle s y))
        ∧ (t.bit (lwKey (64 + 8 * c.val)) 17 = true → holdsSlots (t.chState c.val) = true → t.bit (chKey c.val 3) 1 = false →
          fieldOf v 9 0 < t.primary c.val → exec (.legacyCodeSet w c v) s = .next (settle s (y.arm c.val (y.legacyPhase c.val))))))

/-! ### Memory errors, the Blotter, retention (spec/11) -/

/-- ECC_WRITEBACK and QUIRE_ACCESS_TIMEOUT run (11 R370, R376, R391): the oldest correction is written back, and counts when it is the
Quire's; a timeout counts, raises QTMO and is recorded with its requester and its word unless a record stands. A rank's channel faults; a
core's stalled store of the word is discarded, or its load of the word will return 0; a host's write of the word that waits is discarded, and
the session records TIMEOUT; the Blotter's access has no further effect.

LOST_ACKNOWLEDGE and RETENTION_MONITOR_TRIP run (11 R387, R388): a 1 clears the LOST bit of a bank, in the high or the low word; the
monitor of a retained bank trips while its domain is off, and does nothing otherwise. -/
def Obligations.MemoryEventsRun : Prop :=
  (∀ (s : State),
      (∀ (k : Nat) (r : List Nat) (t : State), s.blot.wb = k :: r →
        t = { s with blot := { s.blot with wb := r, eccBad := s.blot.eccBad.del k } } →
        exec .eccWriteback s = .next (settle s (if (memOf k).1 = 9 then t.incSat (pg 42 28) else t)))
      ∧ (s.blot.wb = [] → exec .eccWriteback s = .next (settle s s))
      ∧ (∀ (o : BitVec 15) (t u : State) (rq : QReq), t = (s.incSat (pg 42 17)).raise 42 0 →
        u = (if t.bit (pg 42 18) 17 then t else (t.setReg (pg 42 18) (wordOf (131072 + (qreqCode rq).1 * 32768 + (qreqCode rq).2 * 4096))).setReg
          (pg 42 19) (wordOf o.toNat)) →
        (∀ r c, rq = .rank r c → exec (.quireAccessTimeout rq o) s = .next (settle s (u.chanFault c.val 5)))
        ∧ (∀ c x, rq = .core c → x = u.cores[c.val] →
          (∀ a v, x.stallW = some (a, v) → quireWord a.toNat = some o.toNat → exec (.quireAccessTimeout rq o) s
            = .next (settle s ((u.setCore c { x with stallW := none, wod := false }).coreErr c.val eTIMEOUT)))
          ∧ ((∀ a v, x.stallW = some (a, v) → quireWord a.toNat ≠ some o.toNat) → exec (.quireAccessTimeout rq o) s
            = .next (settle s ((u.setCore c { x with qTmo := some o.toNat }).coreErr c.val eTIMEOUT))))
        ∧ (∀ q, rq = .host q →
          (∀ a v l, (u.sess[q.val]).post = (a, v) :: l → quireWord a.toNat = some o.toNat → exec (.quireAccessTimeout rq o) s
            = .next (settle s ({ u with sess := u.sess.set q.val { u.sess[q.val] with post := l } }.sesErr q.val eTIMEOUT a.toNat)))
          ∧ ((∀ a v l, (u.sess[q.val]).post = (a, v) :: l → quireWord a.toNat ≠ some o.toNat) → exec (.quireAccessTimeout rq o) s
            = .next (settle s (u.sesErr q.val eTIMEOUT (quireBase + o.toNat)))))
        ∧ (rq = .blotter → exec (.quireAccessTimeout rq o) s = .next (settle s u))))
  ∧ (∀ (s : State),
      (∀ (w : Writer) (v : Word), s.Clear w 44 20 v → exec (.lostAcknowledge w true v) s = .next (settle s (s.plain w 44 20 v)))
      ∧ (∀ (w : Writer) (v : Word), s.Clear w 44 21 v → exec (.lostAcknowledge w false v) s = .next (settle s (s.plain w 44 21 v)))
      ∧ (∀ (w : Writer) (v : Word) (i : Nat), Store.wf s.regs = true → s.Clear w 44 21 v → i < 18 →
        (s.plain w 44 21 v).bit (pg 44 21) i = (s.bit (pg 44 21) i && !bitOf v i))
      ∧ (∀ (w : Writer) (v : Word) (i : Nat), Store.wf s.regs = true → s.Clear w 44 20 v → i < 8 →
        (s.plain w 44 20 v).bit (pg 44 20) i = (s.bit (pg 44 20) i && !bitOf v i))
      ∧ (∀ b : Fin 26, s.blot.held.getLsbD b.val = true → s.domOn (bankDomain b.val) = false →
        exec (.retentionMonitorTrip b) s
          = .next (settle s { s with blot := { s.blot with mon := s.blot.mon ||| BitVec.ofNat 26 (2 ^ b.val) } }))
      ∧ (∀ b : Fin 26, s.blot.held.getLsbD b.val = false ∨ s.domOn (bankDomain b.val) = true →
        exec (.retentionMonitorTrip b) s = .next (settle s s)))

/-- The Blotter's commands and events run (11 R379 to R384): a borrow saves the next region and ends the reservations in it, or ends the
sweep when no region is left, and none begins while the Blotter is off or borrows; its end writes the region back and records the first wrong
read of its march; an abort starts the restore, whose end counts, and ends the sweep when the region was already skipped; RESTART begins a new
sweep; XCTL applies an exclusion range, which aborts a borrow in it, or removes it. -/
def Obligations.BlotterRuns : Prop :=
  ∀ (s : State),
    (∀ m r t g, s.bit (pg 43 2) 0 = true → s.domOn 2 = true → s.blot.borrow = none → s.nextBorrow = some (m, r) →
      t = (((s.memReadN (memKey m (64 * r)) 64).2.2.setReg (pg 43 18) (wordOf m)).setReg2 (pg 43 19) (64 * r)).setB (pg 43 3) 0 true →
      g = memKey m (64 * r) / 8 →
      exec .blotterBorrow s = .next (settle s { t with
        blot := { t.blot with borrow := some (m, r, (s.memReadN (memKey m (64 * r)) 64).1), restoring := false, next := (m, r + 1) }
        cores := t.cores.map fun c => (List.range 8).foldl (fun (c : Core) i => c.clearResv (g + i)) c }))
    ∧ (s.bit (pg 43 2) 0 = true → s.domOn 2 = true → s.blot.borrow = none → s.nextBorrow = none →
      exec .blotterBorrow s = .next (settle s ((s.inc (pg 43 21)).raise 43 0).newSweep))
    ∧ (s.bit (pg 43 2) 0 = false ∨ s.domOn 2 = false ∨ s.blot.borrow.isSome = true → exec .blotterBorrow s = .next (settle s s))
    ∧ (∀ m r l, s.blot.borrow = some (m, r, l) → s.blot.restoring = false →
      exec (.blotterBorrowDone none) s = .next (settle s (s.restoreRegion m r).endSweep))
    ∧ (∀ m r l f, s.blot.borrow = some (m, r, l) → s.blot.restoring = false →
      exec (.blotterBorrowDone (some f)) s = .next (settle s ((s.restoreRegion m r).marchFail m r f).endSweep))
    ∧ (∀ f, s.blot.borrow = none ∨ s.blot.restoring = true → exec (.blotterBorrowDone f) s = .next (settle s s))
    ∧ (∀ m r l, s.blot.borrow = some (m, r, l) → exec .blotterAbort s = .next (settle s { s with
        blot := { s.blot with restoring := true, skip := (m, r) :: s.blot.skip.filter (fun x => x != (m, r)) } }))
    ∧ (s.blot.borrow = none → exec .blotterAbort s = .next (settle s s))
    ∧ (∀ m r l t, s.blot.borrow = some (m, r, l) → s.blot.restoring = true → t = ((s.restoreRegion m r).incSat (pg 43 22)).raise 43 1 →
      exec .blotterRestoreDone s = .next (settle s (if s.blot.skip.contains (m, r) then (t.incSat (pg 43 23)).endSweep else t)))
    ∧ (s.blot.borrow = none ∨ s.blot.restoring = false → exec .blotterRestoreDone s = .next (settle s s))
    ∧ (∀ (w : Writer) (v u : Word), u = forceBit v 1 true → s.Clear w 43 2 u →
      exec (.blotterRestart w v) s = .next (settle s (s.plain w 43 2 u).abortBorrow.newSweep))
    ∧ (∀ (w : Writer) (v : Word) (m k lo hi : Nat) (t : State), s.Clear w 43 33 v → m = s.fld (pg 43 32) 7 4 →
      k = 8 * m + s.fld (pg 43 32) 2 0 → lo = s.reg2 (pg 43 34) → hi = s.reg2 (pg 43 36) → t = s.plain w 43 33 v →
      (lo ≤ hi → hi < memSize m → bitOf v 17 = true → exec (.exclusionApply w v) s
        = .next (settle s ({ t with blot := { t.blot with excl := t.blot.excl.put k (lo, hi) } }.abortRange m lo (hi + 1))))
      ∧ (lo ≤ hi → hi < memSize m → bitOf v 17 = false → exec (.exclusionApply w v) s
        = .next (settle s { t with blot := { t.blot with excl := t.blot.excl.del k } }))
      ∧ (hi < lo ∨ memSize m ≤ hi → exec (.exclusionApply w v) s
        = .next (settle s (s.recordRefusal w (some 43) 33 eRANGE (pageAddr 43 33)))))

/-! ### Rings, events, sessions and the host ports (spec/12) -/

/-- RING_CONFIG and RING_INDEX_WRITE run (12 R416 to R418): an accepted RCFG starts a ring that it enables empty, and otherwise leaves the
indices, and what the ring's old sides lose by it follows; it is refused with STATE for the legacy dump ring of LEGACY and DUAL or a new size of
an enabled ring, with RANGE for a unit code that is none, with CONFIG for a buffer that does not fit or overlaps. An index moves within the room
or the fill of the ring when its own side writes it, and a write beyond them is refused with RANGE, one by another
unit or to a ring that is off with STATE, and each sets IXERR. -/
def Obligations.RingCommandsRun : Prop :=
  ∀ (s : State) (w : Writer) (r : Fin 64) (v : Word),
    (∀ (p wd base : Nat) (t : State) (refuse : Nat → Host.Outcome State Fault Refusal), p = 6 + r.val / 32 → wd = 32 + 8 * (r.val % 32) →
      s.Clear w p wd v → base = s.fld (ringKey r.val 1) 12 0 → t = s.plain w p wd v →
      (∀ c, refuse c = .next (settle s (s.recordRefusal w (some p) wd c (pageAddr p wd)))) →
      ((s.legacyDual = true ∧ r.val = 62) ∨ (s.ringOn r.val = true ∧ fieldOf v 16 13 ≠ s.fld (ringKey r.val 0) 16 13) →
        exec (.ringConfig w r v) s = refuse eSTATE)
      ∧ ((s.legacyDual = true → r.val ≠ 62) → (s.ringOn r.val = true → fieldOf v 16 13 = s.fld (ringKey r.val 0) 16 13) →
        (unitCodeOk (fieldOf v 12 8) = false ∨ unitCodeOk (fieldOf v 7 3) = false → exec (.ringConfig w r v) s = refuse eRANGE)
        ∧ (unitCodeOk (fieldOf v 12 8) = true → unitCodeOk (fieldOf v 7 3) = true →
          (s.ringOn r.val = true ∨ bitOf v 17 = false → exec (.ringConfig w r v) s = .next (settle s (t.ringChanged r.val)))
          ∧ (s.ringOn r.val = false → bitOf v 17 = true →
            (8192 < base + 2 ^ fieldOf v 16 13 ∨ s.ringOverlaps r.val base (fieldOf v 16 13) = true →
              exec (.ringConfig w r v) s = refuse eCONFIG)
            ∧ (base + 2 ^ fieldOf v 16 13 ≤ 8192 → s.ringOverlaps r.val base (fieldOf v 16 13) = false →
              exec (.ringConfig w r v) s
                = .next (settle s (((t.setReg (ringKey r.val 2) 0).setReg (ringKey r.val 3) 0).ringChanged r.val)))))))
    ∧ (∀ (p wd u : Nat), p = 6 + r.val / 32 → wd = 34 + 8 * (r.val % 32) → s.Clear w p wd v → writerCode w = some u →
      s.prodIs r.val u = true → (v - s.reg (ringKey r.val 2)).toNat ≤ s.ringRoom r.val →
      exec (.ringIndexWrite w r true v) s = .next (settle s ((s.setReg (ringKey r.val 2) v).flowRing r.val)))
    ∧ (∀ (p wd u : Nat), p = 6 + r.val / 32 → wd = 35 + 8 * (r.val % 32) → s.Clear w p wd v → writerCode w = some u →
      s.consIs r.val u = true → (v - s.reg (ringKey r.val 3)).toNat ≤ s.ringFill r.val →
      exec (.ringIndexWrite w r false v) s = .next (settle s ((s.setReg (ringKey r.val 3) v).flowRing r.val)))
    ∧ (∀ (p wd u : Nat), p = 6 + r.val / 32 → wd = 34 + 8 * (r.val % 32) → s.Clear w p wd v → writerCode w = some u →
      s.prodIs r.val u = true → s.ringRoom r.val < (v - s.reg (ringKey r.val 2)).toNat →
      exec (.ringIndexWrite w r true v) s
        = .next (settle s ((s.recordRefusal w (some p) wd eRANGE (pageAddr p wd)).setB (ringKey r.val 7) 4 true)))
    ∧ (∀ (p wd u : Nat), p = 6 + r.val / 32 → wd = 35 + 8 * (r.val % 32) → s.Clear w p wd v → writerCode w = some u →
      s.consIs r.val u = true → s.ringFill r.val < (v - s.reg (ringKey r.val 3)).toNat →
      exec (.ringIndexWrite w r false v) s
        = .next (settle s ((s.recordRefusal w (some p) wd eRANGE (pageAddr p wd)).setB (ringKey r.val 7) 4 true)))
    ∧ (∀ (p wd : Nat) (prod : Bool), p = 6 + r.val / 32 → wd = (if prod then 34 else 35) + 8 * (r.val % 32) → s.Clear w p wd v →
      (∀ u, writerCode w = some u → (if prod then s.prodIs r.val u else s.consIs r.val u) = false) →
      exec (.ringIndexWrite w r prod v) s
        = .next (settle s ((s.recordRefusal w (some p) wd eSTATE (pageAddr p wd)).setB (ringKey r.val 7) 4 true)))

/-- An index write, accepted or refused, leaves the fill of every ring within its size (12 R415, R418). -/
def Obligations.RingFillStaysWithinSize : Prop :=
  ∀ (s t : State) (w : Writer) (r : Fin 64) (prod : Bool) (v : Word), Store.wf s.regs = true →
    (∀ k, k < 64 → s.ringFill k ≤ s.ringSize k) → exec (.ringIndexWrite w r prod v) s = .next t →
    ∀ k, k < 64 → t.ringFill k ≤ t.ringSize k

/-- SWSET_WRITE, TIMER_LOAD, TIMER_EXPIRY, ROUTE_WRITE and EVENT_RECORD_WRITE run (12 R420 to R424): software sources are set, a timer is
loaded, expires and is loaded again or stops, a route is written, or refused with STATE for a session that is not there or for HIRQ0 beside the
window; the oldest rise that waits gets its record in the event ring, or is dropped and counted when the ring does not take it. -/
def Obligations.EventControllerRuns : Prop :=
  ∀ (s : State) (w : Writer) (v : Word),
    (∀ high : Bool, s.Clear w 4 (if high then 29 else 28) v → exec (.swsetWrite w high v) s
        = .next (settle s (s.setReg (pg 4 (if high then 31 else 30)) (s.reg (pg 4 (if high then 31 else 30)) ||| v))))
    ∧ (∀ (k : Fin 6) (u : Word), u = forceBit v 17 true → s.Clear w 4 (34 + 2 * k.val) u →
      exec (.timerLoad w k v) s = .next (settle s ((s.plain w 4 (34 + 2 * k.val) u).loadTimer k.val)))
    ∧ (∀ (k : Fin 6) (t : State), t = s.setB (pg 4 33) k.val true → s.bit (pg 4 (34 + 2 * k.val)) 17 = true → s.domOn 2 = true →
      (s.bit (pg 4 (34 + 2 * k.val)) 16 = false → exec (.timerExpiry k) s = .next (settle s (t.setB (pg 4 (34 + 2 * k.val)) 17 false)))
      ∧ (s.bit (pg 4 (34 + 2 * k.val)) 16 = true → exec (.timerExpiry k) s = .next (settle s (t.loadTimer k.val))))
    ∧ (∀ k : Fin 6, s.bit (pg 4 (34 + 2 * k.val)) 17 = false ∨ s.domOn 2 = false → exec (.timerExpiry k) s = .next (settle s s))
    ∧ (∀ k : Fin 192, s.Clear w 4 (64 + k.val) v →
      ((bitOf v 8 = true → s.present (fieldOf v 7 5) = true) → (bitOf v 11 = true → fieldOf v 10 9 = 0 → s.legacyDual = false) →
        exec (.routeWrite w k v) s = .next (settle s (s.plain w 4 (64 + k.val) v)))
      ∧ ((bitOf v 8 = true ∧ s.present (fieldOf v 7 5) = false) ∨ (bitOf v 11 = true ∧ fieldOf v 10 9 = 0 ∧ s.legacyDual = true) →
        exec (.routeWrite w k v) s
          = .next (settle s (s.recordRefusal w (some 4) (64 + k.val) eSTATE (pageAddr 4 (64 + k.val))))))
    ∧ (∀ (src q n : Nat) (tv : Bool) (l : List (Nat × Nat × Bool × Nat)) (r : Nat) (x : State), s.domOn 2 = true →
      s.ev.rises = (src, q, tv, n) :: l → r = s.fld (sesKey q 8) 5 0 →
      x = { s.setReg (sesKey q 9) (s.reg (sesKey q 9) + 1) with ev := { s.ev with rises := l } } →
      (s.bit (sesKey q 8) 17 = true → s.prodIs r 17 = true → s.consIs r q = true → 6 ≤ s.ringRoom r →
        exec .eventRecordWrite s = .next (settle s ((x.ringPut r ([wordOf (b2n (s.ses q).evOvr * 131072 + b2n tv * 65536 + src),
          s.reg (sesKey q 9) + 1] ++ rxtWords n)).setSes q { s.ses q with evOvr := false })))
      ∧ (s.bit (sesKey q 8) 17 = false ∨ s.prodIs r 17 = false ∨ s.consIs r q = false ∨ s.ringRoom r < 6 →
        exec .eventRecordWrite s = .next (settle s ((x.incSat (sesKey q 10)).setSes q { s.ses q with evOvr := true }))))
    ∧ (s.domOn 2 = false ∨ s.ev.rises = [] → exec .eventRecordWrite s = .next (settle s s))

/-- SESSION_ENABLE, PERMISSION_MASK_WRITE, DOORBELL_SET and DELIVERY_RECORD run (12 R395, R396, R399, R408, R425). EN of sessions 0 to 3 is not
written; an Iluhi session goes on when its port is free for it, is refused with BUSY beside a drain or a feed and with CONFIG for a character of
other than 8 bits, and a session that goes off ends. A session's mask is written by another session alone, and else refused with STATE. A record
of the delivery ring is read, offered to every session, taken and counted, and one with an uncorrectable word is recorded with ECC: a session
that asks for every n-th record gets it in its ring, marked when one before was dropped, or loses it, counted and raised, when the ring has no
room.

A doorbell needs no permission for its page, sets the bits written with 1 and clears none (12 R399): of the word that the receiving
session reads, a bit is 1 after the write exactly when it was 1 or was written with 1. -/
def Obligations.SessionCommandsRun : Prop :=
  (∀ (s : State) (w : Writer) (q : Fin 8) (v : Word),
      (∀ (t : State) (refuse : Nat → Host.Outcome State Fault Refusal), s.Clear w 5 (32 + 16 * q.val) v → t = s.plain w 5 (32 + 16 * q.val) v →
        (∀ c, refuse c = .next (settle s (s.recordRefusal w (some 5) (32 + 16 * q.val) c (pageAddr 5 (32 + 16 * q.val))))) →
        (q.val < 4 → exec (.sessionEnable w q v) s
          = .next (settle s (s.plain w 5 (32 + 16 * q.val) (forceBit v 17 (s.bit (sesKey q.val 0) 17)))))
        ∧ (4 ≤ q.val → bitOf v 17 = true → s.fld (serKey (q.val - 4) 21) 17 16 ≠ 0 → exec (.sessionEnable w q v) s = refuse eBUSY)
        ∧ (4 ≤ q.val → bitOf v 17 = true → s.fld (serKey (q.val - 4) 21) 17 16 = 0 → s.fld (serKey (q.val - 4) 16) 9 6 ≠ 8 →
          exec (.sessionEnable w q v) s = refuse eCONFIG)
        ∧ (4 ≤ q.val → bitOf v 17 = true → s.fld (serKey (q.val - 4) 21) 17 16 = 0 → s.fld (serKey (q.val - 4) 16) 9 6 = 8 →
          exec (.sessionEnable w q v) s = .next (settle s t))
        ∧ (4 ≤ q.val → bitOf v 17 = false → s.bit (sesKey q.val 0) 17 = true →
          exec (.sessionEnable w q v) s = .next (settle s (t.endSession q.val)))
        ∧ (4 ≤ q.val → bitOf v 17 = false → s.bit (sesKey q.val 0) 17 = false → exec (.sessionEnable w q v) s = .next (settle s t)))
      ∧ (s.Clear w 5 (33 + 16 * q.val) v →
        (∀ x : Fin 8, w = .ses x → x ≠ q → exec (.permissionMaskWrite w q v) s = .next (settle s (s.plain w 5 (33 + 16 * q.val) v)))
        ∧ ((∀ x : Fin 8, w = .ses x → x = q) → exec (.permissionMaskWrite w q v) s
          = .next (settle s (s.recordRefusal w (some 5) (33 + 16 * q.val) eSTATE (pageAddr 5 (33 + 16 * q.val))))))
      ∧ (s.Clear w 5 (38 + 16 * q.val) v →
        exec (.doorbellSet w q v) s = .next (settle s (s.setReg (sesKey q.val 7) (s.reg (sesKey q.val 7) ||| v))))
      ∧ (∀ (r n : Nat) (e : List Word × Nat × State), r = s.fld (pg 5 17) 5 0 →
        n = 8 + s.fld (pg 5 17) 16 11 * fieldOf (s.rdMem (s.ringAddr r (s.reg (ringKey r 3)).toNat)) 15 6 →
        e = s.ringReadE r (s.reg (ringKey r 3)).toNat n →
        (s.bit (pg 5 17) 17 = true → s.consIs r 18 = true → s.domOn 2 = true → n ≤ s.ringFill r → exec .deliveryRecord s
          = .next (settle s ((((List.range 8).foldl (fun t q => t.offer e.1 q)
            (if e.2.1 = 2 then e.2.2.pageErr 5 eECC 2 else e.2.2)).ringTake r n).inc (pg 5 18))))
        ∧ (s.bit (pg 5 17) 17 = false ∨ s.consIs r 18 = false ∨ s.domOn 2 = false ∨ s.ringFill r < n →
          exec .deliveryRecord s = .next (settle s s)))
      ∧ (∀ (l : List Word) (n r : Nat) (x : Ses) (t : State), x = s.ses n → r = s.fld (sesKey n 11) 5 0 →
        t = s.setSes n { x with dlvCnt := x.dlvCnt + 1 } →
        (s.present n = false ∨ s.bit (sesKey n 11) 17 = false → s.offer l n = s)
        ∧ (s.present n = true → s.bit (sesKey n 11) 17 = true →
          (x.dlvCnt % max 1 (s.fld (sesKey n 11) 16 9) ≠ 0 → s.offer l n = t)
          ∧ (x.dlvCnt % max 1 (s.fld (sesKey n 11) 16 9) = 0 →
            (t.prodIs r 18 = true → l.length ≤ t.ringRoom r → ∀ y, y = t.ringPut r (forceBit (l.headD 0) 0 x.dlvDrop :: l.tail) →
              s.offer l n = y.setSes n { y.ses n with dlvDrop := false })
            ∧ (t.prodIs r 18 = false ∨ t.ringRoom r < l.length → ∀ y, y = (t.incSat (sesKey n 12)).raise 5 1 →
              s.offer l n = y.setSes n { y.ses n with dlvDrop := true })))))
  ∧ (∀ (s : State) (w : Writer) (q : Fin 8) (v : Word) (i : Nat), Store.wf s.regs = true → s.Clear w 5 (38 + 16 * q.val) v →
      ∃ t, exec (.doorbellSet w q v) s = .next (settle s t)
        ∧ t.bit (sesKey q.val 7) i = (s.bit (sesKey q.val 7) i || bitOf v i)
        ∧ (∀ k, k ≠ sesKey q.val 7 → t.reg k = s.reg k) ∧ t.mem = s.mem)

/-- HOST_BUS_READ, HOST_BUS_WRITE and POSTED_WRITE_PERFORM run (12 R400, R401, R405; 10 R363; 11 R383): a read is answered on the bus with its
tag, a write waits in the posting buffer of its session, or is discarded and counted when that is full; one for the legacy window wakes a
device that sleeps. A cycle that breaks the rules counts and drives nothing; without a select, with no session behind it, in reset or with HIF
off the bus drives nothing. The head of a buffer is performed unless it must wait: for its session, for the window, for a restore, which it
starts; a write into memory reaches the copy in the window too.

SHADOW_REFILL, READAHEAD_POINTER_WRITE, PREFETCH_COMPLETE and PREFETCH_TIMEOUT run (12 R403, R404; 11 R383): the shadows of a domain that is
on are filled again; a pointer that 64 words of one region and the session's mask allow applies, and any other is refused; a prefetch ends with
all 64 words, waits for a restore, which it starts, or for its domain, or times out with the words it has. -/
def Obligations.HostBusCommandsRun : Prop :=
  (∀ (s : State) (a : BitVec 24) (v : Word),
      (∀ (q : Fin 8) (cs0 cs1 : Bool), s.busLive = true → cs0 = !cs1 → q = (if cs0 then 0 else 1) →
        (s.writerLive (.ses q) = true →
          (∀ r : Word × BitVec 2 × State, r = s.hostRead q a.toNat → exec (.hostBusRead cs0 cs1 false a) s
            = .next (settle s { r.2.2 with pins := { r.2.2.pins with busOut := some (r.1, r.2.1) } }))
          ∧ (∀ y, (s.ses q.val).post.length < 16 → y = s.busOff.setSes q.val { s.ses q.val with post := (s.ses q.val).post ++ [(a, v)] } →
            exec (.hostBusWrite cs0 cs1 false a v) s = .next (settle s
              (if wakesFrom s.wakeState 11 = true ∧ s.reachesWindow q.val = true ∧ a.toNat < 512 then y.latchWake 11 else y)))
          ∧ (16 ≤ (s.ses q.val).post.length → exec (.hostBusWrite cs0 cs1 false a v) s
            = .next (settle s (((s.busOff.sesErr q.val eBUSY a.toNat).incSat (pg 8 17)).raise 8 0))))
        ∧ (s.writerLive (.ses q) = false → exec (.hostBusRead cs0 cs1 false a) s = .next (settle s s.busOff)
          ∧ exec (.hostBusWrite cs0 cs1 false a v) s = .next (settle s s.busOff)))
      ∧ (∀ (cs0 cs1 other : Bool), s.busLive = true → ((cs0 && cs1) || other) = true →
        exec (.hostBusRead cs0 cs1 other a) s = .next (settle s ((s.incSat (pg 8 16)).raise 8 1).busOff)
        ∧ exec (.hostBusWrite cs0 cs1 other a v) s = .next (settle s ((s.incSat (pg 8 16)).raise 8 1).busOff))
      ∧ (s.busLive = true → exec (.hostBusRead false false false a) s = .next (settle s s.busOff)
        ∧ exec (.hostBusWrite false false false a v) s = .next (settle s s.busOff))
      ∧ (∀ (cs0 cs1 other : Bool), s.busLive = false → exec (.hostBusRead cs0 cs1 other a) s = .next (settle s s.busOff)
        ∧ exec (.hostBusWrite cs0 cs1 other a v) s = .next (settle s s.busOff))
      ∧ (∀ (q : Fin 8) (l : List (BitVec 24 × Word)) (t : State), (s.ses q.val).post = (a, v) :: l →
        t = s.setSes q.val { s.ses q.val with post := l } →
        (s.writerLive (.ses q) = false ∨ s.postWaits a.toNat = true → exec (.postedWritePerform q) s = .next (settle s s))
        ∧ (s.writerLive (.ses q) = true → s.postWaits a.toNat = false →
          (∀ u, s.restoreFor (s.reaches (.ses q) a.toNat).toList = some u → exec (.postedWritePerform q) s = .next (settle s u))
          ∧ (s.restoreFor (s.reaches (.ses q) a.toNat).toList = none →
            (t.memAccepts (.ses q) a.toNat v = false →
              exec (.postedWritePerform q) s = .next (settle s (t.writeAddr (.ses q) a.toNat v)))
            ∧ (t.memAccepts (.ses q) a.toNat v = true →
              exec (.postedWritePerform q) s = .next (settle s ((t.writeAddr (.ses q) a.toNat v).windowCopy q.val a.toNat v))))))
      ∧ (∀ q : Fin 8, (s.ses q.val).post = [] → exec (.postedWritePerform q) s = .next (settle s s)))
  ∧ (∀ (s : State) (q : Fin 8) (v : Word),
      (∀ d : Fin 16, s.domOn d.val = true → exec (.shadowRefill d) s
        = .next (settle s { s with pwr := { s.pwr with refilled := s.pwr.refilled ||| BitVec.ofNat 16 (2 ^ d.val) } }))
      ∧ (∀ d : Fin 16, s.domOn d.val = false → exec (.shadowRefill d) s = .next (settle s s))
      ∧ (∀ p, s.Clear (.ses q) 8 33 v → s.windowOnly q.val = false → p = s.fld (pg (ownPage q.val) 32) 5 0 * 262144 + v.toNat →
        (s.windowRefusal q.val p = 0 →
          exec (.readaheadPointerWrite q v) s = .next (settle s ((s.plain (.ses q) 8 33 v).startPrefetch q.val p)))
        ∧ (s.windowRefusal q.val p ≠ 0 → exec (.readaheadPointerWrite q v) s
          = .next (settle s (s.recordRefusal (.ses q) (some 8) 33 (s.windowRefusal q.val p) (pageAddr 8 33)))))
      ∧ (∀ keys : List Nat, keys = (List.range 64).map (fun i => (s.ses q.val).win + i) → s.prefetching q.val = true → s.windowOn q.val = true →
        (∀ u, s.restoreFor keys = some u → exec (.prefetchComplete q) s = .next (settle s u))
        ∧ (s.restoreFor keys = none → exec (.prefetchComplete q) s
          = .next (settle s (((List.range 64).foldl (fun t i => t.fetchWord q.val i) s).setReg (pg (ownPage q.val) 35) 64))))
      ∧ (s.prefetching q.val = false ∨ s.windowOn q.val = false → exec (.prefetchComplete q) s = .next (settle s s))
      ∧ (∀ got : Fin 64, s.prefetching q.val = true → s.windowOn q.val = false → exec (.prefetchTimeout q got) s
          = .next (settle s ((s.setReg (pg (ownPage q.val) 35) 65536).sesErr q.val eTIMEOUT (s.ses q.val).win)))
      ∧ (∀ (got : Fin 64) (t : State), s.prefetching q.val = true → s.windowOn q.val = true →
        t = (List.range got.val).foldl (fun t i => t.fetchWord q.val i) s → exec (.prefetchTimeout q got) s
          = .next (settle s ((t.setReg (pg (ownPage q.val) 35) (wordOf (65536 + got.val))).sesErr q.val eTIMEOUT (s.ses q.val).win)))
      ∧ (∀ got : Fin 64, s.prefetching q.val = false → exec (.prefetchTimeout q got) s = .next (settle s s)))

/-- The SPI frames run (12 R406, R407, R428): CSLO is 1 while a frame runs and 0 after it; a read sends status, words with their tags and, with
CRCEN = 1, the CRC; a write posts its words, only with a matching CRC over every byte that was sent when CRCEN = 1; a status frame sends the
status byte alone; OP 3 and frames that break off are recorded, a broken read with the words it gave, a broken write with its words posted when
CRCEN = 0; a clock that stops leaves CSLO at 1 and is recorded with TIMEOUT. A port without its session or with EN = 0 answers nothing. -/
def Obligations.SpiFramesRun : Prop :=
  ∀ (s : State) (n : Fin 2) (a : BitVec 24),
    (s.spiLive n = true → ∀ q y, q = spiSession n → y = s.setB (pg 9 3) n.val true →
      ∀ (fin : State → Host.Outcome State Fault Refusal), (∀ t, fin t = .next (settle s (t.setB (pg 9 3) n.val false))) →
      (∀ (nw : Fin 64) (r : List (Word × BitVec 2) × State) (body : List Byte), r = y.hostReadN q a.toNat (nw.val + 1) →
        body = y.statusByte q.val :: 0 :: 0 :: 0 :: 0 :: r.1.flatMap spiWord →
        exec (.spiReadFrame n a nw) s = fin (r.2.spiEnd n (if y.spiCrc n then body ++ beBytes (crc16 body).toNat 2 else body) true))
      ∧ (∀ (ws : List (BitVec 24)) (crc : BitVec 16), ws ≠ [] → ws.length ≤ 64 →
        (y.spiCrc n = false → exec (.spiWriteFrame n a ws crc) s = fin ((y.postN q.val a.toNat (ws.map fun v => v.setWidth 18)).spiEnd n
          (y.statusByte q.val :: List.replicate (3 + 3 * ws.length) 0) true))
        ∧ (y.spiCrc n = true → crc = crc16 (spiWriteBytes a ws) → exec (.spiWriteFrame n a ws crc) s
          = fin ((y.postN q.val a.toNat (ws.map fun v => v.setWidth 18)).spiEnd n
            (y.statusByte q.val :: List.replicate (3 + 3 * ws.length + 2) 0) true))
        ∧ (y.spiCrc n = true → crc ≠ crc16 (spiWriteBytes a ws) → exec (.spiWriteFrame n a ws crc) s
          = fin (((y.incSat (pg 9 (20 + 8 * n.val))).raise 9 (1 + 2 * n.val)).spiEnd n
            (y.statusByte q.val :: List.replicate (3 + 3 * ws.length + 2) 0) false)))
      ∧ exec (.spiStatusFrame n) s = fin (y.spiEnd n [y.statusByte q.val] true)
      ∧ (∃ addr, exec (.spiOpRefused n) s = fin ((y.free.2.sesErr q.val eRANGE addr).spiEnd n [y.statusByte q.val] true))
      ∧ (∀ (ws : List Word) (wr : Bool) (r : List (Word × BitVec 2) × State) (u z : State), r = y.hostReadN q a.toNat ws.length →
        u = (if wr then (if y.spiCrc n then y else y.postN q.val a.toNat ws).spiEnd n
            (y.statusByte q.val :: List.replicate (3 + 3 * ws.length) 0) false
          else r.2.spiEnd n (y.statusByte q.val :: 0 :: 0 :: 0 :: 0 :: r.1.flatMap spiWord) false) →
        z = (u.incSat (pg 9 (19 + 8 * n.val))).raise 9 (2 * n.val) →
        exec (.spiPartialFrame n wr a ws) s = fin z
        ∧ exec (.spiClockIdleTimeout n wr a ws) s = .next (settle s (z.sesErr q.val eTIMEOUT a.toNat))))
    ∧ (s.spiLive n = false → ∀ (nw : Fin 64) (ws : List Word) (wr : Bool) (t : Host.Outcome State Fault Refusal),
      t = .next (settle s (s.setB (pg 9 3) n.val false)) →
      exec (.spiReadFrame n a nw) s = t ∧ exec (.spiStatusFrame n) s = t ∧ exec (.spiOpRefused n) s = t
      ∧ exec (.spiPartialFrame n wr a ws) s = t ∧ exec (.spiClockIdleTimeout n wr a ws) s = .next (settle s s)
      ∧ (∀ (us : List (BitVec 24)) (crc : BitVec 16), us ≠ [] → us.length ≤ 64 → exec (.spiWriteFrame n a us crc) s = t))
    ∧ (∀ (ws : List (BitVec 24)) (crc : BitVec 16), ws = [] ∨ 64 < ws.length → exec (.spiWriteFrame n a ws crc) s = .next (settle s s))

/-- The Iluhi frames of a link run (12 R408, R409, R411 to R414): a request whose length is right is counted; a new one is answered, and kept
with its response, an ill-formed one with ERROR; one that equals the last request is answered from what is kept. Each response waits for the
transmitter in the order it came. A discarded frame, a gap and a frame that is too long count; a link that is off takes nothing.

ILUHI_PUSH and ILUHI_PUSH_SENT run (12 R412, R414; 14 R462): a push of the event ring or the delivery ring begins on an idle, unpaused
transmitter when no response waits, of either of them when both hold words, and fails with STATE while HIF is off; the words leave their ring
when its frame has been sent, and the responses that came meanwhile follow. -/
def Obligations.IluhiFramesRun : Prop :=
  (∀ (s : State) (l : Fin 4) (seq : Byte) (pl : List Byte) (q : Fin 8) (t : State), q = linkSession l → t = s.inc (sesKey q.val 15) →
      ∀ (answer : State → List Byte → Host.Outcome State Fault Refusal) (keep : Byte → List Byte × State → Host.Outcome State Fault Refusal)
        (kept : List Byte),
      (∀ (u : State) (f : List Byte), answer u f
        = .next (settle s ((u.setSes q.val { u.ses q.val with resp := (u.ses q.val).resp ++ [u.onLine l f] }).sendResp l.val))) →
      (∀ typ r, keep typ r = answer (r.2.setSes q.val { r.2.ses q.val with lastReq := typ :: seq :: pl, lastResp := r.1 }) r.1) →
      kept = (s.ses q.val).lastResp →
      (s.linkOn l = true → pl.length ≤ 196 →
        ((s.ses q.val).lastReq ≠ 0x01 :: seq :: pl →
          (∀ r, pl.length = 4 → (pl.getD 3 0).toNat ≤ 63 → r = t.hostReadN q (leNum (pl.take 3)) ((pl.getD 3 0).toNat + 1) →
            exec (.iluhiRead l seq pl) s = keep 0x01 (iluhiFrame 0x81 seq (r.1.flatMap iluhiWord), r.2))
          ∧ (pl.length ≠ 4 ∨ 63 < (pl.getD 3 0).toNat → exec (.iluhiRead l seq pl) s = keep 0x01 (iluhiError seq eRANGE, t)))
        ∧ ((s.ses q.val).lastReq ≠ 0x02 :: seq :: pl →
          (∀ n r, pl.length = 3 + 3 * n → 1 ≤ n → n ≤ 64 → r = t.postUntil q.val (leNum (pl.take 3)) (iluhiWords (pl.drop 3)) →
            exec (.iluhiWrite l seq pl) s = keep 0x02 (iluhiFrame 0x82 seq [BitVec.ofNat 8 r.2], r.1))
          ∧ ((∀ n, pl.length = 3 + 3 * n → ¬ (1 ≤ n ∧ n ≤ 64)) →
            exec (.iluhiWrite l seq pl) s = keep 0x02 (iluhiError seq eRANGE, t)))
        ∧ ((s.ses q.val).lastReq ≠ 0x03 :: seq :: pl →
          (pl = [] → exec (.iluhiPing l seq pl) s
            = keep 0x03 (iluhiFrame 0x83 seq [BitVec.ofNat 8 q.val, t.statusByte q.val], t))
          ∧ (pl ≠ [] → exec (.iluhiPing l seq pl) s = keep 0x03 (iluhiError seq eRANGE, t)))
        ∧ (∀ typ : Byte, (s.ses q.val).lastReq ≠ typ :: seq :: pl → typ ≠ 0x01 → typ ≠ 0x02 → typ ≠ 0x03 →
          exec (.iluhiUnknownType l typ seq pl) s = keep typ (iluhiError seq eRANGE, t))
        ∧ (∀ typ : Byte, (s.ses q.val).lastReq = typ :: seq :: pl → exec (.iluhiUnknownType l typ seq pl) s = answer t kept
          ∧ (typ = 0x01 → exec (.iluhiRead l seq pl) s = answer t kept) ∧ (typ = 0x02 → exec (.iluhiWrite l seq pl) s = answer t kept)
          ∧ (typ = 0x03 → exec (.iluhiPing l seq pl) s = answer t kept)))
      ∧ (∀ typ : Byte, ∀ row ∈ ([.iluhiRead l seq pl, .iluhiWrite l seq pl, .iluhiPing l seq pl, .iluhiUnknownType l typ seq pl] : List Instr),
        (s.linkOn l = false → exec row s = .next (settle s s))
        ∧ (s.linkOn l = true → 196 < pl.length → exec row s = .next (settle s (s.incSat (sesKey q.val 14)))))
      ∧ (∀ row ∈ ([.iluhiFrameDiscard l, .iluhiGapTimeout l] : List Instr),
        exec row s = .next (settle s (if s.linkOn l then s.incSat (sesKey q.val 14) else s))))
  ∧ (∀ (s : State) (l : Fin 4) (q : Fin 8) (re rd : Nat) (idle : Prop), q = linkSession l → re = s.fld (sesKey q.val 8) 5 0 →
      rd = s.fld (sesKey q.val 11) 5 0 →
      (idle ↔ s.writerLive (.ses q) = true ∧ (s.ses q.val).push = none ∧ (s.ses q.val).resp = [] ∧ (s.ser l.val).txHold = none
        ∧ (s.ser l.val).txShift = none ∧ s.txReady l.val = true) →
      (idle → s.domOn 2 = true →
        (s.pushable q.val 2 re = true → s.pushable q.val 3 rd = false → exec (.iluhiPush l) s = .next (settle s (s.beginPush l true re)))
        ∧ (s.pushable q.val 2 re = false → s.pushable q.val 3 rd = true → exec (.iluhiPush l) s = .next (settle s (s.beginPush l false rd)))
        ∧ (s.pushable q.val 2 re = true → s.pushable q.val 3 rd = true →
          exec (.iluhiPush l) s = .next (settle s (s.free.2.beginPush l true re))
          ∨ exec (.iluhiPush l) s = .next (settle s (s.free.2.beginPush l false rd))))
      ∧ (idle → s.domOn 2 = false → s.pushable q.val 2 re = true ∨ s.pushable q.val 3 rd = true →
        exec (.iluhiPush l) s = .next (settle s (s.pageErr (10 + l.val) eSTATE 2)))
      ∧ (¬ idle ∨ (s.pushable q.val 2 re = false ∧ s.pushable q.val 3 rd = false) → exec (.iluhiPush l) s = .next (settle s s))
      ∧ (∀ r n t, (s.ses q.val).push = some (r, n) → t = s.setSes q.val { s.ses q.val with push := none } →
        (s.writerLive (.ses q) = true → s.consIs r q.val = true →
          exec (.iluhiPushSent l) s = .next (settle s ((t.ringTake r n).sendResp l.val)))
        ∧ (s.writerLive (.ses q) = false ∨ s.consIs r q.val = false → exec (.iluhiPushSent l) s = .next (settle s (t.sendResp l.val))))
      ∧ ((s.ses q.val).push = none → exec (.iluhiPushSent l) s = .next (settle s s)))

/-! ### Serial ports (spec/13) -/

/-- The writes of a serial port run where the personality leaves the port native, and are refused with STATE where it does not (13 R433, R435,
R437, R439, R440, R443 to R445, R447, R450, R452, R457): a setting becomes pending, a character is loaded to send, a break begins or ends,
flow control and the drain are set up; each is refused with BUSY or CONFIG where its rule says so. A break that ends leaves an XON due only if
one is wanted for the state that XOFF left, and a transmitter that is free again sends the responses that wait. -/
def Obligations.SerialWriteCommandsRun : Prop :=
  ∀ (s : State) (w : Writer) (n : Fin 4) (v : Word) (x : Ser) (refuse : Nat → Nat → Host.Outcome State Fault Refusal), x = s.ser n.val →
    (∀ wd c, refuse wd c = .next (settle s (s.recordRefusal w (some (10 + n.val)) wd c (pageAddr (10 + n.val) wd)))) →
    (∀ row wd, (row, wd) ∈ [(.serTxdWrite w n v, 20), (.serConfigWrite w n v, 16), (.serBaudWrite w n v, 18), (.serSendBreak w n v, 2),
      (.serFlowWrite w n v, 22), (.serDrainEnable w n v, 21)] → s.Clear w (10 + n.val) wd v → s.serClosed n.val = true →
      exec row s = refuse wd eSTATE)
    ∧ (s.serClosed n.val = false →
      (s.Clear w (10 + n.val) 20 v →
        (x.txHold = none → s.fld (serKey n.val 21) 17 16 = 0 → s.serSes n.val = false → exec (.serTxdWrite w n v) s
          = .next (settle s (s.setSer n.val { x with txHold := some (BitVec.ofNat 9 (fieldOf v 8 0)) })))
        ∧ (x.txHold.isSome = true ∨ s.fld (serKey n.val 21) 17 16 ≠ 0 ∨ s.serSes n.val = true →
          exec (.serTxdWrite w n v) s = refuse 20 eBUSY))
      ∧ (∀ busy bad : Prop, s.Clear w (10 + n.val) 16 v →
        (busy ↔ (s.serSes n.val = true ∧ fieldOf v 9 6 ≠ 8) ∨ (n.val < 2 ∧ s.bit (serKey n.val 29) 17 = true
          ∧ ¬ (bitOf v 17 = false ∧ bitOf v 15 = true ∧ fieldOf v 9 6 = 9))) →
        (bad ↔ (bitOf v 15 = true ∧ fieldOf v 9 6 ≠ 9) ∨ (bitOf v 17 = true ∧ (x.appN < 4 ∨ s.fld (serKey n.val 18) 3 0 ≠ 0))) →
        (busy → exec (.serConfigWrite w n v) s = refuse 16 eBUSY)
        ∧ (¬ busy → bad → exec (.serConfigWrite w n v) s = refuse 16 eCONFIG)
        ∧ (¬ busy → ¬ bad → exec (.serConfigWrite w n v) s = .next (settle s ((s.plain w (10 + n.val) 16 v).pendSetting n.val))))
      ∧ (∀ t N, t = s.plain w (10 + n.val) 18 v → N = s.fld (serKey n.val 17) 15 0 → s.Clear w (10 + n.val) 18 v →
        (s.bit (serKey n.val 16) 17 = true → N < 4 ∨ fieldOf v 3 0 ≠ 0 → exec (.serBaudWrite w n v) s = refuse 18 eCONFIG)
        ∧ ((s.bit (serKey n.val 16) 17 = true → 4 ≤ N ∧ fieldOf v 3 0 = 0) → exec (.serBaudWrite w n v) s
          = .next (settle s ((t.setSer n.val { t.ser n.val with appN := N }).pendSetting n.val))))
      ∧ (∀ t low y, t = s.plain w (10 + n.val) 2 v → s.Clear w (10 + n.val) 2 v →
        low = (bitOf v 2 && bitOf v 1 && (t.ser n.val).txShift.isNone) → y = { t.ser n.val with lineLow := low, txLine := !low } →
        (bitOf v 2 = true ∨ s.bit (serKey n.val 2) 2 = false →
          exec (.serSendBreak w n v) s = .next (settle s ((t.setSer n.val y).sendResp n.val)))
        ∧ (bitOf v 2 = false → s.bit (serKey n.val 2) 2 = true → exec (.serSendBreak w n v) s
          = .next (settle s (((t.setSer n.val { y with flowDue :=
            (if (t.ser n.val).flowDue = some true ∧ s.bit (serKey n.val 22) 17 = false ∧ s.bit (serKey n.val 3) 5 = true then some true
            else none) }).flowEval n.val).sendResp n.val))))
      ∧ (∀ t u, t = s.plain w (10 + n.val) 22 v → s.Clear w (10 + n.val) 22 v →
        u = (if bitOf v 16 then t else (t.setB (serKey n.val 3) 4 false).sendResp n.val) →
        ((bitOf v 17 = true ∧ s.flowOk n.val (s.fld (serKey n.val 23) 16 0) (s.reg (serKey n.val 24)).toNat = false)
          ∨ (fieldOf v 17 16 ≠ 0 ∧ s.bit (serKey n.val 16) 17 = true) → exec (.serFlowWrite w n v) s = refuse 22 eCONFIG)
        ∧ ((bitOf v 17 = true → s.flowOk n.val (s.fld (serKey n.val 23) 16 0) (s.reg (serKey n.val 24)).toNat = true) →
          (fieldOf v 17 16 ≠ 0 → s.bit (serKey n.val 16) 17 = false) →
          (bitOf v 17 = true → exec (.serFlowWrite w n v) s = .next (settle s (u.flowEval n.val)))
          ∧ (bitOf v 17 = false → s.bit (serKey n.val 22) 17 = true → exec (.serFlowWrite w n v) s
            = .next (settle s (u.setSer n.val { u.ser n.val with flowDue := if s.bit (serKey n.val 3) 5 then some true else none })))
          ∧ (bitOf v 17 = false → s.bit (serKey n.val 22) 17 = false → exec (.serFlowWrite w n v) s = .next (settle s u))))
      ∧ (s.Clear w (10 + n.val) 21 v →
        (fieldOf v 17 16 ≠ 0 → s.serSes n.val = true → exec (.serDrainEnable w n v) s = refuse 21 eBUSY)
        ∧ ((fieldOf v 17 16 ≠ 0 → s.serSes n.val = false) →
          ((bitOf v 17 = true ∧ s.prodIs (fieldOf v 5 0) (4 + n.val) = false) ∨ (bitOf v 16 = true ∧ s.consIs (fieldOf v 11 6) (4 + n.val) = false) →
            exec (.serDrainEnable w n v) s = refuse 21 eCONFIG)
          ∧ ((bitOf v 17 = true → s.prodIs (fieldOf v 5 0) (4 + n.val) = true) → (bitOf v 16 = true → s.consIs (fieldOf v 11 6) (4 + n.val) = true) →
            exec (.serDrainEnable w n v) s = .next (settle s ((s.plain w (10 + n.val) 21 v).flowEval n.val))))))

/-- The receiver's events run (13 R433, R434, R437, R438, R440 to R442, R444, R450): a character takes up the pending setting, unless it began
before the write of it, and is stored with its errors; in synchronous mode it is one that a sent character clocked in, and there is no other.
A break is stored as one. An untagged XOFF or XON without errors sets or clears the pause when the port obeys them. A stored character counts,
is the link's when the session is on, and else waits in RXD, over one that was not read. A receiver that is off receives nothing.

SLOW_RX_CHARACTER runs (13 R452 to R455, R458): in SLEEP a character that matches is kept, recorded and wakes the device; until the fast
receiver takes over, one that follows replaces it and marks the overrun. With PERI on the kept character goes to RXD at once. A receiver that
is off, or a character that does not match, changes nothing. -/
def Obligations.SerialReceptionRuns : Prop :=
  (∀ (s : State) (n : Fin 4) (x : Ser), x = s.ser n.val →
      ((x.rxPend = false → s.startRx n.val = s)
        ∧ (x.rxPend = true → x.rxOld = false ∨ bitOf x.rx.cfg 17 = true →
          s.startRx n.val = s.setSer n.val { x with rx := s.serSetting n.val, rxPend := false, rxOld := false })
        ∧ (x.rxPend = true → x.rxOld = true → bitOf x.rx.cfg 17 = false → s.startRx n.val = s.free.2.setSer n.val { x with rxOld := false }
          ∨ s.startRx n.val = s.free.2.setSer n.val { x with rx := s.serSetting n.val, rxPend := false, rxOld := false }))
      ∧ (∀ (data : BitVec 9) (b st : Bool) (row : Instr) (D : Nat) (par : Word → Bool) (stop : Bool),
        (row, D, par, stop) ∈ [(.serRxCharacter n data b st, data.toNat, (fun _ => b), st),
          (.serXoffReceived n, 0o23, (fun c => parityBit (fieldOf c 12 10) 0o23), true),
          (.serXonReceived n, 0o21, (fun c => parityBit (fieldOf c 12 10) 0o21), true)] →
        (s.rxOn n.val = false → exec row s = .next (settle s s))
        ∧ (s.rxOn n.val = true →
          (∀ c l d, x.clocked = c :: l → d = D % 2 ^ fieldOf c 9 6 → exec row s = .next (settle s (((s.setSer n.val { x with clocked := l }).setB
            (serKey n.val 3) 6 (if fieldOf c 12 10 = 0 then d.testBit (fieldOf c 9 6 - 1) else par c)).receive n.val
              (holdingWord c d false (parityError (fieldOf c 12 10) d (par c)) false))))
          ∧ (∀ t c d, x.clocked = [] → t = s.startRx n.val → c = (t.ser n.val).rx.cfg → d = D % 2 ^ fieldOf c 9 6 →
            (bitOf c 17 = true → exec row s = .next (settle s s))
            ∧ (bitOf c 17 = false → exec row s = .next (settle s (((t.setSer n.val { t.ser n.val with slow := false }).setB
              (serKey n.val 3) 6 stop).receive n.val (holdingWord c d (!stop) (parityError (fieldOf c 12 10) d (par c)) false)))))))
      ∧ (∀ (t : State) (c : Word), t = s.startRx n.val → c = (t.ser n.val).rx.cfg →
        (s.rxOn n.val = true → x.clocked = [] → bitOf c 17 = false → ∀ u, u = (t.setSer n.val { t.ser n.val with slow := false }).setB
          (serKey n.val 3) 6 false → exec (.serBreak n) s = .next (settle s (((u.incSat (serKey n.val 28)).raise (10 + n.val) 4).storeChar n.val
            (holdingWord c 0 true (parityError (fieldOf c 12 10) 0 false) true))))
        ∧ (s.rxOn n.val = false ∨ x.clocked ≠ [] ∨ bitOf c 17 = true → exec (.serBreak n) s = .next (settle s s)))
      ∧ (∀ h : Word, (fieldOf h 16 14 = 0 ∧ bitOf h 12 = false ∧ s.bit (serKey n.val 22) 16 = true →
          (fieldOf h 8 0 = 0o23 → s.receive n.val h = s.setB (serKey n.val 3) 4 true)
          ∧ (fieldOf h 8 0 = 0o21 → s.receive n.val h = (s.setB (serKey n.val 3) 4 false).sendResp n.val))
        ∧ (fieldOf h 16 14 ≠ 0 ∨ bitOf h 12 = true ∨ s.bit (serKey n.val 22) 16 = false ∨ (fieldOf h 8 0 ≠ 0o23 ∧ fieldOf h 8 0 ≠ 0o21) →
          s.receive n.val h = s.storeChar n.val h))
      ∧ (∀ (h : Word) (y z : State), y = (s.inc (serKey n.val 25)).raise (10 + n.val) 0 →
        z = (if bitOf h 16 = true ∨ bitOf h 15 = true then (y.incSat (serKey n.val 26)).raise (10 + n.val) 3 else y) →
        (s.serSes n.val = true → s.storeChar n.val h = z)
        ∧ (s.serSes n.val = false → s.reg (serKey n.val 19) = 0 →
          s.storeChar n.val h = ((z.setReg (serKey n.val 19) (forceBit h 13 false)).setB (serKey n.val 3) 0 true).uartEvent n.val)
        ∧ (s.serSes n.val = false → s.reg (serKey n.val 19) ≠ 0 → s.storeChar n.val h
          = (((z.incSat (serKey n.val 27)).raise (10 + n.val) 5).setReg (serKey n.val 19) (forceBit h 13 true)).setB (serKey n.val 3) 0 true)))
  ∧ (∀ (s : State) (u : Fin 2) (data : BitVec 9) (par stop : Bool) (c : Word) (d : Nat) (h : Word) (x : Ser) (keep : State → State),
      x = s.ser u.val → c = x.rx.cfg → d = data.toNat % 2 ^ fieldOf c 9 6 →
      h = holdingWord c d (!stop) (parityError (fieldOf c 12 10) d par) (d == 0 && (fieldOf c 12 10 == 0 || !par) && !stop) →
      (∀ t y, y = t.setSer u.val { x with sl := some (forceBit h 13 x.sl.isSome), slow := true } →
        keep t = if y.domOn 3 then y.handOver u.val else y) →
      (s.slowOn u.val = true →
        (x.slow = true → exec (.slowRxCharacter u data par stop) s
          = .next (settle s (keep (s.setF (serKey u.val 32) 8 0 (fieldOf h 8 0)))))
        ∧ (x.slow = false →
          (∀ k, s.slowMatch u.val h = some k → exec (.slowRxCharacter u data par stop) s
            = .next (settle s ((keep (s.setReg (serKey u.val 32) (wordOf (131072 + k * 65536 + fieldOf h 8 0)))).latchWake (9 + u.val))))
          ∧ (s.slowMatch u.val h = none → exec (.slowRxCharacter u data par stop) s = .next (settle s s))))
      ∧ (s.slowOn u.val = false → exec (.slowRxCharacter u data par stop) s = .next (settle s s))
      ∧ (∀ g full t, x.sl = some g → full = (s.reg (serKey u.val 19) != 0) →
        t = (if full then (s.incSat (serKey u.val 27)).raise (10 + u.val) 5 else s) → s.handOver u.val
          = (((t.setSer u.val { t.ser u.val with sl := none }).setReg (serKey u.val 19) (forceBit g 13 (full || bitOf g 13))).setB
            (serKey u.val 3) 0 true).raise (10 + u.val) 8))

/-- The transmitter's events run (13 R439, R443 to R445, R450): a held character starts unless a break, a pause or a due flow character goes
first, and takes up the pending setting, with the receiver in synchronous mode; a character ends, a synchronous one having clocked another one
in; a due flow character is sent; a pause that lasts is recorded. Where that is not so, nothing changes.

The read of RXD, the receive drain and the transmit feed run (13 R438, R440, R448, R449; 11 R371; 12 R397, R402, R403; 14 R462): the drain
moves the character, or stalls once for want of room, and fails with HIF off; the feed loads the next word of its ring, an uncorrectable one
recorded; a read empties RXD unless the drain or the session takes it: of a session with its tag on the bus, of a core, of the test port. -/
def Obligations.SerialTransmissionRuns : Prop :=
  (∀ (s : State) (n : Fin 4) (x : Ser) (g : SerSet), x = s.ser n.val → g = (if x.txPend then s.serSetting n.val else x.tx) →
      (∀ (y : Ser) (c : BitVec 9) (z : Ser), z = { y with txShift := some c, tx := g, txPend := false, sent := lineBits g.cfg c } →
        y.txPend = x.txPend → y.tx = x.tx →
        s.beginTx n.val y c = s.setSer n.val (if bitOf g.cfg 17 then { z with rx := g, rxPend := false, rxOld := false } else z))
      ∧ (∀ ready : Prop, (ready ↔ s.serOn = true ∧ s.bit (serKey n.val 2) 1 = true ∧ s.bit (serKey n.val 2) 2 = false ∧ x.txShift = none) →
        (∀ c, x.txHold = some c →
          (ready → x.flowDue = none → s.bit (serKey n.val 3) 4 = false → exec (.serTxStart n) s
            = .next (settle s (((s.beginTx n.val { x with txHold := none } c).raise (10 + n.val) 1).uartEvent n.val)))
          ∧ (¬ ready ∨ x.flowDue.isSome = true ∨ s.bit (serKey n.val 3) 4 = true → exec (.serTxStart n) s = .next (settle s s)))
        ∧ (x.txHold = none → exec (.serTxStart n) s = .next (settle s s))
        ∧ (∀ xon, x.flowDue = some xon →
          (ready → exec (.serFlowCharacterSend n) s = .next (settle s (((s.beginTx n.val { x with flowDue := none }
            (if xon then 0o21 else 0o23)).setB (serKey n.val 3) 5 (!xon)).flowEval n.val)))
          ∧ (¬ ready → exec (.serFlowCharacterSend n) s = .next (settle s s)))
        ∧ (x.flowDue = none → exec (.serFlowCharacterSend n) s = .next (settle s s)))
      ∧ (∀ low t, x.txShift.isSome = true → s.serOn = true → low = (s.bit (serKey n.val 2) 2 && s.bit (serKey n.val 2) 1) →
        t = s.setSer n.val { x with txShift := none, lineLow := low, txLine := !low, clocked :=
          (if bitOf x.tx.cfg 17 = true ∧ s.bit (serKey n.val 2) 0 = true then x.clocked ++ [x.tx.cfg] else x.clocked) } →
        exec (.serTxCharacterDone n) s = .next (settle s (if x.txHold.isNone then t.raise (10 + n.val) 2 else t)))
      ∧ (x.txShift = none ∨ s.serOn = false → exec (.serTxCharacterDone n) s = .next (settle s s))
      ∧ (s.serOn = true → s.bit (serKey n.val 3) 4 = true →
        exec (.serFlowTimeout n) s = .next (settle s ((s.pageErr (10 + n.val) eTIMEOUT 22).raise (10 + n.val) 7)))
      ∧ (s.serOn = false ∨ s.bit (serKey n.val 3) 4 = false → exec (.serFlowTimeout n) s = .next (settle s s)))
  ∧ (∀ (s : State) (n : Fin 4),
      (∀ r c, r = s.fld (serKey n.val 21) 5 0 → c = s.reg (serKey n.val 19) →
        (s.serOn = true → s.bit (serKey n.val 21) 17 = true → s.prodIs r (4 + n.val) = true → c ≠ 0 →
          (s.domOn 2 = false → exec (.serDrainMove n) s = .next (settle s (s.pageErr (10 + n.val) eSTATE 2)))
          ∧ (s.domOn 2 = true → 1 ≤ s.ringRoom r → exec (.serDrainMove n) s
            = .next (settle s (((((s.ringPut r [c]).setReg (serKey n.val 19) 0).setB (serKey n.val 3) 0 false).setB
              (serKey n.val 3) 7 false).flowRing r)))
          ∧ (s.domOn 2 = true → s.ringRoom r = 0 → exec (.serDrainMove n) s
            = .next (settle s (if s.bit (serKey n.val 3) 7 then s else (s.setB (serKey n.val 3) 7 true).raise (10 + n.val) 6))))
        ∧ (s.serOn = false ∨ s.bit (serKey n.val 21) 17 = false ∨ s.prodIs r (4 + n.val) = false ∨ c = 0 →
          exec (.serDrainMove n) s = .next (settle s s)))
      ∧ (∀ r e t x, r = s.fld (serKey n.val 21) 11 6 → e = s.ringReadE r (s.reg (ringKey r 3)).toNat 1 → x = s.ser n.val →
        t = (if e.2.1 = 2 then e.2.2.pageErr (10 + n.val) eECC 2 else e.2.2) →
        (s.serOn = true → s.bit (serKey n.val 21) 16 = true → s.consIs r (4 + n.val) = true → x.txHold = none → 1 ≤ s.ringFill r →
          (s.domOn 2 = true → exec (.serFeedTake n) s
            = .next (settle s ((t.setSer n.val { x with txHold := some (BitVec.ofNat 9 (fieldOf (e.1.headD 0) 8 0)) }).ringTake r 1)))
          ∧ (s.domOn 2 = false → exec (.serFeedTake n) s = .next (settle s (s.pageErr (10 + n.val) eSTATE 2))))
        ∧ (s.serOn = false ∨ s.bit (serKey n.val 21) 16 = false ∨ s.consIs r (4 + n.val) = false ∨ x.txHold.isSome = true ∨ s.ringFill r = 0 →
          exec (.serFeedTake n) s = .next (settle s s)))
      ∧ (∀ (w : Writer) (t : State), t = (if s.bit (serKey n.val 21) 17 = true ∨ s.serSes n.val = true then s
          else (s.setReg (serKey n.val 19) 0).setB (serKey n.val 3) 0 false) →
        (s.writerLive w = false → exec (.serRxdRead w n) s = .next (settle s s))
        ∧ (s.writerLive w = true →
          (∀ q, w = .ses q →
            (s.mayRead q.val (10 + n.val) 19 = false → exec (.serRxdRead w n) s
              = .next (settle s ((s.sesErr q.val ePERM (pageAddr (10 + n.val) 19)).driveBus q 0 2)))
            ∧ (s.mayRead q.val (10 + n.val) 19 = true →
              (s.pageFresh (10 + n.val) 19 = true → s.unperformed q.val (pageAddr (10 + n.val) 19) = false →
                exec (.serRxdRead w n) s = .next (settle s (t.driveBus q (s.peekWord (.ses q) (10 + n.val) 19) 0)))
              ∧ (s.pageFresh (10 + n.val) 19 = false ∨ s.unperformed q.val (pageAddr (10 + n.val) 19) = true →
                exec (.serRxdRead w n) s = .next (settle s (s.driveBus q (s.peekWord (.ses q) (10 + n.val) 19) 1)))))
          ∧ (∀ c, w = .core c → s.domOn 3 = true → exec (.serRxdRead w n) s = .next (settle s t))
          ∧ (∀ c, w = .core c → s.domOn 3 = false → exec (.serRxdRead w n) s = .next (settle s (s.wakeDom 3)))
          ∧ (w = .tap → s.domOn 3 = true → exec (.serRxdRead w n) s = .next (settle s t))
          ∧ (w = .tap → s.domOn 3 = false → exec (.serRxdRead w n) s = .next (settle s s)))))

/-! ### Power, clocks, resets (spec/14, spec/16) -/

/-- FRAME_BOUNDARY runs (05 R155; 14 R478): where QUIRE is on, NPLL runs, and NPLL is locked or a domain that takes its clock is on, the
boundary opens, drains complete, domains whose drain is done power down, and the schedule, the runs and the ranks follow; elsewhere no frame
falls.

PLL_UNLOCK, PLL_RELOCK, XTAL_OK, CRYSTAL_FAILURE, the RTC's source commands and ALM2_WRITE run (14 R476, R477, R478; 07 R214, R219,
R244). TPLL's loss of lock sets TDISC and clears SVALID, its lock starts a time that was not kept. A PLL that does not run, or that is so
already, changes nothing. A write of SRC = 0 without a crystal is refused with STATE. A fallback from a crystal in use counts the RC ticks of its four
periods, the change of source counts its own edge; both with no source to change do nothing. -/
def Obligations.ClockCommandsRun : Prop :=
  (∀ (s : State) (stamps : List (BitVec 64)) (frames : Prop),
      (frames ↔ s.domOn 10 = true ∧ s.pllRuns 1 = true ∧ (s.bit (pg 2 3) 1 = true ∨ ∃ d ∈ pllUsers 1, s.domOn d = true)) →
      (frames → exec (.frameBoundary stamps) s = .next (settle s (s.frameOpen stamps).drainRanks.drainedOff.frameClose))
      ∧ (¬ frames → exec (.frameBoundary stamps) s = .next (settle s s)))
  ∧ (∀ (s : State) (w : Writer) (v : Word),
      (∀ (k : Fin 4) (t : State), t = ((s.setB (pg 2 3) k.val false).raise 2 k.val).incSat (pg 2 (18 + k.val)) →
        (s.pllRuns k.val = true → s.locked k.val = true → exec (.pllUnlock k) s = .next (settle s (if k = 3 then
          (((t.setB (pg 16 3) 0 false).setB (pg 16 3) 4 true).setB (pg 16 3) 3 false).raise 16 0 else t)))
        ∧ (s.pllRuns k.val = false ∨ s.locked k.val = false → exec (.pllUnlock k) s = .next (settle s s)))
      ∧ (∀ (k : Fin 4) (t u : State), t = s.setB (pg 2 3) k.val true → u = t.setB (pg 16 3) 0 true →
        (s.pllRuns k.val = true → s.locked k.val = false → exec (.pllRelock k) s = .next (settle s (if k ≠ 3 then t
          else State.raise (if u.time.on || u.time.kept || !u.domOn 15 then u
            else { (u.setReg (pg 16 20) 0).setB (pg 16 3) 7 true with
              time := { u.time with ns := 0, frac := 0, refExt := 0, on := true }
              meas := { u.meas with lastT := none, penNs := 0, epochAt := none } }) 16 1)))
        ∧ (s.pllRuns k.val = false ∨ s.locked k.val = true → exec (.pllRelock k) s = .next (settle s s)))
      ∧ exec .xtalOk s = .next (settle s (s.setB (pg 2 3) 4 true))
      ∧ exec .crystalFailure s = .next (settle s (s.setB (pg 2 3) 4 false))
      ∧ (s.Clear w 2 17 v →
        (bitOf v 0 = false → s.bit (pg 2 3) 4 = false →
          exec (.rtcSourceWrite w v) s = .next (settle s (s.recordRefusal w (some 2) 17 eSTATE (pageAddr 2 17))))
        ∧ (bitOf v 0 = true ∨ s.bit (pg 2 3) 4 = true →
          exec (.rtcSourceWrite w v) s = .next (settle s ((s.plain w 2 17 v).rtcWant (bitOf v 0)))))
      ∧ (∀ (falls : Prop) (t : State), (falls ↔ s.bit (pg 2 17) 1 = true ∧ s.rtcSel = false ∧ s.domOn 1 = true) →
        t = (s.rtcWant true).raise 2 4 →
        (falls → s.time.rtcSrc = true → exec .rtcFallback s = .next (settle s t))
        ∧ (falls → s.time.rtcSrc = false → exec .rtcFallback s
          = .next (settle s (((t.onSource true).rtcTick.rtcTick.rtcTick.rtcTick.onSource false).noteSwitch)))
        ∧ (¬ falls → exec .rtcFallback s = .next (settle s s)))
      ∧ (∀ b, s.time.rtcDue = some b → exec .rtcSourceChange s
        = .next (settle s ({ s with time := { s.time with rtcDue := none, rtcAcc := 0, rtcSrc := b } } : State).noteSwitch.rtcTick))
      ∧ (s.time.rtcDue = none → exec .rtcSourceChange s = .next (settle s s))
      ∧ (s.Clear w 1 31 v → exec (.alm2Write w v) s = .next (settle s { s.plain w 1 31 v with
          time := { s.time with almOn := s.bit (pg 1 29) 17
                                alm := (s.fld (pg 1 29) 11 0 * 262144 + (s.reg (pg 1 30)).toNat) * 262144 + v.toNat } })))

/-- Domains are switched off and on by their DCTL word and by their idle timer (14 R459 to R463). DOMAIN_SWITCH_OFF of AON, BKP, HIF or TIME
is refused with STATE and that of a domain in use with BUSY; a domain that is on powers down, a Nib domain after its ranks have drained.
DOMAIN_POWER_UP starts a power-up, or waits for the drain; DOMAIN_ON ends one whose PLLs run, and releases the accesses that waited. The
idle timer and the wake-on-demand timeout do nothing where they do not run.

The Scriptorium or the Inkwell domain that powers down is off (14 R459, R460). -/
def Obligations.DomainCommandsRun : Prop :=
  (∀ (s : State) (w : Writer) (d : Fin 16) (v : Word),
      (∀ u t, u = forceBit v 17 false → s.Clear w 1 (48 + d.val) u →
        t = s.plain w 1 (48 + d.val) (if d.val = 0 ∨ d.val = 1 ∨ d.val = 2 ∨ d.val = 15 then forceBit u 16 false else u) →
        (d.val = 0 ∨ d.val = 1 ∨ d.val = 2 ∨ d.val = 15 →
          exec (.domainSwitchOff w d v) s = .next (settle s (s.recordRefusal w (some 1) (48 + d.val) eSTATE (pageAddr 1 (48 + d.val)))))
        ∧ (¬ (d.val = 0 ∨ d.val = 1 ∨ d.val = 2 ∨ d.val = 15) → s.offBusy d.val = true →
          exec (.domainSwitchOff w d v) s = .next (settle s (s.recordRefusal w (some 1) (48 + d.val) eBUSY (pageAddr 1 (48 + d.val)))))
        ∧ (¬ (d.val = 0 ∨ d.val = 1 ∨ d.val = 2 ∨ d.val = 15) → s.offBusy d.val = false →
          (s.domOn d.val = false → exec (.domainSwitchOff w d v) s = .next (settle s t))
          ∧ (s.domOn d.val = true → d.val ≠ 6 → d.val ≠ 7 → exec (.domainSwitchOff w d v) s = .next (settle s (t.domainDown d.val)))
          ∧ (s.domOn d.val = true → d.val = 6 ∨ d.val = 7 → ∀ x, x = t.drainDomain d.val → exec (.domainSwitchOff w d v) s
            = .next (settle s (if x.draining d.val then
                { x with pwr := { x.pwr with offPend := x.pwr.offPend ||| BitVec.ofNat 16 (2 ^ d.val) } }
              else x.domainDown d.val)))))
      ∧ (∀ u t, u = forceBit v 17 true → s.Clear w 1 (48 + d.val) u →
        t = s.plain w 1 (48 + d.val) (if d.val = 0 ∨ d.val = 1 ∨ d.val = 2 ∨ d.val = 15 then forceBit u 16 false else u) →
        (s.pwr.offPend.getLsbD d.val = true → exec (.domainPowerUp w d v) s = .next (settle s t))
        ∧ (s.pwr.offPend.getLsbD d.val = false → exec (.domainPowerUp w d v) s = .next (settle s (t.wakeDom d.val))))
      ∧ (∀ expires : Prop, (expires ↔ fixedDomain d.val = false ∧ s.domOn d.val = true ∧ s.bit (pg 1 (48 + d.val)) 16 = true
          ∧ s.domainIdle d.val = true) →
        (expires → exec (.domainIdleExpiry d) s = .next (settle s ((s.setB (pg 1 (48 + d.val)) 17 false).switchOff d.val)))
        ∧ (¬ expires → exec (.domainIdleExpiry d) s = .next (settle s s)))
      ∧ (∀ t, t = s.domainUp d.val → s.pstate d.val = 1 → s.pllsRun d.val = true → exec (.domainOn d) s
          = .next (settle s ((List.finRange 4).foldl State.release ((List.range 4).foldl (fun t p =>
            if (pllUsers p).contains d.val = true ∧ t.locked p = false then t.lockPll p else t) t))))
      ∧ (s.pstate d.val ≠ 1 ∨ s.pllsRun d.val = false → exec (.domainOn d) s = .next (settle s s))
      ∧ (∀ (c : Fin 4) (x : Core), x = s.cores[c.val] →
        (x.wod = true → exec (.wakeOnDemandTimeout c) s = .next (settle s (((s.coreErr c.val eTIMEOUT).raise 1 4).setCore c
            { x with wod := false, stallW := none, wodTmo := x.stallW.isNone })))
        ∧ (x.wod = false → exec (.wakeOnDemandTimeout c) s = .next (settle s s))))
  ∧ (∀ (s : State) (d : Nat), d = 8 ∨ d = 9 → s.domOn d = true →
      (s.domainDown d).domOn d = false ∧ (s.domainDown d).pstate d = 0)

/-- DEVICE_STATE_GO, DEVICE_IDLE_TIMER_EXPIRY, ENTRY_WAIT_TIMEOUT, DOZE_ENTRY and DOZE_EXIT run (14 R464 to R467; 01 R43, R44). GO is
refused with BUSY while an entry or exit is at hand, with STATE for a state that is not deeper, RUN from DOZE apart, and in LEGACY for
SLEEP and deeper; else the entry begins, and RUN ends DOZE. A timer whose entry must wait abandons it. A commanded entry that has
waited too long is refused to its writer, and every entry that has is dropped. DOZE gates every core and ends with every core as it was.
Each does nothing where its state or its entry is not at hand.

SLEEP_ENTRY, SLEEP_EXIT, BACKUP_ENTRY, DORMANT_ENTRY and BACKUP_EXIT run (14 R468 to R472; 15 R505; 13 R455; 01 R43). An entry that is
ready powers its domains down, with the regulator in LP mode as asked and possible; one that has come to wait is dropped when a timer began
it, and nothing happens otherwise. DORMANT loses what BKP holds. A latched wake from SLEEP powers up what was on at the entry and ends in
RUN, with PREV, WAKE and the cores as they were; one from BACKUP or DORMANT, with the rails in range, starts afresh. -/
def Obligations.DeviceStatesRun : Prop :=
  (∀ (s : State),
      (∀ (w : Writer) (v u : Word) (n : Nat) (turned : Nat → Host.Outcome State Fault Refusal), u = forceBit v 0 true → n = fieldOf u 3 1 →
        s.Clear w 1 2 u → (∀ c, turned c = .next (settle s (s.recordRefusal w (some 1) 2 c (pageAddr 1 2)))) →
        (s.phase ≠ 0 → exec (.deviceStateGo w v) s = turned eBUSY)
        ∧ (s.phase = 0 → ¬ (s.pwr.st.code < n ∨ (n = 0 ∧ s.pwr.st = .doze)) ∨ (s.pins.persona = .legacy ∧ 2 ≤ n) →
          exec (.deviceStateGo w v) s = turned eSTATE)
        ∧ (s.phase = 0 → s.pwr.st.code < n → (s.pins.persona = .legacy → n < 2) →
          exec (.deviceStateGo w v) s = .next (settle s ((s.plain w 1 2 u).beginEntry (devState n) (some w))))
        ∧ (s.phase = 0 → n = 0 → s.pwr.st = .doze → exec (.deviceStateGo w v) s = .next (settle s (s.plain w 1 2 u).endDoze)))
      ∧ (∀ (k : Fin 4) (runs : DevState → Prop), (∀ e, runs e ↔ s.ditNext k.val = some e ∧ s.bit (pg 1 (22 + k.val)) 17 = true ∧ s.phase = 0) →
        (∀ e, runs e → e = .doze ∨ s.entryWaits e = false → exec (.deviceIdleTimerExpiry k) s = .next (settle s (s.beginEntry e none)))
        ∧ (∀ e, runs e → e ≠ .doze → s.entryWaits e = true → exec (.deviceIdleTimerExpiry k) s = .next (settle s s.dropEntry))
        ∧ ((∀ e, ¬ runs e) → exec (.deviceIdleTimerExpiry k) s = .next (settle s s)))
      ∧ (∀ waits : Prop, (waits ↔ ∃ e, s.pwr.target = some e ∧ e ≠ .doze ∧ s.phase = 1 ∧ s.entryWaits e = true) →
        (waits → ∀ w, s.pwr.cmdBy = some w → s.pwr.cmdLw = false → exec .entryWaitTimeout s
          = .next (settle s ((s.pageErr 1 eBUSY 2).writerErr w eBUSY (pageAddr 1 2)).dropEntry))
        ∧ (waits → ∀ w, s.pwr.cmdBy = some w → s.pwr.cmdLw = true → exec .entryWaitTimeout s
          = .next (settle s (((s.raise 50 0).incSat (pg 50 18)).writerErr w eBUSY 7).dropEntry))
        ∧ (waits → s.pwr.cmdBy = none → exec .entryWaitTimeout s = .next (settle s s.dropEntry))
        ∧ (¬ waits → exec .entryWaitTimeout s = .next (settle s s)))
      ∧ (∀ enters : Prop, (enters ↔ s.pwr.target = some .doze ∧ s.phase = 1 ∧ s.cores[0].shadow = false) →
        (enters → exec .dozeEntry s
          = .next (settle s ((({ s with cores := s.cores.map Core.gate } : State).abortBorrow.settleEntry .doze).setPhase 0)))
        ∧ (¬ enters → exec .dozeEntry s = .next (settle s s)))
      ∧ (s.pwr.st = .doze → s.pwr.target = none → s.pwr.wakes ≠ 0 → s.coreLevel = false → exec .dozeExit s = .next (settle s s.endDoze))
      ∧ (s.pwr.st = .doze → s.pwr.target = none → s.coreLevel = true →
        exec .dozeExit s = .next (settle s (s.setB (pg 1 20) 12 true).endDoze))
      ∧ (s.pwr.st ≠ .doze ∨ s.pwr.target ≠ none ∨ (s.pwr.wakes = 0 ∧ s.coreLevel = false) → exec .dozeExit s = .next (settle s s)))
  ∧ (∀ (s : State),
      (∀ x y z : State, x = s.powerDown (s.offSet .sleep) →
        y = { x with cores := x.cores.map Core.gate, pwr := { x.pwr with onAt := s.onMask } } →
        z = { y with sers := y.sers.map fun x => { x with slow := false } } →
        s.ready .sleep = true → exec .sleepEntry s = .next (settle s ((z.setLp (z.bit (pg 1 19) 1 && !z.anyDomain)).settleEntry .sleep)))
      ∧ (s.ready .backup = true → exec .backupEntry s = .next (settle s (State.settleEntry
        (((s.deepEntry .backup).setReg (pg 44 16) (s.reg (pg 44 16))).setReg (pg 44 17) (s.reg (pg 44 17))) .backup)))
      ∧ (∀ x y : State, x = ((s.deepEntry .dormant).setReg (pg 44 16) (s.reg (pg 44 16))).setReg (pg 44 17) (s.reg (pg 44 17)) →
        y = (x.forgetBank 25).setPstate 1 0 → s.ready .dormant = true → exec .dormantEntry s = .next (settle s (State.settleEntry
          { y with regs := y.regs.filter (fun e => !inBkp e.1), time := TimeSt.reset } .dormant)))
      ∧ (∀ (row : Instr) (e : DevState), (row, e) ∈ [(.sleepEntry, .sleep), (.backupEntry, .backup), (.dormantEntry, .dormant)] →
        s.ready e = false → exec row s = .next (settle s (if s.pwr.target = some e ∧ s.phase = 1 ∧ s.pwr.cmdBy = none ∧ s.entryWaits e = true
          then s.dropEntry else s)))
      ∧ (∀ (back : List Nat) (t u x y : State),
        back = [15, 2, 3, 10, 14, 13, 12, 11, 9, 8, 7, 6, 5, 4].filter (fun d => s.pwr.onAt.getLsbD d && !s.domOn d) →
        t = back.foldl State.domainUp (s.slowWoken.setLp false) →
        u = (List.range 4).foldl (fun t p => if t.pllRuns p && !t.locked p then t.lockPll p else t) t →
        x = (((((u.setDev .run).setF (pg 1 3) 8 6 2).setPhase 0).raise 1 0).ungateAll) →
        y = { x with pwr := { x.pwr with prev := .sleep, wakes := 0, onAt := 0 } } →
        s.pwr.st = .sleep → s.pwr.wakes ≠ 0 → s.pwr.target = none →
        exec .sleepExit s = .next (settle s (y.legacyTrain (!s.domOn 4 && back.contains 4)).trialRestart))
      ∧ (s.pwr.st ≠ .sleep ∨ s.pwr.wakes = 0 ∨ s.pwr.target ≠ none → exec .sleepExit s = .next (settle s s))
      ∧ (∀ wakes : Prop, (wakes ↔ (s.pwr.st = .backup ∨ s.pwr.st = .dormant) ∧ s.pwr.wakes ≠ 0 ∧ s.pwr.target = none ∧ s.pwr.rails = true
          ∧ s.pins.pwren = true) →
        (wakes → exec .backupExit s = .next (settle s s.deepExit)) ∧ (¬ wakes → exec .backupExit s = .next (settle s s))))

/-- WAKE_PIN, RTC_ALARM, the accesses of the backup store, POWER_RAILS_IN_RANGE and PWREN_RETRY run (14 R464, R469, R475, R476, R484; 11
R388; 16 R542). A pin that becomes active wakes as its cause; the alarm moves the RTC to its instant and wakes. BKD reads or writes the
word at BKA and
moves BKA on, except that a LOST backup store refuses the write, and the read by a session, and reads 0 to a core with the error recorded. -/
def Obligations.WakeAndBackupCommandsRun : Prop :=
  ∀ (s : State),
    (∀ (n : Fin 8) (level : Bool) (b : BitVec 8) (t : State), b = BitVec.ofNat 8 (2 ^ n.val) →
      t = { s with pins := { s.pins with wake := if level then s.pins.wake ||| b else s.pins.wake &&& ~~~ b } } →
      exec (.wakePin n level) s
        = .next (settle s (if t.bit (pg 1 (64 + n.val)) 17 = true ∧ level = t.bit (pg 1 (64 + n.val)) 16 then t.wakeEvent n.val 2 else t)))
    ∧ (s.time.almOn = true → s.domOn 1 = true → exec .rtcAlarm s
        = .next (settle s ((s.rtcTicks ((s.time.alm + rxtMod - s.time.rtc) % rxtMod)).wakeEvent 8 3)))
    ∧ (s.time.almOn = false ∨ s.domOn 1 = false → exec .rtcAlarm s = .next (settle s s))
    ∧ (∀ (w : Writer) (v : Word) (a : Nat), a = s.fld (pg 1 32) 13 0 → s.Clear w 1 33 v →
      (s.lost (bkpKey a) = true →
        exec (.backupStoreWrite w v) s = .next (settle s (s.recordRefusal w (some 1) 33 eLOST (pageAddr 1 33))))
      ∧ (s.lost (bkpKey a) = false →
        exec (.backupStoreWrite w v) s = .next (settle s ((s.wrMem (bkpKey a) v).setF (pg 1 32) 13 0 (a + 1)))))
    ∧ (∀ (a : Nat) (r : Word × Nat × State) (next : State → State), a = s.fld (pg 1 32) 13 0 → r = s.memRead (bkpKey a) →
      (∀ t, next t = t.setF (pg 1 32) 13 0 (t.fld (pg 1 32) 13 0 + 1)) → s.pins.rstN = true → s.domOn 0 = true →
      (∀ c : Fin 4, exec (.backupStoreRead (.core c)) s = .next (settle s (next (
        if s.lost (bkpKey a) then s.coreErr c.val eLOST else if r.2.1 = 2 then r.2.2.coreErr c.val eECC else r.2.2))))
      ∧ exec (.backupStoreRead .tap) s = .next (settle s (next r.2.2))
      ∧ (∀ q : Fin 8, s.writerLive (.ses q) = true → s.mayRead q.val 1 33 = true → s.pageFresh 1 33 = true →
        s.unperformed q.val (pageAddr 1 33) = false → exec (.backupStoreRead (.ses q)) s = .next (settle s (
          if s.lost (bkpKey a) then (s.sesErr q.val eLOST (pageAddr 1 33)).driveBus q 0 2
          else (next (if r.2.1 = 2 then r.2.2.sesErr q.val eECC (pageAddr 1 33) else r.2.2)).driveBus q r.1 0))))
    ∧ (∀ waits : Prop, (waits ↔ s.pins.pwren = true ∧ s.pwr.rails = false ∧ (s.pwr.st = .backup ∨ s.pwr.st = .dormant)) →
      (waits → exec .powerRailsInRange s = .next (settle s { s with pwr := { s.pwr with rails := true } }))
      ∧ (¬ waits → exec .powerRailsInRange s = .next (settle s s))
      ∧ exec .pwrenRetry s = .next (settle s s))

/-- The resets run (00 R2; 14 R474, R479, R486; 15 R502; 16 R541, R543). Each resets the units as its row says and records its cause. An
assertion leaves RST_N low, and so does a power-on, which keeps nothing; a brown-out samples the straps where RST_N is high and waits for its
release where it is low; a supply that falls outside BACKUP and DORMANT resets as an assertion does and loses the memories of the core
supply, and in them it changes nothing; a warm restart is refused with BUSY during an update or an OTP operation. The straps are sampled as
RST_N rises, and a release does nothing where it is high. -/
def Obligations.ResetsRun : Prop :=
  ∀ (s : State) (held : State → State), (∀ t, held t = { t with pins := { t.pins with rstN := false } }) →
    exec .resetAssert s = .next (settle s (held s.rstReset))
    ∧ (∀ t, t = ((s.resetUnits ⟨false, false, false, false⟩).resetCause s 0).forgetCore.forgetBank 25 →
      exec .powerOnReset s = .next (settle s (held (t.setReg (pg 3 17) 1))))
    ∧ (∀ (p b : BitVec 2) (t : State),
      t = (({ s with freeCtr := s.freeCtr + 2 }.forgetAon.resetUnits ⟨false, false, false, false⟩).resetCause s 2).setReg (pg 3 17) 2 →
      p = BitVec.ofNat 2 (Config.freeNat s.freeCtr) → b = BitVec.ofNat 2 (Config.freeNat (s.freeCtr + 1)) →
      (s.pins.rstN = true → exec .brownOut s = .next (settle s (t.sampleStraps p b)))
      ∧ (s.pins.rstN = false → exec .brownOut s = .next (settle s t)))
    ∧ (s.pwr.st ≠ .backup → s.pwr.st ≠ .dormant → exec .supplyFall s = .next (settle s s.forgetCore.rstReset))
    ∧ (s.pwr.st = .backup ∨ s.pwr.st = .dormant → exec .supplyFall s = .next (settle s s))
    ∧ (∀ (w : Writer) (v : Word), s.Clear w 3 2 (forceBit v 0 true) →
      (s.bit (pg 14 3) 0 = true ∨ s.bit (pg 15 3) 5 = true →
        exec (.warmRestart w v) s = .next (settle s (s.recordRefusal w (some 3) 2 eBUSY (pageAddr 3 2))))
      ∧ (s.bit (pg 14 3) 0 = false → s.bit (pg 15 3) 5 = false → exec (.warmRestart w v) s = .next (settle s s.warmReset)))
    ∧ (∀ p b : BitVec 2,
      (s.pins.rstN = false → exec (.rstNRelease p b) s = .next (settle s ((List.finRange 4).foldl State.resetCore { s with
        pins := { s.pins with rstN := true, personaPins := p, bootsrcPins := b
                              persona := if p = 1 then .legacy else if p = 2 then .dual else .native } })))
      ∧ (s.pins.rstN = true → exec (.rstNRelease p b) s = .next (settle s s)))

/-! ### Firmware update, life cycle, boot (spec/15) -/

/-- UPDATE_LOCK_TAKE, UPDATE_LOCK_RELEASE and UPDATE_LOCK_EXPIRY run (15 R508): a free lock, or the writer's own, goes to its writer, one of
another unit is refused with the owner as address, and the test access port, which has no code, is refused with STATE. The owner, the
supervisor, or any writer of a free lock frees it, any other is refused with LOCKED. A lock that expires is free and LKEXP is raised; a free
one does not expire. -/
def Obligations.UpdateLockCommandsRun : Prop :=
  ∀ (s : State) (w : Writer) (v : Word) (own : State → State),
    (∀ t, own t = if s.holdsLock w then t.setReg (updKey 17) 0 else t) →
    (∀ u, u = forceBit v 17 true → s.Clear w 14 16 u →
      (∀ n, writerCode w = some n → s.bit (updKey 16) 17 = false ∨ s.lockHeldBy n = true →
        exec (.updateLockTake w v) s = .next (settle s (own ((s.setReg (updKey 16) (wordOf (131072 + n))).setReg (updKey 17) 0))))
      ∧ (∀ n, writerCode w = some n → s.bit (updKey 16) 17 = true → s.lockHeldBy n = false →
        exec (.updateLockTake w v) s = .next (settle s (s.recordRefusal w (some 14) 16 eLOCKED (s.fld (updKey 16) 3 0))))
      ∧ (writerCode w = none →
        exec (.updateLockTake w v) s = .next (settle s (s.recordRefusal w (some 14) 16 eSTATE (pageAddr 14 16)))))
    ∧ (∀ u, u = forceBit v 17 false → s.Clear w 14 16 u →
      (s.bit (updKey 16) 17 = false ∨ s.holdsLock w = true ∨ s.isSupv w = true →
        exec (.updateLockRelease w v) s = .next (settle s (own ((s.setReg (updKey 16) 0).setReg (updKey 17) 0))))
      ∧ (s.bit (updKey 16) 17 = true → s.holdsLock w = false → s.isSupv w = false →
        exec (.updateLockRelease w v) s = .next (settle s (s.recordRefusal w (some 14) 16 eLOCKED (pageAddr 14 16)))))
    ∧ (s.bit (updKey 16) 17 = true →
      exec .updateLockExpiry s = .next (settle s (((s.setReg (updKey 16) 0).setReg (updKey 17) 0).raise 14 5)))
    ∧ (s.bit (updKey 16) 17 = false → exec .updateLockExpiry s = .next (settle s s))

/-- The flash commands of UPD.CTRL run (15 R506, R508, R509, R510, R515, R516). A block or an activation needs the lock, no trial unless in
recovery, a free flash and a buffer in shared RAM; a block whose CRC differs ends at once with RANGE. A confirmation needs a trial that has
not run out and the key, stops the trial timer and begins its record. Settings and a discard need a free flash outside recovery, settings a length in
range. The first need that fails is the refusal; a write that asks for more than one is refused with the first one's code, or BUSY. An
accepted write of the lock's owner restarts its idle time.

The ends of the flash operations run (15 R489, R497, R506, R509, R510, R515, R516): a block is programmed and counted, an activation
writes its record and frees the lock, a confirmation writes its record and ends the trial, settings are written, a discard empties Class N;
one that fails or takes too long leaves its area unfinished and is recorded with TIMEOUT. The flash is free again, and a trial that had run
out restarts the device. An end with no such operation at hand does nothing.

The trial timer and the rollback fuses run (15 R505, R507): the timer of a trial ends it, stops when nothing is on trial, and does not
run at 0 or in DORMANT. A confirmed image of a higher SVN blows the fuses that the command stands for, one at least (a free number, log
71), in ascending order up to SVN, with STAT.BUSY of LCS set until the count is SVN; any other blows none. -/
def Obligations.FlashCommandsRun : Prop :=
  (∀ (s : State) (w : Writer) (v u : Word) (b : Nat) (row : Instr) (code : Nat → Nat) (own : State → State)
        (refuse : Nat → Host.Outcome State Fault Refusal),
      (row, b) ∈ [(.blockWrite w v, 0), (.activate w v, 1), (.healthConfirm w v, 2), (.classPSettingsWrite w v, 3), (.classNSettingsWrite w v, 4),
        (.classNDiscard w v, 5)] → u = forceBit v b true → s.Clear w 14 2 u →
      (∀ t, own t = if s.holdsLock w then t.setReg (updKey 17) 0 else t) →
      (∀ c, refuse c = .next (settle s (s.recordRefusal w (some 14) 2 c (pageAddr 14 2)))) →
      (∀ c, code c = if c = 0 ∨ c = 1 then
          (if s.holdsLock w = false then eLOCKED else if s.bit (updKey 28) 1 = true ∧ s.recovery = false then eSTATE
            else if s.fbusy then eBUSY else 0)
        else if c = 2 then
          (if s.bit (updKey 28) 1 = false ∨ s.bit (updKey 28) 6 = true then eSTATE else if s.fbusy then eBUSY else 0)
        else (if s.fbusy then eBUSY else if s.recovery then eSTATE else 0)) →
      (∀ c d r, setBits u 6 = c :: d :: r → exec row s = refuse (if code c = 0 then eBUSY else code c))
      ∧ (setBits u 6 = [b] → code b ≠ 0 → exec row s = refuse (code b))
      ∧ (setBits u 6 = [b] → code b = 0 →
        (b ≤ 1 → inShram (s.updNum 19) 2048 = false → exec row s = refuse eRANGE)
        ∧ (b = 0 → inShram (s.updNum 19) 2048 = true → ∀ r, r = s.ramBytes (s.updNum 19) 4096 →
          (crc32 r.1 = s.updNum 21 → exec row s
            = .next (settle s (own (r.2.beginFlash (.block (folioBase s.inactive + s.fld (updKey 18) 11 0 * 4096) r.1)))))
          ∧ (crc32 r.1 ≠ s.updNum 21 → exec row s = .next (settle s (own ((r.2.setF (updKey 23) 3 0 eRANGE).raise 14 1)))))
        ∧ (b = 1 → inShram (s.updNum 19) 2048 = true → exec row s = .next (settle s (own (s.beginFlash .activate))))
        ∧ (b = 2 → s.upd.cKey ≠ 0o363636 → exec row s = refuse eRANGE)
        ∧ (b = 2 → s.upd.cKey = 0o363636 → exec row s = .next (settle s (own ((s.setReg (updKey 29) 0).beginFlash .confirm))))
        ∧ (∀ (n : Bool) (len : Nat), (b = 3 ∧ n = false) ∨ (b = 4 ∧ n = true) → len = (s.rdMem (s.setBase n + 1)).toNat →
          ((if n then 131052 else 16364) < len → exec row s = refuse eRANGE)
          ∧ (len ≤ (if n then 131052 else 16364) → ∀ h r, h = s.memReadN (s.setBase n) 2 →
            r = h.2.2.ramBytes (s.setBase n + 2) (h.1.getD 1 0).toNat →
            exec row s = .next (settle s (own (r.2.beginFlash (.settings n (fieldOf (h.1.getD 0 0) 15 0) r.1))))))
        ∧ (b = 5 → exec row s = .next (settle s (own (s.beginFlash .discard))))))
  ∧ (∀ (s : State) (ok : Bool) (row : Instr) (fail : State) (ends : State → Host.Outcome State Fault Refusal),
      fail = s.breakOp.pageErr 14 eTIMEOUT 2 → (∀ t, ends t = .next (settle s t.endFlash.trialRestart)) →
      (∀ off bytes, row = .blockWriteDone ok ∨ (row = .flashTimeout ∧ ok = false) → s.upd.op = some (.block off bytes) →
        exec row s = ends (if ok then (((s.flashWrite off (sectorPad bytes)).setF (updKey 23) 3 0 0).inc (updKey 24)).raise 14 0
          else (fail.setF (updKey 23) 3 0 eTIMEOUT).raise 14 1))
      ∧ (row = .activateDone ok ∨ (row = .flashTimeout ∧ ok = false) → s.upd.op = some .activate →
        exec row s = ends (if ok then
            ((s.writeRec ⟨0, s.inactive, true, 0, false, s.recovery, s.folioVer s.inactive⟩).freeLock).raise 14 2
          else fail))
      ∧ (row = .activateDone ok ∨ (row = .flashTimeout ∧ ok = false) → s.upd.op = some .confirm →
        exec row s = ends (if ok then
            ((s.writeRec { s.recNow with trial := false, tries := 0 }).setB (updKey 3) 3 false).raise 14 3
          else fail))
      ∧ (∀ n lver l, row = .settingsWriteDone ok ∨ (row = .flashTimeout ∧ ok = false) → s.upd.op = some (.settings n lver l) →
        exec row s = ends (State.raise (if ok then s.writeSet n lver l else fail) 14 4))
      ∧ (row = .settingsWriteDone ok ∨ (row = .flashTimeout ∧ ok = false) → s.upd.op = some .discard →
        exec row s = ends (State.raise (if ok then (s.writeSet true 0 []).setB (updKey 34) 4 true else fail) 14 4))
      ∧ ((∀ off bytes, s.upd.op ≠ some (.block off bytes)) → exec (.blockWriteDone ok) s = .next (settle s s))
      ∧ (s.upd.op ≠ some .activate → s.upd.op ≠ some .confirm → exec (.activateDone ok) s = .next (settle s s))
      ∧ ((∀ n lver l, s.upd.op ≠ some (.settings n lver l)) → s.upd.op ≠ some .discard →
        exec (.settingsWriteDone ok) s = .next (settle s s))
      ∧ (s.upd.op = none → exec .flashTimeout s = .next (settle s s)))
  ∧ (∀ (s : State),
      (s.reg (updKey 29) ≠ 0 → s.pwr.st ≠ .dormant → s.bit (updKey 28) 1 = true → exec .trialTimerExpiry s = .next (settle s s.trialOver))
      ∧ (s.reg (updKey 29) ≠ 0 → s.pwr.st ≠ .dormant → s.bit (updKey 28) 1 = false →
        exec .trialTimerExpiry s = .next (settle s (s.setReg (updKey 29) 0)))
      ∧ (s.reg (updKey 29) = 0 ∨ s.pwr.st = .dormant → exec .trialTimerExpiry s = .next (settle s s))
      ∧ (∀ (k n : Nat) (t : State) (due : Prop), k = max 1 (Config.freeNat s.freeCtr) → n = s.fld (updKey 33) 14 8 →
        (due ↔ s.bit (updKey 3) 5 = false ∧ s.recovery = false ∧ s.bit (updKey 3) 3 = false ∧ s.upd.lcsOp = none ∧ s.fuseCount < n) →
        t = s.blowFuses (min n (s.fuseCount + k)) →
        (due → exec .rollbackFuseProgram s
          = .next (settle s ((t.setF (updKey 33) 6 0 t.fuseCount).setB (pg 15 3) 5 (decide (t.fuseCount < n)))))
        ∧ (¬ due → exec .rollbackFuseProgram s = .next (settle s s))))

/-- The commands of the life cycle run (15 R517 to R520). An OTP write begins on a row that it may reach and that the state grants, an advance to
the next state or the present one, with a key set before PROVISIONED, a RETURN token in FIELD or SEALED from a buffer in shared RAM; each is
refused with BUSY during another, with STATE, RANGE or CONFIG where its rule says so, and a write that asks for more than one is refused. The
ends blow the bits of their row, or record what is wrong with the token, and raise their event; an end with no such operation at hand does
nothing.

A blown group of a life-cycle row decides the state (15 R517, R519): RETURN and SEALED count whatever lower groups say, and the group that
an advance to the next state blows gives that state. -/
def Obligations.LifeCycleCommandsRun : Prop :=
  (∀ (s : State),
      (∀ (w : Writer) (v u : Word) (b : Nat) (row : Instr) (code : Nat → Nat) (refuse : Nat → Host.Outcome State Fault Refusal),
        (row, b) ∈ [(.otpWrite w v, 0), (.lifecycleAdvance w v, 1), (.returnToken w v, 2)] → u = forceBit v b true → s.Clear w 15 2 u →
        (∀ c, refuse c = .next (settle s (s.recordRefusal w (some 15) 2 c (pageAddr 15 2)))) →
        (∀ c, code c = if s.lcsBusy then eBUSY
          else if c = 0 then (if otpReach (s.fld (pg 15 17) 6 0) = true ∧ otpRight s.lcst (s.fld (pg 15 17) 6 0) = false then eSTATE else 0)
          else if c = 1 then
            (if 1 ≤ s.fld (pg 15 16) 2 0 ∧ s.fld (pg 15 16) 2 0 ≤ 3 ∧ (s.fld (pg 15 16) 2 0 = s.lcst + 1 ∨ s.fld (pg 15 16) 2 0 = s.lcst) then 0
              else eSTATE)
          else (if s.lcst = 2 ∨ s.lcst = 3 then 0 else eSTATE)) →
        (∀ c d r, setBits u 3 = c :: d :: r → exec row s = refuse (if code c = 0 then eBUSY else code c))
        ∧ (setBits u 3 = [b] → code b ≠ 0 → exec row s = refuse (code b))
        ∧ (∀ r x, setBits u 3 = [b] → code b = 0 → b = 0 → r = s.fld (pg 15 17) 6 0 → x = BitVec.ofNat 16 (s.fld (pg 15 18) 15 0) →
          (otpReach r = false → exec row s = refuse eRANGE)
          ∧ (otpReach r = true → r = 48 → s.keysLeft x = false → exec row s = refuse eCONFIG)
          ∧ (otpReach r = true → (r = 48 → s.keysLeft x = true) → exec row s = .next (settle s (s.beginOtp 0 r x))))
        ∧ (∀ t, setBits u 3 = [b] → code b = 0 → b = 1 → t = s.fld (pg 15 16) 2 0 →
          (s.lcst = 0 → s.keySet 0 = false → s.keySet 1 = false → exec row s = refuse eCONFIG)
          ∧ (s.lcst ≠ 0 ∨ s.keySet 0 = true ∨ s.keySet 1 = true →
            exec row s = .next (settle s (s.beginOtp 1 (8 + (t - 1) / 2) (if t % 2 = 1 then 0x00ff else 0xff00)))))
        ∧ (∀ r, setBits u 3 = [b] → code b = 0 → b = 2 → r = s.ramBytes s.tokenAddr 96 →
          (inShram s.tokenAddr 48 = false → exec row s = refuse eRANGE)
          ∧ (inShram s.tokenAddr 48 = true → exec row s
            = .next (settle s (if s.tokenCode r.1 = 0 then r.2.beginOtp 2 9 0xff00 else r.2.beginOtp 3 (s.tokenCode r.1) 0)))))
      ∧ (∀ r b, s.upd.lcsOp = some (0, r, b) →
        exec .otpWriteDone s = .next (settle s ((s.blow r b).endOtp.raise 15 1).trialRestart))
      ∧ (∀ r b, s.upd.lcsOp = some (1, r, b) →
        exec .lifecycleAdvanceDone s = .next (settle s ((s.blow r b).endOtp.raise 15 0).trialRestart))
      ∧ (∀ r b, s.upd.lcsOp = some (2, r, b) →
        exec .returnTokenDone s = .next (settle s (((s.blow r b).endOtp.raise 15 0).raise 15 2).trialRestart))
      ∧ (∀ c b, s.upd.lcsOp = some (3, c, b) →
        exec .returnTokenDone s = .next (settle s ((s.pageErr 15 c 2).endOtp.raise 15 3).trialRestart))
      ∧ (∀ (row : Instr) (kinds : List Nat), (row, kinds) ∈ [(.otpWriteDone, [0]), (.lifecycleAdvanceDone, [1]), (.returnTokenDone, [2, 3])] →
        (∀ k r b, s.upd.lcsOp = some (k, r, b) → k ∉ kinds) → exec row s = .next (settle s s)))
  ∧ (∀ (s : State), (groupBlown ((s.otpRow 9).toNat / 256) = true → s.lcst = 4)
      ∧ (groupBlown ((s.otpRow 9).toNat / 256) = false → groupBlown (s.otpRow 9).toNat = true → s.lcst = 3)
      ∧ (s.lcst = 0 → (s.blow 8 0x00ff).lcst = 1) ∧ (s.lcst = 1 → (s.blow 8 0xff00).lcst = 2) ∧ (s.lcst = 2 → (s.blow 9 0x00ff).lcst = 3)
      ∧ (s.lcst = 3 → (s.blow 9 0xff00).lcst = 4))

/-- BOOT_SEQUENCE and REFCLK_MEASURE_TIMEOUT run (15 R487 to R489, R497 to R501): while the boot ROM runs, the boot takes its clock and the
record in force, then the Folio that it names; RECOVER leads to recovery, and so does a reference clock that is to be measured without a
crystal. The command names the parts of the flash that cannot be read and the writes that end with TIMEOUT; a record or settings copy that
cannot be read is recorded. A boot that does not run, or has no clock, goes on waiting.

The checks 1 to 10 of a Folio are made in their order, and the first that fails is the one reported, with its code (15 R499); a Colophon
that cannot be read fails check 1 with TIMEOUT. -/
def Obligations.BootCommandsRun : Prop :=
  (∀ (s : State) (ms : Word) (mute : BitVec 10) (bad : BitVec 4) (boots : Prop), (boots ↔ s.pins.rstN = true ∧ s.bit (updKey 3) 5 = true) →
      (∀ (k : Nat) (t : State) (seen : BitVec 10 → State → State) (ends : State → Host.Outcome State Fault Refusal),
        t = { s.bootClock k with upd := { (s.bootClock k).upd with mute := mute } } →
        (∀ m x, seen m x = if x.upd.mute &&& m = 0 then x else x.pageErr 14 eTIMEOUT 2) →
        (∀ x, ends x = .next (settle s { x with upd := { x.upd with mute := 0 } })) → boots → s.bootKhz = some k →
        (∀ x, x = (seen 0b11 t).showRec → x.bootSrc = 2 → exec (.bootSequence ⟨ms, mute, bad⟩) s = ends x.enterRecovery)
        ∧ (∀ x y, x = (seen 0b11 t).showRec → y = x.bootActive ms bad → x.bootSrc ≠ 2 →
          exec (.bootSequence ⟨ms, mute, bad⟩) s = ends (if y.recovery then y else seen 0b111100 y)))
      ∧ (¬ boots ∨ s.bootKhz = none → exec (.bootSequence ⟨ms, mute, bad⟩) s = .next (settle s s))
      ∧ (boots → s.upd.warm = false → s.otpRow 49 = 0 → s.bit (pg 2 3) 4 = false →
        exec .refclkMeasureTimeout s = .next (settle s (s.bootFail 0 0 eTIMEOUT).enterRecovery))
      ∧ (¬ boots ∨ s.upd.warm = true ∨ s.otpRow 49 ≠ 0 ∨ s.bit (pg 2 3) 4 = true → exec .refclkMeasureTimeout s = .next (settle s s)))
  ∧ (∀ (s : State) (f : Nat) (l : List Comp) (fails : List (Bool × Nat × Nat)), l = s.compTable f →
      fails = [(s.muted (6 + f), 1, eTIMEOUT), (!s.check1 f, 1, eCONFIG), (!s.trusts (sha256 (s.pubKey f)), 2, ePERM), (!s.check3 f, 3, ePERM),
        (!s.check4 f, 4, eCONFIG), (!s.check5 f, 5, ePERM), (decide ((s.colophon f).svn < s.fuseCount), 6, eRANGE), (!s.check7 f, 7, eCONFIG),
        (!check8 l, 8, eCONFIG), (!check9 l, 9, eCONFIG), (!check10 l (s.colophon f).msgver, 10, eCONFIG)] →
      (∀ pre c post, fails = pre ++ (true, c) :: post → (∀ x ∈ pre, x.1 = false) → s.bootChecks f = c)
      ∧ ((∀ x ∈ fails, x.1 = false) → s.bootChecks f = (0, 0)))
end

