-- ==== Sys2Proof/Laws/Store.lean ====
section
/-! SUPPORT. The laws of the sparse tables: a read after an update, and the canonical form kept by every update. -/

namespace Sys2Proof.Machine

variable {α : Type}

theorem Store.get?_put_self (t : Store α) (k : Nat) (v : α) : (t.put k v).get? k = some v := by
  induction t with
  | nil => simp [Store.put, Store.get?]
  | cons e r ih =>
    obtain ⟨a, b⟩ := e
    simp only [Store.put]
    split
    · simp [Store.get?]
    · split
      · simp [Store.get?]
      · rename_i h1 h2
        have h3 : a ≠ k := fun h => h2 h.symm
        simp [Store.get?, h3, ih]

theorem Store.get?_put_ne (t : Store α) {k x : Nat} (v : α) (h : x ≠ k) : (t.put k v).get? x = t.get? x := by
  induction t with
  | nil => simp [Store.put, Store.get?, h.symm]
  | cons e r ih =>
    obtain ⟨a, b⟩ := e
    simp only [Store.put]
    split
    · simp [Store.get?, h.symm]
    · split
      · rename_i h1 h2
        subst h2
        simp [Store.get?, h.symm]
      · by_cases ha : a = x <;> simp [Store.get?, ha, ih]

theorem Store.get?_del_ne (t : Store α) {k x : Nat} (h : x ≠ k) : (t.del k).get? x = t.get? x := by
  induction t with
  | nil => simp [Store.del, Store.get?]
  | cons e r ih =>
    obtain ⟨a, b⟩ := e
    simp only [Store.del]
    split
    · rename_i h2
      subst h2
      simp [Store.get?, h.symm]
    · by_cases ha : a = x <;> simp [Store.get?, ha, ih]

theorem Store.above_get? {t : Store α} {lo x : Nat} (h : t.above lo = true) (hx : x ≤ lo) : t.get? x = none := by
  induction t generalizing lo with
  | nil => rfl
  | cons e r ih =>
    obtain ⟨a, b⟩ := e
    simp only [Store.above, Bool.and_eq_true, decide_eq_true_eq] at h
    have : a ≠ x := by omega
    simp only [Store.get?, this, if_false]
    exact ih h.2 (by omega)

theorem Store.above_mono {t : Store α} {lo l : Nat} (h : t.above lo = true) (hl : l ≤ lo) : t.above l = true := by
  cases t with
  | nil => rfl
  | cons e r =>
    obtain ⟨a, b⟩ := e
    simp only [Store.above, Bool.and_eq_true, decide_eq_true_eq] at h ⊢
    exact ⟨by omega, h.2⟩

theorem Store.above_put {t : Store α} {lo k : Nat} (v : α) (h : t.above lo = true) (hk : lo < k) : (t.put k v).above lo = true := by
  induction t generalizing lo with
  | nil => simp [Store.put, Store.above, hk]
  | cons e r ih =>
    obtain ⟨a, b⟩ := e
    simp only [Store.above, Bool.and_eq_true, decide_eq_true_eq] at h
    simp only [Store.put]
    split
    · simp [Store.above, *]
    · split
      · simp [Store.above, *]
      · simp only [Store.above, Bool.and_eq_true, decide_eq_true_eq]
        exact ⟨h.1, ih h.2 (by omega)⟩

theorem Store.above_del {t : Store α} {lo k : Nat} (h : t.above lo = true) : (t.del k).above lo = true := by
  induction t generalizing lo with
  | nil => rfl
  | cons e r ih =>
    obtain ⟨a, b⟩ := e
    simp only [Store.above, Bool.and_eq_true, decide_eq_true_eq] at h
    simp only [Store.del]
    split
    · exact Store.above_mono h.2 (by omega)
    · simp only [Store.above, Bool.and_eq_true, decide_eq_true_eq]
      exact ⟨h.1, ih h.2⟩

theorem Store.above_filter {t : Store α} {lo : Nat} (p : Nat × α → Bool) (h : t.above lo = true) : Store.above lo (t.filter p) = true := by
  induction t generalizing lo with
  | nil => rfl
  | cons e r ih =>
    obtain ⟨a, b⟩ := e
    simp only [Store.above, Bool.and_eq_true, decide_eq_true_eq] at h
    by_cases hp : p (a, b) = true
    · rw [List.filter_cons_of_pos hp]
      simp only [Store.above, Bool.and_eq_true, decide_eq_true_eq]
      exact ⟨h.1, ih h.2⟩
    · rw [List.filter_cons_of_neg hp]
      exact Store.above_mono (ih h.2) (by omega)

theorem Store.wf_of_above {t : Store α} {lo : Nat} (h : t.above lo = true) : t.wf = true := by
  cases t with
  | nil => rfl
  | cons e r =>
    obtain ⟨a, b⟩ := e
    simp only [Store.above, Bool.and_eq_true, decide_eq_true_eq] at h
    exact h.2

theorem Store.wf_put {t : Store α} (k : Nat) (v : α) (h : t.wf = true) : (t.put k v).wf = true := by
  cases t with
  | nil => rfl
  | cons e r =>
    obtain ⟨a, b⟩ := e
    simp only [Store.put]
    split
    · simp only [Store.wf, Store.above, Bool.and_eq_true, decide_eq_true_eq]
      exact ⟨by assumption, h⟩
    · split
      · rename_i h2
        subst h2
        exact h
      · exact Store.above_put (t := r) v h (by omega)

theorem Store.wf_del {t : Store α} (k : Nat) (h : t.wf = true) : (t.del k).wf = true := by
  cases t with
  | nil => rfl
  | cons e r =>
    obtain ⟨a, b⟩ := e
    simp only [Store.del]
    split
    · exact Store.wf_of_above (lo := a) h
    · exact Store.above_del (t := r) (lo := a) h

theorem Store.wf_filter {t : Store α} (p : Nat × α → Bool) (h : t.wf = true) : Store.wf (t.filter p) = true := by
  cases t with
  | nil => rfl
  | cons e r =>
    obtain ⟨a, b⟩ := e
    by_cases hp : p (a, b) = true
    · rw [List.filter_cons_of_pos hp]
      exact Store.above_filter p (t := r) (lo := a) h
    · rw [List.filter_cons_of_neg hp]
      exact Store.wf_of_above (Store.above_filter p (t := r) (lo := a) h)

theorem Store.get?_del_self {t : Store α} (k : Nat) (h : t.wf = true) : (t.del k).get? k = none := by
  induction t with
  | nil => rfl
  | cons e r ih =>
    obtain ⟨a, b⟩ := e
    have h' : Store.above a r = true := h
    simp only [Store.del]
    split
    · rename_i h2
      exact Store.above_get? h' (by omega)
    · rename_i h2
      simp only [Store.get?, h2, if_false]
      exact ih (Store.wf_of_above h')

end Sys2Proof.Machine
end

