-- ==== Sys2Proof/Laws/State.lean ====
section
/-! SUPPORT. The small laws of the updates of the state: one lemma for every field and every update that leaves it. -/

namespace Sys2Proof.Machine

/-! ### The updates of register words leave every other field -/

@[simp] theorem State.setReg_pending (s : State) (k : Nat) (v : Word) : (s.setReg k v).pending = s.pending := rfl
@[simp] theorem State.setReg_freeCtr (s : State) (k : Nat) (v : Word) : (s.setReg k v).freeCtr = s.freeCtr := rfl
@[simp] theorem State.setReg_mem (s : State) (k : Nat) (v : Word) : (s.setReg k v).mem = s.mem := rfl
@[simp] theorem State.setReg_memEpoch (s : State) (k : Nat) (v : Word) : (s.setReg k v).memEpoch = s.memEpoch := rfl
@[simp] theorem State.setReg_pins (s : State) (k : Nat) (v : Word) : (s.setReg k v).pins = s.pins := rfl
@[simp] theorem State.setReg_time (s : State) (k : Nat) (v : Word) : (s.setReg k v).time = s.time := rfl
@[simp] theorem State.setReg_ev (s : State) (k : Nat) (v : Word) : (s.setReg k v).ev = s.ev := rfl
@[simp] theorem State.setReg_capLow (s : State) (k : Nat) (v : Word) : (s.setReg k v).capLow = s.capLow := rfl
@[simp] theorem State.setReg_ctxShadow (s : State) (k : Nat) (v : Word) : (s.setReg k v).ctxShadow = s.ctxShadow := rfl
@[simp] theorem State.setReg_pwm (s : State) (k : Nat) (v : Word) : (s.setReg k v).pwm = s.pwm := rfl
@[simp] theorem State.setReg_pushSeq (s : State) (k : Nat) (v : Word) : (s.setReg k v).pushSeq = s.pushSeq := rfl
@[simp] theorem State.setReg_feeds (s : State) (k : Nat) (v : Word) : (s.setReg k v).feeds = s.feeds := rfl
@[simp] theorem State.setReg_streams (s : State) (k : Nat) (v : Word) : (s.setReg k v).streams = s.streams := rfl
@[simp] theorem State.setReg_rf (s : State) (k : Nat) (v : Word) : (s.setReg k v).rf = s.rf := rfl
@[simp] theorem State.setReg_exm (s : State) (k : Nat) (v : Word) : (s.setReg k v).exm = s.exm := rfl
@[simp] theorem State.setReg_chans (s : State) (k : Nat) (v : Word) : (s.setReg k v).chans = s.chans := rfl
@[simp] theorem State.setReg_duct (s : State) (k : Nat) (v : Word) : (s.setReg k v).duct = s.duct := rfl
@[simp] theorem State.setReg_caps (s : State) (k : Nat) (v : Word) : (s.setReg k v).caps = s.caps := rfl
@[simp] theorem State.setReg_scr (s : State) (k : Nat) (v : Word) : (s.setReg k v).scr = s.scr := rfl
@[simp] theorem State.setReg_meas (s : State) (k : Nat) (v : Word) : (s.setReg k v).meas = s.meas := rfl
@[simp] theorem State.setReg_tps (s : State) (k : Nat) (v : Word) : (s.setReg k v).tps = s.tps := rfl
@[simp] theorem State.setReg_cores (s : State) (k : Nat) (v : Word) : (s.setReg k v).cores = s.cores := rfl
@[simp] theorem State.setReg_udh (s : State) (k : Nat) (v : Word) : (s.setReg k v).udh = s.udh := rfl
@[simp] theorem State.setReg_blot (s : State) (k : Nat) (v : Word) : (s.setReg k v).blot = s.blot := rfl
@[simp] theorem State.setReg_sess (s : State) (k : Nat) (v : Word) : (s.setReg k v).sess = s.sess := rfl
@[simp] theorem State.setReg_sers (s : State) (k : Nat) (v : Word) : (s.setReg k v).sers = s.sers := rfl
@[simp] theorem State.setReg_pwr (s : State) (k : Nat) (v : Word) : (s.setReg k v).pwr = s.pwr := rfl
@[simp] theorem State.setReg_upd (s : State) (k : Nat) (v : Word) : (s.setReg k v).upd = s.upd := rfl
@[simp] theorem State.setReg_leg (s : State) (k : Nat) (v : Word) : (s.setReg k v).leg = s.leg := rfl
@[simp] theorem State.setF_pending (s : State) (k hi lo n : Nat) : (s.setF k hi lo n).pending = s.pending := rfl
@[simp] theorem State.setF_freeCtr (s : State) (k hi lo n : Nat) : (s.setF k hi lo n).freeCtr = s.freeCtr := rfl
@[simp] theorem State.setF_mem (s : State) (k hi lo n : Nat) : (s.setF k hi lo n).mem = s.mem := rfl
@[simp] theorem State.setF_memEpoch (s : State) (k hi lo n : Nat) : (s.setF k hi lo n).memEpoch = s.memEpoch := rfl
@[simp] theorem State.setF_pins (s : State) (k hi lo n : Nat) : (s.setF k hi lo n).pins = s.pins := rfl
@[simp] theorem State.setF_time (s : State) (k hi lo n : Nat) : (s.setF k hi lo n).time = s.time := rfl
@[simp] theorem State.setF_ev (s : State) (k hi lo n : Nat) : (s.setF k hi lo n).ev = s.ev := rfl
@[simp] theorem State.setF_capLow (s : State) (k hi lo n : Nat) : (s.setF k hi lo n).capLow = s.capLow := rfl
@[simp] theorem State.setF_ctxShadow (s : State) (k hi lo n : Nat) : (s.setF k hi lo n).ctxShadow = s.ctxShadow := rfl
@[simp] theorem State.setF_pwm (s : State) (k hi lo n : Nat) : (s.setF k hi lo n).pwm = s.pwm := rfl
@[simp] theorem State.setF_pushSeq (s : State) (k hi lo n : Nat) : (s.setF k hi lo n).pushSeq = s.pushSeq := rfl
@[simp] theorem State.setF_feeds (s : State) (k hi lo n : Nat) : (s.setF k hi lo n).feeds = s.feeds := rfl
@[simp] theorem State.setF_streams (s : State) (k hi lo n : Nat) : (s.setF k hi lo n).streams = s.streams := rfl
@[simp] theorem State.setF_rf (s : State) (k hi lo n : Nat) : (s.setF k hi lo n).rf = s.rf := rfl
@[simp] theorem State.setF_exm (s : State) (k hi lo n : Nat) : (s.setF k hi lo n).exm = s.exm := rfl
@[simp] theorem State.setF_chans (s : State) (k hi lo n : Nat) : (s.setF k hi lo n).chans = s.chans := rfl
@[simp] theorem State.setF_duct (s : State) (k hi lo n : Nat) : (s.setF k hi lo n).duct = s.duct := rfl
@[simp] theorem State.setF_caps (s : State) (k hi lo n : Nat) : (s.setF k hi lo n).caps = s.caps := rfl
@[simp] theorem State.setF_scr (s : State) (k hi lo n : Nat) : (s.setF k hi lo n).scr = s.scr := rfl
@[simp] theorem State.setF_meas (s : State) (k hi lo n : Nat) : (s.setF k hi lo n).meas = s.meas := rfl
@[simp] theorem State.setF_tps (s : State) (k hi lo n : Nat) : (s.setF k hi lo n).tps = s.tps := rfl
@[simp] theorem State.setF_cores (s : State) (k hi lo n : Nat) : (s.setF k hi lo n).cores = s.cores := rfl
@[simp] theorem State.setF_udh (s : State) (k hi lo n : Nat) : (s.setF k hi lo n).udh = s.udh := rfl
@[simp] theorem State.setF_blot (s : State) (k hi lo n : Nat) : (s.setF k hi lo n).blot = s.blot := rfl
@[simp] theorem State.setF_sess (s : State) (k hi lo n : Nat) : (s.setF k hi lo n).sess = s.sess := rfl
@[simp] theorem State.setF_sers (s : State) (k hi lo n : Nat) : (s.setF k hi lo n).sers = s.sers := rfl
@[simp] theorem State.setF_pwr (s : State) (k hi lo n : Nat) : (s.setF k hi lo n).pwr = s.pwr := rfl
@[simp] theorem State.setF_upd (s : State) (k hi lo n : Nat) : (s.setF k hi lo n).upd = s.upd := rfl
@[simp] theorem State.setF_leg (s : State) (k hi lo n : Nat) : (s.setF k hi lo n).leg = s.leg := rfl
@[simp] theorem State.setB_pending (s : State) (k i : Nat) (b : Bool) : (s.setB k i b).pending = s.pending := rfl
@[simp] theorem State.setB_freeCtr (s : State) (k i : Nat) (b : Bool) : (s.setB k i b).freeCtr = s.freeCtr := rfl
@[simp] theorem State.setB_mem (s : State) (k i : Nat) (b : Bool) : (s.setB k i b).mem = s.mem := rfl
@[simp] theorem State.setB_memEpoch (s : State) (k i : Nat) (b : Bool) : (s.setB k i b).memEpoch = s.memEpoch := rfl
@[simp] theorem State.setB_pins (s : State) (k i : Nat) (b : Bool) : (s.setB k i b).pins = s.pins := rfl
@[simp] theorem State.setB_time (s : State) (k i : Nat) (b : Bool) : (s.setB k i b).time = s.time := rfl
@[simp] theorem State.setB_ev (s : State) (k i : Nat) (b : Bool) : (s.setB k i b).ev = s.ev := rfl
@[simp] theorem State.setB_capLow (s : State) (k i : Nat) (b : Bool) : (s.setB k i b).capLow = s.capLow := rfl
@[simp] theorem State.setB_ctxShadow (s : State) (k i : Nat) (b : Bool) : (s.setB k i b).ctxShadow = s.ctxShadow := rfl
@[simp] theorem State.setB_pwm (s : State) (k i : Nat) (b : Bool) : (s.setB k i b).pwm = s.pwm := rfl
@[simp] theorem State.setB_pushSeq (s : State) (k i : Nat) (b : Bool) : (s.setB k i b).pushSeq = s.pushSeq := rfl
@[simp] theorem State.setB_feeds (s : State) (k i : Nat) (b : Bool) : (s.setB k i b).feeds = s.feeds := rfl
@[simp] theorem State.setB_streams (s : State) (k i : Nat) (b : Bool) : (s.setB k i b).streams = s.streams := rfl
@[simp] theorem State.setB_rf (s : State) (k i : Nat) (b : Bool) : (s.setB k i b).rf = s.rf := rfl
@[simp] theorem State.setB_exm (s : State) (k i : Nat) (b : Bool) : (s.setB k i b).exm = s.exm := rfl
@[simp] theorem State.setB_chans (s : State) (k i : Nat) (b : Bool) : (s.setB k i b).chans = s.chans := rfl
@[simp] theorem State.setB_duct (s : State) (k i : Nat) (b : Bool) : (s.setB k i b).duct = s.duct := rfl
@[simp] theorem State.setB_caps (s : State) (k i : Nat) (b : Bool) : (s.setB k i b).caps = s.caps := rfl
@[simp] theorem State.setB_scr (s : State) (k i : Nat) (b : Bool) : (s.setB k i b).scr = s.scr := rfl
@[simp] theorem State.setB_meas (s : State) (k i : Nat) (b : Bool) : (s.setB k i b).meas = s.meas := rfl
@[simp] theorem State.setB_tps (s : State) (k i : Nat) (b : Bool) : (s.setB k i b).tps = s.tps := rfl
@[simp] theorem State.setB_cores (s : State) (k i : Nat) (b : Bool) : (s.setB k i b).cores = s.cores := rfl
@[simp] theorem State.setB_udh (s : State) (k i : Nat) (b : Bool) : (s.setB k i b).udh = s.udh := rfl
@[simp] theorem State.setB_blot (s : State) (k i : Nat) (b : Bool) : (s.setB k i b).blot = s.blot := rfl
@[simp] theorem State.setB_sess (s : State) (k i : Nat) (b : Bool) : (s.setB k i b).sess = s.sess := rfl
@[simp] theorem State.setB_sers (s : State) (k i : Nat) (b : Bool) : (s.setB k i b).sers = s.sers := rfl
@[simp] theorem State.setB_pwr (s : State) (k i : Nat) (b : Bool) : (s.setB k i b).pwr = s.pwr := rfl
@[simp] theorem State.setB_upd (s : State) (k i : Nat) (b : Bool) : (s.setB k i b).upd = s.upd := rfl
@[simp] theorem State.setB_leg (s : State) (k i : Nat) (b : Bool) : (s.setB k i b).leg = s.leg := rfl
@[simp] theorem State.setReg2_pending (s : State) (k n : Nat) : (s.setReg2 k n).pending = s.pending := rfl
@[simp] theorem State.setReg2_freeCtr (s : State) (k n : Nat) : (s.setReg2 k n).freeCtr = s.freeCtr := rfl
@[simp] theorem State.setReg2_mem (s : State) (k n : Nat) : (s.setReg2 k n).mem = s.mem := rfl
@[simp] theorem State.setReg2_memEpoch (s : State) (k n : Nat) : (s.setReg2 k n).memEpoch = s.memEpoch := rfl
@[simp] theorem State.setReg2_pins (s : State) (k n : Nat) : (s.setReg2 k n).pins = s.pins := rfl
@[simp] theorem State.setReg2_time (s : State) (k n : Nat) : (s.setReg2 k n).time = s.time := rfl
@[simp] theorem State.setReg2_ev (s : State) (k n : Nat) : (s.setReg2 k n).ev = s.ev := rfl
@[simp] theorem State.setReg2_capLow (s : State) (k n : Nat) : (s.setReg2 k n).capLow = s.capLow := rfl
@[simp] theorem State.setReg2_ctxShadow (s : State) (k n : Nat) : (s.setReg2 k n).ctxShadow = s.ctxShadow := rfl
@[simp] theorem State.setReg2_pwm (s : State) (k n : Nat) : (s.setReg2 k n).pwm = s.pwm := rfl
@[simp] theorem State.setReg2_pushSeq (s : State) (k n : Nat) : (s.setReg2 k n).pushSeq = s.pushSeq := rfl
@[simp] theorem State.setReg2_feeds (s : State) (k n : Nat) : (s.setReg2 k n).feeds = s.feeds := rfl
@[simp] theorem State.setReg2_streams (s : State) (k n : Nat) : (s.setReg2 k n).streams = s.streams := rfl
@[simp] theorem State.setReg2_rf (s : State) (k n : Nat) : (s.setReg2 k n).rf = s.rf := rfl
@[simp] theorem State.setReg2_exm (s : State) (k n : Nat) : (s.setReg2 k n).exm = s.exm := rfl
@[simp] theorem State.setReg2_chans (s : State) (k n : Nat) : (s.setReg2 k n).chans = s.chans := rfl
@[simp] theorem State.setReg2_duct (s : State) (k n : Nat) : (s.setReg2 k n).duct = s.duct := rfl
@[simp] theorem State.setReg2_caps (s : State) (k n : Nat) : (s.setReg2 k n).caps = s.caps := rfl
@[simp] theorem State.setReg2_scr (s : State) (k n : Nat) : (s.setReg2 k n).scr = s.scr := rfl
@[simp] theorem State.setReg2_meas (s : State) (k n : Nat) : (s.setReg2 k n).meas = s.meas := rfl
@[simp] theorem State.setReg2_tps (s : State) (k n : Nat) : (s.setReg2 k n).tps = s.tps := rfl
@[simp] theorem State.setReg2_cores (s : State) (k n : Nat) : (s.setReg2 k n).cores = s.cores := rfl
@[simp] theorem State.setReg2_udh (s : State) (k n : Nat) : (s.setReg2 k n).udh = s.udh := rfl
@[simp] theorem State.setReg2_blot (s : State) (k n : Nat) : (s.setReg2 k n).blot = s.blot := rfl
@[simp] theorem State.setReg2_sess (s : State) (k n : Nat) : (s.setReg2 k n).sess = s.sess := rfl
@[simp] theorem State.setReg2_sers (s : State) (k n : Nat) : (s.setReg2 k n).sers = s.sers := rfl
@[simp] theorem State.setReg2_pwr (s : State) (k n : Nat) : (s.setReg2 k n).pwr = s.pwr := rfl
@[simp] theorem State.setReg2_upd (s : State) (k n : Nat) : (s.setReg2 k n).upd = s.upd := rfl
@[simp] theorem State.setReg2_leg (s : State) (k n : Nat) : (s.setReg2 k n).leg = s.leg := rfl
@[simp] theorem State.inc_pending (s : State) (k : Nat) : (s.inc k).pending = s.pending := rfl
@[simp] theorem State.inc_freeCtr (s : State) (k : Nat) : (s.inc k).freeCtr = s.freeCtr := rfl
@[simp] theorem State.inc_mem (s : State) (k : Nat) : (s.inc k).mem = s.mem := rfl
@[simp] theorem State.inc_memEpoch (s : State) (k : Nat) : (s.inc k).memEpoch = s.memEpoch := rfl
@[simp] theorem State.inc_pins (s : State) (k : Nat) : (s.inc k).pins = s.pins := rfl
@[simp] theorem State.inc_time (s : State) (k : Nat) : (s.inc k).time = s.time := rfl
@[simp] theorem State.inc_ev (s : State) (k : Nat) : (s.inc k).ev = s.ev := rfl
@[simp] theorem State.inc_capLow (s : State) (k : Nat) : (s.inc k).capLow = s.capLow := rfl
@[simp] theorem State.inc_ctxShadow (s : State) (k : Nat) : (s.inc k).ctxShadow = s.ctxShadow := rfl
@[simp] theorem State.inc_pwm (s : State) (k : Nat) : (s.inc k).pwm = s.pwm := rfl
@[simp] theorem State.inc_pushSeq (s : State) (k : Nat) : (s.inc k).pushSeq = s.pushSeq := rfl
@[simp] theorem State.inc_feeds (s : State) (k : Nat) : (s.inc k).feeds = s.feeds := rfl
@[simp] theorem State.inc_streams (s : State) (k : Nat) : (s.inc k).streams = s.streams := rfl
@[simp] theorem State.inc_rf (s : State) (k : Nat) : (s.inc k).rf = s.rf := rfl
@[simp] theorem State.inc_exm (s : State) (k : Nat) : (s.inc k).exm = s.exm := rfl
@[simp] theorem State.inc_chans (s : State) (k : Nat) : (s.inc k).chans = s.chans := rfl
@[simp] theorem State.inc_duct (s : State) (k : Nat) : (s.inc k).duct = s.duct := rfl
@[simp] theorem State.inc_caps (s : State) (k : Nat) : (s.inc k).caps = s.caps := rfl
@[simp] theorem State.inc_scr (s : State) (k : Nat) : (s.inc k).scr = s.scr := rfl
@[simp] theorem State.inc_meas (s : State) (k : Nat) : (s.inc k).meas = s.meas := rfl
@[simp] theorem State.inc_tps (s : State) (k : Nat) : (s.inc k).tps = s.tps := rfl
@[simp] theorem State.inc_cores (s : State) (k : Nat) : (s.inc k).cores = s.cores := rfl
@[simp] theorem State.inc_udh (s : State) (k : Nat) : (s.inc k).udh = s.udh := rfl
@[simp] theorem State.inc_blot (s : State) (k : Nat) : (s.inc k).blot = s.blot := rfl
@[simp] theorem State.inc_sess (s : State) (k : Nat) : (s.inc k).sess = s.sess := rfl
@[simp] theorem State.inc_sers (s : State) (k : Nat) : (s.inc k).sers = s.sers := rfl
@[simp] theorem State.inc_pwr (s : State) (k : Nat) : (s.inc k).pwr = s.pwr := rfl
@[simp] theorem State.inc_upd (s : State) (k : Nat) : (s.inc k).upd = s.upd := rfl
@[simp] theorem State.inc_leg (s : State) (k : Nat) : (s.inc k).leg = s.leg := rfl
@[simp] theorem State.addSat_pending (s : State) (k n : Nat) : (s.addSat k n).pending = s.pending := rfl
@[simp] theorem State.addSat_freeCtr (s : State) (k n : Nat) : (s.addSat k n).freeCtr = s.freeCtr := rfl
@[simp] theorem State.addSat_mem (s : State) (k n : Nat) : (s.addSat k n).mem = s.mem := rfl
@[simp] theorem State.addSat_memEpoch (s : State) (k n : Nat) : (s.addSat k n).memEpoch = s.memEpoch := rfl
@[simp] theorem State.addSat_pins (s : State) (k n : Nat) : (s.addSat k n).pins = s.pins := rfl
@[simp] theorem State.addSat_time (s : State) (k n : Nat) : (s.addSat k n).time = s.time := rfl
@[simp] theorem State.addSat_ev (s : State) (k n : Nat) : (s.addSat k n).ev = s.ev := rfl
@[simp] theorem State.addSat_capLow (s : State) (k n : Nat) : (s.addSat k n).capLow = s.capLow := rfl
@[simp] theorem State.addSat_ctxShadow (s : State) (k n : Nat) : (s.addSat k n).ctxShadow = s.ctxShadow := rfl
@[simp] theorem State.addSat_pwm (s : State) (k n : Nat) : (s.addSat k n).pwm = s.pwm := rfl
@[simp] theorem State.addSat_pushSeq (s : State) (k n : Nat) : (s.addSat k n).pushSeq = s.pushSeq := rfl
@[simp] theorem State.addSat_feeds (s : State) (k n : Nat) : (s.addSat k n).feeds = s.feeds := rfl
@[simp] theorem State.addSat_streams (s : State) (k n : Nat) : (s.addSat k n).streams = s.streams := rfl
@[simp] theorem State.addSat_rf (s : State) (k n : Nat) : (s.addSat k n).rf = s.rf := rfl
@[simp] theorem State.addSat_exm (s : State) (k n : Nat) : (s.addSat k n).exm = s.exm := rfl
@[simp] theorem State.addSat_chans (s : State) (k n : Nat) : (s.addSat k n).chans = s.chans := rfl
@[simp] theorem State.addSat_duct (s : State) (k n : Nat) : (s.addSat k n).duct = s.duct := rfl
@[simp] theorem State.addSat_caps (s : State) (k n : Nat) : (s.addSat k n).caps = s.caps := rfl
@[simp] theorem State.addSat_scr (s : State) (k n : Nat) : (s.addSat k n).scr = s.scr := rfl
@[simp] theorem State.addSat_meas (s : State) (k n : Nat) : (s.addSat k n).meas = s.meas := rfl
@[simp] theorem State.addSat_tps (s : State) (k n : Nat) : (s.addSat k n).tps = s.tps := rfl
@[simp] theorem State.addSat_cores (s : State) (k n : Nat) : (s.addSat k n).cores = s.cores := rfl
@[simp] theorem State.addSat_udh (s : State) (k n : Nat) : (s.addSat k n).udh = s.udh := rfl
@[simp] theorem State.addSat_blot (s : State) (k n : Nat) : (s.addSat k n).blot = s.blot := rfl
@[simp] theorem State.addSat_sess (s : State) (k n : Nat) : (s.addSat k n).sess = s.sess := rfl
@[simp] theorem State.addSat_sers (s : State) (k n : Nat) : (s.addSat k n).sers = s.sers := rfl
@[simp] theorem State.addSat_pwr (s : State) (k n : Nat) : (s.addSat k n).pwr = s.pwr := rfl
@[simp] theorem State.addSat_upd (s : State) (k n : Nat) : (s.addSat k n).upd = s.upd := rfl
@[simp] theorem State.addSat_leg (s : State) (k n : Nat) : (s.addSat k n).leg = s.leg := rfl
@[simp] theorem State.incSat_pending (s : State) (k : Nat) : (s.incSat k).pending = s.pending := rfl
@[simp] theorem State.incSat_freeCtr (s : State) (k : Nat) : (s.incSat k).freeCtr = s.freeCtr := rfl
@[simp] theorem State.incSat_mem (s : State) (k : Nat) : (s.incSat k).mem = s.mem := rfl
@[simp] theorem State.incSat_memEpoch (s : State) (k : Nat) : (s.incSat k).memEpoch = s.memEpoch := rfl
@[simp] theorem State.incSat_pins (s : State) (k : Nat) : (s.incSat k).pins = s.pins := rfl
@[simp] theorem State.incSat_time (s : State) (k : Nat) : (s.incSat k).time = s.time := rfl
@[simp] theorem State.incSat_ev (s : State) (k : Nat) : (s.incSat k).ev = s.ev := rfl
@[simp] theorem State.incSat_capLow (s : State) (k : Nat) : (s.incSat k).capLow = s.capLow := rfl
@[simp] theorem State.incSat_ctxShadow (s : State) (k : Nat) : (s.incSat k).ctxShadow = s.ctxShadow := rfl
@[simp] theorem State.incSat_pwm (s : State) (k : Nat) : (s.incSat k).pwm = s.pwm := rfl
@[simp] theorem State.incSat_pushSeq (s : State) (k : Nat) : (s.incSat k).pushSeq = s.pushSeq := rfl
@[simp] theorem State.incSat_feeds (s : State) (k : Nat) : (s.incSat k).feeds = s.feeds := rfl
@[simp] theorem State.incSat_streams (s : State) (k : Nat) : (s.incSat k).streams = s.streams := rfl
@[simp] theorem State.incSat_rf (s : State) (k : Nat) : (s.incSat k).rf = s.rf := rfl
@[simp] theorem State.incSat_exm (s : State) (k : Nat) : (s.incSat k).exm = s.exm := rfl
@[simp] theorem State.incSat_chans (s : State) (k : Nat) : (s.incSat k).chans = s.chans := rfl
@[simp] theorem State.incSat_duct (s : State) (k : Nat) : (s.incSat k).duct = s.duct := rfl
@[simp] theorem State.incSat_caps (s : State) (k : Nat) : (s.incSat k).caps = s.caps := rfl
@[simp] theorem State.incSat_scr (s : State) (k : Nat) : (s.incSat k).scr = s.scr := rfl
@[simp] theorem State.incSat_meas (s : State) (k : Nat) : (s.incSat k).meas = s.meas := rfl
@[simp] theorem State.incSat_tps (s : State) (k : Nat) : (s.incSat k).tps = s.tps := rfl
@[simp] theorem State.incSat_cores (s : State) (k : Nat) : (s.incSat k).cores = s.cores := rfl
@[simp] theorem State.incSat_udh (s : State) (k : Nat) : (s.incSat k).udh = s.udh := rfl
@[simp] theorem State.incSat_blot (s : State) (k : Nat) : (s.incSat k).blot = s.blot := rfl
@[simp] theorem State.incSat_sess (s : State) (k : Nat) : (s.incSat k).sess = s.sess := rfl
@[simp] theorem State.incSat_sers (s : State) (k : Nat) : (s.incSat k).sers = s.sers := rfl
@[simp] theorem State.incSat_pwr (s : State) (k : Nat) : (s.incSat k).pwr = s.pwr := rfl
@[simp] theorem State.incSat_upd (s : State) (k : Nat) : (s.incSat k).upd = s.upd := rfl
@[simp] theorem State.incSat_leg (s : State) (k : Nat) : (s.incSat k).leg = s.leg := rfl
@[simp] theorem State.raise_pending (s : State) (p i : Nat) : (s.raise p i).pending = s.pending := rfl
@[simp] theorem State.raise_freeCtr (s : State) (p i : Nat) : (s.raise p i).freeCtr = s.freeCtr := rfl
@[simp] theorem State.raise_mem (s : State) (p i : Nat) : (s.raise p i).mem = s.mem := rfl
@[simp] theorem State.raise_memEpoch (s : State) (p i : Nat) : (s.raise p i).memEpoch = s.memEpoch := rfl
@[simp] theorem State.raise_pins (s : State) (p i : Nat) : (s.raise p i).pins = s.pins := rfl
@[simp] theorem State.raise_time (s : State) (p i : Nat) : (s.raise p i).time = s.time := rfl
@[simp] theorem State.raise_ev (s : State) (p i : Nat) : (s.raise p i).ev = s.ev := rfl
@[simp] theorem State.raise_capLow (s : State) (p i : Nat) : (s.raise p i).capLow = s.capLow := rfl
@[simp] theorem State.raise_ctxShadow (s : State) (p i : Nat) : (s.raise p i).ctxShadow = s.ctxShadow := rfl
@[simp] theorem State.raise_pwm (s : State) (p i : Nat) : (s.raise p i).pwm = s.pwm := rfl
@[simp] theorem State.raise_pushSeq (s : State) (p i : Nat) : (s.raise p i).pushSeq = s.pushSeq := rfl
@[simp] theorem State.raise_feeds (s : State) (p i : Nat) : (s.raise p i).feeds = s.feeds := rfl
@[simp] theorem State.raise_streams (s : State) (p i : Nat) : (s.raise p i).streams = s.streams := rfl
@[simp] theorem State.raise_rf (s : State) (p i : Nat) : (s.raise p i).rf = s.rf := rfl
@[simp] theorem State.raise_exm (s : State) (p i : Nat) : (s.raise p i).exm = s.exm := rfl
@[simp] theorem State.raise_chans (s : State) (p i : Nat) : (s.raise p i).chans = s.chans := rfl
@[simp] theorem State.raise_duct (s : State) (p i : Nat) : (s.raise p i).duct = s.duct := rfl
@[simp] theorem State.raise_caps (s : State) (p i : Nat) : (s.raise p i).caps = s.caps := rfl
@[simp] theorem State.raise_scr (s : State) (p i : Nat) : (s.raise p i).scr = s.scr := rfl
@[simp] theorem State.raise_meas (s : State) (p i : Nat) : (s.raise p i).meas = s.meas := rfl
@[simp] theorem State.raise_tps (s : State) (p i : Nat) : (s.raise p i).tps = s.tps := rfl
@[simp] theorem State.raise_cores (s : State) (p i : Nat) : (s.raise p i).cores = s.cores := rfl
@[simp] theorem State.raise_udh (s : State) (p i : Nat) : (s.raise p i).udh = s.udh := rfl
@[simp] theorem State.raise_blot (s : State) (p i : Nat) : (s.raise p i).blot = s.blot := rfl
@[simp] theorem State.raise_sess (s : State) (p i : Nat) : (s.raise p i).sess = s.sess := rfl
@[simp] theorem State.raise_sers (s : State) (p i : Nat) : (s.raise p i).sers = s.sers := rfl
@[simp] theorem State.raise_pwr (s : State) (p i : Nat) : (s.raise p i).pwr = s.pwr := rfl
@[simp] theorem State.raise_upd (s : State) (p i : Nat) : (s.raise p i).upd = s.upd := rfl
@[simp] theorem State.raise_leg (s : State) (p i : Nat) : (s.raise p i).leg = s.leg := rfl

/-- Changes of the register words alone compose. -/
theorem State.regs_only_trans {s t u : State} (h1 : t = { s with regs := t.regs }) (h2 : u = { t with regs := u.regs }) :
    u = { s with regs := u.regs } := h2.trans (by rw [h1])

theorem State.setReg_eq (s : State) (k : Nat) (v : Word) : s.setReg k v = { s with regs := (s.setReg k v).regs } := rfl

theorem State.setRegs_eq (s : State) (k : Nat) (l : List Word) : s.setRegs k l = { s with regs := (s.setRegs k l).regs } := by
  induction l generalizing s k with
  | nil => rfl
  | cons v r ih => exact ih (s.setReg k v) (k + 1)

theorem State.pageErr_eq (s : State) (p c o : Nat) : s.pageErr p c o = { s with regs := (s.pageErr p c o).regs } := by
  unfold State.pageErr
  split <;> rfl

theorem State.sesErr_eq (s : State) (q c a : Nat) : s.sesErr q c a = { s with regs := (s.sesErr q c a).regs } := by
  unfold State.sesErr
  simp only
  have h0 := State.setReg_eq s (pg 5 (37 + 16 * q)) (wordOf (min ((s.reg (pg 5 (37 + 16 * q))).toNat + 1) 262143))
  split
  · exact State.regs_only_trans (State.regs_only_trans (State.regs_only_trans h0 (State.setReg_eq ..)) (State.setReg_eq ..))
      (State.setReg_eq ..)
  · exact State.regs_only_trans h0 (State.setReg_eq ..)

theorem State.coreErr_eq (s : State) (c e : Nat) : s.coreErr c e = { s with regs := (s.coreErr c e).regs } := by
  unfold State.coreErr
  rw [State.pageErr_eq]
  rfl

theorem State.writerErr_eq (s : State) (w : Writer) (c a : Nat) : s.writerErr w c a = { s with regs := (s.writerErr w c a).regs } := by
  cases w
  · exact State.sesErr_eq ..
  · exact State.coreErr_eq ..
  · rfl

theorem State.recordRefusal_eq (s : State) (w : Writer) (p : Option Nat) (o c a : Nat) :
    s.recordRefusal w p o c a = { s with regs := (s.recordRefusal w p o c a).regs } := by
  cases p with
  | none => exact State.writerErr_eq ..
  | some q => exact State.regs_only_trans (State.pageErr_eq s q c o) (State.writerErr_eq ..)

@[simp] theorem State.setRegs_pending (s : State) (k : Nat) (l : List Word) : (s.setRegs k l).pending = s.pending := by rw [State.setRegs_eq]
@[simp] theorem State.setRegs_freeCtr (s : State) (k : Nat) (l : List Word) : (s.setRegs k l).freeCtr = s.freeCtr := by rw [State.setRegs_eq]
@[simp] theorem State.setRegs_mem (s : State) (k : Nat) (l : List Word) : (s.setRegs k l).mem = s.mem := by rw [State.setRegs_eq]
@[simp] theorem State.setRegs_memEpoch (s : State) (k : Nat) (l : List Word) : (s.setRegs k l).memEpoch = s.memEpoch := by rw [State.setRegs_eq]
@[simp] theorem State.setRegs_pins (s : State) (k : Nat) (l : List Word) : (s.setRegs k l).pins = s.pins := by rw [State.setRegs_eq]
@[simp] theorem State.setRegs_time (s : State) (k : Nat) (l : List Word) : (s.setRegs k l).time = s.time := by rw [State.setRegs_eq]
@[simp] theorem State.setRegs_ev (s : State) (k : Nat) (l : List Word) : (s.setRegs k l).ev = s.ev := by rw [State.setRegs_eq]
@[simp] theorem State.setRegs_capLow (s : State) (k : Nat) (l : List Word) : (s.setRegs k l).capLow = s.capLow := by rw [State.setRegs_eq]
@[simp] theorem State.setRegs_ctxShadow (s : State) (k : Nat) (l : List Word) : (s.setRegs k l).ctxShadow = s.ctxShadow := by rw [State.setRegs_eq]
@[simp] theorem State.setRegs_pwm (s : State) (k : Nat) (l : List Word) : (s.setRegs k l).pwm = s.pwm := by rw [State.setRegs_eq]
@[simp] theorem State.setRegs_pushSeq (s : State) (k : Nat) (l : List Word) : (s.setRegs k l).pushSeq = s.pushSeq := by rw [State.setRegs_eq]
@[simp] theorem State.setRegs_feeds (s : State) (k : Nat) (l : List Word) : (s.setRegs k l).feeds = s.feeds := by rw [State.setRegs_eq]
@[simp] theorem State.setRegs_streams (s : State) (k : Nat) (l : List Word) : (s.setRegs k l).streams = s.streams := by rw [State.setRegs_eq]
@[simp] theorem State.setRegs_rf (s : State) (k : Nat) (l : List Word) : (s.setRegs k l).rf = s.rf := by rw [State.setRegs_eq]
@[simp] theorem State.setRegs_exm (s : State) (k : Nat) (l : List Word) : (s.setRegs k l).exm = s.exm := by rw [State.setRegs_eq]
@[simp] theorem State.setRegs_chans (s : State) (k : Nat) (l : List Word) : (s.setRegs k l).chans = s.chans := by rw [State.setRegs_eq]
@[simp] theorem State.setRegs_duct (s : State) (k : Nat) (l : List Word) : (s.setRegs k l).duct = s.duct := by rw [State.setRegs_eq]
@[simp] theorem State.setRegs_caps (s : State) (k : Nat) (l : List Word) : (s.setRegs k l).caps = s.caps := by rw [State.setRegs_eq]
@[simp] theorem State.setRegs_scr (s : State) (k : Nat) (l : List Word) : (s.setRegs k l).scr = s.scr := by rw [State.setRegs_eq]
@[simp] theorem State.setRegs_meas (s : State) (k : Nat) (l : List Word) : (s.setRegs k l).meas = s.meas := by rw [State.setRegs_eq]
@[simp] theorem State.setRegs_tps (s : State) (k : Nat) (l : List Word) : (s.setRegs k l).tps = s.tps := by rw [State.setRegs_eq]
@[simp] theorem State.setRegs_cores (s : State) (k : Nat) (l : List Word) : (s.setRegs k l).cores = s.cores := by rw [State.setRegs_eq]
@[simp] theorem State.setRegs_udh (s : State) (k : Nat) (l : List Word) : (s.setRegs k l).udh = s.udh := by rw [State.setRegs_eq]
@[simp] theorem State.setRegs_blot (s : State) (k : Nat) (l : List Word) : (s.setRegs k l).blot = s.blot := by rw [State.setRegs_eq]
@[simp] theorem State.setRegs_sess (s : State) (k : Nat) (l : List Word) : (s.setRegs k l).sess = s.sess := by rw [State.setRegs_eq]
@[simp] theorem State.setRegs_sers (s : State) (k : Nat) (l : List Word) : (s.setRegs k l).sers = s.sers := by rw [State.setRegs_eq]
@[simp] theorem State.setRegs_pwr (s : State) (k : Nat) (l : List Word) : (s.setRegs k l).pwr = s.pwr := by rw [State.setRegs_eq]
@[simp] theorem State.setRegs_upd (s : State) (k : Nat) (l : List Word) : (s.setRegs k l).upd = s.upd := by rw [State.setRegs_eq]
@[simp] theorem State.setRegs_leg (s : State) (k : Nat) (l : List Word) : (s.setRegs k l).leg = s.leg := by rw [State.setRegs_eq]
@[simp] theorem State.pageErr_pending (s : State) (p c o : Nat) : (s.pageErr p c o).pending = s.pending := by rw [State.pageErr_eq]
@[simp] theorem State.pageErr_freeCtr (s : State) (p c o : Nat) : (s.pageErr p c o).freeCtr = s.freeCtr := by rw [State.pageErr_eq]
@[simp] theorem State.pageErr_mem (s : State) (p c o : Nat) : (s.pageErr p c o).mem = s.mem := by rw [State.pageErr_eq]
@[simp] theorem State.pageErr_memEpoch (s : State) (p c o : Nat) : (s.pageErr p c o).memEpoch = s.memEpoch := by rw [State.pageErr_eq]
@[simp] theorem State.pageErr_pins (s : State) (p c o : Nat) : (s.pageErr p c o).pins = s.pins := by rw [State.pageErr_eq]
@[simp] theorem State.pageErr_time (s : State) (p c o : Nat) : (s.pageErr p c o).time = s.time := by rw [State.pageErr_eq]
@[simp] theorem State.pageErr_ev (s : State) (p c o : Nat) : (s.pageErr p c o).ev = s.ev := by rw [State.pageErr_eq]
@[simp] theorem State.pageErr_capLow (s : State) (p c o : Nat) : (s.pageErr p c o).capLow = s.capLow := by rw [State.pageErr_eq]
@[simp] theorem State.pageErr_ctxShadow (s : State) (p c o : Nat) : (s.pageErr p c o).ctxShadow = s.ctxShadow := by rw [State.pageErr_eq]
@[simp] theorem State.pageErr_pwm (s : State) (p c o : Nat) : (s.pageErr p c o).pwm = s.pwm := by rw [State.pageErr_eq]
@[simp] theorem State.pageErr_pushSeq (s : State) (p c o : Nat) : (s.pageErr p c o).pushSeq = s.pushSeq := by rw [State.pageErr_eq]
@[simp] theorem State.pageErr_feeds (s : State) (p c o : Nat) : (s.pageErr p c o).feeds = s.feeds := by rw [State.pageErr_eq]
@[simp] theorem State.pageErr_streams (s : State) (p c o : Nat) : (s.pageErr p c o).streams = s.streams := by rw [State.pageErr_eq]
@[simp] theorem State.pageErr_rf (s : State) (p c o : Nat) : (s.pageErr p c o).rf = s.rf := by rw [State.pageErr_eq]
@[simp] theorem State.pageErr_exm (s : State) (p c o : Nat) : (s.pageErr p c o).exm = s.exm := by rw [State.pageErr_eq]
@[simp] theorem State.pageErr_chans (s : State) (p c o : Nat) : (s.pageErr p c o).chans = s.chans := by rw [State.pageErr_eq]
@[simp] theorem State.pageErr_duct (s : State) (p c o : Nat) : (s.pageErr p c o).duct = s.duct := by rw [State.pageErr_eq]
@[simp] theorem State.pageErr_caps (s : State) (p c o : Nat) : (s.pageErr p c o).caps = s.caps := by rw [State.pageErr_eq]
@[simp] theorem State.pageErr_scr (s : State) (p c o : Nat) : (s.pageErr p c o).scr = s.scr := by rw [State.pageErr_eq]
@[simp] theorem State.pageErr_meas (s : State) (p c o : Nat) : (s.pageErr p c o).meas = s.meas := by rw [State.pageErr_eq]
@[simp] theorem State.pageErr_tps (s : State) (p c o : Nat) : (s.pageErr p c o).tps = s.tps := by rw [State.pageErr_eq]
@[simp] theorem State.pageErr_cores (s : State) (p c o : Nat) : (s.pageErr p c o).cores = s.cores := by rw [State.pageErr_eq]
@[simp] theorem State.pageErr_udh (s : State) (p c o : Nat) : (s.pageErr p c o).udh = s.udh := by rw [State.pageErr_eq]
@[simp] theorem State.pageErr_blot (s : State) (p c o : Nat) : (s.pageErr p c o).blot = s.blot := by rw [State.pageErr_eq]
@[simp] theorem State.pageErr_sess (s : State) (p c o : Nat) : (s.pageErr p c o).sess = s.sess := by rw [State.pageErr_eq]
@[simp] theorem State.pageErr_sers (s : State) (p c o : Nat) : (s.pageErr p c o).sers = s.sers := by rw [State.pageErr_eq]
@[simp] theorem State.pageErr_pwr (s : State) (p c o : Nat) : (s.pageErr p c o).pwr = s.pwr := by rw [State.pageErr_eq]
@[simp] theorem State.pageErr_upd (s : State) (p c o : Nat) : (s.pageErr p c o).upd = s.upd := by rw [State.pageErr_eq]
@[simp] theorem State.pageErr_leg (s : State) (p c o : Nat) : (s.pageErr p c o).leg = s.leg := by rw [State.pageErr_eq]
@[simp] theorem State.sesErr_pending (s : State) (q c a : Nat) : (s.sesErr q c a).pending = s.pending := by rw [State.sesErr_eq]
@[simp] theorem State.sesErr_freeCtr (s : State) (q c a : Nat) : (s.sesErr q c a).freeCtr = s.freeCtr := by rw [State.sesErr_eq]
@[simp] theorem State.sesErr_mem (s : State) (q c a : Nat) : (s.sesErr q c a).mem = s.mem := by rw [State.sesErr_eq]
@[simp] theorem State.sesErr_memEpoch (s : State) (q c a : Nat) : (s.sesErr q c a).memEpoch = s.memEpoch := by rw [State.sesErr_eq]
@[simp] theorem State.sesErr_pins (s : State) (q c a : Nat) : (s.sesErr q c a).pins = s.pins := by rw [State.sesErr_eq]
@[simp] theorem State.sesErr_time (s : State) (q c a : Nat) : (s.sesErr q c a).time = s.time := by rw [State.sesErr_eq]
@[simp] theorem State.sesErr_ev (s : State) (q c a : Nat) : (s.sesErr q c a).ev = s.ev := by rw [State.sesErr_eq]
@[simp] theorem State.sesErr_capLow (s : State) (q c a : Nat) : (s.sesErr q c a).capLow = s.capLow := by rw [State.sesErr_eq]
@[simp] theorem State.sesErr_ctxShadow (s : State) (q c a : Nat) : (s.sesErr q c a).ctxShadow = s.ctxShadow := by rw [State.sesErr_eq]
@[simp] theorem State.sesErr_pwm (s : State) (q c a : Nat) : (s.sesErr q c a).pwm = s.pwm := by rw [State.sesErr_eq]
@[simp] theorem State.sesErr_pushSeq (s : State) (q c a : Nat) : (s.sesErr q c a).pushSeq = s.pushSeq := by rw [State.sesErr_eq]
@[simp] theorem State.sesErr_feeds (s : State) (q c a : Nat) : (s.sesErr q c a).feeds = s.feeds := by rw [State.sesErr_eq]
@[simp] theorem State.sesErr_streams (s : State) (q c a : Nat) : (s.sesErr q c a).streams = s.streams := by rw [State.sesErr_eq]
@[simp] theorem State.sesErr_rf (s : State) (q c a : Nat) : (s.sesErr q c a).rf = s.rf := by rw [State.sesErr_eq]
@[simp] theorem State.sesErr_exm (s : State) (q c a : Nat) : (s.sesErr q c a).exm = s.exm := by rw [State.sesErr_eq]
@[simp] theorem State.sesErr_chans (s : State) (q c a : Nat) : (s.sesErr q c a).chans = s.chans := by rw [State.sesErr_eq]
@[simp] theorem State.sesErr_duct (s : State) (q c a : Nat) : (s.sesErr q c a).duct = s.duct := by rw [State.sesErr_eq]
@[simp] theorem State.sesErr_caps (s : State) (q c a : Nat) : (s.sesErr q c a).caps = s.caps := by rw [State.sesErr_eq]
@[simp] theorem State.sesErr_scr (s : State) (q c a : Nat) : (s.sesErr q c a).scr = s.scr := by rw [State.sesErr_eq]
@[simp] theorem State.sesErr_meas (s : State) (q c a : Nat) : (s.sesErr q c a).meas = s.meas := by rw [State.sesErr_eq]
@[simp] theorem State.sesErr_tps (s : State) (q c a : Nat) : (s.sesErr q c a).tps = s.tps := by rw [State.sesErr_eq]
@[simp] theorem State.sesErr_cores (s : State) (q c a : Nat) : (s.sesErr q c a).cores = s.cores := by rw [State.sesErr_eq]
@[simp] theorem State.sesErr_udh (s : State) (q c a : Nat) : (s.sesErr q c a).udh = s.udh := by rw [State.sesErr_eq]
@[simp] theorem State.sesErr_blot (s : State) (q c a : Nat) : (s.sesErr q c a).blot = s.blot := by rw [State.sesErr_eq]
@[simp] theorem State.sesErr_sess (s : State) (q c a : Nat) : (s.sesErr q c a).sess = s.sess := by rw [State.sesErr_eq]
@[simp] theorem State.sesErr_sers (s : State) (q c a : Nat) : (s.sesErr q c a).sers = s.sers := by rw [State.sesErr_eq]
@[simp] theorem State.sesErr_pwr (s : State) (q c a : Nat) : (s.sesErr q c a).pwr = s.pwr := by rw [State.sesErr_eq]
@[simp] theorem State.sesErr_upd (s : State) (q c a : Nat) : (s.sesErr q c a).upd = s.upd := by rw [State.sesErr_eq]
@[simp] theorem State.sesErr_leg (s : State) (q c a : Nat) : (s.sesErr q c a).leg = s.leg := by rw [State.sesErr_eq]
@[simp] theorem State.coreErr_pending (s : State) (c e : Nat) : (s.coreErr c e).pending = s.pending := by rw [State.coreErr_eq]
@[simp] theorem State.coreErr_freeCtr (s : State) (c e : Nat) : (s.coreErr c e).freeCtr = s.freeCtr := by rw [State.coreErr_eq]
@[simp] theorem State.coreErr_mem (s : State) (c e : Nat) : (s.coreErr c e).mem = s.mem := by rw [State.coreErr_eq]
@[simp] theorem State.coreErr_memEpoch (s : State) (c e : Nat) : (s.coreErr c e).memEpoch = s.memEpoch := by rw [State.coreErr_eq]
@[simp] theorem State.coreErr_pins (s : State) (c e : Nat) : (s.coreErr c e).pins = s.pins := by rw [State.coreErr_eq]
@[simp] theorem State.coreErr_time (s : State) (c e : Nat) : (s.coreErr c e).time = s.time := by rw [State.coreErr_eq]
@[simp] theorem State.coreErr_ev (s : State) (c e : Nat) : (s.coreErr c e).ev = s.ev := by rw [State.coreErr_eq]
@[simp] theorem State.coreErr_capLow (s : State) (c e : Nat) : (s.coreErr c e).capLow = s.capLow := by rw [State.coreErr_eq]
@[simp] theorem State.coreErr_ctxShadow (s : State) (c e : Nat) : (s.coreErr c e).ctxShadow = s.ctxShadow := by rw [State.coreErr_eq]
@[simp] theorem State.coreErr_pwm (s : State) (c e : Nat) : (s.coreErr c e).pwm = s.pwm := by rw [State.coreErr_eq]
@[simp] theorem State.coreErr_pushSeq (s : State) (c e : Nat) : (s.coreErr c e).pushSeq = s.pushSeq := by rw [State.coreErr_eq]
@[simp] theorem State.coreErr_feeds (s : State) (c e : Nat) : (s.coreErr c e).feeds = s.feeds := by rw [State.coreErr_eq]
@[simp] theorem State.coreErr_streams (s : State) (c e : Nat) : (s.coreErr c e).streams = s.streams := by rw [State.coreErr_eq]
@[simp] theorem State.coreErr_rf (s : State) (c e : Nat) : (s.coreErr c e).rf = s.rf := by rw [State.coreErr_eq]
@[simp] theorem State.coreErr_exm (s : State) (c e : Nat) : (s.coreErr c e).exm = s.exm := by rw [State.coreErr_eq]
@[simp] theorem State.coreErr_chans (s : State) (c e : Nat) : (s.coreErr c e).chans = s.chans := by rw [State.coreErr_eq]
@[simp] theorem State.coreErr_duct (s : State) (c e : Nat) : (s.coreErr c e).duct = s.duct := by rw [State.coreErr_eq]
@[simp] theorem State.coreErr_caps (s : State) (c e : Nat) : (s.coreErr c e).caps = s.caps := by rw [State.coreErr_eq]
@[simp] theorem State.coreErr_scr (s : State) (c e : Nat) : (s.coreErr c e).scr = s.scr := by rw [State.coreErr_eq]
@[simp] theorem State.coreErr_meas (s : State) (c e : Nat) : (s.coreErr c e).meas = s.meas := by rw [State.coreErr_eq]
@[simp] theorem State.coreErr_tps (s : State) (c e : Nat) : (s.coreErr c e).tps = s.tps := by rw [State.coreErr_eq]
@[simp] theorem State.coreErr_cores (s : State) (c e : Nat) : (s.coreErr c e).cores = s.cores := by rw [State.coreErr_eq]
@[simp] theorem State.coreErr_udh (s : State) (c e : Nat) : (s.coreErr c e).udh = s.udh := by rw [State.coreErr_eq]
@[simp] theorem State.coreErr_blot (s : State) (c e : Nat) : (s.coreErr c e).blot = s.blot := by rw [State.coreErr_eq]
@[simp] theorem State.coreErr_sess (s : State) (c e : Nat) : (s.coreErr c e).sess = s.sess := by rw [State.coreErr_eq]
@[simp] theorem State.coreErr_sers (s : State) (c e : Nat) : (s.coreErr c e).sers = s.sers := by rw [State.coreErr_eq]
@[simp] theorem State.coreErr_pwr (s : State) (c e : Nat) : (s.coreErr c e).pwr = s.pwr := by rw [State.coreErr_eq]
@[simp] theorem State.coreErr_upd (s : State) (c e : Nat) : (s.coreErr c e).upd = s.upd := by rw [State.coreErr_eq]
@[simp] theorem State.coreErr_leg (s : State) (c e : Nat) : (s.coreErr c e).leg = s.leg := by rw [State.coreErr_eq]
@[simp] theorem State.writerErr_pending (s : State) (w : Writer) (c a : Nat) : (s.writerErr w c a).pending = s.pending := by rw [State.writerErr_eq]
@[simp] theorem State.writerErr_freeCtr (s : State) (w : Writer) (c a : Nat) : (s.writerErr w c a).freeCtr = s.freeCtr := by rw [State.writerErr_eq]
@[simp] theorem State.writerErr_mem (s : State) (w : Writer) (c a : Nat) : (s.writerErr w c a).mem = s.mem := by rw [State.writerErr_eq]
@[simp] theorem State.writerErr_memEpoch (s : State) (w : Writer) (c a : Nat) : (s.writerErr w c a).memEpoch = s.memEpoch := by rw [State.writerErr_eq]
@[simp] theorem State.writerErr_pins (s : State) (w : Writer) (c a : Nat) : (s.writerErr w c a).pins = s.pins := by rw [State.writerErr_eq]
@[simp] theorem State.writerErr_time (s : State) (w : Writer) (c a : Nat) : (s.writerErr w c a).time = s.time := by rw [State.writerErr_eq]
@[simp] theorem State.writerErr_ev (s : State) (w : Writer) (c a : Nat) : (s.writerErr w c a).ev = s.ev := by rw [State.writerErr_eq]
@[simp] theorem State.writerErr_capLow (s : State) (w : Writer) (c a : Nat) : (s.writerErr w c a).capLow = s.capLow := by rw [State.writerErr_eq]
@[simp] theorem State.writerErr_ctxShadow (s : State) (w : Writer) (c a : Nat) : (s.writerErr w c a).ctxShadow = s.ctxShadow := by rw [State.writerErr_eq]
@[simp] theorem State.writerErr_pwm (s : State) (w : Writer) (c a : Nat) : (s.writerErr w c a).pwm = s.pwm := by rw [State.writerErr_eq]
@[simp] theorem State.writerErr_pushSeq (s : State) (w : Writer) (c a : Nat) : (s.writerErr w c a).pushSeq = s.pushSeq := by rw [State.writerErr_eq]
@[simp] theorem State.writerErr_feeds (s : State) (w : Writer) (c a : Nat) : (s.writerErr w c a).feeds = s.feeds := by rw [State.writerErr_eq]
@[simp] theorem State.writerErr_streams (s : State) (w : Writer) (c a : Nat) : (s.writerErr w c a).streams = s.streams := by rw [State.writerErr_eq]
@[simp] theorem State.writerErr_rf (s : State) (w : Writer) (c a : Nat) : (s.writerErr w c a).rf = s.rf := by rw [State.writerErr_eq]
@[simp] theorem State.writerErr_exm (s : State) (w : Writer) (c a : Nat) : (s.writerErr w c a).exm = s.exm := by rw [State.writerErr_eq]
@[simp] theorem State.writerErr_chans (s : State) (w : Writer) (c a : Nat) : (s.writerErr w c a).chans = s.chans := by rw [State.writerErr_eq]
@[simp] theorem State.writerErr_duct (s : State) (w : Writer) (c a : Nat) : (s.writerErr w c a).duct = s.duct := by rw [State.writerErr_eq]
@[simp] theorem State.writerErr_caps (s : State) (w : Writer) (c a : Nat) : (s.writerErr w c a).caps = s.caps := by rw [State.writerErr_eq]
@[simp] theorem State.writerErr_scr (s : State) (w : Writer) (c a : Nat) : (s.writerErr w c a).scr = s.scr := by rw [State.writerErr_eq]
@[simp] theorem State.writerErr_meas (s : State) (w : Writer) (c a : Nat) : (s.writerErr w c a).meas = s.meas := by rw [State.writerErr_eq]
@[simp] theorem State.writerErr_tps (s : State) (w : Writer) (c a : Nat) : (s.writerErr w c a).tps = s.tps := by rw [State.writerErr_eq]
@[simp] theorem State.writerErr_cores (s : State) (w : Writer) (c a : Nat) : (s.writerErr w c a).cores = s.cores := by rw [State.writerErr_eq]
@[simp] theorem State.writerErr_udh (s : State) (w : Writer) (c a : Nat) : (s.writerErr w c a).udh = s.udh := by rw [State.writerErr_eq]
@[simp] theorem State.writerErr_blot (s : State) (w : Writer) (c a : Nat) : (s.writerErr w c a).blot = s.blot := by rw [State.writerErr_eq]
@[simp] theorem State.writerErr_sess (s : State) (w : Writer) (c a : Nat) : (s.writerErr w c a).sess = s.sess := by rw [State.writerErr_eq]
@[simp] theorem State.writerErr_sers (s : State) (w : Writer) (c a : Nat) : (s.writerErr w c a).sers = s.sers := by rw [State.writerErr_eq]
@[simp] theorem State.writerErr_pwr (s : State) (w : Writer) (c a : Nat) : (s.writerErr w c a).pwr = s.pwr := by rw [State.writerErr_eq]
@[simp] theorem State.writerErr_upd (s : State) (w : Writer) (c a : Nat) : (s.writerErr w c a).upd = s.upd := by rw [State.writerErr_eq]
@[simp] theorem State.writerErr_leg (s : State) (w : Writer) (c a : Nat) : (s.writerErr w c a).leg = s.leg := by rw [State.writerErr_eq]
@[simp] theorem State.recordRefusal_pending (s : State) (w : Writer) (p : Option Nat) (o c a : Nat) : (s.recordRefusal w p o c a).pending = s.pending := by rw [State.recordRefusal_eq]
@[simp] theorem State.recordRefusal_freeCtr (s : State) (w : Writer) (p : Option Nat) (o c a : Nat) : (s.recordRefusal w p o c a).freeCtr = s.freeCtr := by rw [State.recordRefusal_eq]
@[simp] theorem State.recordRefusal_mem (s : State) (w : Writer) (p : Option Nat) (o c a : Nat) : (s.recordRefusal w p o c a).mem = s.mem := by rw [State.recordRefusal_eq]
@[simp] theorem State.recordRefusal_memEpoch (s : State) (w : Writer) (p : Option Nat) (o c a : Nat) : (s.recordRefusal w p o c a).memEpoch = s.memEpoch := by rw [State.recordRefusal_eq]
@[simp] theorem State.recordRefusal_pins (s : State) (w : Writer) (p : Option Nat) (o c a : Nat) : (s.recordRefusal w p o c a).pins = s.pins := by rw [State.recordRefusal_eq]
@[simp] theorem State.recordRefusal_time (s : State) (w : Writer) (p : Option Nat) (o c a : Nat) : (s.recordRefusal w p o c a).time = s.time := by rw [State.recordRefusal_eq]
@[simp] theorem State.recordRefusal_ev (s : State) (w : Writer) (p : Option Nat) (o c a : Nat) : (s.recordRefusal w p o c a).ev = s.ev := by rw [State.recordRefusal_eq]
@[simp] theorem State.recordRefusal_capLow (s : State) (w : Writer) (p : Option Nat) (o c a : Nat) : (s.recordRefusal w p o c a).capLow = s.capLow := by rw [State.recordRefusal_eq]
@[simp] theorem State.recordRefusal_ctxShadow (s : State) (w : Writer) (p : Option Nat) (o c a : Nat) : (s.recordRefusal w p o c a).ctxShadow = s.ctxShadow := by rw [State.recordRefusal_eq]
@[simp] theorem State.recordRefusal_pwm (s : State) (w : Writer) (p : Option Nat) (o c a : Nat) : (s.recordRefusal w p o c a).pwm = s.pwm := by rw [State.recordRefusal_eq]
@[simp] theorem State.recordRefusal_pushSeq (s : State) (w : Writer) (p : Option Nat) (o c a : Nat) : (s.recordRefusal w p o c a).pushSeq = s.pushSeq := by rw [State.recordRefusal_eq]
@[simp] theorem State.recordRefusal_feeds (s : State) (w : Writer) (p : Option Nat) (o c a : Nat) : (s.recordRefusal w p o c a).feeds = s.feeds := by rw [State.recordRefusal_eq]
@[simp] theorem State.recordRefusal_streams (s : State) (w : Writer) (p : Option Nat) (o c a : Nat) : (s.recordRefusal w p o c a).streams = s.streams := by rw [State.recordRefusal_eq]
@[simp] theorem State.recordRefusal_rf (s : State) (w : Writer) (p : Option Nat) (o c a : Nat) : (s.recordRefusal w p o c a).rf = s.rf := by rw [State.recordRefusal_eq]
@[simp] theorem State.recordRefusal_exm (s : State) (w : Writer) (p : Option Nat) (o c a : Nat) : (s.recordRefusal w p o c a).exm = s.exm := by rw [State.recordRefusal_eq]
@[simp] theorem State.recordRefusal_chans (s : State) (w : Writer) (p : Option Nat) (o c a : Nat) : (s.recordRefusal w p o c a).chans = s.chans := by rw [State.recordRefusal_eq]
@[simp] theorem State.recordRefusal_duct (s : State) (w : Writer) (p : Option Nat) (o c a : Nat) : (s.recordRefusal w p o c a).duct = s.duct := by rw [State.recordRefusal_eq]
@[simp] theorem State.recordRefusal_caps (s : State) (w : Writer) (p : Option Nat) (o c a : Nat) : (s.recordRefusal w p o c a).caps = s.caps := by rw [State.recordRefusal_eq]
@[simp] theorem State.recordRefusal_scr (s : State) (w : Writer) (p : Option Nat) (o c a : Nat) : (s.recordRefusal w p o c a).scr = s.scr := by rw [State.recordRefusal_eq]
@[simp] theorem State.recordRefusal_meas (s : State) (w : Writer) (p : Option Nat) (o c a : Nat) : (s.recordRefusal w p o c a).meas = s.meas := by rw [State.recordRefusal_eq]
@[simp] theorem State.recordRefusal_tps (s : State) (w : Writer) (p : Option Nat) (o c a : Nat) : (s.recordRefusal w p o c a).tps = s.tps := by rw [State.recordRefusal_eq]
@[simp] theorem State.recordRefusal_cores (s : State) (w : Writer) (p : Option Nat) (o c a : Nat) : (s.recordRefusal w p o c a).cores = s.cores := by rw [State.recordRefusal_eq]
@[simp] theorem State.recordRefusal_udh (s : State) (w : Writer) (p : Option Nat) (o c a : Nat) : (s.recordRefusal w p o c a).udh = s.udh := by rw [State.recordRefusal_eq]
@[simp] theorem State.recordRefusal_blot (s : State) (w : Writer) (p : Option Nat) (o c a : Nat) : (s.recordRefusal w p o c a).blot = s.blot := by rw [State.recordRefusal_eq]
@[simp] theorem State.recordRefusal_sess (s : State) (w : Writer) (p : Option Nat) (o c a : Nat) : (s.recordRefusal w p o c a).sess = s.sess := by rw [State.recordRefusal_eq]
@[simp] theorem State.recordRefusal_sers (s : State) (w : Writer) (p : Option Nat) (o c a : Nat) : (s.recordRefusal w p o c a).sers = s.sers := by rw [State.recordRefusal_eq]
@[simp] theorem State.recordRefusal_pwr (s : State) (w : Writer) (p : Option Nat) (o c a : Nat) : (s.recordRefusal w p o c a).pwr = s.pwr := by rw [State.recordRefusal_eq]
@[simp] theorem State.recordRefusal_upd (s : State) (w : Writer) (p : Option Nat) (o c a : Nat) : (s.recordRefusal w p o c a).upd = s.upd := by rw [State.recordRefusal_eq]
@[simp] theorem State.recordRefusal_leg (s : State) (w : Writer) (p : Option Nat) (o c a : Nat) : (s.recordRefusal w p o c a).leg = s.leg := by rw [State.recordRefusal_eq]

/-! ### A memory word -/

theorem State.abortRange_eq (s : State) (m lo hi : Nat) : s.abortRange m lo hi = { s with blot := (s.abortRange m lo hi).blot } := by
  unfold State.abortRange State.abortBorrow
  repeat' split
  all_goals rfl

theorem State.wrMem_eq (s : State) (k : Nat) (v : Word) :
    s.wrMem k v = { s with mem := (s.wrMem k v).mem, blot := (s.wrMem k v).blot, cores := (s.wrMem k v).cores } := by
  unfold State.wrMem State.touch
  simp only
  rw [State.abortRange_eq]

theorem State.wrMemN_eq (s : State) (k : Nat) (l : List Word) :
    s.wrMemN k l = { s with mem := (s.wrMemN k l).mem, blot := (s.wrMemN k l).blot, cores := (s.wrMemN k l).cores } := by
  induction l generalizing s k with
  | nil => rfl
  | cons v r ih =>
    have h := ih (s.wrMem k v) (k + 1)
    rw [State.wrMem_eq] at h
    simp only [State.wrMemN]
    rw [State.wrMem_eq]
    exact h

@[simp] theorem State.wrMem_pending (s : State) (k : Nat) (v : Word) : (s.wrMem k v).pending = s.pending := by rw [State.wrMem_eq]
@[simp] theorem State.wrMem_freeCtr (s : State) (k : Nat) (v : Word) : (s.wrMem k v).freeCtr = s.freeCtr := by rw [State.wrMem_eq]
@[simp] theorem State.wrMem_regs (s : State) (k : Nat) (v : Word) : (s.wrMem k v).regs = s.regs := by rw [State.wrMem_eq]
@[simp] theorem State.wrMem_memEpoch (s : State) (k : Nat) (v : Word) : (s.wrMem k v).memEpoch = s.memEpoch := by rw [State.wrMem_eq]
@[simp] theorem State.wrMem_pins (s : State) (k : Nat) (v : Word) : (s.wrMem k v).pins = s.pins := by rw [State.wrMem_eq]
@[simp] theorem State.wrMem_time (s : State) (k : Nat) (v : Word) : (s.wrMem k v).time = s.time := by rw [State.wrMem_eq]
@[simp] theorem State.wrMem_ev (s : State) (k : Nat) (v : Word) : (s.wrMem k v).ev = s.ev := by rw [State.wrMem_eq]
@[simp] theorem State.wrMem_capLow (s : State) (k : Nat) (v : Word) : (s.wrMem k v).capLow = s.capLow := by rw [State.wrMem_eq]
@[simp] theorem State.wrMem_ctxShadow (s : State) (k : Nat) (v : Word) : (s.wrMem k v).ctxShadow = s.ctxShadow := by rw [State.wrMem_eq]
@[simp] theorem State.wrMem_pwm (s : State) (k : Nat) (v : Word) : (s.wrMem k v).pwm = s.pwm := by rw [State.wrMem_eq]
@[simp] theorem State.wrMem_pushSeq (s : State) (k : Nat) (v : Word) : (s.wrMem k v).pushSeq = s.pushSeq := by rw [State.wrMem_eq]
@[simp] theorem State.wrMem_feeds (s : State) (k : Nat) (v : Word) : (s.wrMem k v).feeds = s.feeds := by rw [State.wrMem_eq]
@[simp] theorem State.wrMem_streams (s : State) (k : Nat) (v : Word) : (s.wrMem k v).streams = s.streams := by rw [State.wrMem_eq]
@[simp] theorem State.wrMem_rf (s : State) (k : Nat) (v : Word) : (s.wrMem k v).rf = s.rf := by rw [State.wrMem_eq]
@[simp] theorem State.wrMem_exm (s : State) (k : Nat) (v : Word) : (s.wrMem k v).exm = s.exm := by rw [State.wrMem_eq]
@[simp] theorem State.wrMem_chans (s : State) (k : Nat) (v : Word) : (s.wrMem k v).chans = s.chans := by rw [State.wrMem_eq]
@[simp] theorem State.wrMem_duct (s : State) (k : Nat) (v : Word) : (s.wrMem k v).duct = s.duct := by rw [State.wrMem_eq]
@[simp] theorem State.wrMem_caps (s : State) (k : Nat) (v : Word) : (s.wrMem k v).caps = s.caps := by rw [State.wrMem_eq]
@[simp] theorem State.wrMem_scr (s : State) (k : Nat) (v : Word) : (s.wrMem k v).scr = s.scr := by rw [State.wrMem_eq]
@[simp] theorem State.wrMem_meas (s : State) (k : Nat) (v : Word) : (s.wrMem k v).meas = s.meas := by rw [State.wrMem_eq]
@[simp] theorem State.wrMem_tps (s : State) (k : Nat) (v : Word) : (s.wrMem k v).tps = s.tps := by rw [State.wrMem_eq]
@[simp] theorem State.wrMem_udh (s : State) (k : Nat) (v : Word) : (s.wrMem k v).udh = s.udh := by rw [State.wrMem_eq]
@[simp] theorem State.wrMem_sess (s : State) (k : Nat) (v : Word) : (s.wrMem k v).sess = s.sess := by rw [State.wrMem_eq]
@[simp] theorem State.wrMem_sers (s : State) (k : Nat) (v : Word) : (s.wrMem k v).sers = s.sers := by rw [State.wrMem_eq]
@[simp] theorem State.wrMem_pwr (s : State) (k : Nat) (v : Word) : (s.wrMem k v).pwr = s.pwr := by rw [State.wrMem_eq]
@[simp] theorem State.wrMem_upd (s : State) (k : Nat) (v : Word) : (s.wrMem k v).upd = s.upd := by rw [State.wrMem_eq]
@[simp] theorem State.wrMem_leg (s : State) (k : Nat) (v : Word) : (s.wrMem k v).leg = s.leg := by rw [State.wrMem_eq]
@[simp] theorem State.wrMemN_pending (s : State) (k : Nat) (l : List Word) : (s.wrMemN k l).pending = s.pending := by rw [State.wrMemN_eq]
@[simp] theorem State.wrMemN_freeCtr (s : State) (k : Nat) (l : List Word) : (s.wrMemN k l).freeCtr = s.freeCtr := by rw [State.wrMemN_eq]
@[simp] theorem State.wrMemN_regs (s : State) (k : Nat) (l : List Word) : (s.wrMemN k l).regs = s.regs := by rw [State.wrMemN_eq]
@[simp] theorem State.wrMemN_memEpoch (s : State) (k : Nat) (l : List Word) : (s.wrMemN k l).memEpoch = s.memEpoch := by rw [State.wrMemN_eq]
@[simp] theorem State.wrMemN_pins (s : State) (k : Nat) (l : List Word) : (s.wrMemN k l).pins = s.pins := by rw [State.wrMemN_eq]
@[simp] theorem State.wrMemN_time (s : State) (k : Nat) (l : List Word) : (s.wrMemN k l).time = s.time := by rw [State.wrMemN_eq]
@[simp] theorem State.wrMemN_ev (s : State) (k : Nat) (l : List Word) : (s.wrMemN k l).ev = s.ev := by rw [State.wrMemN_eq]
@[simp] theorem State.wrMemN_capLow (s : State) (k : Nat) (l : List Word) : (s.wrMemN k l).capLow = s.capLow := by rw [State.wrMemN_eq]
@[simp] theorem State.wrMemN_ctxShadow (s : State) (k : Nat) (l : List Word) : (s.wrMemN k l).ctxShadow = s.ctxShadow := by rw [State.wrMemN_eq]
@[simp] theorem State.wrMemN_pwm (s : State) (k : Nat) (l : List Word) : (s.wrMemN k l).pwm = s.pwm := by rw [State.wrMemN_eq]
@[simp] theorem State.wrMemN_pushSeq (s : State) (k : Nat) (l : List Word) : (s.wrMemN k l).pushSeq = s.pushSeq := by rw [State.wrMemN_eq]
@[simp] theorem State.wrMemN_feeds (s : State) (k : Nat) (l : List Word) : (s.wrMemN k l).feeds = s.feeds := by rw [State.wrMemN_eq]
@[simp] theorem State.wrMemN_streams (s : State) (k : Nat) (l : List Word) : (s.wrMemN k l).streams = s.streams := by rw [State.wrMemN_eq]
@[simp] theorem State.wrMemN_rf (s : State) (k : Nat) (l : List Word) : (s.wrMemN k l).rf = s.rf := by rw [State.wrMemN_eq]
@[simp] theorem State.wrMemN_exm (s : State) (k : Nat) (l : List Word) : (s.wrMemN k l).exm = s.exm := by rw [State.wrMemN_eq]
@[simp] theorem State.wrMemN_chans (s : State) (k : Nat) (l : List Word) : (s.wrMemN k l).chans = s.chans := by rw [State.wrMemN_eq]
@[simp] theorem State.wrMemN_duct (s : State) (k : Nat) (l : List Word) : (s.wrMemN k l).duct = s.duct := by rw [State.wrMemN_eq]
@[simp] theorem State.wrMemN_caps (s : State) (k : Nat) (l : List Word) : (s.wrMemN k l).caps = s.caps := by rw [State.wrMemN_eq]
@[simp] theorem State.wrMemN_scr (s : State) (k : Nat) (l : List Word) : (s.wrMemN k l).scr = s.scr := by rw [State.wrMemN_eq]
@[simp] theorem State.wrMemN_meas (s : State) (k : Nat) (l : List Word) : (s.wrMemN k l).meas = s.meas := by rw [State.wrMemN_eq]
@[simp] theorem State.wrMemN_tps (s : State) (k : Nat) (l : List Word) : (s.wrMemN k l).tps = s.tps := by rw [State.wrMemN_eq]
@[simp] theorem State.wrMemN_udh (s : State) (k : Nat) (l : List Word) : (s.wrMemN k l).udh = s.udh := by rw [State.wrMemN_eq]
@[simp] theorem State.wrMemN_sess (s : State) (k : Nat) (l : List Word) : (s.wrMemN k l).sess = s.sess := by rw [State.wrMemN_eq]
@[simp] theorem State.wrMemN_sers (s : State) (k : Nat) (l : List Word) : (s.wrMemN k l).sers = s.sers := by rw [State.wrMemN_eq]
@[simp] theorem State.wrMemN_pwr (s : State) (k : Nat) (l : List Word) : (s.wrMemN k l).pwr = s.pwr := by rw [State.wrMemN_eq]
@[simp] theorem State.wrMemN_upd (s : State) (k : Nat) (l : List Word) : (s.wrMemN k l).upd = s.upd := by rw [State.wrMemN_eq]
@[simp] theorem State.wrMemN_leg (s : State) (k : Nat) (l : List Word) : (s.wrMemN k l).leg = s.leg := by rw [State.wrMemN_eq]
@[simp] theorem State.abortRange_mem (s : State) (m lo hi : Nat) : (s.abortRange m lo hi).mem = s.mem := by rw [State.abortRange_eq]
@[simp] theorem State.abortRange_cores (s : State) (m lo hi : Nat) : (s.abortRange m lo hi).cores = s.cores := by rw [State.abortRange_eq]

/-- The memory after a store of one word. -/
@[simp] theorem State.wrMem_mem (s : State) (k : Nat) (v : Word) : (s.wrMem k v).mem = s.mem.put k v := by
  simp [State.wrMem, State.touch]


end Sys2Proof.Machine
end

