-- ==== Sys2Proof/Laws/Regs.lean ====
section
/-! SUPPORT. What a register word and a memory word read after an update, and the fields of a word. -/

namespace Sys2Proof.Machine

/-! ### Register words -/

theorem State.reg_setReg_ne (s : State) {k x : Nat} (v : Word) (h : x ≠ k) : (s.setReg k v).reg x = s.reg x := by
  simp only [State.reg, State.setReg]
  split
  · rw [Store.get?_del_ne _ h]
  · rw [Store.get?_put_ne _ _ h]

theorem State.reg_setReg_self (s : State) (k : Nat) (v : Word) (h : Store.wf s.regs = true) : (s.setReg k v).reg k = v := by
  simp only [State.reg, State.setReg]
  split
  · rename_i h1
    simp [Store.get?_del_self k h, h1]
  · simp [Store.get?_put_self]

theorem State.wf_setReg (s : State) (k : Nat) (v : Word) (h : Store.wf s.regs = true) : Store.wf (s.setReg k v).regs = true := by
  simp only [State.setReg]
  split
  · exact Store.wf_del k h
  · exact Store.wf_put k v h

theorem Store.all_put {t : Store Word} {p : Nat × Word → Bool} (k : Nat) (v : Word) (h : t.all p = true) (hv : p (k, v) = true) :
    (Store.put t k v).all p = true := by
  induction t with
  | nil => simp [Store.put, hv]
  | cons e r ih =>
    obtain ⟨a, b⟩ := e
    simp only [List.all_cons, Bool.and_eq_true] at h
    simp only [Store.put]
    split
    · simp only [List.all_cons, Bool.and_eq_true]
      exact ⟨hv, h.1, h.2⟩
    · split
      · simp only [List.all_cons, Bool.and_eq_true]
        exact ⟨hv, h.2⟩
      · simp only [List.all_cons, Bool.and_eq_true]
        exact ⟨h.1, ih h.2⟩

theorem Store.all_del {α : Type} {t : Store α} {p : Nat × α → Bool} (k : Nat) (h : t.all p = true) : (Store.del t k).all p = true := by
  induction t with
  | nil => rfl
  | cons e r ih =>
    obtain ⟨a, b⟩ := e
    simp only [List.all_cons, Bool.and_eq_true] at h
    simp only [Store.del]
    split
    · exact h.2
    · simp only [List.all_cons, Bool.and_eq_true]
      exact ⟨h.1, ih h.2⟩

/-- Every update of a register word keeps the canonical form. -/
theorem State.regsWf_setReg (s : State) (k : Nat) (v : Word) (h : regsWf s.regs = true) : regsWf (s.setReg k v).regs = true := by
  simp only [regsWf, Bool.and_eq_true] at h ⊢
  refine ⟨State.wf_setReg s k v h.1, ?_⟩
  simp only [State.setReg]
  split
  · exact Store.all_del k h.2
  · exact Store.all_put k v h.2 (by simpa using ‹¬v = resetWord k›)

/-- A filter of the register words keeps the canonical form. -/
theorem regsWf_filter {t : Store Word} (p : Nat × Word → Bool) (h : regsWf t = true) : regsWf (t.filter p) = true := by
  simp only [regsWf, Bool.and_eq_true] at h ⊢
  refine ⟨Store.wf_filter p h.1, ?_⟩
  simp only [List.all_eq_true] at h ⊢
  intro x hx
  exact h.2 x (List.mem_filter.mp hx).1

theorem regsWf_wf {t : Store Word} (h : regsWf t = true) : Store.wf t = true := by
  simp only [regsWf, Bool.and_eq_true] at h
  exact h.1

/-! ### Memory words -/

theorem State.get?_wrMem_self (s : State) (k : Nat) (v : Word) : (s.wrMem k v).mem.get? k = some v := by
  rw [State.wrMem_mem, Store.get?_put_self]

theorem State.rdMem_wrMem_self (s : State) (k : Nat) (v : Word) : (s.wrMem k v).rdMem k = v := by
  simp [State.rdMem, Store.get?_put_self]

theorem State.rdMem_wrMem_ne (s : State) {k x : Nat} (v : Word) (h : x ≠ k) : (s.wrMem k v).rdMem x = s.rdMem x := by
  simp only [State.rdMem, State.wrMem_mem, State.wrMem_memEpoch, State.wrMem_freeCtr]
  rw [Store.get?_put_ne _ _ h]

theorem State.wf_wrMem (s : State) (k : Nat) (v : Word) (h : Store.wf s.mem = true) : Store.wf (s.wrMem k v).mem = true := by
  rw [State.wrMem_mem]
  exact Store.wf_put k v h

/-- A run of stores leaves every word outside it. -/
theorem State.rdMem_wrMemN_ne (s : State) {k x : Nat} (l : List Word) (h : x < k ∨ k + l.length ≤ x) :
    (s.wrMemN k l).rdMem x = s.rdMem x := by
  induction l generalizing s k with
  | nil => rfl
  | cons v r ih =>
    simp only [List.length_cons] at h
    simp only [State.wrMemN]
    rw [ih (s.wrMem k v) (by omega), State.rdMem_wrMem_ne _ _ (by omega)]

/-! ### Fields of a word -/

theorem fieldOf_lt (v : Word) (hi lo : Nat) : fieldOf v hi lo < 2 ^ (hi - lo + 1) := Nat.mod_lt _ (by positivity)

/-- The number of a word whose field is replaced. -/
theorem withField_toNat (v : Word) (hi lo n : Nat) (h : hi < 18) (hl : lo ≤ hi) :
    (withField v hi lo n).toNat = v.toNat - fieldOf v hi lo * 2 ^ lo + n % 2 ^ (hi - lo + 1) * 2 ^ lo := by
  have hv := v.isLt
  have e : v.toNat = (v.toNat / 2 ^ lo / 2 ^ (hi - lo + 1)) * 2 ^ (hi + 1) + fieldOf v hi lo * 2 ^ lo + v.toNat % 2 ^ lo := by
    have h1 := Nat.div_add_mod v.toNat (2 ^ lo)
    have h2 := Nat.div_add_mod (v.toNat / 2 ^ lo) (2 ^ (hi - lo + 1))
    have h3 : 2 ^ (hi + 1) = 2 ^ lo * 2 ^ (hi - lo + 1) := by rw [← pow_add]; congr 1; omega
    rw [h3]
    simp only [fieldOf]
    calc v.toNat = 2 ^ lo * (v.toNat / 2 ^ lo) + v.toNat % 2 ^ lo := h1.symm
      _ = 2 ^ lo * (2 ^ (hi - lo + 1) * (v.toNat / 2 ^ lo / 2 ^ (hi - lo + 1)) + v.toNat / 2 ^ lo % 2 ^ (hi - lo + 1)) + v.toNat % 2 ^ lo := by
          rw [h2]
      _ = _ := by ring
  have hm : n % 2 ^ (hi - lo + 1) < 2 ^ (hi - lo + 1) := Nat.mod_lt _ (by positivity)
  have hb : n % 2 ^ (hi - lo + 1) * 2 ^ lo + 2 ^ lo ≤ 2 ^ (hi + 1) := by
    have h3 : 2 ^ (hi + 1) = 2 ^ (hi - lo + 1) * 2 ^ lo := by rw [← pow_add]; congr 1; omega
    rw [h3]
    calc n % 2 ^ (hi - lo + 1) * 2 ^ lo + 2 ^ lo = (n % 2 ^ (hi - lo + 1) + 1) * 2 ^ lo := by ring
      _ ≤ _ := Nat.mul_le_mul_right _ hm
  have hr : v.toNat % 2 ^ lo < 2 ^ lo := Nat.mod_lt _ (by positivity)
  have hq : v.toNat / 2 ^ lo / 2 ^ (hi - lo + 1) < 2 ^ (18 - (hi + 1)) := by
    rw [Nat.div_div_eq_div_mul, ← pow_add]
    have e2 : lo + (hi - lo + 1) = hi + 1 := by omega
    rw [e2, Nat.div_lt_iff_lt_mul (by positivity), ← pow_add]
    have e3 : 18 - (hi + 1) + (hi + 1) = 18 := by omega
    rw [e3]; exact hv
  simp only [withField, wordOf, BitVec.toNat_ofNat]
  apply Nat.mod_eq_of_lt
  have hq2 : (v.toNat / 2 ^ lo / 2 ^ (hi - lo + 1) + 1) * 2 ^ (hi + 1) ≤ 2 ^ 18 := by
    have e3 : 2 ^ 18 = 2 ^ (18 - (hi + 1)) * 2 ^ (hi + 1) := by rw [← pow_add]; congr 1; omega
    rw [e3]; exact Nat.mul_le_mul_right _ hq
  have : (v.toNat / 2 ^ lo / 2 ^ (hi - lo + 1) + 1) * 2 ^ (hi + 1)
      = (v.toNat / 2 ^ lo / 2 ^ (hi - lo + 1)) * 2 ^ (hi + 1) + 2 ^ (hi + 1) := by ring
  omega

/-- The field that was replaced. -/
theorem fieldOf_withField (v : Word) (hi lo n : Nat) (h : hi < 18) (hl : lo ≤ hi) :
    fieldOf (withField v hi lo n) hi lo = n % 2 ^ (hi - lo + 1) := by
  have e : v.toNat = (v.toNat / 2 ^ lo / 2 ^ (hi - lo + 1)) * 2 ^ (hi + 1) + fieldOf v hi lo * 2 ^ lo + v.toNat % 2 ^ lo := by
    have h1 := Nat.div_add_mod v.toNat (2 ^ lo)
    have h2 := Nat.div_add_mod (v.toNat / 2 ^ lo) (2 ^ (hi - lo + 1))
    have h3 : 2 ^ (hi + 1) = 2 ^ lo * 2 ^ (hi - lo + 1) := by rw [← pow_add]; congr 1; omega
    rw [h3]
    simp only [fieldOf]
    calc v.toNat = 2 ^ lo * (v.toNat / 2 ^ lo) + v.toNat % 2 ^ lo := h1.symm
      _ = 2 ^ lo * (2 ^ (hi - lo + 1) * (v.toNat / 2 ^ lo / 2 ^ (hi - lo + 1)) + v.toNat / 2 ^ lo % 2 ^ (hi - lo + 1)) + v.toNat % 2 ^ lo := by
          rw [h2]
      _ = _ := by ring
  have hr : v.toNat % 2 ^ lo < 2 ^ lo := Nat.mod_lt _ (by positivity)
  have h3 : 2 ^ (hi + 1) = 2 ^ (hi - lo + 1) * 2 ^ lo := by rw [← pow_add]; congr 1; omega
  have e2 : (withField v hi lo n).toNat
      = 2 ^ lo * ((v.toNat / 2 ^ lo / 2 ^ (hi - lo + 1)) * 2 ^ (hi - lo + 1) + n % 2 ^ (hi - lo + 1)) + v.toNat % 2 ^ lo := by
    rw [withField_toNat v hi lo n h hl]
    have : v.toNat - fieldOf v hi lo * 2 ^ lo = (v.toNat / 2 ^ lo / 2 ^ (hi - lo + 1)) * 2 ^ (hi + 1) + v.toNat % 2 ^ lo := by omega
    rw [this, h3]; ring
  unfold fieldOf
  rw [e2, Nat.mul_add_div (by positivity), Nat.div_eq_of_lt hr, Nat.add_zero, Nat.mul_add_mod', Nat.mod_mod]

theorem bitOf_eq_fieldOf (v : Word) (i : Nat) : bitOf v i = decide (fieldOf v i i = 1) := by
  simp only [bitOf, fieldOf, Nat.sub_self, Nat.zero_add, Nat.pow_one, Nat.testBit_eq_decide_div_mod_eq]

/-- The bit that was set or cleared. -/
theorem bitOf_forceBit (v : Word) (i : Nat) (b : Bool) (h : i < 18) : bitOf (withField v i i (b2n b)) i = b := by
  rw [bitOf_eq_fieldOf, fieldOf_withField v i i _ h (Nat.le_refl i)]
  cases b <;> simp [b2n]

/-- A field of a register word after it was replaced. -/
theorem State.fld_setF_self (s : State) (k hi lo n : Nat) (h : Store.wf s.regs = true) (hh : hi < 18) (hl : lo ≤ hi) :
    (s.setF k hi lo n).fld k hi lo = n % 2 ^ (hi - lo + 1) := by
  simp only [State.fld, State.setF]
  rw [State.reg_setReg_self _ _ _ h, fieldOf_withField _ _ _ _ hh hl]

theorem State.fld_setF_ne (s : State) {k x : Nat} (hi lo n h l : Nat) (hx : x ≠ k) : (s.setF k hi lo n).fld x h l = s.fld x h l := by
  simp only [State.fld, State.setF]
  rw [State.reg_setReg_ne _ _ hx]

theorem State.bit_setB_self (s : State) (k i : Nat) (b : Bool) (h : Store.wf s.regs = true) (hi : i < 18) :
    (s.setB k i b).bit k i = b := by
  simp only [State.bit, State.setB, State.setF]
  rw [State.reg_setReg_self _ _ _ h, bitOf_forceBit _ _ _ hi]

theorem State.bit_setB_ne (s : State) {k x : Nat} (i : Nat) (b : Bool) (j : Nat) (hx : x ≠ k) :
    (s.setB k i b).bit x j = s.bit x j := by
  simp only [State.bit, State.setB, State.setF]
  rw [State.reg_setReg_ne _ _ hx]

/-- The event bit that was raised. -/
theorem State.bit_raise_self (s : State) (p i : Nat) (h : Store.wf s.regs = true) (hi : i < 18) :
    (s.raise p i).bit (pg p 4) i = true := State.bit_setB_self s (pg p 4) i true h hi

end Sys2Proof.Machine
end

