-- ==== Sys2Proof/Laws/Guard.lean ====
section
/-! SUPPORT. What the one path of a register write can do. -/

namespace Sys2Proof.Machine

/-- A write that passes every check has the effect that its block gives it. -/
theorem guarded_clear {s : State} {w : Writer} {p wd : Nat} {v : Word} {h : Handler} (hc : s.Clear w p wd v) (h1 : h.state = 0)
    (h2 : h.range = true) (h3 : h.extra = 0) : guarded w p wd v h s = h.result := by
  have e : writeRefusal w p wd v h s = 0 := by
    simp [writeRefusal, hc.permitted, hc.free, hc.on, hc.booted, hc.range, h1, h2, h3]
  cases w <;> simp [guarded, hc.live, hc.on, e]

/-- A write whose block refuses it, every earlier check passed, records the code and does nothing else. -/
theorem guarded_refused {s : State} {w : Writer} {p wd : Nat} {v : Word} {h : Handler} (hc : s.Clear w p wd v) (h1 : h.state ≠ 0) :
    guarded w p wd v h s = s.recordRefusal w (some p) wd h.state (pageAddr p wd) := by
  have e : writeRefusal w p wd v h s = h.state := by
    simp [writeRefusal, hc.permitted, hc.free, hc.on, hc.booted, h1]
  cases w <;> simp [guarded, hc.live, hc.on, e, h1]

/-- Once every check before the block's own is passed, the code of a write is the block's: its state's, RANGE, or its last check's. -/
theorem writeRefusal_of_clear {s : State} {w : Writer} {p wd : Nat} {v : Word} (h : Handler) (hc : s.Clear w p wd v) :
    writeRefusal w p wd v h s = if h.state ≠ 0 then h.state else if h.range = false then eRANGE else h.extra := by
  simp [writeRefusal, hc.permitted, hc.free, hc.on, hc.booted, hc.range]

/-- What a write does once every check before the block's own is passed: the block's code is recorded, or its effect takes place. -/
theorem guarded_of_clear {s : State} {w : Writer} {p wd : Nat} {v : Word} (h : Handler) (hc : s.Clear w p wd v) :
    guarded w p wd v h s = if writeRefusal w p wd v h s ≠ 0
      then s.recordRefusal w (some p) wd (writeRefusal w p wd v h s) (pageAddr p wd) else h.result := by
  cases w <;> simp [guarded, hc.live, hc.on]

/-- What the path can do at all: nothing, a stall that wakes the page's domain, the block's effect, or a recorded refusal. -/
theorem guarded_cases (w : Writer) (p wd : Nat) (v : Word) (h : Handler) (s : State) :
    guarded w p wd v h s = s ∨ (∃ c, w = .core c ∧ guarded w p wd v h s = s.stallWrite c p wd v) ∨ guarded w p wd v h s = h.result
      ∨ (writeRefusal w p wd v h s ≠ 0
        ∧ guarded w p wd v h s = s.recordRefusal w (some p) wd (writeRefusal w p wd v h s) (pageAddr p wd)) := by
  unfold guarded
  split
  · exact .inl rfl
  · cases w with
    | core c =>
      simp only
      split
      · exact .inr (.inl ⟨c, rfl, rfl⟩)
      · split
        · exact .inr (.inr (.inl rfl))
        · exact .inr (.inr (.inr ⟨by assumption, rfl⟩))
    | ses q =>
      simp only
      split
      · exact .inr (.inr (.inl rfl))
      · exact .inr (.inr (.inr ⟨by assumption, rfl⟩))
    | tap =>
      simp only
      split
      · exact .inr (.inr (.inl rfl))
      · exact .inr (.inr (.inr ⟨by assumption, rfl⟩))

/-! ### A plain write changes one register word -/

@[simp] theorem State.plain_pending (s : State) (w : Writer) (p wd : Nat) (v : Word) : (s.plain w p wd v).pending = s.pending := rfl
@[simp] theorem State.plain_freeCtr (s : State) (w : Writer) (p wd : Nat) (v : Word) : (s.plain w p wd v).freeCtr = s.freeCtr := rfl
@[simp] theorem State.plain_mem (s : State) (w : Writer) (p wd : Nat) (v : Word) : (s.plain w p wd v).mem = s.mem := rfl
@[simp] theorem State.plain_memEpoch (s : State) (w : Writer) (p wd : Nat) (v : Word) : (s.plain w p wd v).memEpoch = s.memEpoch := rfl
@[simp] theorem State.plain_pins (s : State) (w : Writer) (p wd : Nat) (v : Word) : (s.plain w p wd v).pins = s.pins := rfl
@[simp] theorem State.plain_time (s : State) (w : Writer) (p wd : Nat) (v : Word) : (s.plain w p wd v).time = s.time := rfl
@[simp] theorem State.plain_ev (s : State) (w : Writer) (p wd : Nat) (v : Word) : (s.plain w p wd v).ev = s.ev := rfl
@[simp] theorem State.plain_capLow (s : State) (w : Writer) (p wd : Nat) (v : Word) : (s.plain w p wd v).capLow = s.capLow := rfl
@[simp] theorem State.plain_feeds (s : State) (w : Writer) (p wd : Nat) (v : Word) : (s.plain w p wd v).feeds = s.feeds := rfl
@[simp] theorem State.plain_streams (s : State) (w : Writer) (p wd : Nat) (v : Word) : (s.plain w p wd v).streams = s.streams := rfl
@[simp] theorem State.plain_rf (s : State) (w : Writer) (p wd : Nat) (v : Word) : (s.plain w p wd v).rf = s.rf := rfl
@[simp] theorem State.plain_exm (s : State) (w : Writer) (p wd : Nat) (v : Word) : (s.plain w p wd v).exm = s.exm := rfl
@[simp] theorem State.plain_chans (s : State) (w : Writer) (p wd : Nat) (v : Word) : (s.plain w p wd v).chans = s.chans := rfl
@[simp] theorem State.plain_duct (s : State) (w : Writer) (p wd : Nat) (v : Word) : (s.plain w p wd v).duct = s.duct := rfl
@[simp] theorem State.plain_caps (s : State) (w : Writer) (p wd : Nat) (v : Word) : (s.plain w p wd v).caps = s.caps := rfl
@[simp] theorem State.plain_scr (s : State) (w : Writer) (p wd : Nat) (v : Word) : (s.plain w p wd v).scr = s.scr := rfl
@[simp] theorem State.plain_meas (s : State) (w : Writer) (p wd : Nat) (v : Word) : (s.plain w p wd v).meas = s.meas := rfl
@[simp] theorem State.plain_tps (s : State) (w : Writer) (p wd : Nat) (v : Word) : (s.plain w p wd v).tps = s.tps := rfl
@[simp] theorem State.plain_cores (s : State) (w : Writer) (p wd : Nat) (v : Word) : (s.plain w p wd v).cores = s.cores := rfl
@[simp] theorem State.plain_udh (s : State) (w : Writer) (p wd : Nat) (v : Word) : (s.plain w p wd v).udh = s.udh := rfl
@[simp] theorem State.plain_blot (s : State) (w : Writer) (p wd : Nat) (v : Word) : (s.plain w p wd v).blot = s.blot := rfl
@[simp] theorem State.plain_sess (s : State) (w : Writer) (p wd : Nat) (v : Word) : (s.plain w p wd v).sess = s.sess := rfl
@[simp] theorem State.plain_sers (s : State) (w : Writer) (p wd : Nat) (v : Word) : (s.plain w p wd v).sers = s.sers := rfl
@[simp] theorem State.plain_pwr (s : State) (w : Writer) (p wd : Nat) (v : Word) : (s.plain w p wd v).pwr = s.pwr := rfl
@[simp] theorem State.plain_upd (s : State) (w : Writer) (p wd : Nat) (v : Word) : (s.plain w p wd v).upd = s.upd := rfl
@[simp] theorem State.plain_leg (s : State) (w : Writer) (p wd : Nat) (v : Word) : (s.plain w p wd v).leg = s.leg := rfl

end Sys2Proof.Machine
end

