-- ==== Sys2Proof/Laws/Access.lean ====
section
/-! SUPPORT. A write of an address reaches the one path of its page. -/

namespace Sys2Proof.Machine

/-- The address of a word of a page that exists lies in a region. -/
theorem regionOf_page {p wd : Nat} (h : p ≤ 50 ∨ 512 ≤ p ∧ p < 1024) (h2 : wd < 1024) : (regionOf (pageAddr p wd)).isSome = true := by
  have e : pageAddr p wd = 14680064 + p * 1024 + wd := rfl
  have below : ∀ k, k ≤ 14680064 → (pageAddr p wd < k) = False := fun k hk => eq_false (by omega)
  have page : pageAddr p wd < 0o70146000 ∨ 0o72000000 ≤ pageAddr p wd ∧ pageAddr p wd < 0o74000000 := by omega
  rcases page with q | ⟨q, r⟩
  · simp [regionOf, below, q]
  · have a : ∀ k, k ≤ 15204352 → (pageAddr p wd < k) = False := fun k hk => eq_false (by omega)
    simp [regionOf, a, r]

/-- A page address lies outside the legacy window. -/
theorem windowWord_page (s : State) (w : Writer) {p wd : Nat} (h : p < 1024) (h2 : wd < 1024) : s.windowWord w (pageAddr p wd) = none := by
  have e : pageAddr p wd = 14680064 + p * 1024 + wd := rfl
  cases w with
  | ses q => simp [State.windowWord, e]; omega
  | core c => rfl
  | tap => rfl

/-- A page address is no core-local address. -/
theorem localKey_page (w : Writer) (p wd : Nat) : localKey w (pageAddr p wd) = pageAddr p wd := by
  have e : pageAddr p wd = 14680064 + p * 1024 + wd := rfl
  have e2 : shramBase = 524288 := rfl
  cases w with
  | core c => simp only [localKey]; rw [if_neg (by omega)]
  | ses q => rfl
  | tap => rfl

/-- A write of the address of a word of a page is a register write of that word. -/
theorem writeAddr_page (s : State) (w : Writer) (v : Word) {p wd : Nat} (h : p ≤ 50 ∨ 512 ≤ p ∧ p < 1024) (h2 : wd < 1024)
    (hl : s.writerLive w = true) (hd : ∀ q, w = .ses q → s.windowOnly q.val = false) :
    s.writeAddr w (pageAddr p wd) v = s.pageWrite w p wd v := by
  obtain ⟨x, hx⟩ := Option.isSome_iff_exists.mp (regionOf_page h h2)
  have e : pageAddr p wd = 14680064 + p * 1024 + wd := rfl
  have hi : isPageAddr (pageAddr p wd) = true := by simp [isPageAddr, e]; omega
  have h3 : (pageAddr p wd - 14680064) / 1024 = p := by rw [e]; omega
  have h4 : (pageAddr p wd - 14680064) % 1024 = wd := by rw [e]; omega
  cases w with
  | ses q =>
    simp [State.writeAddr, hl, windowWord_page s (.ses q) (show p < 1024 by omega) h2, localKey_page, hx, hi, h3, h4, hd q rfl]
  | core c => simp [State.writeAddr, hl, windowWord_page s (.core c) (show p < 1024 by omega) h2, localKey_page, hx, hi, h3, h4]
  | tap => simp [State.writeAddr, hl, windowWord_page s .tap (show p < 1024 by omega) h2, localKey_page, hx, hi, h3, h4]

/-- A write by a writer that is not there has no effect. -/
theorem writeAddr_dead (s : State) (w : Writer) (a : Nat) (v : Word) (hl : s.writerLive w = false) : s.writeAddr w a v = s := by
  simp [State.writeAddr, hl]

/-- A word of the header of a page other than CTRL has the header's rule, whatever the page (01 R35 to R37); ERR of EXMP also clears the
address that it records (03 R114). -/
theorem pageHandler_header (s : State) (w : Writer) (v : Word) {p wd : Nat} (h : p ≤ 50 ∨ 512 ≤ p) (h6 : p ≠ 6) (h7 : p ≠ 7) (h14 : p ≠ 14)
    (h39 : p = 39 → wd ≠ 6) (hw : 3 ≤ wd) (hw2 : wd < 16) (hs : 10 ≤ p → p ≤ 13 → s.serClosed (p - 10) = false)
    (hf : p = 20 → s.legacyHeld = false) :
    pageHandler w p wd v s = headerHandler w p wd v s := by
  have a : ∀ n, 16 ≤ n → (wd = n) = False := fun n h => by simp; omega
  have b : ∀ n, 16 ≤ n → (n ≤ wd) = False := fun n h => by simp; omega
  have b' : ∀ n, 16 ≤ n → (wd < n) = True := fun n h => by simp; omega
  have c : (wd = 2) = False := by simp; omega
  rcases h with h | h
  · interval_cases p <;> first
      | exact absurd rfl h6
      | exact absurd rfl h7
      | exact absurd rfl h14
      | (have hx := hs (Nat.le_of_ble_eq_true rfl) (Nat.le_of_ble_eq_true rfl)
         simp only [Nat.reduceSub, Nat.sub_self] at hx
         simp [pageHandler, serHandler, serWord, hx, a, b, c])
      | (have hx : (wd = 6) = False := by simpa using h39
         simp [pageHandler, exmpHandler, a, b, b', c, hx])
      | (have hx := hf rfl
         simp [pageHandler, feedHandler, feedWord, finMod, hx, a, b, c])
      | simp [pageHandler, pwrHandler, clkHandler, rstHandler, evcHandler, sesHandler, hifHandler, spiHandler, lcsHandler, timeHandler,
          tpHandler, evtHandler, measHandler, feedHandler, feedWord, routeHandler, specHandler, ductHandler, rankHandler, scrpHandler,
          inkwHandler, quireHandler, blotHandler, retnHandler, coreHandler, rubrHandler, legacyHandler, finMod, a, b, b', c]
  · have e : 512 + (p - 512) = p := by omega
    unfold pageHandler
    repeat rw [if_neg (by omega)]
    rw [if_pos h]
    simp [chanHandler, a, b, c, e]

end Sys2Proof.Machine
end

