-- ==== Sys2Proof/Laws/Mem.lean ====
section
/-! SUPPORT. Laws of the memory reads (spec/11): a read changes registers and the state of the Blotter alone, and gives the word that
stands at its address, so that reads of consecutive words and of bytes of shared RAM do not depend on the registers. -/

namespace Sys2Proof.Machine

theorem State.eccRecord_eq (s : State) (m off : Nat) (unc : Bool) :
    s.eccRecord m off unc = { s with regs := (s.eccRecord m off unc).regs } := by
  unfold State.eccRecord
  split <;> rfl

/-- A device address below the register pages lies in one of the memories 0 to 13. -/
theorem memOf_lt {k : Nat} (h : k < 0o50000000) : (memOf k).1 < 14 := by
  have e1 : coreBase = 8388608 := rfl
  unfold memOf
  repeat rw [if_neg (by omega)]
  repeat' split
  all_goals simp only
  all_goals first | omega | (split <;> omega)

/-- What a read of a word of the memories 0 to 13 can change. -/
theorem State.memRead_eq (s : State) {k : Nat} (h : (memOf k).1 < 14) :
    (s.memRead k).2.2 = { s with regs := (s.memRead k).2.2.regs, blot := (s.memRead k).2.2.blot } := by
  unfold State.memRead State.touch
  simp only
  rw [if_neg (show ¬ (s.eccOf k ≠ 0 ∧ 14 ≤ (memOf k).1) by omega)]
  split
  · rw [State.eccRecord_eq, State.abortRange_eq]; rfl
  · split
    · rw [State.eccRecord_eq, State.abortRange_eq]; rfl
    · rw [State.abortRange_eq]

@[simp] theorem State.memRead_fst (s : State) (k : Nat) : (s.memRead k).1 = s.rdMem k := rfl

theorem State.rdMem_congr {s t : State} (hm : s.mem = t.mem) (he : s.memEpoch = t.memEpoch) (hf : s.freeCtr = t.freeCtr) (k : Nat) :
    s.rdMem k = t.rdMem k := by
  simp only [State.rdMem, hm, he, hf]

theorem State.rdMem_memRead (s : State) {k : Nat} (h : (memOf k).1 < 14) (x : Nat) : (s.memRead k).2.2.rdMem x = s.rdMem x := by
  rw [State.memRead_eq s h]; rfl

/-- What reads of consecutive words below the register pages can change. -/
theorem State.memReadN_eq (s : State) (k n : Nat) (h : k + n ≤ 0o50000000) :
    (s.memReadN k n).2.2 = { s with regs := (s.memReadN k n).2.2.regs, blot := (s.memReadN k n).2.2.blot } := by
  induction n generalizing s k with
  | zero => rfl
  | succ n ih =>
    simp only [State.memReadN]
    rw [ih _ _ (by omega), State.memRead_eq s (memOf_lt (by omega))]

/-- Reads of consecutive words give the words that stand there. -/
theorem State.memReadN_fst (s : State) (k n : Nat) (h : k + n ≤ 0o50000000) :
    (s.memReadN k n).1 = (List.range n).map fun i => s.rdMem (k + i) := by
  induction n generalizing s k with
  | zero => rfl
  | succ n ih =>
    simp only [State.memReadN, ih _ _ (show k + 1 + n ≤ 0o50000000 by omega), State.memRead_fst,
      State.rdMem_memRead s (memOf_lt (show k < 0o50000000 by omega)), List.range_succ_eq_map, List.map_cons, List.map_map]
    simp [Function.comp_def, Nat.add_assoc, Nat.add_comm 1]

/-- The bytes of shared RAM from a word on are those of the words that stand there. -/
theorem State.ramBytes_fst (s : State) (k n : Nat) (h : k + (n + 1) / 2 ≤ 0o50000000) :
    (s.ramBytes k n).1 = (((List.range ((n + 1) / 2)).map fun i => s.rdMem (k + i)).flatMap wordBytes).take n := by
  simp only [State.ramBytes, State.memReadN_fst s k _ h]

/-- The bytes do not depend on the registers. -/
theorem State.ramBytes_congr {s t : State} (hm : s.mem = t.mem) (he : s.memEpoch = t.memEpoch) (hf : s.freeCtr = t.freeCtr)
    (k n : Nat) (h : k + (n + 1) / 2 ≤ 0o50000000) : (s.ramBytes k n).1 = (t.ramBytes k n).1 := by
  simp only [State.ramBytes_fst _ k n h, State.rdMem_congr hm he hf]

end Sys2Proof.Machine
end

