-- ==== Sys2Proof/WellFormed.lean ====
section
/-! DEFINITION. Which commands are well formed. The operands carry their bounds in their types; what is left are the
lengths of the lists that a command brings from outside. -/

namespace Sys2Proof

/-- A command is well formed when the lists it carries have the lengths the spec gives them: sixteen stream stamps at a
frame boundary (05 R155, 02 R77), 160 taps of a Hairline calibration (07 R238), 1 to 64 words of an SPI write frame (12
R406), at most 196 payload bytes of an Iluhi frame (12 R408). -/
def Instr.wf : Instr → Bool
  | .frameBoundary st => st.length == 16
  | .hairlineCalDone ts => ts.length == 160
  | .spiWriteFrame _ _ ws _ => decide (1 ≤ ws.length) && decide (ws.length ≤ 64)
  | .spiPartialFrame _ _ _ ws => decide (ws.length ≤ 64)
  | .spiClockIdleTimeout _ _ _ ws => decide (ws.length ≤ 64)
  | .iluhiRead _ _ pl => decide (pl.length ≤ 196)
  | .iluhiWrite _ _ pl => decide (pl.length ≤ 196)
  | .iluhiPing _ _ pl => decide (pl.length ≤ 196)
  | .iluhiUnknownType _ _ _ pl => decide (pl.length ≤ 196)
  | _ => true

end Sys2Proof
end

