-- ==== Sys2Proof/Tests/Slice0.lean ====
section
/-! SUPPORT. Tests: ill-formed commands are refused by their check; results worked out by hand from the spec's rules; and, for every
statement with hypotheses, states and operands that meet the hypotheses of each of its clauses together. -/

namespace Sys2Proof.Tests

open Sys2Proof.Machine

set_option maxRecDepth 20000

/-! ### States and checks that the tests share -/

/-- Every domain is on and the boot has ended. -/
def up : State := ({ State.reset with pwr := { State.reset.pwr with dom := Vector.replicate 16 2 } }).setB (pg 14 3) 5 false

/-- Register words are given values. -/
def rg (s : State) (l : List (Nat × Nat)) : State := l.foldl (fun s e => s.setReg e.1 (wordOf e.2)) s

/-- Memory words are given values. -/
def mm (s : State) (l : List (Nat × Nat)) : State := l.foldl (fun s e => s.wrMem e.1 (wordOf e.2)) s

/-- The checks of `State.Clear`, as one Bool. -/
def clear (s : State) (w : Writer) (p wd : Nat) (v : Word) : Bool :=
  s.writerLive w && s.domOn (homeDomain p) && s.permitted w p wd && !s.lockedOut w p wd && !s.bootRefuses w p && inRange (kindOf p) wd v

theorem clear_iff (s : State) (w : Writer) (p wd : Nat) (v : Word) : clear s w p wd v = true ↔ s.Clear w p wd v := by
  constructor
  · intro h
    simp only [clear, Bool.and_eq_true, Bool.not_eq_true'] at h
    obtain ⟨⟨⟨⟨⟨a, b⟩, c⟩, d⟩, e⟩, f⟩ := h
    exact ⟨a, b, c, d, e, f⟩
  · rintro ⟨a, b, c, d, e, f⟩
    simp [clear, a, b, c, d, e, f]

/-- Core 0 as a writer: no mask stands in its way. -/
def vc0 : Writer := .core 0

/-- A command is answered by a next state. -/
def isNext (o : Host.Outcome State Fault Refusal) : Bool :=
  match o with
  | .next _ => true
  | _ => false

/-- RST_N is low. -/
def held : State := { up with pins := { up.pins with rstN := false } }

/-- The part is strapped DUAL. -/
def dual : State := { up with pins := { up.pins with persona := .dual } }

/-! ### Ill-formed commands -/

theorem test_wf_frame_boundary : Instr.wf (.frameBoundary []) = false ∧ Instr.wf (.frameBoundary (List.replicate 17 0)) = false
    ∧ Instr.wf (.frameBoundary (List.replicate 16 0)) = true := by decide

theorem test_wf_hairline : Instr.wf (.hairlineCalDone (List.replicate 159 0)) = false
    ∧ Instr.wf (.hairlineCalDone (List.replicate 160 0)) = true := by decide

theorem test_wf_spi_write : Instr.wf (.spiWriteFrame 0 0 [] 0) = false ∧ Instr.wf (.spiWriteFrame 0 0 (List.replicate 65 0) 0) = false
    ∧ Instr.wf (.spiWriteFrame 0 0 (List.replicate 64 0) 0) = true := by decide

theorem test_wf_spi_ended_early : Instr.wf (.spiPartialFrame 0 true 0 (List.replicate 65 0)) = false
    ∧ Instr.wf (.spiClockIdleTimeout 0 true 0 (List.replicate 65 0)) = false ∧ Instr.wf (.spiPartialFrame 0 true 0 []) = true := by decide

theorem test_wf_iluhi : Instr.wf (.iluhiRead 0 0 (List.replicate 197 0)) = false
    ∧ Instr.wf (.iluhiWrite 0 0 (List.replicate 197 0)) = false ∧ Instr.wf (.iluhiPing 0 0 (List.replicate 197 0)) = false
    ∧ Instr.wf (.iluhiUnknownType 0 0 0 (List.replicate 197 0)) = false
    ∧ Instr.wf (.iluhiRead 0 0 (List.replicate 196 0)) = true := by decide

/-! ### Values that the spec works out -/

/-- Page 30 begins at 0o70074000 (00 R10), and CH100 word 0 of its channel page lies at 0o72310000 + 0o100 (04). -/
theorem test_page_address : pageAddr 30 0 = 0o70074000 ∧ pageAddr 30 23 = 0o70074027 := by decide

/-- Word 0o1234 of VC2 data memory lies at 0o45001234 in the alias and at 0o01001234 for VC2 (01 R33, example). -/
theorem test_core_window : localKey (.core 2) 0o01001234 = 0o45001234 ∧ localKey (.ses 0) 0o01001234 = 0o01001234 := by decide

/-- The chips 1011001110001111 make the word 0o731617; a word with one bit flipped fails its parity (03 R102, example). -/
theorem test_code_word_parity : exmpParity 0o731617 = true ∧ exmpParity 0o731616 = false ∧ exmpParity 0o331617 = false := by decide

/-- FK 1717984361 gives FKLIM 1718843353 (05, example of closure timing). -/
theorem test_fklim : fklimOf 1717984361 = 1718843353 := by decide

/-- The pointer example of 08: BS3 = 0o01000400, LN3 = 100, P3 = 0o01000542, K1 = 5, K2 = -7. -/
def ptr : Core :=
  { Core.reset with bs := Core.reset.bs.set 3 (BitVec.ofNat 24 0o01000400), ln := Core.reset.ln.set 3 100,
                    p := Core.reset.p.set 3 (BitVec.ofNat 24 0o01000542), k := (Core.reset.k.set 1 5).set 2 (0 - 7), pg := 0o340 }

/-- The rows of that example: the first address is P3 and leaves 0o01000403, then K2 leaves 0o01000540, then DISP 10 gives 0o01000406. -/
theorem test_pointer_modification : ptr.a1 (3 * 2 ^ 17 + 3 * 2 ^ 14 + 1 * 2 ^ 11) = (0o01000542, [(0o43, 0o01000403, 1)])
    ∧ ptr.ptrSum 3 (5 - 7) = 0o01000540 ∧ ptr.ptrSum 3 (5 - 7 + 10) = 0o01000406 ∧ ptr.a2 0o074027 = 0o70074027 := by decide

/-- The CRC-16 of the ASCII bytes "123456789" is 0x906E (12 R410). -/
theorem test_crc16_check_value : crc16 [0x31, 0x32, 0x33, 0x34, 0x35, 0x36, 0x37, 0x38, 0x39] = 0x906E := by decide

/-- The CRC-32 of the ASCII bytes "123456789" is 0xCBF43926 (15 R492). -/
theorem test_crc32_check_value : crc32 [0x31, 0x32, 0x33, 0x34, 0x35, 0x36, 0x37, 0x38, 0x39] = 0xCBF43926 := by decide

/-- The RXT rebuilt after a sleep of 600 s, case A of the example of 07: crystal throughout. -/
def slept : State :=
  let s := rg up [(pg 16 3, 1), (pg 16 45, 1000), (pg 16 51, 50000), (pg 16 58, 5000000000000 / 2 ^ 36),
    (pg 16 59, 5000000000000 / 2 ^ 18 % 2 ^ 18), (pg 16 60, 5000000000000 % 2 ^ 18)]
  { s with time := { s.time with on := false, kept := true, n1 := 19660800, calp := 2000002744 } }

/-- RXT_w is 5600000823200 ns there. -/
theorem test_rebuilt_rxt : slept.rebuiltRxt = 5600000823200 * 65536 := by decide

/-- Case B: N1 = 13107200 up to the switch, then 6389776 ticks of the RC source. -/
theorem test_rebuilt_rxt_after_switch :
    (let s := rg slept [(pg 16 48, 5128192 / 2 ^ 18), (pg 16 49, 5128192 % 2 ^ 18)]
     let t : State := { s with time := { s.time with n1 := 13107200, n2 := 6389776, rcp := 2051276800, rtcSrc := true, slSwitched := true } }
     t.rebuiltRxt = 5600000537600 * 65536) := by decide

/-! ### Results worked out by hand from the tables of 09 and the rules of the pages -/

/-- ADD of the greatest positive word and 1: N and V, no carry (09 R307, R318). -/
theorem test_add_overflow : aluAdd 0o377777 1 0 = (0o400000, 9) ∧ aluAdd 0o777777 1 0 = (0, 6) := by decide

/-- ROL by 19 rotates by one place; the bit that comes round is the carry (09 R320). -/
theorem test_rotate : aluRol 0o400000 19 = (1, 2) ∧ aluRol 0o400000 18 = (0o400000, 8) := by decide

/-- A division by zero gives the greatest quotient and leaves the dividend as the remainder (09 R322). -/
theorem test_division_by_zero : (aluDiv false 5 0).1 = 0o777777 ∧ (aluDiv true 0o777777 0).1 = 0o400001 := by decide

/-- A W1C word: 1 clears, 0 leaves (00 R12). -/
theorem test_w1c : ((rg up [(pg 1 4, 7)]).plain vc0 1 4 5).reg (pg 1 4) = 2 := by decide

theorem test_hyps_StepRunsFrontCommand : ([
  (up.pending == []) &&
  (let s : State := { up with time := { up.time with on := true }, pwr := { up.pwr with dom := up.pwr.dom.set 1 0 } };
      s.time.on && !s.rtcRuns && decide (s.time.ns + 1 < rxtMod)),
  ({ up with pending := [.xtalOk] } : State).pending == [.xtalOk]] : List Bool).all id = true := by decide

theorem test_hyps_StepKeepsTables : ([
  regsWf up.regs && Store.wf up.mem && isNext (step up)] : List Bool).all id = true := by decide

theorem test_hyps_PersonaHolds : ([
  !held.pins.rstN, up.pins.rstN, isNext (step { up with pending := [.rstNRelease 1 0] }),
      isNext (step { held with pending := [.brownOut] })] : List Bool).all id = true := by decide

theorem test_hyps_OtpBitsNeverClear : ([
  (let s : State := { up with upd := { up.upd with otp := [(8, 128)] } }; isNext (step s) && (s.otpRow 8).getLsbD 7)] : List Bool).all id = true := by decide

theorem test_hyps_WriteChecksInOrder : ([
  up.writerLive (.ses 0) && !up.windowOnly 0, (up.windowWord (.ses 0) 0).isNone && (regionOf 0).isNone,
  (0x1FFFFFF % 2 ^ 24 : Nat) == 16777215 && pageAddr 1023 1023 == 15728639 && decide (pageAddr 1023 1023 < 2 ^ 24),
  !held.writerLive (.ses 7)] : List Bool).all id = true := by decide

theorem test_hyps_RefusedWritesAreRecorded : ([
  Store.wf up.regs && up.fld (pg 0 6) 3 0 == 0 && up.fld (pg 45 6) 3 0 == 0 && up.fld (pg 5 34) 3 0 == 0,
  (let s := rg up [(pg 1023 6, 15), (pg 48 6, 1), (pg 5 146, 13)]; Store.wf s.regs && s.fld (pg 1023 6) 3 0 != 0 &&
      s.fld (pg 48 6) 3 0 != 0 && s.fld (pg 5 (34 + 16 * 7)) 3 0 != 0)] : List Bool).all id = true := by decide

theorem test_hyps_ErrClearsTogether : ([
  (let s := rg up [(pg 13 6, 5)]; Store.wf s.regs && clear s vc0 13 6 13 && !s.serClosed 3 && (s.fld (pg 13 6) 3 0 &&&
      fieldOf 13 3 0) == s.fld (pg 13 6) 3 0 && (s.reg (pg 13 6) &&& 0o17) == s.reg (pg 13 6)),
  (let s := rg up [(pg 1023 6, 5)]; Store.wf s.regs && clear s (.ses 0) 1023 6 1 && (s.fld (pg 1023 6) 3 0 &&&
      fieldOf 1 3 0) != s.fld (pg 1023 6) 3 0)] : List Bool).all id = true := by decide

theorem test_hyps_PlainWritesFollowTheAccessCodes : ([
  Store.wf up.regs && (wordInfo (kindOf 28) 43).rw.testBit 17 && !(wordInfo (kindOf 28) 43).w1c.testBit 17,
  !(wordInfo (kindOf 28) 4).rw.testBit 0 && (wordInfo (kindOf 28) 4).w1c.testBit 0,
  !(wordInfo (kindOf 28) 3).rw.testBit 17 && !(wordInfo (kindOf 28) 3).w1c.testBit 17] : List Bool).all id = true := by decide

theorem test_hyps_AddressedCommandsRun : ([
  up.writerLive (.ses 0) && !up.windowOnly 0 && up.domOn 2 && up.memRefusal (.ses 0) 13 2 (shramBase + 524287) == 0,
  clear up vc0 9 17 1023,
  (let s := rg up [(pg 5 (32 + 16 * 7), 131072), (pg 5 (33 + 16 * 7), 65535)]; !s.windowOnly 7 && clear s (.ses 7) 50 8 8 &&
      clear s (.ses 7) 50 8 0 && !s.bit (pg 50 8) 3 && clear s (.ses 7) 13 8 8 && !s.serClosed 3),
  (let s := rg up [(pg 50 8, 8)]; !s.windowOnly 0 && clear s (.ses 0) 50 8 0 && clear s (.ses 0) 50 8 8 &&
      s.bit (pg 50 8) 3 && s.fld (pg 50 8) 2 0 == 0),
  (let s := rg up [(pg 0 8, 15)]; clear s (.ses 0) 0 8 0 && s.bit (pg 0 8) 3 && (0 : Nat) == s.supv),
  (let s := rg up [(pg 0 8, 8), (pg 5 (32 + 16 * 7), 131072), (pg 5 (33 + 16 * 7), 65535)]; clear s (.ses 7) 0 8 0 &&
      s.bit (pg 0 8) 3 && s.fld (pg 0 8) 2 0 != 7 && (7 : Nat) != s.supv),
  clear up vc0 1023 8 8 && clear up .tap 0 8 0, clear dual vc0 20 8 8 && dual.legacyHeld && clear dual vc0 10 8 0 &&
      dual.serClosed 0,
  (let s := rg up [(updKey 16, 131072 + 3)]; s.holdsLock (.ses 3) && clear s (.ses 0) 14 8 8),
  decide (2 ≤ up.tapRights),
  (let s : State := { up with upd := { up.upd with otp := [(9, 0x00ff)] } }; decide (s.tapRights < 2))] : List Bool).all id = true := by decide

theorem test_hyps_FeedCtrlCommandsRun : ([
  clear dual vc0 20 2 (forceBit 0 0 true) && dual.legacyHeld && !bitOf (forceBit 0 0 false) 0,
  (let s := rg up [(smapKey 15, 131072 + 15)]; clear s vc0 27 2 (forceBit 1 0 false) && s.maps 15 7),
  (let u := forceBit 1 2 true; clear up vc0 27 2 u && bitOf u 2 && up.lane 7 != 4),
      clear up vc0 20 2 (forceBit 1 0 false) && !up.legacyHeld && (List.range 16).all (fun n => !up.maps n 0),
  (let u := forceBit 0 0 true; clear up vc0 27 2 u && bitOf u 0 && !up.clockOk 7 (up.fmt 7) (up.reg (fdKey 7 17)).toNat),
  (let s := rg up [(fdKey 7 17, 4000)]; let u := forceBit 0 0 true; clear s vc0 27 2 u &&
      s.clockOk 7 (s.fmt 7) (s.reg (fdKey 7 17)).toNat && !bitOf u 1 && !bitOf u 2),
  (let s := rg up [(fdKey 0 17, 4000)]; let u := forceBit 1 1 true; clear s vc0 20 2 u && !s.legacyHeld &&
      s.clockOk 0 (s.fmt 0) (s.reg (fdKey 0 17)).toNat && bitOf u 0 && bitOf u 1),
  (let s := rg up [(fdKey 7 17, 4000), (fdKey 7 3, 4)]; let u := forceBit 1 2 true; clear s vc0 27 2 u &&
      s.clockOk 7 (s.fmt 7) (s.reg (fdKey 7 17)).toNat && bitOf u 0 && s.lane 7 == 4)] : List Bool).all id = true := by decide

theorem test_hyps_LaneEventsRun : ([
  (rg up [(fdKey 0 3, 1)]).lane 0 == 1, up.lane 7 == 0, (rg up [(fdKey 7 3, 2)]).lane 7 == 2 &&
      chooseStep (BitVec.allOnes 64) == some 32 && chooseStep 0x7F == none && (chooseStep 0xFF).isSome,
  (let s := (rg up [(fdKey 7 3, 3)]).setFeed 7 { Feed.reset with wordCnt := 64 }; s.lane 7 == 3 && !(s.feed 7).confirming &&
      decide (64 ≤ (s.feed 7).wordCnt)),
  (let s := (rg up [(fdKey 7 3, 3)]).setFeed 7 { Feed.reset with wordCnt := 63 }; s.lane 7 == 3 &&
      decide ((s.feed 7).wordCnt < 64)),
  (let s := (rg up [(fdKey 7 3, 3)]).setFeed 7 { Feed.reset with wordCnt := 1024, confirming := true }; s.lane 7 == 3 &&
  (s.feed 7).confirming && decide (1024 ≤ (s.feed 7).wordCnt)),
  (let s := (rg up [(fdKey 7 3, 3)]).setFeed 7 { Feed.reset with wordCnt := 1023, confirming := true }; s.lane 7 == 3 &&
      decide ((s.feed 7).wordCnt < 1024)),
  ((up.setFeed 0 { Feed.reset with timerOn := true }).feed 0).timerOn && !(up.feed 7).timerOn,
  (let s := rg up [(fdKey 6 3, 5), (fdKey 7 3, 1)]; decide (2 ≤ s.lane 6 ∧ s.lane 6 ≤ 5) && s.lane 7 == 1),
  (let s := (rg up [(fdKey 0 3, 3)]); s.lane 0 == 3 && !(s.feed 0).confirming && (s.feed 0).rotCand &&&
      matchRot (trainPattern (s.fmt 0)) 0 == 0 && (s.feed 0).rotCand &&& matchRot (trainPattern (s.fmt 0)) 0x5C != 0),
  (let s := (rg up [(fdKey 0 3, 3)]).setFeed 0 { Feed.reset with confirming := true }; s.lane 0 == 3 &&
  (s.feed 0).confirming && trainPattern (s.fmt 0) == 0xB8),
  (let s := (rg up [(fdKey 0 3, 4)]).setFeed 0 { Feed.reset with goArmed := true }; s.lane 0 == 4 && (s.feed 0).goArmed &&
      trainPattern (s.fmt 0) != 0),
  (let s := (rg up [(fdKey 0 3, 4)]); s.lane 0 == 4 && !(s.feed 0).goArmed && trainPattern (s.fmt 0) != 0),
  (rg up [(fdKey 0 3, 5)]).lane 0 == 5, (rg up [(fdKey 7 3, 7)]).lane 7 == 7] : List Bool).all id = true := by decide

theorem test_hyps_FeedLoopsRun : ([
  (let s := (rg up [(fdKey 7 32,
      131072)]).setFeed 7 { Feed.reset with notch := Vector.replicate 4 { Notch.reset with n := 1 } };
      decide (2 ≤ s.fld (fdKey 7 (23 + 3 * 3)) 17 16) &&
      decide (2 ^ s.fld (fdKey 7 (23 + 3 * 3)) 7 4 ≤ ((s.feed 7).notch[3]).n)),
  (let s := rg up [(fdKey 7 32, 131072)]; decide (((s.feed 7).notch[3]).n < 2 ^ s.fld (fdKey 7 (23 + 3 * 3)) 7 4)),
      decide (up.fld (fdKey 0 23) 17 16 < 2),
  (let s := (rg up [(fdKey 0 35, 131072)]); s.bit (fdKey 0 35) 17 && !(s.feed 0).blkStop && !isReal (s.fmt 0) &&
      decide (s.fld (fdKey 0 36) 17 10 * (s.reg (fdKey 0 17)).toNat ≤ (s.feed 0).blkHits * 256)),
  (let s := (rg up [(fdKey 0 35, 131072), (fdKey 0 36, 1024), (fdKey 0 17, 1)]);
      decide ((s.feed 0).blkHits * 256 < s.fld (fdKey 0 36) 17 10 * (s.reg (fdKey 0 17)).toNat)), !up.bit (fdKey 7 35) 17,
  clear up vc0 20 39 0 && clear up vc0 27 43 262143 && !up.legacyHeld, clear dual vc0 20 39 1 && clear dual vc0 20 43 1 &&
      dual.legacyHeld, (rg up [(pg 28 2, 1)]).bit (pg 28 2) 0,
  (let s := rg up [(fdKey 7 46, 131072 + 16), (fdKey 7 48, 1), (fdKey 7 49, 0), (fdKey 7 47, 4), (fdKey 7 50, 5)];
      s.fld (fdKey 7 46) 17 16 == 2 && (s.feed 7).agcTotal == 0 &&
      decide (s.fld (fdKey 7 46) 3 0 < (s.reg (fdKey 7 48)).toNat) && !s.bit (fdKey 7 46) 15 &&
      decide (s.fld (fdKey 7 49) 9 0 ≤ s.fld (fdKey 7 47) 9 0) &&
      decide (s.fld (fdKey 7 47) 9 0 + s.fld (fdKey 7 46) 8 4 ≤ s.fld (fdKey 7 50) 9 0)),
  up.fld (fdKey 0 46) 17 16 != 2] : List Bool).all id = true := by decide

theorem test_hyps_StreamAndRfCommandsRun : ([
  clear dual vc0 28 16 (forceBit 0 17 true) && dual.legacyHeld,
  (let s := rg up [(smapKey 15, 131072 + 14), (pg 41 32, 15 * 16384), (pg 41 3, 8)];
      clear s vc0 28 31 (forceBit 14 17 false) && s.bit (smapKey 15) 17 && s.streamUsed 15),
  (let s := rg up [(smapKey 15, 131072)]; let u := forceBit 15 17 true; clear s vc0 28 31 u && s.bit (smapKey 15) 17 &&
      fieldOf u 3 1 != s.fld (smapKey 15) 3 1 && fieldOf u 0 0 != s.fld (smapKey 15) 0 0),
  (let s := rg up [(smapKey 0, 131072)]; let u := forceBit 131072 17 false; clear s vc0 28 16 u && !s.legacyHeld &&
      s.bit (smapKey 0) 17 && !s.streamUsed 0 && fieldOf u 3 1 == s.fld (smapKey 0) 3 1 &&
      fieldOf u 0 0 == s.fld (smapKey 0) 0 0 && clear s vc0 28 16 (forceBit 0 17 true)),
  clear up vc0 28 31 (forceBit 131072 17 false) && !up.bit (smapKey 15) 17,
  (let s := rg up [(smapKey 0, 131072)]; clear s vc0 28 31 (forceBit 0 17 true) && s.mapsPath 0 0 0),
  (let s := rg up [(pg 28 33, 65537)]; clear s vc0 28 16 (forceBit 0 17 true) &&
      decide (65536 < (s.reg (pg 28 33)).toNat + s.unitsOf 0 0)),
  (let u := forceBit 14 17 true; clear up vc0 28 31 u && !up.bit (smapKey 15) 17 &&
  (List.range 16).all (fun m => m == 15 || !up.mapsPath m (fieldOf u 3 1) (fieldOf u 0 0)) &&
      decide ((up.reg (pg 28 33)).toNat + up.unitsOf (fieldOf u 3 1) (fieldOf u 0 0) ≤ 65536)),
  clear up vc0 28 2 (forceBit 0 1 true) && !up.bit (pg 28 3) 0,
  (let s := rg up [(pg 28 3, 1)]; clear s vc0 28 2 (forceBit 0 1 true) && s.bit (pg 28 3) 0), ({ up with rf := ⟨true, none, 0, []⟩ } : State).rf.waiting,
      !up.rf.waiting && !up.bit (pg 28 3) 0,
  (let s := rg up [(pg 28 3, 1), (pg 28 43, 63)]; s.bit (pg 28 3) 0 && !s.rf.waiting && s.fld (pg 28 43) 5 0 == 63),
  (let s := (rg up [(spcKey 7, 131072)]).setFeed 7 { Feed.reset with spec := { SpecMon.reset with done := some (0, []) } };
      s.bit (spcKey 7) 17 && (s.feed 7).spec.done == some (0, []) && !s.prodIs (s.fld (spcKey 7 + 1) 5 0) 13 && s.domOn 2),
  (let s := (rg up [(spcKey 7, 131072), (spcKey 7 + 1, 63), (ringKey 63 0,
      131072 + 5 * 8192 + 13 * 256)]).setFeed 7 { Feed.reset with spec := { SpecMon.reset with done := some (0, []) } };
      s.bit (spcKey 7) 17 && (s.feed 7).spec.done.isSome && s.prodIs (s.fld (spcKey 7 + 1) 5 0) 13 &&
      decide (1032 ≤ s.ringRoom 63) && s.domOn 2),
  (let s : State := { up with pwr := { up.pwr with dom := up.pwr.dom.set 2 0 } }; !s.domOn 2),
  (up.feed 0).spec.done == none && !up.bit (spcKey 0) 17] : List Bool).all id = true := by decide

theorem test_hyps_RfspiWaitsForTheTransfer : ([
  (let s := rg up [(pg 28 3, 1)]; s.bit (pg 28 3) 0 && clear s vc0 28 2 2 && bitOf 2 1 && clear s vc0 28 48 0 &&
      clear s vc0 28 43 463)] : List Bool).all id = true := by decide

/-- Channel c is set up for a code of 1023 chips on stream 0 of 4000 kSa/s, dumping to ring 63. -/
def admOf (s : State) (c : Nat) : State :=
  mm (rg s [(lpKey 0 0, 131072), (lpKey 0 10, 1023), (smapKey 0, 131072), (fdKey 0 17, 4000), (ringKey 63 0, 131072 + 5 * 8192 + 12 * 256)])
    ([(ctxKey c 0, 0), (ctxKey c 1, 2048 + 63), (ctxKey c 2, 0), (ctxKey c 6, 33521), (ctxKey c 7, 0)]
      ++ (List.range 9).map fun k => (ctxKey c (16 + k), 0))

/-- Channel 511 is set up so. -/
def adm : State := admOf up 511

/-- The state asks for the admission of channel c. -/
def asks (s : State) (c : Nat) : State := { rg s [(chKey c 3, 1)] with duct := { s.duct with admQ := [c] } }

/-- The domain d is off. -/
def off (s : State) (d : Fin 16) : State := { s with pwr := { s.pwr with dom := s.pwr.dom.set d.val 0 } }

/-- A job of JR7 on pipeline 1. -/
def aJob (p : JobPhase) (ab : Bool) (l : List Word) : Job :=
  { jr := 7, desc := [], pipes := [1], phase := p, outcome := 0, abort := ab, lo := 0, hi := 0, plen := 0, replica := [], inv := false
    fiN := 0, fiD := 0, rxt0 := 0, record := l }

theorem test_hyps_CodeCommandsRun : ([
  (let s := rg up [(lpKey 31 10, 1), (lpKey 31 2, 1)]; let u := forceBit (32768 + 65) 17 true;
      clear s vc0 39 (32 + 12 * 31) u && !s.legacyDual && !s.lpValid 31 &&
      s.programOk 31 (fieldOf u 16 15) (fieldOf u 11 6) (fieldOf u 5 0)),
  (let s := rg up [(lpKey 0 0, 131072)]; let u := forceBit 131072 17 false; clear s vc0 39 32 u && !s.legacyDual &&
      s.lpValid 0 && s.puse 0 == 0),
  (let s := rg up [(rdKey 63 3, 256), (rdKey 63 2, 1), (rdKey 63 1, 32767)]; let u := forceBit 0 17 true;
      let len := fieldOf u 15 12 * 262144 + (s.reg (rdKey 63 3)).toNat; let st := s.fld (rdKey 63 2) 14 0;
      clear s vc0 39 (416 + 4 * 63) u && !s.rdValid 63 &&
      decide (1 ≤ len ∧ len ≤ st * 256 ∧ s.fld (rdKey 63 1) 14 0 + (fieldOf u 7 0 + 1) * st ≤ 32768)),
  (let s := rg up [(rdKey 0 0, 131072)]; let u := forceBit 131072 17 false; clear s vc0 39 416 u && s.rdValid 0 &&
      s.ruse 0 == 0),
  (let s := rg up [(pg 39 (736 + 31), 1), (pg 39 (672 + 63), 1)]; clear s vc0 39 (32 + 12 * 31) (forceBit 0 17 false) &&
      decide (0 < s.puse 31) && clear s vc0 39 (416 + 4 * 63) (forceBit 0 17 false) && decide (0 < s.ruse 63)),
  (let s := rg up [(rdKey 0 0, 131072), (rdKey 63 0, 131072), (pg 39 16, 63)]; let o := s.fld (pg 39 16) 11 6;
      let n := s.fld (pg 39 16) 5 0; clear s vc0 39 2 (forceBit 0 0 true) && !s.bit (pg 39 3) 0 && s.rdValid o &&
      s.rdValid n && s.bit (rdKey o 0) 16 == s.bit (rdKey n 0) 16 && s.rdLen o == s.rdLen n && s.rdCount o == s.rdCount n &&
      o != n),
  clear up vc0 39 24 262143, up.writerLive vc0 && up.domOn 10 && up.memRefusal vc0 15 10 (exmpBase + 524287) == 0 &&
      !up.exmpInUse 524287 && exmpParity 65537] : List Bool).all id = true := by decide

theorem test_hyps_ChannelCommandsRun : ([
  clear adm vc0 1023 2 1 && !adm.isLegacy 511 && !adm.bit (chKey 511 16) 17 && adm.chState 511 == 0 &&
      !adm.bit (chKey 511 3) 0 && !adm.namesOld 511 && adm.admissionOk 511,
  (let s := rg up [(chKey 0 16, 5)]; clear s vc0 512 2 2 && !s.isLegacy 0 && !s.bit (chKey 0 16) 17 && s.chState 0 != 0 &&
      !s.bit (chKey 0 3) 0),
  (let s := rg up [(chKey 0 16, 2)]; clear s vc0 512 2 4 && s.chState 0 == 2),
  (let s := rg up [(chKey 0 16, 3)]; clear s vc0 512 2 8 && s.chState 0 == 3 && clear s vc0 512 2 1 && s.chState 0 != 4),
  clear up vc0 1023 2 2 && clear up vc0 1023 2 4 && clear up vc0 1023 2 8 && !up.isLegacy 511 &&
      !up.bit (chKey 511 16) 17 && up.chState 511 == 0] : List Bool).all id = true := by decide

theorem test_hyps_ContextCommandsRun : ([
  clear up vc0 1023 127 262143 && !up.lost (ctxKey 511 63) && up.ctxRefusal 511 63 == 0 && up.ctxRefusal 511 0 == 0,
  up.writerLive vc0 && up.domOn 10 && up.memRefusal vc0 15 10 (ctxKey 511 63) == 0 && !up.lockedOut vc0 1023 127,
  (let s := rg adm [(chKey 511 16, 3), (chKey 511 33, 1022)]; let u := forceBit 0 17 true; clear s vc0 1023 38 u &&
      !s.isLegacy 511 && !s.bit (chKey 511 16) 17 && holdsSlots (s.chState 511) && !s.bit (chKey 511 3) 1 &&
      decide (s.chPage2 511 32 < s.primary 511) && decide (fieldOf u 4 0 < s.imul 511) && s.primary 511 == 1023),
  (let s := (rg adm [(chKey 511 16, 3), (chKey 511 33, 1022)]).setChan 511 { Chan.reset with fklim := 2 ^ 35 };
      decide (s.fk 511 ≤ (s.chan 511).fklim)),
  (let s := rg up [(chKey 511 16, 3)]; clear s vc0 1023 30 1 && !s.isLegacy 511 && !s.bit (chKey 511 16) 17 &&
      correlates (s.chState 511) && fieldOf 1 3 0 != 0 && !(fieldOf 1 3 0).testBit 1),
  isNext (up.setCtx 0 0 0 |> execContextWrite vc0 true 0 0 0)] : List Bool).all id = true := by decide

theorem test_hyps_DuctusCommandsRun : ([
  (let s := asks (rg adm [(pg 31 3, 1)]) 511; let s0 := s.dequeue 511 [];
      let d := max (s.dRate 511) ((s.dClose 511 (fklimOf (s.fk 511)) s.winNow).getD 0); s.duct.admQ == [511] &&
      s.domOn 10 && !s0.namesOld 511 && s0.admissionOk 511 && !s.isLegacy 511 && (s0.choose d).1 == 0),
  (let s := asks adm 511; let s0 := s.dequeue 511 [];
      let d := max (s.dRate 511) ((s.dClose 511 (fklimOf (s.fk 511)) s.winNow).getD 0); s.duct.admQ == [511] &&
      s.domOn 10 && !s0.namesOld 511 && s0.admissionOk 511 && !s.isLegacy 511 && (s0.choose d).1 != 0),
  (let s := asks (rg (admOf dual 47) [(pg 31 3, 1)]) 47; let s0 := s.dequeue 47 []; s.domOn 10 && !s0.namesOld 47 &&
      s0.admissionOk 47 && s.isLegacy 47 && s.rstate 0 == 1),
  (let s := asks (admOf dual 47) 47; let s0 := s.dequeue 47 []; s.domOn 10 && !s0.namesOld 47 && s0.admissionOk 47 &&
      s.isLegacy 47 && s.rstate 0 != 1),
  (let s := asks (mm adm [(ctxKey 511 1, 2048)]) 511; let s0 := s.dequeue 511 []; s.duct.admQ == [511] && s.domOn 10 &&
      !s0.admissionOk 511),
  up.duct.admQ == [] && !(off up 10).domOn 10, clear up vc0 30 16 100 && up.chansIn holdsSlots == [],
  (let s := (rg adm [(chKey 511 16, 2)]).setChan 511 { Chan.reset with d := 0, fklim := 2 ^ 35 }; clear s vc0 30 16 300 &&
  (s.chansIn holdsSlots).contains 511 && (s.dClose 511 (s.chan 511).fklim 300).all fun d => decide ((s.chan 511).d < d)),
  (let s := rg up [(pg 38 3, 1)]; clear s vc0 38 2 (forceBit 0 0 false) && s.rstate 7 == 1),
  (let s := rg up [(pg 38 3, 3)]; clear s vc0 38 2 (forceBit 0 0 false) && s.rstate 7 == 3),
  (let s := rg up [(pg 31 3, 0)]; clear s vc0 31 2 (forceBit 0 0 true) && s.rstate 0 == 0),
  (let s := rg up [(pg 31 3, 2)]; clear s vc0 31 2 (forceBit 0 0 true) && s.rstate 0 == 2),
  (let x : TabRow := ⟨511, 7, 2999, 1⟩; let s : State := { rg up [(pg 38 3, 1)] with duct := { up.duct with force := [x] } };
      s.rstate 7 == 1 && s.domOn (rankDomain 7) && s.domOn 10 && s.duct.force.find? (fun x => x.rank == 7 &&
  (x.bandOf 2999).isSome) == some x && x.bandOf 2999 == some 0)] : List Bool).all id = true := by decide

theorem test_hyps_InkwellCommandsRun : ([
  up.writerLive vc0 && up.domOn 9 && up.memRefusal vc0 14 9 (inkwBase + 4194303) == 0 && !up.captureHolds 4194303 &&
      !up.jobReads 4194303 4194304,
  (let s := rg up [(smapKey 0, 131072), (capKey 1 4, 16)]; let u := forceBit 0 1 true; clear s vc0 41 2 u &&
  (List.range 2).all fun k => s.capRefusal k (bitOf u k) (bitOf u (2 + k)) == 0 && (!bitOf u k || s.capRange k &&
      s.capConfig k (bitOf u 0 && bitOf u 1))),
  (let s := rg up [(pg 41 3, 8)]; let u := forceBit 0 3 true; clear s vc0 41 2 u &&
  (List.range 2).all fun k => s.capRefusal k (bitOf u k) (bitOf u (2 + k)) == 0 && !bitOf u k),
  (let s := rg up [(pg 41 3, 16), (capKey 1 4, 16)];
      let s := { s with caps := s.caps.set 1 { Capture.reset with written := s.capLen 1 } }; let t := State.captureAll s;
      t.cst 1 == 2 && (t.cap 1).written == t.capLen 1),
  (let s := rg up [(pg 41 3, 16), (capKey 1 4, 16)];
      let s := { s with caps := s.caps.set 1 { Capture.reset with stopReq := true } }; let t := State.captureAll s;
      t.cst 1 == 2 && (t.cap 1).stopReq && (t.cap 1).acc == []),
  (let s := rg up [(pg 41 3, 16), (capKey 1 4, 16)]; let t := State.captureAll s; t.cst 1 == 2 &&
  (t.cap 1).written != t.capLen 1 && !(t.cap 1).stopReq), (State.captureAll up).cst 1 != 2] : List Bool).all id = true := by decide

theorem test_hyps_ScriptoriumCommandsRun : ([
  clear up vc0 40 27 0 && !up.abBusy && up.scr.jobs == [] && !bitOf 0 17,
  (let s := rg up [(ringKey 0 0, 131072 + 14 * 8), (ringKey 63 0, 131072 + 14 * 256)]; let v : Word := 131072 + 63;
      clear s vc0 40 20 v && !s.abBusy && s.consIs (fieldOf v 11 6) 14 && s.prodIs (fieldOf v 5 0) 14 &&
  (List.range 8).all (fun j => !s.jrOn j)),
  clear up vc0 40 16 1 && up.pbusy == 0 && !up.jobQueued, up.writerLive vc0 && up.domOn 8 &&
      up.memRefusal vc0 14 8 (scrpBase + 1048575) == 0 && up.pbusy == 0,
  (let s := rg up [(pg 40 27, 131072), (pg 40 32, 7)]; let u := forceBit 0 2 true; clear s vc0 40 2 u && !bitOf u 1 &&
      !s.abBusy && s.jrOn (s.fld (pg 40 32) 2 0)),
  (let s := mm (rg adm [(pg 40 35, 511), (pg 40 42, 1)]) ((shramBase,
      128) :: (List.range 13).map fun i => (shramBase + 1 + i, 0)); let u := forceBit 0 1 true; clear s vc0 40 2 u &&
      !bitOf u 2 && s.hoRefusal != 0),
  (let s := (mm (rg adm [(chKey 511 16, 2), (pg 40 35, 511), (pg 40 42, 1)]) ((shramBase,
      128) :: (List.range 13).map fun i => (shramBase + 1 + i, 0))).setChan 511 { Chan.reset with fklim := 1 };
      let u := forceBit 0 1 true; clear s vc0 40 2 u && !bitOf u 2 && s.hoRefusal == 0),
  up.chosenJr == none,
  (let s := mm (rg up [(pg 40 2, 0), (pg 40 27, 131072 + 64 * 63), (ringKey 63 0, 131072 + 14 * 8), (ringKey 63 2,
      24)]) ([(shramBase, 131072)]); s.chosenJr == some 7 && !s.bit (pg 40 2) 0),
  (let s := mm (rg (off up 2) [(pg 40 2, 1), (pg 40 27, 131072 + 64 * 63), (ringKey 63 0, 131072 + 14 * 8), (ringKey 63 2,
      24)]) ([(shramBase, 131072)]); s.chosenJr == some 7 && s.bit (pg 40 2) 0 && s.domOn 8 && !s.domOn 2),
  (let s := mm (rg up [(pg 40 2, 1), (pg 40 3, 2), (pg 40 27, 131072 + 64 * 63), (ringKey 63 0, 131072 + 14 * 8),
  (ringKey 63 2, 24)]) ([(shramBase, 65536)]); let d := s.headDesc 7;
      let free := (List.range 2).filter (fun p => !s.bit (pg 40 3) p); s.chosenJr == some 7 && s.bit (pg 40 2) 0 &&
      s.domOn 8 && s.domOn 2 && bitOf (dw d 0) 16 && !bitOf (dw d 0) 17 && decide (free.length < 2)),
  (let s := mm (rg up [(pg 40 2, 1), (pg 40 3, 3), (pg 40 27, 131072 + 64 * 63), (ringKey 63 0, 131072 + 14 * 8),
  (ringKey 63 2, 24)]) ([(shramBase, 131072)]); let d := s.headDesc 7;
      let free := (List.range 2).filter (fun p => !s.bit (pg 40 3) p); s.chosenJr == some 7 && s.bit (pg 40 2) 0 &&
      s.domOn 8 && s.domOn 2 && bitOf (dw d 0) 17 && free == []),
  (let s := mm (rg up [(pg 40 2, 1), (pg 40 27, 131072 + 64 * 63), (ringKey 63 0, 131072 + 14 * 8), (ringKey 63 2,
      24)]) ([(shramBase, 131072)]); let d := s.headDesc 7; let free := (List.range 2).filter (fun p => !s.bit (pg 40 3) p);
      s.chosenJr == some 7 && s.bit (pg 40 2) 0 && s.domOn 8 && s.domOn 2 && bitOf (dw d 0) 17 && free == [0, 1]),
  (let s := mm (rg up [(pg 40 2, 1), (pg 40 27, 131072 + 64 * 63), (ringKey 63 0, 131072 + 14 * 8), (ringKey 63 2,
      24)]) ((List.range 24).map fun i => (shramBase + i, 0)); let d := s.headDesc 7;
      let free := (List.range 2).filter (fun p => !s.bit (pg 40 3) p); s.chosenJr == some 7 && s.bit (pg 40 2) 0 &&
      s.domOn 8 && s.domOn 2 && !bitOf (dw d 0) 17 && !bitOf (dw d 0) 16 && free == [0, 1] && s.dCheck d != 0),
  (let s := mm (rg (off up 9) [(pg 40 2, 1), (pg 40 27, 131072 + 64 * 63), (ringKey 63 0, 131072 + 14 * 8), (ringKey 63 2,
      24), (lpKey 0 0, 131072), (lpKey 0 10, 1023), (capKey 0 12, 131072), (capKey 0 7, 256)]) ([5120, 0, 0, 0, 0, 0, 0, 0,
      0, 131072, 0, 0, 0, 0, 0, 0, 0, 0, 0, 8192, 0, 0, 0, 0].zipIdx.map fun x => (shramBase + x.2, x.1));
      let d := s.headDesc 7; let free := (List.range 2).filter (fun p => !s.bit (pg 40 3) p); s.chosenJr == some 7 &&
      s.bit (pg 40 2) 0 && s.domOn 8 && s.domOn 2 && !s.domOn 9 && !bitOf (dw d 0) 17 && !bitOf (dw d 0) 16 && free == [0,
      1] && s.dCheck d == 0),
  (let s := mm (rg up [(pg 40 2, 1), (pg 40 27, 131072 + 64 * 63), (ringKey 63 0, 131072 + 14 * 8), (ringKey 63 2, 24),
  (lpKey 0 0, 131072), (lpKey 0 10, 1023), (capKey 0 12, 131072), (capKey 0 7, 256)]) ([5120, 0, 0, 0, 0, 0, 0, 0, 0,
      131072, 0, 0, 0, 0, 0, 0, 0, 0, 0, 8192, 0, 0, 0, 0].zipIdx.map fun x => (shramBase + x.2, x.1));
      let d := s.headDesc 7; let free := (List.range 2).filter (fun p => !s.bit (pg 40 3) p); s.chosenJr == some 7 &&
      s.bit (pg 40 2) 0 && s.domOn 8 && s.domOn 2 && s.domOn 9 && s.domOn 10 && !bitOf (dw d 0) 17 && !bitOf (dw d 0) 16 &&
      free == [0, 1] && s.dCheck d == 0 && !bitOf (dw d 2) 17),
  (let j : Job := aJob .running false []; let s : State := { rg up [(pg 40 3, 2)] with scr := { up.scr with jobs := [j] } };
      s.jobOn 1 == some j && !s.ramBad j),
  (let j : Job := aJob .running false []; let s : State := { up with scr := { up.scr with jobs := [j] }, blot := { up.blot with eccBad := [(scrpBase + 1048575, true)] } };
      s.jobOn 1 == some j && s.ramBad j),
  (let j : Job := aJob .waitRoom false [0]; let s : State := { rg up [(pg 40 27, 131072 + 63), (ringKey 63 0, 131072 + 14 * 256)] with scr := { up.scr with jobs := [j] } };
      s.domOn 2 && s.jobOn 1 == some j && s.prodIs (s.rring 7) 14 && decide (j.record.length ≤ s.ringRoom (s.rring 7))),
  (let j : Job := aJob .waitRoom false [0]; let s : State := { up with scr := { up.scr with jobs := [j] } }; s.domOn 2 &&
      s.jobOn 1 == some j && !s.prodIs (s.rring 7) 14 && (off s 2).jobOn 1 == some j && !(off s 2).domOn 2),
  (let j : Job := aJob .running true []; let s : State := { up with scr := { up.scr with jobs := [j] } };
      s.jobOn 1 == some j), up.jobOn 1 == none && !up.abBusy,
  (let s : State := { rg up [(pg 40 3, 8)] with scr := { up.scr with abCount := 16383 } }; s.abBusy &&
      decide (0 < s.scr.abCount)),
  (let s : State := { rg up [(pg 40 3, 8)] with scr := { up.scr with abBy := some (.ses 7) } }; s.abBusy &&
      s.scr.abCount == 0 && s.scr.abBy == some (.ses 7)), (rg up [(pg 40 3, 8)]).abBusy && up.scr.abCount == 0 &&
      up.scr.abBy == none] : List Bool).all id = true := by decide

/-- A grid of two hypotheses and two cells: the second peak lies outside the exclusion of the first. -/
theorem test_hyps_SearchPeaksAreTheLargestCells :
    takePeaks (512 :: List.replicate 18 0 ++ [8192]) 4 [(0, -1, 5), (1, -1, 3), (0, 0, 5), (1, 0, 4)] 3 [] = [(0, -1, 5), (0, 0, 5), (1, 0, 4)] := by
  decide

/-- The timebase runs at the last nanosecond but one before the wrap. -/
def late : State := { up with time := { up.time with on := true, ns := rxtMod - 2000000001 } }

/-- A measurement latch in progress whose record goes to ring 63 while the latch unit produces it. -/
def latching (src : Nat) (prod : Nat) (own lost : Bool) : State :=
  { rg up [(pg 19 19, 63), (ringKey 63 0, 131072 + prod * 256)] with
    meas := { up.meas with cur := some ⟨src, 0, 0, false, false, false, 0, own, lost⟩ } }

/-- Output 3 runs on RXT. -/
def pulsing (m : Nat) (s : State) : State := s.setTp 3 { TpSt.reset with cur := { TpSet.reset with mode := m } }

theorem test_hyps_TimeCommandsRun : ([
  late.time.on && decide (late.time.ns < rxtMod) && decide ((late.time.ns / 1000000000 + 1) * 1000000000 < rxtMod),
  (let s : State := { late with time := { late.time with ns := rxtMod - 1 } }; s.time.on &&
      decide (rxtMod ≤ (s.time.ns / 1000000000 + 1) * 1000000000)), !up.time.on,
  clear up vc0 16 2 (forceBit 0 0 true) && clear up vc0 16 2 (forceBit 0 1 true) && clear up vc0 16 2 (forceBit 0 2 true) &&
      clear up vc0 16 2 (forceBit 0 3 true) && clear up vc0 16 2 (forceBit 0 4 true),
  (rg late [(pg 16 3, 4)]).bit (pg 16 3) 2, !up.bit (pg 16 3) 2,
  (let s := rg up [(pg 16 42, 7247)]; clear s vc0 16 43 242432 && s.period 42 242432 == 1900000000),
  (let s := rg up [(pg 16 46, 9765)]; clear s vc0 16 47 163840 && s.period 46 163840 == 2560000000), up.time.on == false,
  (let s : State := { rg up [(pg 16 3, 1)] with time := { up.time with kept := true } }; !s.time.on && s.time.kept &&
      s.domOn 15 && s.bit (pg 16 3) 0)] : List Bool).all id = true := by decide

theorem test_hyps_MeasurementCommandsRun : ([
  (let s := rg up [(pg 19 16, 1), (pg 19 19, 63), (ringKey 63 0, 131072 + 15 * 256)]; let u := forceBit 0 1 true;
      clear s vc0 19 2 u && !bitOf u 0 && !s.bit (pg 19 2) 1 && decide (s.fld (pg 19 17) 9 0 < s.fld (pg 19 16) 9 0) &&
      s.prodIs s.lring 15),
  (let s := rg up [(pg 19 19, 63), (ringKey 63 0, 131072 + 15 * 256)]; let u := forceBit 0 0 true; clear s vc0 19 2 u &&
      !bitOf u 1 && s.prodIs s.lring 15 && s.latchFree s.rxt && !s.epochNow),
  (let u := forceBit 0 0 true; clear up vc0 19 2 u && up.latchFree up.rxt && !up.epochNow && !up.prodIs up.lring 15),
  (let s := rg up [(pg 19 16, 1), (pg 19 17, 1)]; let u := forceBit 0 1 true; clear s vc0 19 2 u && !bitOf u 0 &&
      decide (s.fld (pg 19 16) 9 0 ≤ s.fld (pg 19 17) 9 0)),
  (rg late [(pg 19 2, 2)]).bit (pg 19 2) 1 && late.time.on, !up.bit (pg 19 2) 1 && up.meas.cur == none,
  (let s := latching 0 15 true false; let l : Latch := ⟨0, 0, 0, false, false, false, 0, true, false⟩;
      s.meas.cur == some l && s.pins.persona != .legacy && s.prodIs s.lring 15 &&
      decide ((s.latchRecord l (s.reg (pg 19 21) + 1)).length ≤ s.ringRoom s.lring) && s.domOn 2),
  (let s := latching 0 15 true true; s.pins.persona != .legacy && s.domOn 2),
  (let s := latching 0 14 true false; s.domOn 2 && !s.prodIs s.lring 15),
  (let s := latching 3 14 false false; s.meas.cur == some ⟨3, 0, 0, false, false, false, 0, false, false⟩),
  (let s := off (latching 0 15 true false) 2; s.pins.persona != .legacy && !s.domOn 2),
  (let s : State := { late with meas := { up.meas with lastT := some late.rxt } }; !s.latchFree s.rxt &&
      clear s vc0 19 2 (forceBit 0 0 true) && !s.latchBarred),
  (let s : State := { late with meas := { up.meas with lastT := some (late.rxt - 5000000 * 65536) } }; s.latchFree s.rxt),
  (let e : EvEntry := ⟨7, true, false, 0, 0⟩; let s : State := { rg late [(pg 18 31, 1), (pg 19 2, 4 + 7 * 8)] with ev := { up.ev with fifo := List.replicate 31 e } };
      s.time.on && s.domOn 15 && bitOf (s.reg (pg 18 (24 + 7))) 0 && decide (s.ev.fifo.length < 32) && s.bit (pg 19 2) 2 &&
      s.fld (pg 19 2) 5 3 == 7),
  (let e : EvEntry := ⟨7, true, false, 0, 0⟩; let s : State := { rg late [(pg 18 31, 2)] with ev := { up.ev with fifo := List.replicate 32 e } };
      s.time.on && s.domOn 15 && bitOf (s.reg (pg 18 (24 + 7))) 1 && decide (32 ≤ s.ev.fifo.length) &&
      !bitOf (s.reg (pg 18 (24 + 7))) 0),
  (let e : EvEntry := ⟨7, true, false, 0, 0⟩; let s : State := { rg up [(pg 18 16, 64 + 63), (ringKey 63 0, 131072 + 16 * 256)] with ev := { up.ev with fifo := [e] } };
      s.ev.fifo == [e] && s.bit (pg 18 16) 6 && s.prodIs (s.fld (pg 18 16) 5 0) 16 &&
      decide (6 ≤ s.ringRoom (s.fld (pg 18 16) 5 0)) && s.domOn 2 && !(off s 2).domOn 2), up.ev.fifo == []] : List Bool).all id = true := by decide

theorem test_hyps_TimePulseCommandsRun : ([
  clear up vc0 17 2 (forceBit 0 3 true) && !up.bit (pg 17 3) 7 && (up.tpStaged 3).ok && !up.legacyDual,
  (let s := dual; clear s vc0 17 2 (forceBit 0 1 true) && !s.bit (pg 17 3) 5 && (s.tpStaged 1).ok),
  (let s := rg up [(pg 17 3, 128)]; clear s vc0 17 2 (forceBit 0 3 true) && s.bit (pg 17 3) 7),
  (let s := rg up [(pg 17 3, 256)]; clear s vc0 17 2 (forceBit 0 4 true) && s.bit (pg 17 3) 8),
  (let s := rg up [(tpKey 3 0, 1), (tpKey 3 2, 0), (tpKey 3 3, 0), (tpKey 3 4, 0), (tpKey 3 5, 0), (tpKey 3 6, 0),
  (tpKey 3 7, 0)]; clear s vc0 17 2 (forceBit 0 3 true) && !(s.tpStaged 3).ok),
  (rg late [(pg 17 3, 16)]).bit (pg 17 3) 4 && late.time.on, !up.bit (pg 17 3) 4 && (up.tp 0).cur.mode == 0 &&
  (up.tp 0).pulse == none && !up.bit (pg 17 3) 8,
  (let s := pulsing 1 late; let b := s.beforeEdge 3 2; match b.nextGrid 3 with
  | none => false
  | some g => let t := b.reachExt (b.placeEdge 3 (b.tp 3).cur.dly (b.tpTarget 3 g)).1; (s.tp 3).cur.mode != 0 &&
      s.time.on && (b.tp 3).cur.mode != 0 && (t.tp 3).cur.mode != 3 && (t.tp 3).pulse == none && (t.tp 3).lastEnd == none),
  (let s := pulsing 3 late; let b := s.beforeEdge 3 2; match b.nextGrid 3 with
  | none => false
  | some g => let t := b.reachExt (b.placeEdge 3 (b.tp 3).cur.dly (b.tpTarget 3 g)).1; (b.tp 3).cur.mode != 0 &&
  (t.tp 3).cur.mode == 3 && !t.bit (pg 16 3) 3),
  (let s := (pulsing 1 late).setTp 3 { (pulsing 1 late).tp 3 with pulse := some (true, 5, 0) }; let b := s.beforeEdge 3 2;
      match b.nextGrid 3 with
  | none => false
  | some g => let t := b.reachExt (b.placeEdge 3 (b.tp 3).cur.dly (b.tpTarget 3 g)).1; (b.tp 3).cur.mode != 0 &&
  (t.tp 3).cur.mode != 3 && (t.tp 3).pulse.isSome),
  (let s := rg (pulsing 1 late) [(pg 17 3, 128)]; s.bit (pg 17 3) 7 && ((s.beforeEdge 3 2).tp 3).cur.mode == 0 &&
  (s.tp 3).cur.mode != 0),
  ((up.setTp 0 { TpSt.reset with pulse := some (true, 5, 0) }).tp 0).pulse == some (true, 5, 0),
      clear up vc0 17 2 (forceBit 0 4 true) && !up.bit (pg 17 3) 8,
  (rg up [(pg 17 3, 256)]).bit (pg 17 3) 8 && Store.wf (rg up [(pg 17 3, 256)]).regs] : List Bool).all id = true := by decide +kernel

/-- Core c is in a mode. -/
def inMode (s : State) (c : Fin 4) (m : CoreMode) : State := s.setCore c { s.cores[c.val] with mode := m }

/-- VC3 runs and a syllable stands at address 0: slot 5 for a control operation, else slot 4, with its stop bit. -/
def bundle (slot body : Nat) : State :=
  let b := 2 ^ 35 + slot * 2 ^ 32 + body
  inMode (mm up [(coreBase + 3 * 524288, b / 262144), (coreBase + 3 * 524288 + 1, b % 262144)]) 3 .running

/-- What BundleIssueRuns asks of a state of VC3 whose bundle issues. -/
def issues (s : State) (blk : Option Bool) : Bool :=
  let d := s.decodeBundle 3
  s.mayIssue 3 && !s.cores[3].haltReq && (s.decodeTrap 3).isNone && !s.rubWaits 3 d.1
    && ((s.cores[3].bundleAddrs d.1).findSome? (s.addrOff 3)) == none && (s.restoreFor (s.bundleKeys 3 d.1)).isNone
    && (slotBody d.1 5).map (fun b => isBlockOp (bf b 31 26)) == blk

theorem test_hyps_CoreCommandsRun : ([
  clear up vc0 48 2 (forceBit 0 2 true) && !up.lmode 3 && !bitOf (forceBit 0 2 true) 1 && !bitOf (forceBit 0 2 true) 0 &&
      up.cores[3].mode != .dhalt,
  (let s := inMode up 3 .dhalt; let u := forceBit 0 2 true; clear s vc0 48 2 u && !bitOf u 0 && !bitOf u 1 &&
      s.cores[3].mode == .dhalt),
  (let s := inMode up 3 .halted; clear s vc0 48 2 (forceBit 0 0 true) && clear s vc0 48 2 (forceBit 0 1 true) &&
      s.cores[3].mode == .halted && !s.lmode 3),
  (let s := bundle 4 (2 ^ 26); clear s vc0 48 2 (forceBit 1 0 false) && s.cores[3].mode == .running &&
  ((s.plain vc0 48 2 (forceBit 1 0 false)).decodeTrap 3).isNone && vc0 != .core 3 && !s.cores[3].shadow &&
      s.cores[3].trap == none && !s.cores[3].wod && !s.cores[3].begun && !s.lmode 3),
  (let s := inMode up 0 .running; clear s vc0 45 2 (forceBit 1 0 false) && s.cores[0].mode == .running && !s.lmode 0),
  (let s := up.setCore 3 { up.cores[3] with mode := .gated, gatedFrom := .halted }; clear s vc0 48 2 (forceBit 0 0 true) &&
      s.cores[3].mode == .gated && s.cores[3].gatedFrom == .halted),
  (let s := inMode up 0 .halted; clear s vc0 45 24 262143 && clear s vc0 45 16 131071 && clear s vc0 45 20 1 &&
      s.cores[0].mode == .halted),
  (let s := inMode up 3 .dhalt; clear s vc0 48 24 0 && s.cores[3].mode == .dhalt && !s.lmode 3 &&
      clear s vc0 48 2 (forceBit 0 0 true) && clear s vc0 48 16 0), clear up vc0 48 2 (forceBit 0 1 true) &&
      clear up vc0 48 24 0 && up.cores[3].mode == .reset,
  (let s := inMode dual 0 .halted; s.lmode 0 && clear s vc0 45 2 (forceBit 0 2 true)),
  up.domOn (coreDom 3) && up.cores[3].mode == .reset && up.pins.persona == .native, up.cores[3].trap == none &&
      !up.atBoundary 3 && !up.mayIssue 3,
  (let s := rg (bundle 4 (2 ^ 26)) [(pg 48 2, 16), (pg 48 17, 0)]; s.domOn (coreDom 3) && s.cores[3].trap == none &&
      !s.cores[3].wod && !s.cores[3].begun && s.bit (pg 48 2) 4 && s.cores[3].pc.toNat == s.fld (pg 48 17) 16 0 &&
      !s.cores[3].noBreak && !s.lmode 3 && (s.decodeTrap 3).isNone),
  (let s := rg (bundle 4 (63 * 2 ^ 26)) [(pg 48 2, 16), (pg 48 17, 0)]; s.domOn (coreDom 3) && s.cores[3].trap == none &&
      s.bit (pg 48 2) 4 && s.cores[3].pc.toNat == s.fld (pg 48 17) 16 0 && !s.cores[3].noBreak && !s.lmode 3 &&
  (s.decodeTrap 3).isSome),
  (let s := inMode (rg up [(routeKey 164, 131072 + 3 * 32768 + 7 * 4096), (pg 4 30, 131072)]) 3 .idle;
      s.cores[3].mode == .idle && !bitOf s.cores[3].sr 17 && (s.eligible 3) == some 7)] : List Bool).all id = true := by decide +kernel

theorem test_hyps_BundleIssueRuns : ([
  issues (bundle 4 (2 ^ 26)) none, issues (bundle 5 (2 * 2 ^ 26)) (some false),
      issues (bundle 5 (0o30 * 2 ^ 26 + 2 ^ 22)) (some true),
  (let s := bundle 4 (2 ^ 26); let s := s.setCore 3 { s.cores[3] with haltReq := true }; s.mayIssue 3 &&
      s.cores[3].haltReq && !s.cores[3].begun),
  (let s := bundle 4 (63 * 2 ^ 26); s.mayIssue 3 && (s.decodeTrap 3).isSome)] : List Bool).all id = true := by decide +kernel

theorem test_hyps_AddBundleWritesItsSum : ([
  bf (2 ^ 26 + 15 * 2 ^ 22) 31 26 == 1 && Core.reset.inflight == [] && fieldOf Core.reset.sr 6 5 == 0 &&
      !Core.reset.stepping && !Core.reset.haltReq && Core.reset.trap == none] : List Bool).all id = true := by decide

theorem test_hyps_RotateByFullTurns : ([
  (aluRol 262143 36).1 == 262143] : List Bool).all id = true := by decide

theorem test_hyps_InterruptEntryRuns : ([
  (let s := inMode (rg (bundle 4 (2 ^ 26)) [(routeKey 164, 131072 + 3 * 32768 + 7 * 4096), (pg 4 30, 131072)]) 3 .idle;
      let s := s.setCore 3 { s.cores[3] with sr := 131072 }; let x := s.cores[3]; x.mode == .idle && s.domOn (coreDom 3) &&
      x.trap == none && !x.wod && !x.begun && !x.shadow && !x.haltReq && !s.atBreak 3 && s.acceptable 3 && !s.lmode 3 &&
  (s.decodeTrap 3).isNone && (s.setCore 3 x.drain).eligible 3 == some 7),
  (let s := rg (bundle 4 (2 ^ 26)) [(routeKey 147, 131072 + 3 * 32768), (pg 4 30, 1)];
      let s := s.setCore 3 { s.cores[3] with sr := 131072 }; let x := s.cores[3]; x.mode == .running &&
      s.domOn (coreDom 3) && x.trap == none && !x.wod && !x.begun && !x.shadow && !x.haltReq && !s.atBreak 3 &&
      s.acceptable 3 && !s.lmode 3 && (s.decodeTrap 3).isNone && (s.setCore 3 x.drain).eligible 3 == some 0),
  (let s := rg (bundle 4 (63 * 2 ^ 26)) [(routeKey 147, 131072 + 3 * 32768), (pg 4 30, 1)];
      let s := s.setCore 3 { s.cores[3] with sr := 131072 }; !s.atBreak 3 && s.acceptable 3 && (s.decodeTrap 3).isSome)] : List Bool).all id = true := by decide +kernel

theorem test_hyps_TrapEntryRuns : ([
  (let s := inMode up 0 .running; let s := s.setCore 0 { s.cores[0] with trap := some (tcsWord 3 0 0 0, 131071, 131070) };
      let x := s.cores[0]; x.trap == some (tcsWord 3 0 0 0, 131071, 131070) && s.domOn (coreDom 0) && x.mode == .running &&
      !bitOf x.drain.sr 4),
  (let s := inMode up 3 .idle; let s := s.setCore 3 { s.cores[3] with trap := some (tcsWord 4 0 0 0, 0, 0), sr := 16 };
      let x := s.cores[3]; x.trap == some (tcsWord 4 0 0 0, 0, 0) && s.domOn (coreDom 3) && x.mode == .idle &&
      bitOf x.drain.sr 4)] : List Bool).all id = true := by decide

theorem test_hyps_RubricCommandsRun : ([
  clear up vc0 49 19 262143 && up.rubrRefusal up.usel false == 0 &&
      !up.lost (rubrKey up.usel.val (up.fld (pg 49 17) 8 0)) && fieldOf ((up.udh.get? (writerNo vc0)).getD 0) 16 13 != 15,
  (let s := mm up [(rubrKey 3 511, 131072), (rubrKey 3 511 + 1, 0)]; clear s vc0 49 (32 + 63) (131072 + 511) &&
      s.rubrRefusal 3 false == 0 && bitOf (131072 + 511) 17 &&
      s.entryOk 3 (fieldOf (131072 + 511) 8 0) (fieldOf (131072 + 511) 16 15 + 1)),
  clear up vc0 49 (32 + 63) 0,
  (let s := mm up [(rubrKey 3 511, 0), (rubrKey 3 511 + 1, 0)]; clear s vc0 49 (32 + 63) (131072 + 511) &&
      s.rubrRefusal 3 false == 0 && !s.entryOk 3 (fieldOf (131072 + 511) 8 0) (fieldOf (131072 + 511) 16 15 + 1)),
  (let s := inMode up 3 .running; clear s vc0 49 (32 + 63) 0 && s.rubrRefusal 3 false != 0),
  (let s := inMode up 0 .running; clear s vc0 49 19 0 && s.rubrRefusal s.usel false != 0),
  clear up vc0 49 2 (forceBit 0 3 true) && clear up vc0 49 2 (forceBit 15 3 false),
  (let s := rg up [(pg 49 2, 8)]; s.bit (pg 49 2) 3 && !s.bit (pg 49 3) 3), !up.bit (pg 49 2) 3] : List Bool).all id = true := by decide +kernel

/-- VC0 runs in L-mode at the last word but one of its program memory, where two words stand. -/
def lst (w w2 : Nat) : State :=
  let s := mm dual [(coreBase + 65534, w), (coreBase + 65535, w2)]
  s.setCore 0 { s.cores[0] with mode := .running, pc := 65534, sr := 128 }

/-- VC0 is ready to issue the operation. -/
def fetches (s : State) (op : LOp) : Bool :=
  s.lReady && match s.lFetch.op with
    | .ok o => o == op
    | .error _ => false

theorem test_hyps_LModeComputingRuns : ([
  fetches (lst 0 0) .nop, fetches (lst (2 ^ 14) 0) .reg, fetches (lst (2 * 2 ^ 14 + 1024) 0) .addi,
      fetches (lst (3 * 2 ^ 14) 0) .ldi, fetches (lst (4 * 2 ^ 14) 0) .cmpi, fetches (lst (5 * 2 ^ 14 + 63) 0) .shli,
      fetches (lst (5 * 2 ^ 14 + 512) 0) .shri, fetches (lst (5 * 2 ^ 14 + 1024) 0) .asri,
      fetches (lst (9 * 2 ^ 14 + 1024) 0) .lap, fetches (lst (8 * 2 ^ 14) 65535) .lpi, fetches (lst 4 0) .ei,
      fetches (lst 5 0) .di,
  fetches (lst (10 * 2 ^ 14 + 16) 0) .mpy, fetches (lst (10 * 2 ^ 14 + 32) 0) .mac, fetches (lst (10 * 2 ^ 14 + 64) 0) .msu,
      fetches (lst (11 * 2 ^ 14) 0) .ext, fetches (lst (11 * 2 ^ 14 + 1) 0) .exh, fetches (lst (11 * 2 ^ 14 + 2) 0) .ldh,
      fetches (lst (11 * 2 ^ 14 + 3) 0) .clra, fetches (lst (11 * 2 ^ 14 + 4) 0) .mova,
      fetches (lst (11 * 2 ^ 14 + 5) 0) .adda, fetches (lst (11 * 2 ^ 14 + 8198) 0) .nega] : List Bool).all id = true := by decide +kernel

theorem test_hyps_LModeFlowAndMemoryRun : ([
  fetches (lst 1 0) .ret, fetches (lst 2 0) .rti, fetches (lst 3 0) .idle,
  (let s := lst (12 * 2 ^ 14 + 512) 0; fetches s .b &&
      condHolds (fieldOf s.lFetch.state.cores[0].sr 3 0) (bf s.lFetch.w 13 10)),
  (let s := lst (12 * 2 ^ 14 + 1024) 0; fetches s .b &&
      !condHolds (fieldOf s.lFetch.state.cores[0].sr 3 0) (bf s.lFetch.w 13 10)),
  fetches (lst (13 * 2 ^ 14) 65535) .jmp, fetches (lst (13 * 2 ^ 14 + 8192) 0) .call,
      fetches (lst (14 * 2 ^ 14 + 7) 0) .mfl, fetches (lst (14 * 2 ^ 14 + 8192) 0) .mtl,
  (let s := lst (15 * 2 ^ 14) 0; s.lReady && match s.lFetch.op with | .ok _ => false | .error _ => true),
  (let s := lst (6 * 2 ^ 14) 65535; fetches s .ldw && s.bankOff2 (bankWord s.lBank (bf s.lFetch.w2 15 0)) == none &&
      s.lFetch.state.lBank == s.lBank),
  (let s := lst (6 * 2 ^ 14 + 1024) 65535; fetches s .stw && s.bankOff2 (bankWord s.lBank (bf s.lFetch.w2 15 0)) == none &&
      s.lFetch.state.lBank == s.lBank),
  (let s := lst (7 * 2 ^ 14 + 63 + 192) 0; fetches s .ldp && s.lOffset s.lFetch.w == 65535 &&
      s.bankOff2 (bankWord s.lBank (s.lOffset s.lFetch.w)) == none && s.lFetch.state.lBank == s.lBank &&
      s.lFetch.state.lOffset s.lFetch.w == s.lOffset s.lFetch.w),
  (let s := lst (7 * 2 ^ 14 + 1024) 0; fetches s .stp && s.bankOff2 (bankWord s.lBank (s.lOffset s.lFetch.w)) == none &&
      s.lFetch.state.lBank == s.lBank && s.lFetch.state.lOffset s.lFetch.w == s.lOffset s.lFetch.w)] : List Bool).all id = true := by decide +kernel

theorem test_hyps_LModeAddLandsAtOnce : ([
  fetches (lst (2 * 2 ^ 14 + 7 * 2048 + 1024) 0) .addi && (lst 0 0).lFetch.state.cores[0].inflight == [] &&
      !(lst 0 0).lFetch.state.cores[0].haltReq] : List Bool).all id = true := by decide +kernel

/-- The checks of `State.LwClear`, as one Bool. -/
def lwClear (s : State) (w : Writer) (k : Nat) (v : Word) : Bool :=
  s.legacyDual && s.writerLive w && s.lwPermits w && s.lwOff k == none && inRange .lwin k v

/-- The checks of `State.LwReads`, as one Bool. -/
def lwReads (s : State) (q : Fin 8) (k : Nat) : Bool := s.legacyDual && s.writerLive (.ses q) && s.lwPermits (.ses q) && s.lwFresh k

theorem test_hyps_LegacyControlCommandsRun : ([
  up.writerLive (.ses 0) && !up.legacyDual,
  (let s := rg dual [(pg 5 (33 + 16), 0)]; s.legacyDual && s.writerLive (.ses 1) && !s.lwPermits (.ses 1)),
      dual.lwPermits (.ses 0) && (off dual 10).lwOff 64 != none && (off dual 10).lwPermits vc0,
  dual.lwOff 1 == none && !inRange .lwin 24 (forceBit 7 17 true),
  (let s := rg dual [(lwKey 448, 0)]; let s := s.setSer 0 { s.ser 0 with txHold := some 0 };
  (lwHandler (.ses 0) 448 0 s).state != 0 && s.lwOff 448 == none && s.lwPermits (.ses 0)),
  up.writerLive (.ses 0) && !up.legacyDual,
  (let s := rg dual [(pg 5 (33 + 16), 0)]; s.writerLive (.ses 1) && !s.lwPermits (.ses 1)), dual.lwPermits (.ses 0) &&
      !dual.lwFresh 20, !held.writerLive (.ses 0),
  lwClear dual vc0 1 1 && bitOf 1 0 && !bitOf 1 1 && !bitOf 1 2 && !(dual.lwArrive vc0).bit (lwKey 1) 0,
  (let s := rg dual [(lwKey 1, 1)]; lwClear s (.ses 0) 1 0 && (s.lwArrive (.ses 0)).bit (lwKey 1) 0),
  lwClear dual (.ses 0) 1 (forceBit 0 1 true) && (dual.lwArrive (.ses 0)).domOn 11,
      lwClear (off dual 11) (.ses 0) 1 (forceBit 0 1 true) && !((off dual 11).lwArrive (.ses 0)).domOn 11,
      lwClear dual (.ses 0) 1 (forceBit 0 2 true) && !bitOf (forceBit 0 2 true) 1 &&
      bitOf (forceBit 0 2 true) 0 == (dual.lwArrive (.ses 0)).bit (lwKey 1) 0,
  lwClear dual (.ses 0) 7 (forceBit 0 0 true) && (dual.lwArrive (.ses 0)).phase == 0,
      lwClear dual (.ses 0) 8 (forceBit 0 0 true) && !dual.latchBarred && dual.latchFree dual.rxt && !dual.epochNow,
  (let s : State := { dual with upd := { dual.upd with warm := true } }; lwClear s (.ses 0) 8 (forceBit 0 0 true) &&
  (s.lwArrive (.ses 0)).latchBarred),
  (let s : State := { dual with meas := { dual.meas with cur := some ⟨0, 0, 0, false, false, false, 0, true, false⟩ } };
      lwClear s (.ses 0) 8 (forceBit 0 0 true) && !s.latchFree s.rxt && s.meas.cur.isSome && !s.epochNow),
  (let s : State := { dual with meas := { dual.meas with lastT := some 0 } }; !s.latchFree s.rxt && s.meas.cur == none),
      lwClear dual (.ses 0) 16 262143,
  (let s := inMode dual 0 .running; s.dspLive && lwClear s vc0 17 262143), lwReads dual 0 17, !up.dspLive,
  lwClear dual (.ses 0) 452 511 && ((dual.lwArrive (.ses 0)).ser 1).txHold == none, lwReads dual 0 452,
  (let s := rg dual [(lwKey 457, 1), (lwKey 458, 1)]; lwClear s (.ses 0) 456 1 && !s.bit (pg 17 3) 4 &&
      State.legacyTpOk (s.legacyTp 1)),
  (let s := rg dual [(pg 17 18, 0)]; lwClear s (.ses 0) 460 0 &&
      decide (25 * (s.fld (lwKey 459) 9 0 * 262144) < (s.legacyTp 0).period))] : List Bool).all id = true := by decide

theorem test_hyps_LegacyPortAndChannelCommandsRun : ([
  lwClear dual (.ses 0) 18 15, lwClear dual (.ses 0) 19 65535,
  (let s := rg dual [(lwKey 18, 15), (lwKey 19, 65535)]; s.legacyDual && !s.leg.portValid && s.portWord == .mem 1048575 &&
      s.portHomes.all s.domOn),
  (let s : State := { dual with leg := { dual.leg with portValid := true } }; lwReads s 0 20),
  (let s := rg dual [(lwKey 18, 5), (lwKey 19, 65535)]; lwClear s (.ses 0) 20 0 && s.portWord == .mem (coreBase + 65535) &&
      s.domOn (bankDomainOf (coreBase + 65535)) && !s.lost (coreBase + 65535)),
  (let s := off (rg dual [(lwKey 18, 5), (lwKey 19, 65535)]) 11; lwClear s (.ses 0) 20 0 &&
      s.portWord == .mem (coreBase + 65535) && !s.domOn (bankDomainOf (coreBase + 65535)) && !s.portHomes.all s.domOn),
  lwReads dual 0 21 && dual.ldcnt == 0,
  (let u := forceBit 1 17 true; lwClear dual (.ses 0) 24 u && !dual.bit (lwKey 24) 17 &&
      dual.clockOk 0 7 (4092 * fieldOf u 2 0) &&
  (smapHandler (.ses 0) 0 0o400000 (dual.legacyFeed (fieldOf u 2 0))).extra == 0),
  (let s := rg dual [(lwKey 24, 131073)]; lwClear s (.ses 0) 24 131073 && s.bit (lwKey 24) 17 &&
      fieldOf 131073 2 0 == s.fld (lwKey 24) 2 0),
  (let s : State := { rg dual [(lwKey 24, 131073)] with leg := { dual.leg with v := [(47, 1)] } };
      let u := forceBit 0 17 true; lwClear s (.ses 0) (64 + 8 * 47) u && !s.bit (lwKey (64 + 8 * 47)) 17 &&
      s.chState 47 == 0 && !s.bit (chKey 47 3) 0 && !s.lost (ctxKey 47 0) && s.vOk (bitOf u 16) (s.legV 47) &&
      s.bit (lwKey 24) 17),
  (let s := rg dual [(lwKey (64 + 8 * 47), 131072), (chKey 47 16, 3)];
      lwClear s (.ses 0) (64 + 8 * 47) (forceBit 0 17 false) && lwClear s (.ses 0) (64 + 8 * 47) (forceBit 0 17 true) &&
      s.bit (lwKey (64 + 8 * 47)) 17 && s.chState 47 != 0 && !s.bit (chKey 47 3) 0),
  (let s := rg dual [(lwKey (64 + 8 * 47), 131072)]; s.bit (lwKey (64 + 8 * 47)) 17 && s.chState 47 == 0 &&
      !correlates (s.chState 47) && !holdsSlots (s.chState 47)),
      lwClear dual (.ses 0) (64 + 8 * 47) (forceBit 0 17 false) && !dual.bit (lwKey (64 + 8 * 47)) 17,
  lwClear dual (.ses 0) (66 + 8 * 47) 262143,
  (let s := rg dual [(lwKey 24, 1)]; lwClear s (.ses 0) 68 1 && !correlates (s.chState 0) &&
      s.vOk (s.bit (lwKey 64) 16) (s.fld (lwKey 67) 13 0 * 262144 + 1)), lwClear dual (.ses 0) (69 + 8 * 47) 1022,
  (let s := rg dual [(lwKey (64 + 8 * 47), 131072), (chKey 47 16, 3), (lpKey 0 10, 1023)]; let s := mm s [(ctxKey 47 0, 0),
  (ctxKey 47 16, 0)]; lwClear s (.ses 0) (69 + 8 * 47) 1022 && s.bit (lwKey (64 + 8 * 47)) 17 &&
      holdsSlots (s.chState 47) && correlates (s.chState 47) && !s.bit (chKey 47 3) 1 &&
      decide (fieldOf 1022 9 0 < s.primary 47))] : List Bool).all id = true := by decide

/-- Ring 63 is on, of 2048 words, with a producer and a consumer. -/
def ring (s : State) (prod cons : Nat) : State := rg s [(ringKey 63 0, 131072 + 5 * 8192 + prod * 256 + cons * 8)]

/-- Session q is present and enabled, with every permission. -/
def ses (s : State) (q : Nat) : State := rg s [(sesKey q 0, 131072), (sesKey q 1, 65535)]

/-- Session 7 is enabled on port 3, which sends and receives. -/
def linked (s : State) : State := rg (ses s 7) [(serKey 3 2, 3)]

theorem test_hyps_MemoryEventsRun : ([
  (let s : State := { up with blot := { up.blot with wb := [quireBase] } }; s.blot.wb == [quireBase]), up.blot.wb == [],
      !((up.incSat (pg 42 17)).raise 42 0).bit (pg 42 18) 17,
  (let s := rg up [(pg 42 18, 131072)]; ((s.incSat (pg 42 17)).raise 42 0).bit (pg 42 18) 17 && (s.ses 7).post == []),
  (let s := up.setCore 3 { up.cores[3] with stallW := some (BitVec.ofNat 24 (quireBase + 32767), 0) };
      s.cores[3].stallW == some (BitVec.ofNat 24 (quireBase + 32767), 0) && quireWord (quireBase + 32767) == some 32767),
      up.cores[3].stallW == none,
  (let s := up.setSes 7 { up.ses 7 with post := [(BitVec.ofNat 24 (quireBase + 32767), 0)] };
  (s.ses 7).post == [(BitVec.ofNat 24 (quireBase + 32767), 0)]),
  clear up vc0 44 20 262143 && clear up vc0 44 21 262143, Store.wf up.regs && bitOf 262143 7 &&
  (wordInfo .retn 21).w1c.testBit 7,
  (let s : State := { up with blot := { up.blot with held := BitVec.ofNat _ 1 }, pwr := { up.pwr with dom := up.pwr.dom.set 11 3 } };
      s.blot.held.getLsbD 0 && !s.domOn (bankDomain 0)), !up.blot.held.getLsbD 0] : List Bool).all id = true := by decide

theorem test_hyps_BlotterRuns : ([
  (let s := rg up [(pg 43 2, 1)]; s.bit (pg 43 2) 0 && s.domOn 2 && s.blot.borrow == none && s.nextBorrow.isSome),
  (let s : State := { rg up [(pg 43 2, 1)] with blot := { up.blot with next := (16, 0) } }; s.bit (pg 43 2) 0 &&
      s.domOn 2 && s.blot.borrow == none && s.nextBorrow == none), !(rg up [(pg 43 2, 0)]).bit (pg 43 2) 0 &&
      up.blot.borrow == none,
  (let s : State := { up with blot := { up.blot with borrow := some (13, 255, []) } }; s.blot.borrow == some (13, 255,
      []) && !s.blot.restoring),
  (let s : State := { up with blot := { up.blot with borrow := some (13, 255, []), restoring := true } };
      s.blot.restoring && !s.blot.skip.contains (13, 255)),
  clear up vc0 43 2 (forceBit 0 1 true),
  (let s := rg up [(pg 43 32, 13 * 16 + 7), (pg 43 35, 5), (pg 43 37, 5)]; clear s vc0 43 33 131072 &&
      clear s vc0 43 33 0 && s.fld (pg 43 32) 7 4 == 13 && decide (s.reg2 (pg 43 34) ≤ s.reg2 (pg 43 36)) &&
      decide (s.reg2 (pg 43 36) < memSize 13) && bitOf 131072 17),
  (let s := rg up [(pg 43 35, 5), (pg 43 37, 4)]; clear s vc0 43 33 131072 &&
      decide (s.reg2 (pg 43 36) < s.reg2 (pg 43 34)))] : List Bool).all id = true := by decide

theorem test_hyps_RingCommandsRun : ([
  (let s := rg up [(ringKey 63 1, 8191)]; let v : Word := 131072 + 31 * 256 + 31 * 8; clear s vc0 7 (32 + 8 * 31) v &&
      !s.legacyDual && !s.ringOn 63 && bitOf v 17 && unitCodeOk (fieldOf v 12 8) && unitCodeOk (fieldOf v 7 3) &&
      decide (s.fld (ringKey 63 1) 12 0 + 2 ^ fieldOf v 16 13 ≤ 8192) &&
      !s.ringOverlaps 63 (s.fld (ringKey 63 1) 12 0) (fieldOf v 16 13)),
  (let s := rg up [(ringKey 63 1, 8191)]; let v : Word := 131072 + 8192 + 31 * 256 + 31 * 8;
      clear s vc0 7 (32 + 8 * 31) v && decide (8192 < s.fld (ringKey 63 1) 12 0 + 2 ^ fieldOf v 16 13)), dual.legacyDual &&
      clear dual vc0 7 (32 + 8 * 30) 0,
  (let s := ring up 8 9; clear s vc0 7 (32 + 8 * 31) (131072 + 4 * 8192) && s.ringOn 63 &&
      fieldOf (131072 + 4 * 8192) 16 13 != s.fld (ringKey 63 0) 16 13),
  (let s := ring up 8 9; let v : Word := 5 * 8192 + 31 * 256 + 31 * 8; clear s vc0 7 (32 + 8 * 31) v && s.ringOn 63 &&
      fieldOf v 16 13 == s.fld (ringKey 63 0) 16 13 && unitCodeOk (fieldOf v 12 8)),
  clear up vc0 7 (32 + 8 * 31) (30 * 256) && !unitCodeOk 30,
  (let s := ring up 8 9; clear s vc0 7 (34 + 8 * 31) 2048 && writerCode vc0 == some 8 && s.prodIs 63 8 &&
  (2048 - s.reg (ringKey 63 2) : Word).toNat == s.ringRoom 63),
  (let s := rg (ring up 9 8) [(ringKey 63 2, 5)]; clear s vc0 7 (35 + 8 * 31) 5 && s.consIs 63 8 &&
  (5 - s.reg (ringKey 63 3) : Word).toNat == s.ringFill 63),
  (let s := ring up 8 9; clear s vc0 7 (34 + 8 * 31) 2049 &&
      decide (s.ringRoom 63 < (2049 - s.reg (ringKey 63 2) : Word).toNat)),
  (let s := ring up 9 8; clear s vc0 7 (35 + 8 * 31) 1 && s.consIs 63 8 &&
      decide (s.ringFill 63 < (1 - s.reg (ringKey 63 3) : Word).toNat)),
  (let s := ring up 9 10; clear s vc0 7 (34 + 8 * 31) 0 && writerCode vc0 == some 8 && !s.prodIs 63 8 && !s.consIs 63 8)] : List Bool).all id = true := by decide

theorem test_hyps_RingFillStaysWithinSize : ([
  (let s := ring up 8 9; Store.wf s.regs && (List.range 64).all (fun k => decide (s.ringFill k ≤ s.ringSize k)) &&
      isNext (execRingIndexWrite vc0 63 true 2048 s))] : List Bool).all id = true := by decide

theorem test_hyps_EventControllerRuns : ([
  clear up vc0 4 29 262143 && clear up vc0 4 28 1, clear up vc0 4 44 (forceBit 0 17 true),
  (let s := rg up [(pg 4 44, 131072)]; s.bit (pg 4 44) 17 && s.domOn 2 && !s.bit (pg 4 44) 16),
  (let s := rg up [(pg 4 44, 131072 + 65536)]; s.bit (pg 4 44) 17 && s.bit (pg 4 44) 16), !up.bit (pg 4 44) 17,
  (let v : Word := 131072 + 256; clear up vc0 4 255 v && bitOf v 8 && up.present (fieldOf v 7 5) && !bitOf v 11),
  (let v : Word := 131072 + 256 + 4 * 32; clear dual vc0 4 255 v && bitOf v 8 && !dual.present (fieldOf v 7 5)),
  (let s : State := { up with ev := { up.ev with rises := [(191, 7, false, 0)] } }; s.ev.rises == [(191, 7, false, 0)] &&
      !s.bit (sesKey 7 8) 17), up.ev.rises == [],
  (let s : State := { rg (ring up 17 7) [(sesKey 7 8, 131072 + 63)] with ev := { up.ev with rises := [(191, 7, false, 0)] } };
      s.bit (sesKey 7 8) 17 && s.fld (sesKey 7 8) 5 0 == 63 && s.prodIs 63 17 && s.consIs 63 7 &&
      decide (6 ≤ s.ringRoom 63))] : List Bool).all id = true := by decide

theorem test_hyps_SessionCommandsRun : ([
  clear up vc0 5 (32 + 16 * 3) 0,
  (let s := rg up [(serKey 3 16, 8 * 64)]; clear s vc0 5 (32 + 16 * 7) 131072 && s.fld (serKey 3 21) 17 16 == 0 &&
      s.fld (serKey 3 16) 9 6 == 8),
  (let s := rg up [(serKey 3 16, 7 * 64)]; s.fld (serKey 3 21) 17 16 == 0 && s.fld (serKey 3 16) 9 6 != 8),
  (let s := rg up [(serKey 3 21, 131072)]; clear s vc0 5 (32 + 16 * 7) 131072 && s.fld (serKey 3 21) 17 16 != 0),
  (let s := ses up 7; clear s vc0 5 (32 + 16 * 7) 0 && s.bit (sesKey 7 0) 17), clear up vc0 5 (32 + 16 * 7) 0 &&
      !up.bit (sesKey 7 0) 17, clear up (.ses 0) 5 (33 + 16 * 7) 65535, clear up vc0 5 (33 + 16 * 7) 65535,
  clear up vc0 5 (38 + 16 * 7) 262143 && Store.wf up.regs,
  (let s := mm (rg (ring up 8 18) [(pg 5 17, 131072 + 63), (ringKey 63 2, 8)]) ((List.range 8).map fun i => (shramBase + i,
      0)); s.bit (pg 5 17) 17 && s.consIs 63 18 && s.domOn 2 &&
      8 + s.fld (pg 5 17) 16 11 * fieldOf (s.rdMem (s.ringAddr 63 (s.reg (ringKey 63 3)).toNat)) 15 6 == 8 &&
      decide (8 ≤ s.ringFill 63) && (s.ringReadE 63 (s.reg (ringKey 63 3)).toNat 8).2.1 != 2), !up.bit (pg 5 17) 17,
  (let s := rg (ring up 18 0) [(sesKey 0 11, 131072 + 512 + 63)]; s.present 0 && s.bit (sesKey 0 11) 17 &&
  (s.ses 0).dlvCnt % max 1 (s.fld (sesKey 0 11) 16 9) == 0 && s.prodIs 63 18 && decide (8 ≤ s.ringRoom 63)),
  (let s := rg up [(sesKey 0 11, 131072 + 512 + 63)]; s.present 0 && s.bit (sesKey 0 11) 17 && !s.prodIs 63 18),
  (let s := (rg (ring up 18 0) [(sesKey 0 11, 131072 + 1024 + 63)]).setSes 0 { up.ses 0 with dlvCnt := 1 }; s.present 0 &&
      s.bit (sesKey 0 11) 17 && (s.ses 0).dlvCnt % max 1 (s.fld (sesKey 0 11) 16 9) != 0)] : List Bool).all id = true := by decide

theorem test_hyps_HostBusCommandsRun : ([
  up.busLive && up.writerLive (.ses 0) && up.writerLive (.ses 1) && decide ((up.ses 1).post.length < 16),
      !(off up 2).busLive,
  (let s := up.setSes 1 { up.ses 1 with post := List.replicate 16 (0, 0) }; s.busLive && s.writerLive (.ses 1) &&
      decide (16 ≤ (s.ses 1).post.length)),
  (let s := rg up [(sesKey 1 0, 0)]; s.busLive && (up.ses 1).post == []),
  (let s := (ses up 7).setSes 7 { up.ses 7 with post := [(BitVec.ofNat 24 (pageAddr 9 17), 0)] };
      let t := s.setSes 7 { s.ses 7 with post := [] }; s.writerLive (.ses 7) && !s.postWaits (pageAddr 9 17) &&
  (s.restoreFor (s.reaches (.ses 7) (pageAddr 9 17)).toList).isNone && !t.memAccepts (.ses 7) (pageAddr 9 17) 0),
  (let s := (ses up 7).setSes 7 { up.ses 7 with post := [(BitVec.ofNat 24 (shramBase + 524287), 0)] };
      let t := s.setSes 7 { s.ses 7 with post := [] }; s.writerLive (.ses 7) && !s.postWaits (shramBase + 524287) &&
  (s.restoreFor (s.reaches (.ses 7) (shramBase + 524287)).toList).isNone && t.memAccepts (.ses 7) (shramBase + 524287) 0),
  (let s := (ses up 7).setSes 7 { up.ses 7 with post := [(BitVec.ofNat 24 shramBase, 0)] };
      let s : State := { s with blot := { s.blot with borrow := some ((memOf shramBase).1, 0, []) } };
      s.writerLive (.ses 7) && !s.postWaits shramBase && (s.restoreFor (s.reaches (.ses 7) shramBase).toList).isSome),
  up.domOn 15 && !(off up 15).domOn 15,
  (let s := rg up [(pg (ownPage 0) 32, 2)]; clear s (.ses 0) 8 33 0 && !s.windowOnly 0 &&
      s.windowRefusal 0 (s.fld (pg (ownPage 0) 32) 5 0 * 262144) == 0), clear up (.ses 0) 8 33 262143 && !up.windowOnly 0 &&
      up.windowRefusal 0 (up.fld (pg (ownPage 0) 32) 5 0 * 262144 + 262143) != 0,
  (let s := rg up [(pg (ownPage 0) 35, 131072)]; let s := s.setSes 0 { s.ses 0 with win := shramBase, winSet := true };
      s.prefetching 0 && s.windowOn 0 && (s.restoreFor ((List.range 64).map (fun i => (s.ses 0).win + i))).isNone),
  (let s : State := { rg up [(pg (ownPage 0) 35, 131072)] with pwr := { up.pwr with dom := up.pwr.dom.set 8 0 } };
      let s := s.setSes 0 { s.ses 0 with win := scrpBase, winSet := true }; s.prefetching 0 && !s.windowOn 0),
      !up.prefetching 0] : List Bool).all id = true := by decide

theorem test_hyps_SpiFramesRun : ([
  (let s := rg up [(pg 9 16, 1)]; s.spiLive 0 && !(s.setB (pg 9 3) 0 true).spiCrc 0),
  (let s := rg up [(pg 9 24, 5)]; s.spiLive 1 && (s.setB (pg 9 3) 1 true).spiCrc 1 &&
      crc16 (spiWriteBytes 0 [0]) != crc16 (spiWriteBytes 0 [0]) + 1), !(rg up [(pg 9 16, 0)]).spiLive 0] : List Bool).all id = true := by decide

theorem test_hyps_IluhiFramesRun : ([
  (let s := linked up; s.linkOn 3 && linkSession 3 == 7 && (s.ses 7).lastReq == []),
  (let s := (linked up).setSes 7 { up.ses 7 with lastReq := [1, 255, 0, 0, 0, 0] }; s.linkOn 3 &&
  (s.ses 7).lastReq == 1 :: 255 :: [0, 0, 0, 0]), !up.linkOn 3,
  (let s := rg (ring (linked up) 17 7) [(sesKey 7 0, 131072 + 4), (sesKey 7 8, 131072 + 63), (ringKey 63 2, 6)];
      s.writerLive (.ses 7) && (s.ses 7).push == none && (s.ses 7).resp == [] && (s.ser 3).txHold == none &&
  (s.ser 3).txShift == none && s.txReady 3 && s.domOn 2 && s.pushable 7 2 63 && !s.pushable 7 3 (s.fld (sesKey 7 11) 5 0)),
  (let s := rg (ring (linked up) 18 7) [(sesKey 7 0, 131072 + 8), (sesKey 7 11, 131072 + 63), (ringKey 63 2, 6)];
      s.pushable 7 3 63 && !s.pushable 7 2 (s.fld (sesKey 7 8) 5 0)),
  (let s := off (rg (ring (linked up) 18 7) [(sesKey 7 0, 131072 + 8), (sesKey 7 11, 131072 + 63), (ringKey 63 2, 6)]) 2;
      s.pushable 7 3 63 && !s.domOn 2),
  (let s := (ring (linked up) 17 7).setSes 7 { up.ses 7 with push := some (63, 6) }; (s.ses 7).push == some (63, 6) &&
      s.consIs 63 7 && s.writerLive (.ses 7)),
  (let s := (ring (linked up) 17 6).setSes 7 { up.ses 7 with push := some (63, 6) }; !s.consIs 63 7),
  (up.ses 7).push == none] : List Bool).all id = true := by decide

/-- Port 1 receives slowly in SLEEP: nine data bits that match a key with every bit compared. -/
def slowly (key : Nat) : State :=
  let s := rg up [(serKey 1 29, 131072), (serKey 1 30, 131072 + key * 256 + 255), (serKey 1 16, 9 * 64)]
  let s := s.setSer 1 { s.ser 1 with rx := s.serSetting 1 }
  { s with pwr := { s.pwr with st := .sleep, dom := s.pwr.dom.set 3 0 } }

theorem test_hyps_SerialWriteCommandsRun : ([
  clear dual vc0 10 20 0 && dual.serClosed 0,
  (let s := up.setSer 3 { up.ser 3 with txHold := some 5 }; clear s vc0 13 20 0 && !s.serClosed 3),
  (let v : Word := 8 * 64 + 32768; clear up vc0 13 16 v && fieldOf v 9 6 != 9),
  clear up vc0 13 20 511 && !up.serClosed 3 && (up.ser 3).txHold == none && up.fld (serKey 3 21) 17 16 == 0 && !up.serSes 3,
  (let v : Word := 9 * 64 + 32768; clear up vc0 13 16 v && !up.serSes 3 && !up.bit (serKey 3 29) 17 && fieldOf v 9 6 == 9 &&
      !bitOf v 17),
  (let v : Word := 8 * 64; let s := ses up 7; clear s vc0 13 16 v && s.serSes 3 && !s.serClosed 3 &&
      !s.bit (serKey 3 29) 17 && fieldOf v 9 6 == 8 && !bitOf v 15 && !bitOf v 17),
  clear up vc0 13 18 15 && !up.bit (serKey 3 16) 17,
  (let v : Word := forceBit 0 2 true; clear up vc0 13 2 v && bitOf v 2 && !up.bit (serKey 3 2) 2 &&
  ((up.plain vc0 13 2 v).ser 3).txShift == none),
  clear up vc0 13 22 100 && fieldOf 100 17 16 == 0 && !up.bit (serKey 3 22) 17,
  (let s := rg (ring up 7 8) [(serKey 3 21, 131072 + 63), (serKey 3 23, 2047), (serKey 3 24, 2048)];
      clear s vc0 13 22 196708 && bitOf 196708 17 && bitOf 196708 16 && !s.bit (serKey 3 16) 17 &&
      s.flowOk 3 (s.fld (serKey 3 23) 16 0) (s.reg (serKey 3 24)).toNat),
  (let s := ring up 7 7; let v : Word := 131072 + 65536 + 63 * 64 + 63; clear s vc0 13 21 v && !s.serSes 3 &&
      !s.serClosed 3 && s.prodIs (fieldOf v 5 0) 7 && s.consIs (fieldOf v 11 6) 7)] : List Bool).all id = true := by decide

theorem test_hyps_SerialReceptionRuns : ([
  !(up.setSer 3 { up.ser 3 with rxPend := false } |>.ser 3).rxPend,
  (let s := up.setSer 3 { up.ser 3 with rxPend := true, rxOld := true }; (s.ser 3).rxPend && (s.ser 3).rxOld &&
      !bitOf (s.ser 3).rx.cfg 17),
  (let s := rg up [(serKey 3 2, 3), (serKey 3 16, 8 * 64)]; let t := s.startRx 3; s.rxOn 3 && (s.ser 3).clocked == [] &&
      !t.bit (serKey 3 22) 16 && !bitOf (t.ser 3).rx.cfg 17), !up.rxOn 3,
  (let s := rg up [(serKey 3 2, 3)]; let s := s.setSer 3 { s.ser 3 with clocked := [131072 + 512] }; s.rxOn 3 &&
  (s.ser 3).clocked == [131072 + 512]),
  (let s := rg up [(serKey 3 22, 65536)]; s.bit (serKey 3 22) 16), !up.serSes 3 && up.reg (serKey 3 19) == 0,
  (ses up 7).serSes 3, (rg up [(serKey 3 19, 5)]).reg (serKey 3 19) != 0,
  (let s := slowly 255; let c := (s.ser 1).rx.cfg;
      let h := holdingWord c 511 false (parityError (fieldOf c 12 10) 511 true) false; s.slowOn 1 && !(s.ser 1).slow &&
      s.slowMatch 1 h == some 0),
  (let s := slowly 255; let c := (s.ser 1).rx.cfg;
      let h := holdingWord c 510 false (parityError (fieldOf c 12 10) 510 true) false; s.slowOn 1 && !(s.ser 1).slow &&
      s.slowMatch 1 h == none),
  (let s := (slowly 255).setSer 1 { (slowly 255).ser 1 with sl := some 255, slow := true }; s.slowOn 1 && (s.ser 1).slow &&
  (s.ser 1).sl == some 255), !up.slowOn 1] : List Bool).all id = true := by decide

theorem test_hyps_SerialTransmissionRuns : ([
  (let s := rg up [(serKey 3 2, 3)]; let s := s.setSer 3 { s.ser 3 with txHold := some 511 }; let x := s.ser 3; s.serOn &&
      x.txHold == some 511 && s.bit (serKey 3 2) 1 && !s.bit (serKey 3 2) 2 && x.txShift == none && x.flowDue == none &&
      !s.bit (serKey 3 3) 4),
  (let s := rg up [(serKey 3 2, 7)]; let s := s.setSer 3 { s.ser 3 with txShift := some 0 }; s.serOn &&
  (s.ser 3).txShift.isSome && s.bit (serKey 3 2) 2),
  (let s := rg up [(serKey 3 2, 3)]; let s := s.setSer 3 { s.ser 3 with flowDue := some true }; s.serOn &&
  (s.ser 3).flowDue == some true && s.bit (serKey 3 2) 1 && !s.bit (serKey 3 2) 2 && (s.ser 3).txShift == none),
  (rg up [(serKey 3 3, 16)]).bit (serKey 3 3) 4 && up.serOn, (up.ser 3).txHold == none && (up.ser 3).flowDue == none &&
  (up.ser 3).txShift == none && !up.bit (serKey 3 3) 4,
  (let s := rg (ring up 7 8) [(serKey 3 21, 131072 + 63), (serKey 3 19, 131072)]; let r := s.fld (serKey 3 21) 5 0;
      s.serOn && s.bit (serKey 3 21) 17 && s.prodIs r 7 && s.reg (serKey 3 19) != 0 && decide (1 ≤ s.ringRoom r)),
  (let s := mm (rg (ring up 8 7) [(serKey 3 21, 65536 + 63 * 64), (ringKey 63 2, 1)]) [(shramBase, 511)];
      let r := s.fld (serKey 3 21) 11 6; let e := s.ringReadE r (s.reg (ringKey r 3)).toNat 1; s.serOn &&
      s.bit (serKey 3 21) 16 && s.consIs r 7 && (s.ser 3).txHold == none && decide (1 ≤ s.ringFill r) && e.2.1 != 2),
  (let s := off (rg (ring up 7 8) [(serKey 3 21, 131072 + 63), (serKey 3 19, 131072)]) 2; s.serOn && !s.domOn 2 &&
      s.prodIs 63 7), up.reg (serKey 3 19) == 0 && !up.bit (serKey 3 21) 16,
  up.writerLive (.ses 0) && up.mayRead 0 13 19 && up.pageFresh 13 19 && !up.unperformed 0 (pageAddr 13 19),
  (let s := rg up [(sesKey 1 1, 0)]; s.writerLive (.ses 1) && !s.mayRead 1 13 19),
  (let s := off up 3; s.writerLive (.ses 0) && !s.pageFresh 13 19 && !s.domOn 3 && s.writerLive .tap && s.writerLive vc0)] : List Bool).all id = true := by decide

/-- A domain is put into a power state. -/
def inDom (s : State) (d : Fin 16) (p : BitVec 2) : State := { s with pwr := { s.pwr with dom := s.pwr.dom.set d.val p } }

/-- The device is put into a state, with no entry in progress. -/
def inDev (s : State) (d : DevState) : State := { s with pwr := { s.pwr with st := d } }

/-- Every core idles. -/
def idle : State := { up with cores := up.cores.map fun x => { x with mode := .idle } }

/-- An entry waits for its turn. -/
def entering (s : State) (d : DevState) : State := ({ s with pwr := { s.pwr with target := some d, cmdBy := some vc0 } } : State).setPhase 1

theorem test_hyps_ClockCommandsRun : ([
  (let s := rg up [(pg 2 3, 31), (pg 2 16, 26000)]; s.domOn 10 && s.pllRuns 1 && s.bit (pg 2 3) 1),
  (let s := rg up [(pg 2 3, 31), (pg 2 16, 26000)]; [0, 1, 2].all fun k => s.pllRuns k && s.locked k),
  (let s := rg up [(pg 2 3, 31), (pg 2 16, 26000)]; s.pllRuns 3 && s.locked 3),
  (let s := rg up [(pg 2 3, 0), (pg 2 16, 26000)]; [0, 1, 2].all fun k => s.pllRuns k && !s.locked k),
  (let s : State := { rg up [(pg 2 3, 0), (pg 2 16, 26000)] with time := { up.time with on := true } }; s.pllRuns 3 &&
      !s.locked 3 && s.time.on),
  clear up vc0 2 17 1, (let s := rg up [(pg 2 3, 16)]; clear s vc0 2 17 2 && s.bit (pg 2 3) 4),
  (let s := rg up [(pg 2 17, 2)]; s.bit (pg 2 17) 1 && !s.rtcSel && s.domOn 1),
  (let s : State := { up with time := { up.time with rtcDue := some true } }; s.time.rtcDue == some true),
      clear up vc0 1 31 262143,
  !(off up 10).domOn 10, !up.pllRuns 0 && !up.locked 0,
  (let s := rg up [(pg 2 3, 15)]; clear s vc0 2 17 0 && !s.bit (pg 2 3) 4), !(rg up [(pg 2 17, 0)]).bit (pg 2 17) 1 &&
      up.time.rtcDue == none,
  (let s : State := { rg up [(pg 2 17, 2)] with time := { up.time with rtcSrc := true, rtcDue := some false } };
      s.bit (pg 2 17) 1 && !s.rtcSel && s.time.rtcSrc),
  (let s : State := { rg up [(pg 2 17, 2)] with time := { up.time with rtcSrc := false } }; s.bit (pg 2 17) 1 &&
      !s.rtcSel && !s.time.rtcSrc),
  (let s := rg (off up 15) [(pg 2 3, 0), (pg 2 16, 26000)]; !s.pllRuns 3),
  (let s := rg up [(pg 2 3, 0), (pg 2 16, 26000)]; s.pllRuns 3 && !s.locked 3 && !s.time.on && !s.time.kept)] : List Bool).all id = true := by decide

theorem test_hyps_DomainCommandsRun : ([
  (let u := forceBit 100 17 false; [3, 14].all fun d => clear up vc0 1 (48 + d) u && !fixedDomain d && up.domOn d &&
      !up.offBusy d),
  clear up vc0 1 54 (forceBit 100 17 false) && !fixedDomain 6 && up.domOn 6 && !up.offBusy 6,
  (let s := inDom up 8 0; clear s vc0 1 56 (forceBit 100 17 true) && !fixedDomain 8 && !s.pwr.offPend.getLsbD 8),
  (let s := rg up [(pg 1 57, 131072 + 65536)]; !fixedDomain 9 && s.domOn 9 && s.bit (pg 1 57) 16 && s.domainIdle 9),
  (let s := rg (inDom up 8 1) [(pg 2 16, 26000)]; s.pstate 8 == 1 && s.pllsRun 8),
  (let s := up.setCore 3 { up.cores[3] with wod := true }; s.cores[3].wod),
  up.domOn 8 && up.domOn 9,
  [0, 1, 2, 15].all fun d => clear up vc0 1 (48 + d) (forceBit 100 17 false),
  (let s := inDom up 8 1; clear s vc0 1 56 (forceBit 100 17 false) && s.offBusy 8),
  (let s := inDom up 8 0; clear s vc0 1 56 (forceBit 100 17 false) && !s.domOn 8 && !s.offBusy 8),
  (let s : State := { up with pwr := { up.pwr with offPend := BitVec.ofNat 16 64 } };
      clear s vc0 1 54 (forceBit 100 17 true) && s.pwr.offPend.getLsbD 6),
  (let s := rg up [(pg 37 3, 1)]; clear s vc0 1 55 (forceBit 100 17 false) && s.domOn 7 && !s.offBusy 7),
      up.pstate 8 != 1 && !up.cores[3].wod && !(up.bit (pg 1 48) 16 && up.domainIdle 0 && !fixedDomain 0)] : List Bool).all id = true := by decide

theorem test_hyps_DeviceStatesRun : ([
  (let u := forceBit (2 * 3) 0 true; clear up vc0 1 2 u && up.phase == 0 && decide (up.pwr.st.code < fieldOf u 3 1) &&
      up.pins.persona != .legacy && fieldOf u 3 1 == 3),
  (let s := inDev up .doze; clear s vc0 1 2 (forceBit 0 0 true) && s.phase == 0 && s.pwr.st == .doze &&
      fieldOf (forceBit 0 0 true) 3 1 == 0),
  (let s := rg idle [(pg 1 22, 131072)]; s.ditNext 0 == some .doze && s.bit (pg 1 22) 17 && s.phase == 0),
  (let s := rg (inDev idle .doze) [(pg 1 23, 131072)]; s.ditNext 1 == some .sleep && s.bit (pg 1 23) 17 && s.phase == 0 &&
      !s.entryWaits .sleep),
  (let s := entering up .sleep; s.pwr.target == some .sleep && s.phase == 1 && s.entryWaits .sleep &&
      s.pwr.cmdBy == some vc0),
  (let s := entering idle .doze; s.pwr.target == some .doze && s.phase == 1 && !s.cores[0].shadow),
  (let s : State := { inDev up .doze with pwr := { (inDev up .doze).pwr with wakes := 1 } }; s.pwr.st == .doze &&
      s.pwr.target == none && s.pwr.wakes != 0 && !s.coreLevel),
  (let s := rg (inDev up .doze) [(routeKey 164, 131072 + 3 * 32768 + 7 * 4096), (pg 4 30, 131072)]; s.pwr.st == .doze &&
      s.pwr.target == none && s.coreLevel),
  (entering idle .sleep).ready .sleep, (entering idle .backup).ready .backup, (entering idle .dormant).ready .dormant,
  (let s : State := { inDev up .sleep with pwr := { (inDev up .sleep).pwr with wakes := 1 } }; s.pwr.st == .sleep &&
      s.pwr.wakes != 0 && s.pwr.target == none),
  (let s : State := { inDev up .dormant with pwr := { (inDev up .dormant).pwr with wakes := 1, rails := true }, pins := { up.pins with pwren := true } };
      s.pwr.st == .dormant && s.pwr.wakes != 0 && s.pwr.target == none && s.pwr.rails && s.pins.pwren),
  (let s := entering up .sleep; clear s vc0 1 2 (forceBit 0 0 true) && s.phase != 0),
      clear up vc0 1 2 (forceBit 0 0 true) && up.phase == 0 && !decide (up.pwr.st.code < 0) && up.pwr.st != .doze,
  (let s := rg (inDev up .doze) [(pg 1 23, 131072)]; s.ditNext 1 == some .sleep && s.bit (pg 1 23) 17 && s.phase == 0 &&
      s.entryWaits .sleep), !up.bit (pg 1 23) 17,
  (let s : State := { entering up .sleep with pwr := { (entering up .sleep).pwr with cmdLw := true } };
      s.entryWaits .sleep && s.pwr.cmdBy == some vc0 && s.pwr.cmdLw),
  (let s : State := { entering up .sleep with pwr := { (entering up .sleep).pwr with cmdBy := none } };
      s.pwr.target == some .sleep && s.phase == 1 && s.entryWaits .sleep && s.pwr.cmdBy == none),
  up.pwr.target == none && up.pwr.st == .run && !up.ready .sleep && !up.ready .backup && !up.ready .dormant] : List Bool).all id = true := by decide +kernel

theorem test_hyps_WakeAndBackupCommandsRun : ([
  (let s := rg up [(pg 1 71, 131072 + 65536)]; s.pinActive 7 &&
  (let t : State := { s with pins := { s.pins with wake := 127 } }; !t.pinActive 7)),
  (let s : State := { up with time := { up.time with almOn := true } }; s.time.almOn && s.domOn 1),
  (let s := rg up [(pg 1 32, 16383)]; clear s vc0 1 33 5 && !s.lost (bkpKey (s.fld (pg 1 32) 13 0))),
  up.pins.rstN && up.domOn 0,
  (let s : State := { inDev up .backup with pwr := { (inDev up .backup).pwr with rails := false }, pins := { up.pins with pwren := true } };
      s.pins.pwren && !s.pwr.rails && s.pwr.st == .backup),
  !up.time.almOn,
  (let s := rg up [(pg 44 20, 128)]; clear s vc0 1 33 5 && s.lost (bkpKey (s.fld (pg 1 32) 13 0))),
  up.writerLive (.ses 0) && up.mayRead 0 1 33 && up.pageFresh 1 33 && !up.unperformed 0 (pageAddr 1 33), up.pwr.rails] : List Bool).all id = true := by decide

theorem test_hyps_ResetsRun : ([
  Store.wf up.regs, up.pwr.st == .run, clear up vc0 3 2 (forceBit 0 0 true) && !up.bit (pg 14 3) 0 && !up.bit (pg 15 3) 5,
      !held.pins.rstN,
  (inDev up .backup).pwr.st == .backup,
  (let s := rg up [(pg 14 3, 1)]; clear s vc0 3 2 (forceBit 0 0 true) && s.bit (pg 14 3) 0), up.pins.rstN] : List Bool).all id = true := by decide

/-- VC0 holds the update lock, and the buffer stands at the start of shared RAM. -/
def holder : State := rg up [(updKey 16, 131072 + 8), (updKey 19, shramBase / 262144), (updKey 20, shramBase % 262144)]

/-- OTP rows are blown. -/
def fuses (s : State) (l : List (Nat × BitVec 16)) : State := { s with upd := { s.upd with otp := l } }

/-- A flash operation is in progress. -/
def flashOp (s : State) (o : FlashOp) : State := { s with upd := { s.upd with op := some o } }

/-- An OTP operation is in progress. -/
def otpOp (s : State) (o : Nat × Nat × BitVec 16) : State := { s with upd := { s.upd with lcsOp := some o } }

/-- The boot is under way. -/
def booting : State := { State.reset with pins := { State.reset.pins with rstN := true } }

/-- The state of a block write with a given CRC. -/
def blockState (a b : Word) : State :=
  { up with regs := [(updKey 3, 0), (updKey 16, 131080), (updKey 19, 2), (updKey 20, 0), (updKey 21, a), (updKey 22, b)] }

theorem test_hyps_UpdateLockCommandsRun : ([
  clear up vc0 14 16 (forceBit 0 17 true) && writerCode vc0 == some 8 && !up.bit (updKey 16) 17,
  (let s := rg up [(updKey 16, 131072 + 3)]; clear s vc0 14 16 (forceBit 0 17 true) && s.bit (updKey 16) 17 &&
      !s.lockHeldBy 8),
  (let s := rg up [(updKey 16, 131072 + 3)]; clear s (.ses 0) 14 16 (forceBit 0 17 false) && !s.holdsLock (.ses 0) &&
      s.isSupv (.ses 0)),
  (rg up [(updKey 16, 131072 + 3)]).bit (updKey 16) 17,
  clear up .tap 14 16 (forceBit 0 17 true) && writerCode .tap == none,
  (let s := rg up [(updKey 16, 131072 + 3)]; clear s vc0 14 16 (forceBit 0 17 false) && !s.holdsLock vc0 && !s.isSupv vc0),
      !up.bit (updKey 16) 17] : List Bool).all id = true := by decide

theorem test_hyps_FlashCommandsRun : ([
  (let u := forceBit 0 1 true; let s := holder; clear s vc0 14 2 u && !s.fbusy && setBits u 6 == [1] && s.holdsLock vc0 &&
      !s.bit (updKey 28) 1 && inShram (s.updNum 19) 2048),
  (let u := forceBit 0 2 true; let s : State := { rg up [(updKey 28, 2)] with upd := { up.upd with cKey := 0o363636 } };
      clear s vc0 14 2 u && !s.fbusy && setBits u 6 == [2] && !s.holdsLock vc0 && s.bit (updKey 28) 1 &&
      !s.bit (updKey 28) 6 && s.upd.cKey == 0o363636),
  (let u := forceBit 0 3 true; let s := mm up [(up.setBase false + 1, 16364)]; clear s vc0 14 2 u && !s.fbusy &&
      setBits u 6 == [3] && !s.holdsLock vc0 && !s.recovery && decide ((s.rdMem (s.setBase false + 1)).toNat ≤ 16364)),
  (let u := forceBit 0 4 true; let s := mm up [(up.setBase true + 1, 131052)]; clear s vc0 14 2 u && !s.fbusy &&
      setBits u 6 == [4] && !s.holdsLock vc0 && !s.recovery && decide ((s.rdMem (s.setBase true + 1)).toNat ≤ 131052)),
  (let u := forceBit 0 5 true; clear up vc0 14 2 u && !up.fbusy && setBits u 6 == [5] && !up.holdsLock vc0 && !up.recovery),
  (flashOp up (.block 0 [])).upd.op == some (.block 0 []), (flashOp up .activate).upd.op == some .activate,
  (flashOp up (.settings true 65535 [])).upd.op == some (.settings true 65535 []),
  (flashOp up .discard).upd.op == some .discard,
  (let s := rg up [(updKey 29, 1), (updKey 28, 2)]; s.reg (updKey 29) != 0 && s.pwr.st != .dormant && s.bit (updKey 28) 1),
  (let s := rg up [(updKey 29, 1)]; s.reg (updKey 29) != 0 && s.pwr.st != .dormant && !s.bit (updKey 28) 1),
  (let s := rg up [(updKey 33, 64 * 256)]; !s.bit (updKey 3) 5 && !s.recovery && !s.bit (updKey 3) 3 && !s.lcsBusy &&
      decide (s.fuseCount < s.fld (updKey 33) 14 8)),
  (let u := forceBit 0 0 true; clear up vc0 14 2 u && setBits u 6 == [0] && !up.holdsLock vc0),
  (let u := forceBit 1 1 true; clear up vc0 14 2 u && setBits u 6 == [0, 1]),
  (let u := forceBit 0 1 true; let s := rg holder [(updKey 19, 0), (updKey 20, 0)]; clear s vc0 14 2 u && s.holdsLock vc0 &&
      !s.fbusy && !s.bit (updKey 28) 1 && setBits u 6 == [1] && !inShram (s.updNum 19) 2048),
  (let u := forceBit 0 2 true; let s := rg up [(updKey 28, 2)]; clear s vc0 14 2 u && !s.fbusy && setBits u 6 == [2] &&
      s.bit (updKey 28) 1 && !s.bit (updKey 28) 6 && s.upd.cKey != 0o363636),
  (let s := mm up [(up.setBase false + 1, 16365)]; decide (16364 < (s.rdMem (s.setBase false + 1)).toNat)),
  (flashOp up .confirm).upd.op == some .confirm, up.upd.op == none,
  up.reg (updKey 29) == 0 && up.upd.lcsOp == none, decide (¬ up.fuseCount < up.fld (updKey 33) 14 8)] : List Bool).all id = true := by decide

/-- The hypotheses of a block write but for the CRC, and the CRC that the registers give. -/
theorem test_block_hyps (a b : Word) : clear (blockState a b) vc0 14 2 (forceBit 0 0 true) = true ∧ (blockState a b).fbusy = false
    ∧ setBits (forceBit 0 0 true) 6 = [0] ∧ (blockState a b).holdsLock vc0 = true ∧ (blockState a b).bit (updKey 28) 1 = false
    ∧ inShram ((blockState a b).updNum 19) 2048 = true ∧ (blockState a b).updNum 19 = shramBase
    ∧ (blockState a b).updNum 21 = a.toNat * 262144 + b.toNat := by
  have h8 : (blockState a b).bit (pg 14 8) 3 = false := by
    simp [State.bit, State.reg, blockState, Store.get?, pg, updKey]; decide
  have h : (blockState a b).heldByOther vc0 14 = false := by simp [State.heldByOther, h8]
  have hl : (blockState a b).lockedOut vc0 14 2 = false := by simp [State.lockedOut, h]
  have hn : (blockState a b).updNum 19 = shramBase := by
    simp [State.updNum, State.reg, blockState, Store.get?, updKey, pg, shramBase]
  refine ⟨?_, ?_, by decide, ?_, ?_, by rw [hn]; decide, hn, ?_⟩
  · rw [clear, hl]
    show (up.pins.rstN && true && up.domOn (homeDomain 14) && true && !false && !false && inRange (kindOf 14) 2 (forceBit 0 0 true)) = true
    decide
  · simp [State.fbusy, State.bit, State.reg, blockState, Store.get?, updKey, pg]; decide
  · simp [State.holdsLock, State.lockHeldBy, State.fld, State.bit, State.reg, blockState, Store.get?, updKey, pg]; decide
  · simp [State.bit, State.reg, blockState, Store.get?, updKey, pg]; decide
  · simp [State.updNum, State.reg, blockState, Store.get?, updKey, pg]

/-- A block whose CRC matches and one whose CRC does not, whatever the words of the buffer are. -/
theorem test_hyps_FlashCommandsRun_crc (m : Bool) : ∃ s : State, clear s vc0 14 2 (forceBit 0 0 true) = true ∧ s.fbusy = false
    ∧ setBits (forceBit 0 0 true) 6 = [0] ∧ s.holdsLock vc0 = true ∧ s.bit (updKey 28) 1 = false ∧ inShram (s.updNum 19) 2048 = true
    ∧ decide (crc32 (s.ramBytes (s.updNum 19) 4096).1 = s.updNum 21) = m := by
  have he : ∀ a b, (((blockState a b).ramBytes shramBase 4096).1) = ((blockState 0 0).ramBytes shramBase 4096).1 :=
    fun a b => by
    have hm : (blockState a b).mem = (blockState 0 0).mem := by simp only [blockState]
    have hp : (blockState a b).memEpoch = (blockState 0 0).memEpoch := by simp only [blockState]
    have hf : (blockState a b).freeCtr = (blockState 0 0).freeCtr := by simp only [blockState]
    exact State.ramBytes_congr hm hp hf shramBase 4096 (by decide)
  have hb : ∀ l, crc32 l < 2 ^ 32 := fun l => by unfold crc32; exact BitVec.isLt _
  obtain ⟨c, hc, hl⟩ : ∃ c, crc32 ((blockState 0 0).ramBytes shramBase 4096).1 = c ∧ c < 2 ^ 32 := by
    generalize ((blockState 0 0).ramBytes shramBase 4096).1 = l
    exact ⟨crc32 l, rfl, hb l⟩
  obtain ⟨d, hd, hdl⟩ : ∃ d, decide (c = d) = m ∧ d < 2 ^ 36 := by
    cases m
    · exact ⟨c + 1, by simp, by omega⟩
    · exact ⟨c, by simp, by omega⟩
  obtain ⟨h1, h2, h3, h4, h5, h6, h7, h8⟩ := test_block_hyps (BitVec.ofNat 18 (d / 262144)) (BitVec.ofNat 18 (d % 262144))
  refine ⟨blockState (BitVec.ofNat 18 (d / 262144)) (BitVec.ofNat 18 (d % 262144)), h1, h2, h3, h4, h5, h6, ?_⟩
  have e : (BitVec.ofNat 18 (d / 262144)).toNat * 262144 + (BitVec.ofNat 18 (d % 262144)).toNat = d := by
    rw [BitVec.toNat_ofNat, BitVec.toNat_ofNat]; omega
  rw [h7, h8, he, hc, e, hd]

theorem test_hyps_LifeCycleCommandsRun : ([
  (let u := forceBit 0 0 true; let s := rg up [(pg 15 17, 127), (pg 15 18, 65535)]; clear s vc0 15 2 u &&
      setBits u 3 == [0] && !s.lcsBusy && s.fld (pg 15 17) 6 0 == 127 && otpReach 127 && otpRight s.lcst 127),
  (let u := forceBit 0 1 true; let s := fuses (rg up [(pg 15 16, 1)]) [(16, 1)]; clear s vc0 15 2 u && setBits u 3 == [1] &&
      !s.lcsBusy && s.fld (pg 15 16) 2 0 == 1 && s.lcst == 0 && s.keySet 0),
  (let u := forceBit 0 1 true; let s := fuses (rg up [(pg 15 16, 3)]) [(8, 65280)]; clear s vc0 15 2 u &&
      setBits u 3 == [1] && !s.lcsBusy && s.fld (pg 15 16) 2 0 == 3 && s.lcst == 2),
  (let u := forceBit 0 2 true; let s := fuses (rg up [(pg 15 19, shramBase / 262144), (pg 15 20, shramBase % 262144)]) [(8,
      65280)]; clear s vc0 15 2 u && setBits u 3 == [2] && !s.lcsBusy && s.lcst == 2 && inShram s.tokenAddr 48),
  [0, 1, 2, 3].all (fun k => (otpOp up (k, 9, 65280)).upd.lcsOp == some (k, 9, 65280)),
  groupBlown (((fuses up [(9, 65280)]).otpRow 9).toNat / 256),
  (let s := fuses up [(9, 31)]; !groupBlown ((s.otpRow 9).toNat / 256) && groupBlown (s.otpRow 9).toNat),
  up.lcst == 0, (fuses up [(8, 248)]).lcst == 1, (fuses up [(8, 248 * 256)]).lcst == 2, (fuses up [(9, 248)]).lcst == 3,
  (let u := forceBit 1 1 true; clear up vc0 15 2 u && setBits u 3 == [0, 1]),
  (let u := forceBit 0 2 true; clear up vc0 15 2 u && setBits u 3 == [2] && !up.lcsBusy && up.lcst != 2 && up.lcst != 3),
  (let u := forceBit 0 0 true; clear up vc0 15 2 u && !up.lcsBusy && setBits u 3 == [0] &&
      !otpReach (up.fld (pg 15 17) 6 0)),
  (let u := forceBit 0 0 true; let s := fuses (rg up [(pg 15 17, 48), (pg 15 18, 65535)]) [(8, 255)]; clear s vc0 15 2 u &&
      otpReach 48 && otpRight s.lcst 48 && !s.keysLeft 65535),
  (let u := forceBit 0 1 true; let s := rg up [(pg 15 16, 1)]; clear s vc0 15 2 u && setBits u 3 == [1] && s.lcst == 0 &&
      !s.keySet 0 && !s.keySet 1),
  (let u := forceBit 0 2 true; let s := fuses up [(8, 65280)]; clear s vc0 15 2 u && s.lcst == 2 &&
      !inShram s.tokenAddr 48), up.upd.lcsOp == none] : List Bool).all id = true := by decide

theorem test_hyps_BootCommandsRun : ([
  (let s := fuses booting [(49, 52000)]; s.pins.rstN && s.bit (updKey 3) 5 && s.bootKhz == some 52000 && s.bootSrc != 2),
  (let s := fuses { booting with pins := { booting.pins with bootsrcPins := 2 } } [(49, 10000)]; s.pins.rstN &&
      s.bit (updKey 3) 5 && s.bootKhz == some 10000 && s.bootSrc == 2),
  booting.pins.rstN && booting.bit (updKey 3) 5 && !booting.upd.warm && booting.otpRow 49 == 0 && !booting.bit (pg 2 3) 4,
  (let s : State := { booting with upd := { booting.upd with flash := [(folioBase 0, 0), (folioBase 0 + 1, 0), (folioBase 0 + 2, 0), (folioBase 0 + 3, 0)] } };
      !s.check1 0),
  (let s : State := { fuses booting [(12, 65535), (13, 65535), (14, 65535), (15, 65535)] with upd := { (fuses booting [(12, 65535), (13, 65535), (14, 65535), (15, 65535)]).upd with flash := [(folioBase 1 + 20, 63)] } };
      decide ((s.colophon 1).svn < s.fuseCount)),
  booting.bootKhz == none && !up.bit (updKey 3) 5,
  (let s : State := { booting with upd := { booting.upd with mute := 64 } }; s.muted 6 && !booting.muted 6)] : List Bool).all id = true := by decide

end Sys2Proof.Tests
end

section
/-! SUPPORT. What the end of a command changes, and an idle nanosecond: the step of the machine (00 R12, log 6). -/

namespace Sys2Proof.Machine

/-! ### The end of a command -/

theorem State.wakeDom_eq (s : State) (d : Nat) : s.wakeDom d = { s with regs := (s.wakeDom d).regs, pwr := (s.wakeDom d).pwr } := by
  unfold State.wakeDom
  split
  · rw [State.setB, State.setF, State.setReg_eq]
  · rfl

/-- What the power-up of the cores whose levels became pending changes. -/
theorem State.wakeLevels_eq (s t : State) :
    s.wakeLevels t = { t with regs := (s.wakeLevels t).regs, pwr := (s.wakeLevels t).pwr } := by
  unfold State.wakeLevels
  split
  · refine List.foldlRecOn (motive := fun (u : State) => u = { t with regs := u.regs, pwr := u.pwr }) _ _ rfl fun u hu c _ => ?_
    split
    · rw [State.wakeDom_eq, hu]
    · exact hu
  · rfl

/-- What the end of a command changes. -/
theorem settle_eq (s t : State) : settle s t =
    { t with regs := (settle s t).regs, pwr := (settle s t).pwr, ev := (settle s t).ev, freeCtr := (settle s t).freeCtr } := by
  unfold settle
  rw [State.wakeLevels_eq]

@[simp] theorem settle_pending (s t : State) : (settle s t).pending = t.pending := by rw [settle_eq]
@[simp] theorem settle_mem (s t : State) : (settle s t).mem = t.mem := by rw [settle_eq]
@[simp] theorem settle_time (s t : State) : (settle s t).time = t.time := by rw [settle_eq]
@[simp] theorem settle_chans (s t : State) : (settle s t).chans = t.chans := by rw [settle_eq]
@[simp] theorem settle_pins (s t : State) : (settle s t).pins = t.pins := by rw [settle_eq]
@[simp] theorem settle_upd (s t : State) : (settle s t).upd = t.upd := by rw [settle_eq]

/-! ### One nanosecond (07 R214, log 6) -/

/-- RXT short of its wrap counts one nanosecond; of the rest, time pulses and the second tick may change. -/
theorem State.rxtTick_eq (s : State) (hon : s.time.on = true) (hwrap : s.time.ns + 1 < rxtMod) :
    s.rxtTick = { s with time := { s.time with ns := s.time.ns + 1 }, tps := s.rxtTick.tps, regs := s.rxtTick.regs }
      ∧ s.rxtTick.reg (pg 2 3) = s.reg (pg 2 3) := by
  have hr : s.reach (s.time.ns + 1) = (s.setNs (s.time.ns + 1)).settlePols := by
    simp [State.reach, hon, hwrap]
  unfold State.rxtTick
  rw [hr, if_neg (by simp [hon])]
  simp only
  split
  · exact ⟨rfl, by rw [State.setB, State.setF, State.reg_setReg_ne _ _ (by decide)]; rfl⟩
  · exact ⟨rfl, rfl⟩

theorem State.rtcNano_of_stopped {s : State} (h : s.rtcRuns = false) : s.rtcNano = s := by
  simp [State.rtcNano, h]

theorem State.pwmNano_eq (s : State) : s.pwmNano = { s with pwm := s.pwmNano.pwm, feeds := s.pwmNano.feeds } := by
  unfold State.pwmNano
  split <;> rfl

/-- An idle nanosecond before the wrap of RXT, with the RTC stopped. -/
theorem State.idle_of_rtc_stopped {s : State} (hon : s.time.on = true) (hrtc : s.rtcRuns = false) (hwrap : s.time.ns + 1 < rxtMod) :
    s.idle = settle s s.rxtTick.pwmNano := by
  obtain ⟨ht, hc⟩ := s.rxtTick_eq hon hwrap
  have hr : s.rxtTick.rtcRuns = s.rtcRuns := by
    have hb : s.rxtTick.bit (pg 2 3) 4 = s.bit (pg 2 3) 4 := by simp only [State.bit, hc]
    have hd : s.rxtTick.domOn 1 = s.domOn 1 := by rw [ht]; rfl
    have hs : s.rxtTick.time.rtcSrc = s.time.rtcSrc := by rw [ht]
    rw [State.rtcRuns, hb, hd, hs, ← State.rtcRuns]
  rw [State.idle, State.rtcNano_of_stopped (hr.trans hrtc)]

/-- Settles O1, by the equations of `step` and of an idle nanosecond. -/
theorem stepRunsFrontCommand : Obligations.StepRunsFrontCommand := by
  refine ⟨fun c r s h => by simp [step, h], fun s h => by simp [step, h], fun s h hon hrtc hwrap => ?_⟩
  refine ⟨s.idle, by simp [step, h], ?_⟩
  rw [State.idle_of_rtc_stopped hon hrtc hwrap, settle_time, settle_pending, settle_chans, settle_mem, State.pwmNano_eq,
    (s.rxtTick_eq hon hwrap).1]
  exact ⟨rfl, h, rfl, rfl⟩

end Sys2Proof.Machine
end

section
/-! SUPPORT. The bits that a plain write changes (00 R12, R14), and the resets (14 R474, R479; 15 R502; 16 R543). -/

namespace Sys2Proof.Machine

/-! ### Bits of a word -/

theorem bitOf_eq_getLsbD (v : Word) (i : Nat) : bitOf v i = v.getLsbD i := rfl

theorem getElem_wordOf (n i : Nat) (h : i < 18) : (wordOf n)[i] = n.testBit i := by
  rw [BitVec.getElem_eq_testBit_toNat, wordOf, BitVec.toNat_ofNat, Nat.testBit_mod_two_pow]
  simp [h]

/-- A bit of a word that a plain write leaves (00 R12, R14). -/
theorem bitOf_mergeWrite (f : WInfo) (old v : Word) (i : Nat) (h : i < 18) :
    bitOf (mergeWrite f old v) i
      = ((bitOf old i && !f.rw.testBit i || bitOf v i && f.rw.testBit i) && !(bitOf v i && f.w1c.testBit i)) := by
  simp [mergeWrite, bitOf_eq_getLsbD, getElem_wordOf, h]

theorem State.plain_eq (s : State) (w : Writer) (p wd : Nat) (v : Word) :
    s.plain w p wd v = { s with regs := (s.plain w p wd v).regs } := rfl

/-- Settles O10, from the bit of a merged word and the laws of a register update. -/
theorem plainWritesFollowTheAccessCodes : Obligations.PlainWritesFollowTheAccessCodes := by
  intro s w p wd v i f hwf hi hf
  have hbit : (s.plain w p wd v).bit (keyFor w p wd) i
      = ((s.bit (keyFor w p wd) i && !f.rw.testBit i || bitOf v i && f.rw.testBit i) && !(bitOf v i && f.w1c.testBit i)) := by
    rw [State.bit, State.plain, State.reg_setReg_self _ _ _ hwf, bitOf_mergeWrite _ _ _ _ hi, hf, State.bit]
  refine ⟨fun hr hc => ?_, fun hr hc => ?_, fun hr hc => ?_, fun k hk => ?_, ?_⟩
  · simp [hbit, hr, hc]
  · simp [hbit, hr, hc]
  · simp [hbit, hr, hc]
  · rw [State.plain, State.reg_setReg_ne _ _ hk]
  · rw [State.plain_eq]

/-! ### Resets -/

/-- A write of RST.CTRL whose checks pass restarts the device, or is refused with BUSY while an operation runs (15 R502). -/
theorem execWarmRestart_of_clear {s : State} {w : Writer} {v : Word} (hc : s.Clear w 3 2 (forceBit v 0 true)) :
    execWarmRestart w v s = done s (if s.bit (pg 14 3) 0 = true ∨ s.bit (pg 15 3) 5 = true
      then s.recordRefusal w (some 3) 2 eBUSY (pageAddr 3 2) else s.warmReset) := by
  have hb : bitOf (forceBit v 0 true) 0 = true := bitOf_forceBit v 0 true (by decide)
  have hh : rstCtrl w (forceBit v 0 true) s
      = ⟨if s.bit (pg 14 3) 0 = true ∨ s.bit (pg 15 3) 5 = true then eBUSY else 0, true, 0, s.warmReset⟩ := by
    rw [rstCtrl, if_pos hb]
  rw [execWarmRestart, hh]
  split
  next => rw [guarded_refused hc (show eBUSY ≠ 0 by decide)]
  next => rw [guarded_clear hc rfl rfl rfl]

/-- Settles O56, by the meaning of each command. -/
theorem resetsRun : Obligations.ResetsRun := by
  intro s held hheld
  have ewarm : ∀ w v, exec (.warmRestart w v) s = execWarmRestart w v s := fun _ _ => rfl
  have esupply : exec .supplyFall s = execSupplyFall s := rfl
  have ebrown : exec .brownOut s = execBrownOut s := rfl
  have erel : ∀ p b, exec (.rstNRelease p b) s = execRstNRelease p b s := fun _ _ => rfl
  refine ⟨by rw [hheld]; rfl, fun t ht => by rw [hheld, ht]; rfl, fun p b t ht hp hb => ?_, fun h1 h2 => ?_, fun h => ?_,
    fun w v hc => ?_, fun p b => ?_⟩
  · subst ht hp hb
    exact ⟨fun h => by rw [ebrown, execBrownOut, if_pos h]; rfl, fun h => by rw [ebrown, execBrownOut, if_neg (by simp [h])]; rfl⟩
  · rw [esupply, execSupplyFall, if_neg (by simp [h1, h2])]; rfl
  · rw [esupply, execSupplyFall, if_pos h]; rfl
  · rw [ewarm, execWarmRestart_of_clear hc]
    exact ⟨fun h => by rw [if_pos h]; rfl, fun h1 h2 => by rw [if_neg (by simp [h1, h2])]; rfl⟩
  · rw [erel, execRstNRelease]
    exact ⟨fun h => by rw [if_neg (by simp [h])]; rfl, fun h => by rw [if_pos h]; rfl⟩

end Sys2Proof.Machine
end

section
/-! SUPPORT. What a refused write records, word by word (00 R17, R19; 12 R398). -/

namespace Sys2Proof.Machine

/-! ### What a refusal records (00 R17, R19; 12 R398) -/

theorem pg_ne_of_word {p q a b : Nat} (ha : a < 1024) (hb : b < 1024) (h : a ≠ b) : pg p a ≠ pg q b := by
  unfold pg; omega

theorem pg_ne_of_page {p q a b : Nat} (ha : a < 1024) (hb : b < 1024) (h : p ≠ q) : pg p a ≠ pg q b := by
  unfold pg; omega

theorem fieldOf_wordOf_low {n hi : Nat} (h : hi < 18) (hn : n < 2 ^ (hi + 1)) : fieldOf (wordOf n) hi 0 = n := by
  have hp : 2 ^ (hi + 1) ≤ 2 ^ 18 := Nat.pow_le_pow_right (by decide) (by omega)
  have hm : (wordOf n).toNat = n := Nat.mod_eq_of_lt (by omega)
  rw [fieldOf, hm, Nat.pow_zero, Nat.div_one, Nat.sub_zero, Nat.mod_eq_of_lt hn]

/-- Bit 17 and the code in bits 3 to 0 do not overlap. -/
theorem fieldOf_code_withField_mark (v : Word) (n : Nat) : fieldOf (withField v 17 17 n) 3 0 = fieldOf v 3 0 := by
  have h := withField_toNat v 17 17 n (by decide) (by decide)
  have h17 : fieldOf v 17 17 = v.toNat / 131072 % 2 := rfl
  rw [h17] at h
  simp only [fieldOf] at h ⊢
  omega

theorem State.wf_pageErr (s : State) (p c o : Nat) (h : Store.wf s.regs = true) : Store.wf (s.pageErr p c o).regs = true := by
  unfold State.pageErr
  split
  · exact State.wf_setReg _ _ _ (State.wf_setReg _ _ _ h)
  · exact h

/-- ERR and ERRADR of a page take the first code and its offset. -/
theorem State.pageErr_first (s : State) (p : Nat) {c o : Nat} (hwf : Store.wf s.regs = true) (h0 : s.fld (pg p 6) 3 0 = 0)
    (hc : c < 16) (ho : o < 1024) :
    (s.pageErr p c o).fld (pg p 6) 3 0 = c ∧ (s.pageErr p c o).reg (pg p 7) = wordOf o := by
  rw [State.pageErr, if_pos h0, Nat.mod_eq_of_lt ho, State.fld, State.reg_setReg_self _ _ _ (State.wf_setReg _ _ _ hwf),
    State.reg_setReg_ne _ _ (pg_ne_of_word (by decide) (by decide) (by decide)), State.reg_setReg_self _ _ _ hwf,
    fieldOf_wordOf_low (by decide) hc]
  exact ⟨rfl, rfl⟩

theorem State.pageErr_held (s : State) (p c o : Nat) (h0 : s.fld (pg p 6) 3 0 ≠ 0) : s.pageErr p c o = s := by
  rw [State.pageErr, if_neg h0]

theorem State.reg_pageErr_ne (s : State) {p c o k : Nat} (h6 : k ≠ pg p 6) (h7 : k ≠ pg p 7) : (s.pageErr p c o).reg k = s.reg k := by
  unfold State.pageErr
  split
  · rw [State.reg_setReg_ne _ _ h7, State.reg_setReg_ne _ _ h6]
  · rfl

theorem State.wf_incSat (s : State) (k : Nat) (h : Store.wf s.regs = true) : Store.wf (s.incSat k).regs = true := State.wf_setReg _ _ _ h

theorem State.wf_setF (s : State) (k hi lo n : Nat) (h : Store.wf s.regs = true) : Store.wf (s.setF k hi lo n).regs = true :=
  State.wf_setReg _ _ _ h

theorem State.reg_incSat_ne (s : State) {k x : Nat} (h : x ≠ k) : (s.incSat k).reg x = s.reg x := State.reg_setReg_ne _ _ h

theorem State.reg_setF_ne (s : State) {k x : Nat} (hi lo n : Nat) (h : x ≠ k) : (s.setF k hi lo n).reg x = s.reg x :=
  State.reg_setReg_ne _ _ h

theorem State.reg_setB_ne (s : State) {k x : Nat} (i : Nat) (b : Bool) (h : x ≠ k) : (s.setB k i b).reg x = s.reg x :=
  State.reg_setReg_ne _ _ h

theorem sesWord_ne {i j : Nat} (q : Nat) (hi : i < 100) (hj : j < 100) (hq : q < 8) (h : i ≠ j) :
    pg 5 (i + 16 * q) ≠ pg 5 (j + 16 * q) :=
  pg_ne_of_word (by omega) (by omega) (by omega)

/-- The count of a session's refusals lies apart from the code. -/
theorem State.fld_incSat_sesCount (s : State) {q : Nat} (hq : q < 8) :
    (s.incSat (pg 5 (37 + 16 * q))).fld (pg 5 (34 + 16 * q)) 3 0 = s.fld (pg 5 (34 + 16 * q)) 3 0 := by
  rw [State.fld, State.reg_incSat_ne _ (sesWord_ne q (by decide) (by decide) hq (by decide)), State.fld]

theorem State.sesErr_eq_first (s : State) {q : Nat} (code a : Nat) (hq : q < 8) (h0 : s.fld (pg 5 (34 + 16 * q)) 3 0 = 0) :
    s.sesErr q code a = (((s.incSat (pg 5 (37 + 16 * q))).setF (pg 5 (34 + 16 * q)) 3 0 code).setReg (pg 5 (35 + 16 * q))
      (wordOf (a / 262144))).setReg (pg 5 (36 + 16 * q)) (wordOf a) := by
  simp only [State.sesErr, State.fld_incSat_sesCount s hq, h0, if_true]

theorem State.sesErr_eq_further (s : State) {q : Nat} (code a : Nat) (hq : q < 8) (h0 : s.fld (pg 5 (34 + 16 * q)) 3 0 ≠ 0) :
    s.sesErr q code a = (s.incSat (pg 5 (37 + 16 * q))).setB (pg 5 (34 + 16 * q)) 17 true := by
  simp only [State.sesErr, State.fld_incSat_sesCount s hq, h0, if_false]

/-- The words 34 to 37 of a session's block take the record of its refusal. -/
theorem State.reg_sesErr_ne (s : State) {q code a k : Nat} (hq : q < 8) (h : ∀ i, 34 ≤ i → i ≤ 37 → k ≠ pg 5 (i + 16 * q)) :
    (s.sesErr q code a).reg k = s.reg k := by
  have h34 := h 34 (by decide) (by decide)
  have h37 := h 37 (by decide) (by decide)
  by_cases h0 : s.fld (pg 5 (34 + 16 * q)) 3 0 = 0
  · rw [State.sesErr_eq_first s code a hq h0, State.reg_setReg_ne _ _ (h 36 (by decide) (by decide)),
      State.reg_setReg_ne _ _ (h 35 (by decide) (by decide)), State.reg_setF_ne _ _ _ _ h34, State.reg_incSat_ne _ h37]
  · rw [State.sesErr_eq_further s code a hq h0, State.reg_setB_ne _ _ _ h34, State.reg_incSat_ne _ h37]

/-- The error word of a session takes the first code and the address. -/
theorem State.sesErr_first (s : State) {q code : Nat} (a : Nat) (hq : q < 8) (hwf : Store.wf s.regs = true)
    (h0 : s.fld (pg 5 (34 + 16 * q)) 3 0 = 0) (hc : code < 16) :
    (s.sesErr q code a).fld (pg 5 (34 + 16 * q)) 3 0 = code
      ∧ (s.sesErr q code a).reg (pg 5 (35 + 16 * q)) = wordOf (a / 262144)
      ∧ (s.sesErr q code a).reg (pg 5 (36 + 16 * q)) = wordOf a := by
  have ne := fun i j hi hj h => sesWord_ne (i := i) (j := j) q hi hj hq h
  have hwf1 := State.wf_incSat s (pg 5 (37 + 16 * q)) hwf
  have hwf2 := State.wf_setF _ (pg 5 (34 + 16 * q)) 3 0 code hwf1
  rw [State.sesErr_eq_first s code a hq h0]
  refine ⟨?_, ?_, State.reg_setReg_self _ _ _ (State.wf_setReg _ _ _ hwf2)⟩
  · rw [State.fld, State.reg_setReg_ne _ _ (ne 34 36 (by decide) (by decide) (by decide)),
      State.reg_setReg_ne _ _ (ne 34 35 (by decide) (by decide) (by decide)), ← State.fld,
      State.fld_setF_self _ _ _ _ _ hwf1 (by decide) (by decide)]
    exact Nat.mod_eq_of_lt hc
  · rw [State.reg_setReg_ne _ _ (ne 35 36 (by decide) (by decide) (by decide)), State.reg_setReg_self _ _ _ hwf2]

/-- A further code marks the error word of a session, which keeps the first and its address. -/
theorem State.sesErr_further (s : State) {q : Nat} (code a : Nat) (hq : q < 8) (hwf : Store.wf s.regs = true)
    (h0 : s.fld (pg 5 (34 + 16 * q)) 3 0 ≠ 0) :
    (s.sesErr q code a).fld (pg 5 (34 + 16 * q)) 3 0 = s.fld (pg 5 (34 + 16 * q)) 3 0
      ∧ (s.sesErr q code a).bit (pg 5 (34 + 16 * q)) 17 = true
      ∧ (s.sesErr q code a).reg (pg 5 (35 + 16 * q)) = s.reg (pg 5 (35 + 16 * q))
      ∧ (s.sesErr q code a).reg (pg 5 (36 + 16 * q)) = s.reg (pg 5 (36 + 16 * q)) := by
  have ne := fun i j hi hj h => sesWord_ne (i := i) (j := j) q hi hj hq h
  have hwf1 := State.wf_incSat s (pg 5 (37 + 16 * q)) hwf
  rw [State.sesErr_eq_further s code a hq h0]
  refine ⟨?_, State.bit_setB_self _ _ _ _ hwf1 (by decide), ?_, ?_⟩
  · rw [State.fld, State.setB, State.setF, State.reg_setReg_self _ _ _ hwf1, fieldOf_code_withField_mark, ← State.fld,
      State.fld_incSat_sesCount s hq]
  · rw [State.reg_setB_ne _ _ _ (ne 35 34 (by decide) (by decide) (by decide)),
      State.reg_incSat_ne _ (ne 35 37 (by decide) (by decide) (by decide))]
  · rw [State.reg_setB_ne _ _ _ (ne 36 34 (by decide) (by decide) (by decide)),
      State.reg_incSat_ne _ (ne 36 37 (by decide) (by decide) (by decide))]

theorem State.reg_raise_ne (s : State) {p i k : Nat} (h : k ≠ pg p 4) : (s.raise p i).reg k = s.reg k := State.reg_setReg_ne _ _ h

/-- Only the CORE page's ERR, ERRADR and IPEND take the record of a core's error. -/
theorem State.reg_coreErr_ne (s : State) {c code k : Nat} (h4 : k ≠ pg (45 + c) 4) (h6 : k ≠ pg (45 + c) 6) (h7 : k ≠ pg (45 + c) 7) :
    (s.coreErr c code).reg k = s.reg k := by
  rw [State.coreErr, State.reg_raise_ne _ h4, State.reg_pageErr_ne _ h6 h7]

/-- The source of a session's error word is asserted while the word holds a code. -/
theorem State.asserted_sesErr (s : State) (q : Fin 8) : s.asserted (131 + q.val) = (s.fld (pg 5 (34 + 16 * q.val)) 3 0 != 0) := by
  have h := q.isLt
  unfold State.asserted
  repeat rw [if_neg (by omega)]
  rw [if_pos (by omega), Nat.add_sub_cancel_left]

/-- IPEND, ERR and ERRADR of a core's page after an error of the core. -/
theorem State.coreErr_words (s : State) (c : Nat) {code : Nat} (hwf : Store.wf s.regs = true) (hc : code < 16) :
    (s.coreErr c code).bit (pg (45 + c) 4) 4 = true
      ∧ (s.fld (pg (45 + c) 6) 3 0 = 0 → (s.coreErr c code).fld (pg (45 + c) 6) 3 0 = code ∧ (s.coreErr c code).reg (pg (45 + c) 7) = 0)
      ∧ (s.fld (pg (45 + c) 6) 3 0 ≠ 0 → (s.coreErr c code).reg (pg (45 + c) 6) = s.reg (pg (45 + c) 6)
        ∧ (s.coreErr c code).reg (pg (45 + c) 7) = s.reg (pg (45 + c) 7)) := by
  have n64 : pg (45 + c) 6 ≠ pg (45 + c) 4 := pg_ne_of_word (by decide) (by decide) (by decide)
  have n74 : pg (45 + c) 7 ≠ pg (45 + c) 4 := pg_ne_of_word (by decide) (by decide) (by decide)
  simp only [State.coreErr]
  refine ⟨State.bit_raise_self _ _ _ (State.wf_pageErr _ _ _ _ hwf) (by decide), fun h0 => ?_, fun h0 => ?_⟩
  · obtain ⟨h6, h7⟩ := s.pageErr_first (45 + c) hwf h0 hc (show 0 < 1024 by decide)
    rw [State.fld, State.reg_raise_ne _ n64, State.reg_raise_ne _ n74, ← State.fld]
    exact ⟨h6, h7⟩
  · rw [State.reg_raise_ne _ n64, State.reg_raise_ne _ n74, State.pageErr_held _ _ _ _ h0]
    exact ⟨rfl, rfl⟩

/-- The key k holds no word of writer w's record of its own. -/
def notErrWord (w : Writer) (k : Nat) : Prop :=
  match w with
  | .ses q => ∀ i, 34 ≤ i → i ≤ 37 → k ≠ pg 5 (i + 16 * q.val)
  | .core c => k ≠ pg (45 + c.val) 4 ∧ k ≠ pg (45 + c.val) 6 ∧ k ≠ pg (45 + c.val) 7
  | .tap => True

theorem State.reg_writerErr_ne (s : State) {w : Writer} {code a k : Nat} (h : notErrWord w k) : (s.writerErr w code a).reg k = s.reg k := by
  cases w with
  | ses q => exact State.reg_sesErr_ne _ q.isLt h
  | core c => exact State.reg_coreErr_ne _ h.1 h.2.1 h.2.2
  | tap => rfl

/-- ERR and ERRADR of a page are no words of a writer's own record, but for those of the writing core. -/
theorem notErrWord_pageErr {w : Writer} {p wd : Nat} (hp : ∀ c : Fin 4, w = .core c → p ≠ 45 + c.val) (hw : wd = 6 ∨ wd = 7) :
    notErrWord w (pg p wd) := by
  cases w with
  | ses q =>
    intro i h1 h2
    exact pg_ne_of_word (by omega) (by omega) (by omega)
  | core c =>
    have n := fun b (hb : b < 1024) => pg_ne_of_page (show wd < 1024 by omega) hb (hp c rfl)
    exact ⟨n 4 (by decide), n 6 (by decide), n 7 (by decide)⟩
  | tap => trivial

/-- What a refusal leaves of the page's own record once the writer's is made. -/
theorem State.reg_recordRefusal_page (s : State) {w : Writer} {p wd off code a : Nat} (hp : ∀ c : Fin 4, w = .core c → p ≠ 45 + c.val)
    (hw : wd = 6 ∨ wd = 7) : (s.recordRefusal w (some p) off code a).reg (pg p wd) = (s.pageErr p code off).reg (pg p wd) :=
  State.reg_writerErr_ne _ (notErrWord_pageErr hp hw)

/-- The page's part of the record of a refusal. -/
def State.pageRecorded (s : State) (pp : Option Nat) (off code : Nat) : State :=
  match pp with
  | some p => s.pageErr p code off
  | none => s

theorem State.recordRefusal_eq_writerErr (s : State) (w : Writer) (pp : Option Nat) (off code a : Nat) :
    s.recordRefusal w pp off code a = (s.pageRecorded pp off code).writerErr w code a := rfl

section
variable (s : State) {pp : Option Nat} {p : Nat} (off code : Nat)

theorem State.wf_pageRecorded (hwf : Store.wf s.regs = true) : Store.wf (s.pageRecorded pp off code).regs = true := by
  cases pp with
  | none => exact hwf
  | some x => exact State.wf_pageErr _ _ _ _ hwf

theorem State.reg_pageRecorded_ne (hpp : pp = none ∨ pp = some p) {k : Nat} (h6 : k ≠ pg p 6) (h7 : k ≠ pg p 7) :
    (s.pageRecorded pp off code).reg k = s.reg k := by
  rcases hpp with rfl | rfl
  · rfl
  · exact State.reg_pageErr_ne _ h6 h7

/-- A word that neither part of the record holds stays. -/
theorem State.reg_recordRefusal_ne (hpp : pp = none ∨ pp = some p) {w : Writer} {a k : Nat} (h6 : k ≠ pg p 6) (h7 : k ≠ pg p 7)
    (hk : notErrWord w k) : (s.recordRefusal w pp off code a).reg k = s.reg k := by
  rw [State.recordRefusal_eq_writerErr, State.reg_writerErr_ne _ hk, State.reg_pageRecorded_ne _ _ _ hpp h6 h7]

theorem State.recordRefusal_frame (w : Writer) (a : Nat) : { s.recordRefusal w pp off code a with regs := s.regs } = s := by
  rw [State.recordRefusal_eq]

end

/-- The page's part of the record (00 R17). -/
theorem State.recordRefusal_page (s : State) {w : Writer} {p off code : Nat} (a : Nat) (hwf : Store.wf s.regs = true) (hc : code < 16)
    (ho : off < 1024) (hp : ∀ c : Fin 4, w = .core c → p ≠ 45 + c.val) :
    (s.fld (pg p 6) 3 0 = 0 → (s.recordRefusal w (some p) off code a).fld (pg p 6) 3 0 = code
        ∧ (s.recordRefusal w (some p) off code a).fld (pg p 7) 9 0 = off)
      ∧ (s.fld (pg p 6) 3 0 ≠ 0 → (s.recordRefusal w (some p) off code a).reg (pg p 6) = s.reg (pg p 6)
        ∧ (s.recordRefusal w (some p) off code a).reg (pg p 7) = s.reg (pg p 7)) := by
  have r6 := s.reg_recordRefusal_page (off := off) (code := code) (a := a) hp (.inl rfl)
  have r7 := s.reg_recordRefusal_page (off := off) (code := code) (a := a) hp (.inr rfl)
  refine ⟨fun h0 => ?_, fun h0 => by rw [r6, r7, State.pageErr_held _ _ _ _ h0]; exact ⟨rfl, rfl⟩⟩
  obtain ⟨h6, h7⟩ := s.pageErr_first p hwf h0 hc ho
  exact ⟨by rw [State.fld, r6, ← State.fld, h6], by rw [State.fld, r7, h7, fieldOf_wordOf_low (by decide) ho]⟩

/-- Settles O8, from the record of the page and that of the writer, which lie apart. -/
theorem refusedWritesAreRecorded : Obligations.RefusedWritesAreRecorded := by
  intro s p off code a hwf _ hpos hc ho _
  refine ⟨fun w t ht => ?_, fun q pp t ht hpp => ?_, fun c pp t ht hpp => ?_⟩
  · subst ht
    exact ⟨fun h0 hp => (s.recordRefusal_page a hwf hc ho hp).1 h0, fun h0 hp => (s.recordRefusal_page a hwf hc ho hp).2 h0⟩
  · have hwfu := s.wf_pageRecorded (pp := pp) off code hwf
    have hreg : ∀ i, 34 ≤ i → i ≤ 37 → (s.pageRecorded pp off code).reg (pg 5 (i + 16 * q.val)) = s.reg (pg 5 (i + 16 * q.val)) :=
      fun i h1 h2 => s.reg_pageRecorded_ne off code hpp (pg_ne_of_word (by omega) (by decide) (by omega))
        (pg_ne_of_word (by omega) (by decide) (by omega))
    have hfld : (s.pageRecorded pp off code).fld (pg 5 (34 + 16 * q.val)) 3 0 = s.fld (pg 5 (34 + 16 * q.val)) 3 0 := by
      rw [State.fld, hreg 34 (by decide) (by decide), State.fld]
    have first := fun h0 => (s.pageRecorded pp off code).sesErr_first a q.isLt hwfu (hfld.trans h0) hc
    have further := fun h0 => (s.pageRecorded pp off code).sesErr_further code a q.isLt hwfu (hfld.trans_ne h0)
    rw [hfld, hreg 35 (by decide) (by decide), hreg 36 (by decide) (by decide)] at further
    have ht' : t = (s.pageRecorded pp off code).sesErr q.val code a := ht
    refine ⟨fun h0 => ht' ▸ first h0, fun h0 => ht' ▸ further h0, ?_, fun k h6 h7 hk => ?_, ht ▸ s.recordRefusal_frame off code _ a⟩
    · rw [State.asserted_sesErr, ht']
      by_cases h0 : s.fld (pg 5 (34 + 16 * q.val)) 3 0 = 0
      · rw [(first h0).1]; simp; omega
      · rw [(further h0).1]; simp [h0]
    · exact ht ▸ s.reg_recordRefusal_ne off code hpp h6 h7 hk
  · have hwfu := s.wf_pageRecorded (pp := pp) off code hwf
    have hpp' : pp = none ∨ pp = some p := hpp.imp_right And.left
    have hreg : ∀ wd, wd < 1024 → (s.pageRecorded pp off code).reg (pg (45 + c.val) wd) = s.reg (pg (45 + c.val) wd) := by
      intro wd hw
      rcases hpp with rfl | ⟨rfl, hp⟩
      · rfl
      · exact s.reg_pageRecorded_ne off code (.inr rfl) (pg_ne_of_page hw (by decide) hp.symm) (pg_ne_of_page hw (by decide) hp.symm)
    have words := (s.pageRecorded pp off code).coreErr_words c.val hwfu hc
    rw [State.fld, hreg 6 (by decide), hreg 7 (by decide), ← State.fld] at words
    obtain ⟨hevent, hfirst, hheld⟩ := words
    subst ht
    exact ⟨hevent, hfirst, hheld, fun k h6 h7 k4 k6 k7 => s.reg_recordRefusal_ne off code hpp' h6 h7 ⟨k4, k6, k7⟩,
      s.recordRefusal_frame off code _ a⟩

end Sys2Proof.Machine
end

section
/-! SUPPORT. The path of a register write by address (00 R16), LOCK (01 R37), shared RAM and the test access port (15 R521). -/

namespace Sys2Proof.Machine

/-! ### The path of a register write (00 R16) -/

theorem State.quireLate_ses (s : State) (q : Fin 8) (o : Nat) : s.quireLate (.ses q) o = none := rfl

theorem pageHandler_chan (w : Writer) {p : Nat} (wd : Nat) (v : Word) (s : State) (h : 512 ≤ p) :
    pageHandler w p wd v s = chanHandler w (p - 512) wd v s := by
  unfold pageHandler
  repeat rw [if_neg (by omega)]
  rw [if_pos h]

/-- A session's write of a page without a path of its own takes the guarded path with the page's handler. -/
theorem State.pageWrite_ses (s : State) (q : Fin 8) {p : Nat} (wd : Nat) (v : Word) (h6 : p ≠ 6) (h7 : p ≠ 7) (h14 : p ≠ 14) (h40 : p ≠ 40) :
    s.pageWrite (.ses q) p wd v = guarded (.ses q) p wd v (pageHandler (.ses q) p wd v s) s := by
  rw [State.pageWrite, if_neg (by omega), if_neg h14, if_neg h40]
  split
  next h =>
    rw [State.chanWrite, State.quireLate_ses, ite_self, pageHandler_chan _ _ _ _ h, Nat.add_sub_cancel' h]
  next => rfl

/-- A session's write is done, or refused with the code of the first check that fails. -/
theorem guarded_ses {s : State} {q : Fin 8} (hl : s.writerLive (.ses q) = true) (p wd : Nat) (v : Word) (h : Handler) :
    guarded (.ses q) p wd v h s = if writeRefusal (.ses q) p wd v h s = 0 then h.result
      else s.recordRefusal (.ses q) (some p) wd (writeRefusal (.ses q) p wd v h s) (pageAddr p wd) := by
  simp [guarded, hl]

/-- A session's write of an address where nothing is mapped. -/
theorem writeAddr_unmapped {s : State} {q : Fin 8} {a : Nat} (v : Word) (hl : s.writerLive (.ses q) = true)
    (hw : s.windowWord (.ses q) a = none) (hr : regionOf a = none) :
    s.writeAddr (.ses q) a v = s.recordRefusal (.ses q) none 0 eUNMAPPED a := by
  have hk : regionOf (localKey (.ses q) a) = none := hr
  simp [State.writeAddr, hl, hw, hk]

theorem exec_registerWrite (w : Writer) (a : BitVec 24) (v : Word) (s : State) :
    exec (.registerWrite w a v) s = .next (settle s (s.writeAddr w a.toNat v)) := rfl

/-- Settles O7, by the cases of the first check that fails. -/
theorem writeChecksInOrder : Obligations.WriteChecksInOrder := by
  intro s q v hl hd
  refine ⟨fun a hw hr => ?_, fun p wd h a refuse hp h6 h7 h14 h40 hwd ha hh hrefuse => ?_, fun w a hw => ?_⟩
  · rw [exec_registerWrite, writeAddr_unmapped v hl hw hr]
  · rw [exec_registerWrite, ha, writeAddr_page s _ v hp hwd hl (fun _ e => Writer.ses.inj e ▸ hd), State.pageWrite_ses s q wd v h6 h7 h14 h40,
      ← hh, guarded_ses hl]
    obtain ⟨hperm, hlocked, hstate, hbusy, hrange⟩ : ePERM ≠ 0 ∧ eLOCKED ≠ 0 ∧ eSTATE ≠ 0 ∧ eBUSY ≠ 0 ∧ eRANGE ≠ 0 := by decide
    simp only [hrefuse, writeRefusal, ne_eq, ite_not]
    split_ifs <;> rfl
  · rw [exec_registerWrite, writeAddr_dead s w _ v hw]


/-! ### Shared RAM and the test access port -/

/-- A session's accepted write of a word of shared RAM stores it (11 R371). -/
theorem writeAddr_shram {s : State} {q : Fin 8} (o : BitVec 19) (v : Word) (hl : s.writerLive (.ses q) = true)
    (hd : s.windowOnly q.val = false) (hm : s.memRefusal (.ses q) 13 2 (shramBase + o.toNat) = 0) :
    s.writeAddr (.ses q) (shramBase + o.toNat) v = s.wrMem (shramBase + o.toNat) v := by
  have ho := o.isLt
  have hb : shramBase = 524288 := rfl
  have hq : quireBase = 1048576 := rfl
  have hwin : s.windowWord (.ses q) (shramBase + o.toNat) = none := by simp [State.windowWord]; omega
  have hreg : regionOf (shramBase + o.toNat) = some (13, 2) := by
    rw [regionOf, if_neg (by omega), if_pos (by omega)]
  have hpage : isPageAddr (shramBase + o.toNat) = false := by simp [isPageAddr]; omega
  have hwrite : s.memWrite (.ses q) (shramBase + o.toNat) v = s.wrMem (shramBase + o.toNat) v := by
    rw [State.memWrite, if_pos (by omega)]
    simp [State.regionWrite, State.regionCode, State.stalls, hm]
  simp [State.writeAddr, hl, hwin, localKey, hreg, hd, hpage, hwrite]

/-! ### A write of LOCK (01 R37) -/

/-- The page is one that the personality closes to native writes (02 R88, 13 R457). -/
def State.pageClosed (s : State) (p : Nat) : Prop := (10 ≤ p ∧ p ≤ 13 ∧ s.serClosed (p - 10) = true) ∨ (p = 20 ∧ s.legacyHeld = true)

/-- The owner of the update lock has written the UPD page: LKIDLE starts again (15 R508). -/
def State.lockServed (s : State) (w : Writer) (p : Nat) (t : State) : State :=
  if p = 14 ∧ s.holdsLock w = true then t.setReg (updKey 17) 0 else t

/-- A handler that answers a write once the checks before it have passed: the recorded refusal, or the effect. -/
def Handler.answer (h : Handler) (s : State) (w : Writer) (p wd : Nat) (served : State → State) : State :=
  if h.state ≠ 0 then s.recordRefusal w (some p) wd h.state (pageAddr p wd) else served h.result

theorem pageHandler_lock_closed {s : State} (w : Writer) {p : Nat} (v : Word) (h : s.pageClosed p) :
    (pageHandler w p 8 v s).state = eSTATE := by
  rcases h with ⟨h1, h2, hs⟩ | ⟨rfl, hf⟩
  · unfold pageHandler
    repeat rw [if_neg (by omega)]
    rw [if_pos ⟨h1, h2⟩, serHandler, if_pos hs]
  · simp [pageHandler, feedHandler, feedWord, finMod, hf, Handler.refuse]

/-- The pages that the personality can close take the guarded path. -/
theorem State.pageWrite_closable (s : State) (w : Writer) {p : Nat} (wd : Nat) (v : Word) (h : 10 ≤ p ∧ p ≤ 13 ∨ p = 20) :
    s.pageWrite w p wd v = guarded w p wd v (pageHandler w p wd v s) s := by
  unfold State.pageWrite
  repeat rw [if_neg (by omega)]

theorem State.pageWrite_lock_closed {s : State} {w : Writer} {p : Nat} {v : Word} (hc : s.Clear w p 8 v) (h : s.pageClosed p) :
    s.pageWrite w p 8 v = s.recordRefusal w (some p) 8 eSTATE (pageAddr p 8) := by
  have hst := pageHandler_lock_closed w v h
  have hp : 10 ≤ p ∧ p ≤ 13 ∨ p = 20 := by
    rcases h with ⟨h1, h2, _⟩ | ⟨h, _⟩ <;> omega
  rw [State.pageWrite_closable _ _ _ _ hp, guarded_refused hc (by rw [hst]; decide), hst]

/-- The rule of LOCK has a check of the block's state alone. -/
theorem lockHandler_checks (w : Writer) (p : Nat) (v : Word) (s : State) :
    (lockHandler w p v s).range = true ∧ (lockHandler w p v s).extra = 0 := by
  unfold lockHandler
  cases w with
  | ses q =>
    simp only
    split_ifs <;> exact ⟨rfl, rfl⟩
  | core c => exact ⟨rfl, rfl⟩
  | tap => exact ⟨rfl, rfl⟩

theorem headerHandler_lock (w : Writer) (p : Nat) (v : Word) (s : State) : headerHandler w p 8 v s = lockHandler w p v s := rfl

/-- Once the checks before it have passed, a write of LOCK through the guarded path is answered by its rule. -/
theorem guarded_lock {s : State} {w : Writer} {p : Nat} {v : Word} (hc : s.Clear w p 8 v) :
    guarded w p 8 v (lockHandler w p v s) s = (lockHandler w p v s).answer s w p 8 id := by
  obtain ⟨hrange, hextra⟩ := lockHandler_checks w p v s
  unfold Handler.answer
  split
  next h => exact guarded_refused hc h
  next h => exact guarded_clear hc (not_not.mp h) hrange hextra

theorem updGuarded_lock {s : State} {w : Writer} {v : Word} (hc : s.Clear w 14 8 v) :
    updGuarded w 8 v s = (lockHandler w 14 v s).answer s w 14 8 (s.lockServed w 14) := by
  have hh : updHandler w 8 v s = lockHandler w 14 v s := rfl
  have hr : s.lockRefused w 8 v = false := rfl
  have hon : s.domOn 2 = true := hc.on
  obtain ⟨hrange, hextra⟩ := lockHandler_checks w 14 v s
  have hcode : writeRefusal w 14 8 v (lockHandler w 14 v s) s = (lockHandler w 14 v s).state := by
    rw [writeRefusal_of_clear _ hc, hrange, hextra]
    simp [eq_comm]
  simp only [updGuarded, hh, hr, hcode, hc.live, hon, guarded_lock hc, Handler.answer, State.lockServed]
  by_cases h : (lockHandler w 14 v s).state = 0 <;> simp [h]

/-- A write of LOCK on a page that is not closed, its checks passed, is answered by the rule of LOCK. -/
theorem State.pageWrite_lock {s : State} {w : Writer} {p : Nat} {v : Word} (hp : p ≤ 50 ∨ 512 ≤ p) (hc : s.Clear w p 8 v)
    (hopen : ¬ s.pageClosed p) : s.pageWrite w p 8 v = (lockHandler w p v s).answer s w p 8 (s.lockServed w p) := by
  have hserved : p ≠ 14 → s.lockServed w p = id := fun h => by funext t; simp [State.lockServed, h]
  by_cases h14 : p = 14
  · subst h14
    exact updGuarded_lock hc
  · rw [hserved h14, ← guarded_lock hc]
    by_cases h67 : p = 6 ∨ p = 7
    · rcases h67 with rfl | rfl <;> simp [State.pageWrite, ringGuarded, ringHandler, headerHandler_lock]
    · have hh : pageHandler w p 8 v s = lockHandler w p v s := by
        rw [pageHandler_header s w v hp (by omega) (by omega) h14 (fun _ => by decide) (by decide) (by decide), headerHandler_lock]
        · exact fun h1 h2 => by simpa using fun h => hopen (.inl ⟨h1, h2, h⟩)
        · exact fun h1 => by simpa using fun h => hopen (.inr ⟨h1, h⟩)
      rw [State.pageWrite, if_neg h67, if_neg h14, ← hh]
      split
      next h40 => subst h40; rfl
      next =>
        split
        next h512 => simp [State.chanWrite, pageHandler_chan _ _ _ _ h512, Nat.add_sub_cancel' h512]
        next => rfl

/-- The answer to a session that takes a lock. -/
theorem lockHandler_take (q : Fin 8) (p : Nat) (s : State) : lockHandler (.ses q) p 8 s
    = if s.bit (pg p 8) 3 = true then ⟨eLOCKED, true, 0, s⟩ else ⟨0, true, 0, s.setReg (pg p 8) (wordOf (8 + q.val))⟩ := by
  rw [lockHandler, if_pos (by decide)]

/-- The answer to a session that releases a lock. -/
theorem lockHandler_release (q : Fin 8) (p : Nat) (s : State) : lockHandler (.ses q) p 0 s
    = if s.bit (pg p 8) 3 = true ∧ s.fld (pg p 8) 2 0 ≠ q.val ∧ q.val ≠ s.supv then ⟨eLOCKED, true, 0, s⟩
      else ⟨0, true, 0, s.setReg (pg p 8) 0⟩ := by
  rw [lockHandler, if_neg (by decide)]
  simp [and_assoc]

/-- LOCK has no rule for a writer that is no session. -/
theorem lockHandler_not_ses {w : Writer} (h : ∀ q, w ≠ .ses q) (p : Nat) (v : Word) (s : State) :
    lockHandler w p v s = ⟨eSTATE, true, 0, s⟩ := by
  cases w with
  | ses q => exact absurd rfl (h q)
  | core c => rfl
  | tap => rfl

/-- A write of LOCK of a closed page, or by a writer that is no session, is refused with STATE. -/
theorem State.pageWrite_lock_barred {s : State} {w : Writer} {p : Nat} {v : Word} (hp : p ≤ 50 ∨ 512 ≤ p) (hc : s.Clear w p 8 v)
    (h : s.pageClosed p ∨ ∀ q, w ≠ .ses q) : s.pageWrite w p 8 v = s.recordRefusal w (some p) 8 eSTATE (pageAddr p 8) := by
  by_cases hcl : s.pageClosed p
  · exact State.pageWrite_lock_closed hc hcl
  · rw [State.pageWrite_lock hp hc hcl, lockHandler_not_ses (h.resolve_left hcl), Handler.answer, if_pos (show eSTATE ≠ 0 by decide)]

/-- Settles O11, from the answers of the rule of LOCK and the paths of the other addresses. -/
theorem addressedCommandsRun : Obligations.AddressedCommandsRun := by
  intro s
  refine ⟨fun q o v hl hd _ hm => ?_, fun w v hc hd => ?_, fun w p closed own refuse hp hd hclosed hown hrefuse => ?_,
    fun a v h => ?_, fun a v h => ?_, fun w a v h => ?_⟩
  · have ha : (BitVec.ofNat 24 (shramBase + o.toNat)).toNat = shramBase + o.toNat :=
      Nat.mod_eq_of_lt (by have := o.isLt; have : shramBase = 524288 := rfl; omega)
    rw [exec_registerWrite, ha, writeAddr_shram o v hl hd hm]
  · have hw : s.pageWrite w 9 17 v = s.plain w 9 17 v := guarded_clear (h := Handler.plain w 9 17 v s) hc rfl rfl rfl
    rw [exec_registerWrite, show (BitVec.ofNat 24 (pageAddr 9 17)).toNat = pageAddr 9 17 from rfl,
      writeAddr_page s w v (by decide) (by decide) hc.live hd, hw]
  · have hp' : p.toNat ≤ 50 ∨ 512 ≤ p.toNat ∧ p.toNat < 1024 := hp.imp_right fun h => ⟨h, p.isLt⟩
    have hown' : own = s.lockServed w p.toNat := funext hown
    have hclosed' : closed ↔ s.pageClosed p.toNat := hclosed
    have htake : s.Clear w p.toNat 8 8 → exec (.pageLockTake w p) s = .next (settle s (s.pageWrite w p.toNat 8 8)) := fun hc => by
      rw [← writeAddr_page s w 8 hp' (by decide) hc.live hd]; rfl
    have hrelease : s.Clear w p.toNat 8 0 → exec (.pageLockRelease w p) s = .next (settle s (s.pageWrite w p.toNat 8 0)) := fun hc => by
      rw [← writeAddr_page s w 0 hp' (by decide) hc.live hd]; rfl
    rw [hclosed', hown']
    simp only [hrefuse]
    refine ⟨fun hc => ?_, fun hc => ?_⟩
    · rw [htake hc]
      refine ⟨fun h => by rw [State.pageWrite_lock_barred hp hc h], fun hopen q hq => ?_⟩
      subst hq
      rw [State.pageWrite_lock hp hc hopen, lockHandler_take]
      exact ⟨fun h => by simp [h, Handler.answer], fun h => by simp [h, Handler.answer, eLOCKED]⟩
    · rw [hrelease hc]
      refine ⟨fun h => by rw [State.pageWrite_lock_barred hp hc h], fun hopen q hq => ?_⟩
      subst hq
      rw [State.pageWrite_lock hp hc hopen, lockHandler_release]
      refine ⟨fun h => ?_, fun h1 h2 h3 => ?_⟩
      · rw [if_neg (by rintro ⟨h1, h2, h3⟩; simp_all)]
        simp [Handler.answer]
      · rw [if_pos ⟨h1, h2, h3⟩]
        simp [Handler.answer, eLOCKED]
  · change execTapDebugAccess true a v s = _
    rw [execTapDebugAccess, if_neg (by omega)]; rfl
  · change execTapDebugAccess false a v s = _
    rw [execTapDebugAccess, if_neg (by omega)]; rfl
  · change execTapDebugAccess w a v s = _
    rw [execTapDebugAccess, if_pos h]; rfl

end Sys2Proof.Machine
end

section
/-! SUPPORT. What every command leaves as it stands, but for those that reset the device or blow fuses (00 R2; 15 R517). -/

namespace Sys2Proof.Machine

/-- What every command leaves as it stands, but for those that reset the device or blow fuses: the personality (00 R2), the queue of
commands and the one-time fuses (15 R517). -/
def State.fixed (s : State) : Persona × List Instr × Store (BitVec 16) := (s.pins.persona, s.pending, s.upd.otp)

theorem State.fixed_eq_iff {s t : State} :
    t.fixed = s.fixed ↔ t.pins.persona = s.pins.persona ∧ t.pending = s.pending ∧ t.upd.otp = s.upd.otp := by
  simp only [State.fixed, Prod.mk.injEq]

theorem State.fixed_eq {s t : State} (hpins : t.pins = s.pins) (hpending : t.pending = s.pending) (hupd : t.upd = s.upd) :
    t.fixed = s.fixed :=
  State.fixed_eq_iff.mpr ⟨by rw [hpins], hpending, by rw [hupd]⟩

@[simp] theorem ite_fixed {c : Prop} [Decidable c] (s t : State) : (if c then s else t).fixed = if c then s.fixed else t.fixed :=
  apply_ite State.fixed c s t

@[simp] theorem foldl_fixed {α : Type} {f : State → α → State} (h : ∀ t a, (f t a).fixed = t.fixed) (l : List α) (s : State) :
    (l.foldl f s).fixed = s.fixed := by
  induction l generalizing s with
  | nil => rfl
  | cons a l ih => exact (ih (f s a)).trans (h s a)

section
/-! A record built from `s` by `{ s with … }` that names neither the queue, the personality nor the fuses, as `simp` sees it. -/

variable (s : State) (b c d e g h i j k l m n o q r u v w x y z a1 b1 c1 d1 e1 g1)

@[simp] theorem State.fixed_with :
    (State.mk s.pending b c d e s.pins g h i j k l m n o q r u v w x y z a1 b1 c1 d1 e1 s.upd g1).fixed = s.fixed :=
  State.fixed_eq rfl rfl rfl

@[simp] theorem State.fixed_with_pins (p1 p2 p3 p4 p5 p6) :
    (State.mk s.pending b c d e (Pins.mk s.pins.persona p1 p2 p3 p4 p5 p6) g h i j k l m n o q r u v w x y z a1 b1 c1 d1 e1
      s.upd g1).fixed = s.fixed := State.fixed_eq_iff.mpr ⟨rfl, rfl, rfl⟩

@[simp] theorem State.fixed_with_upd (u1 u2 u3 u4 u5 u6) :
    (State.mk s.pending b c d e s.pins g h i j k l m n o q r u v w x y z a1 b1 c1 d1 e1
      (Upd.mk u1 u2 u3 u4 u5 s.upd.otp u6) g1).fixed = s.fixed := State.fixed_eq_iff.mpr ⟨rfl, rfl, rfl⟩

@[simp] theorem State.fixed_with_pins_upd (p1 p2 p3 p4 p5 p6) (u1 u2 u3 u4 u5 u6) :
    (State.mk s.pending b c d e (Pins.mk s.pins.persona p1 p2 p3 p4 p5 p6) g h i j k l m n o q r u v w x y z a1 b1 c1 d1 e1
      (Upd.mk u1 u2 u3 u4 u5 s.upd.otp u6) g1).fixed = s.fixed := State.fixed_eq_iff.mpr ⟨rfl, rfl, rfl⟩
end

@[simp] theorem ite_result_fixed {c : Prop} [Decidable c] (h k : Handler) :
    (if c then h else k).result.fixed = if c then h.result.fixed else k.result.fixed :=
  apply_ite (fun h : Handler => h.result.fixed) c h k

@[simp] theorem ite_snd_fixed {α : Type} {c : Prop} [Decidable c] (h k : α × State) :
    (if c then h else k).2.fixed = if c then h.2.fixed else k.2.fixed :=
  apply_ite (fun h : α × State => h.2.fixed) c h k

@[simp] theorem ite_snd_snd_fixed {α β : Type} {c : Prop} [Decidable c] (h k : α × β × State) :
    (if c then h else k).2.2.fixed = if c then h.2.2.fixed else k.2.2.fixed :=
  apply_ite (fun h : α × β × State => h.2.2.fixed) c h k

@[simp] theorem ite_fst_fixed {α : Type} {c : Prop} [Decidable c] (h k : State × α) :
    (if c then h else k).1.fixed = if c then h.1.fixed else k.1.fixed :=
  apply_ite (fun h : State × α => h.1.fixed) c h k

/-- A state in which the pins of s stand again, but for their own changes. -/
theorem State.fixed_with_pins_of {s t : State} (ht : t.fixed = s.fixed) (b c d e g h i j k l m n o q r u v w x y z a1 b1 c1 d1 e1 g1)
    (p1 p2 p3 p4 p5 p6) :
    (State.mk t.pending b c d e (Pins.mk s.pins.persona p1 p2 p3 p4 p5 p6) g h i j k l m n o q r u v w x y z a1 b1 c1 d1 e1 t.upd
      g1).fixed = s.fixed :=
  State.fixed_eq_iff.mpr ⟨rfl, (State.fixed_eq_iff.mp ht).2⟩

/-- A run over a list keeps what each of its steps keeps, where the state is a part of what the run carries. -/
theorem foldl_carries_fixed {α β : Type} (g : β → State) {f : β → α → β} (h : ∀ x a,
  (g (f x a)).fixed = (g x).fixed) (l : List α) (x : β) :
    (g (l.foldl f x)).fixed = (g x).fixed := by
  induction l generalizing x with
  | nil => rfl
  | cons a l ih => exact (ih (f x a)).trans (h x a)

/-- An optional part of a computation keeps what its part keeps. -/
theorem elim_fixed {α β : Type} (g : β → State) {s : State} {d : β} {f : α → β} (hd : (g d).fixed = s.fixed)
    (hf : ∀ a, (g (f a)).fixed = s.fixed) (o : Option α) : (g (o.elim d f)).fixed = s.fixed := by
  cases o with
  | none => exact hd
  | some a => exact hf a

end Sys2Proof.Machine
end

section
/-! SUPPORT. The shared operations and the write handlers keep the personality, the queue and the fuses (00 R2; 15 R517). -/

namespace Sys2Proof.Machine

/-! ### Operations on the state -/

@[simp] theorem State.setReg_fixed (s : State) (key : Nat) (v : Word) : (s.setReg key v).fixed = s.fixed := State.fixed_eq rfl rfl rfl

@[simp] theorem State.setF_fixed (s : State) (key hi lo n : Nat) : (s.setF key hi lo n).fixed = s.fixed := by
  simp only [State.setF, State.setReg_fixed]

@[simp] theorem State.setB_fixed (s : State) (key i : Nat) (b : Bool) : (s.setB key i b).fixed = s.fixed := by
  simp only [State.setB, State.setF_fixed]

@[simp] theorem State.setReg2_fixed (s : State) (key n : Nat) : (s.setReg2 key n).fixed = s.fixed := by
  simp only [State.setReg2, State.setReg_fixed]

@[simp] theorem State.inc_fixed (s : State) (key : Nat) : (s.inc key).fixed = s.fixed := by
  simp only [State.inc, State.setReg_fixed]

@[simp] theorem State.addSat_fixed (s : State) (key n : Nat) : (s.addSat key n).fixed = s.fixed := by
  simp only [State.addSat, State.setReg_fixed]

@[simp] theorem State.incSat_fixed (s : State) (key : Nat) : (s.incSat key).fixed = s.fixed := by
  simp only [State.incSat, State.addSat_fixed]

@[simp] theorem State.raise_fixed (s : State) (p i : Nat) : (s.raise p i).fixed = s.fixed := by
  simp only [State.raise, State.setB_fixed]

@[simp] theorem State.abortBorrow_fixed (s : State) : s.abortBorrow.fixed = s.fixed := by
  unfold State.abortBorrow
  split <;> simp only [State.fixed_with]

@[simp] theorem State.abortRange_fixed (s : State) (m lo hi : Nat) : (s.abortRange m lo hi).fixed = s.fixed := by
  rw [State.abortRange_eq]; exact State.fixed_eq rfl rfl rfl

@[simp] theorem State.touch_fixed (s : State) (key : Nat) : (s.touch key).fixed = s.fixed := by
  simp only [State.touch, State.abortRange_fixed]

theorem State.restoreFor_fixed {s t : State} {keys : List Nat} (h : s.restoreFor keys = some t) : t.fixed = s.fixed := by
  unfold State.restoreFor at h
  split at h
  · cases h; simp
  · cases h

@[simp] theorem State.fresh_fixed (s : State) (p : Nat → Bool) : (s.fresh p).fixed = s.fixed := by
  simp only [State.fresh, State.fixed_with]

@[simp] theorem State.wrMem_fixed (s : State) (key : Nat) (v : Word) : (s.wrMem key v).fixed = s.fixed := by
  rw [State.wrMem_eq]; exact State.fixed_eq rfl rfl rfl

@[simp] theorem State.wrMemN_fixed (s : State) (key : Nat) (l : List Word) : (s.wrMemN key l).fixed = s.fixed := by
  rw [State.wrMemN_eq]; exact State.fixed_eq rfl rfl rfl

@[simp] theorem State.free_fixed (s : State) : s.free.2.fixed = s.fixed := by
  simp only [State.free, State.fixed_with]

@[simp] theorem State.freeWords_fixed (s : State) (n : Nat) : (s.freeWords n).2.fixed = s.fixed := by
  induction n generalizing s with
  | zero => simp only [State.freeWords]
  | succ n ih => simp only [State.freeWords, State.free_fixed, ih]

@[simp] theorem State.setRegs_fixed (s : State) (key : Nat) (l : List Word) : (s.setRegs key l).fixed = s.fixed := by
  rw [State.setRegs_eq]; exact State.fixed_eq rfl rfl rfl

@[simp] theorem State.ringWrite_fixed (s : State) (r i : Nat) (l : List Word) : (s.ringWrite r i l).fixed = s.fixed := by
  induction l generalizing s r i with
  | nil => simp only [State.ringWrite]
  | cons a l ih => simp only [State.ringWrite, State.wrMem_fixed, ih]

@[simp] theorem State.ringPut_fixed (s : State) (r : Nat) (ws : List Word) : (s.ringPut r ws).fixed = s.fixed := by
  simp [State.ringPut]

@[simp] theorem State.flowEval_fixed (s : State) (n : Nat) : (s.flowEval n).fixed = s.fixed := by
  simp [State.flowEval]

@[simp] theorem State.flowRing_fixed (s : State) (r : Nat) : (s.flowRing r).fixed = s.fixed := by
  simp [State.flowRing]

@[simp] theorem State.ringTake_fixed (s : State) (r n : Nat) : (s.ringTake r n).fixed = s.fixed := by
  simp [State.ringTake]

@[simp] theorem State.wakeDom_fixed (s : State) (d : Nat) : (s.wakeDom d).fixed = s.fixed := by
  rw [State.wakeDom_eq]; exact State.fixed_eq rfl rfl rfl

@[simp] theorem settle_fixed (s t : State) : (settle s t).fixed = t.fixed := by
  rw [settle_eq]; exact State.fixed_eq rfl rfl rfl

@[simp] theorem State.pageErr_fixed (s : State) (p code off : Nat) : (s.pageErr p code off).fixed = s.fixed := by
  rw [State.pageErr_eq]; exact State.fixed_eq rfl rfl rfl

@[simp] theorem State.unitFails_fixed (s : State) (p : Nat) : (s.unitFails p).fixed = s.fixed := by
  simp only [State.unitFails, State.pageErr_fixed]

@[simp] theorem State.sesErr_fixed (s : State) (q code a : Nat) : (s.sesErr q code a).fixed = s.fixed := by
  rw [State.sesErr_eq]; exact State.fixed_eq rfl rfl rfl

@[simp] theorem State.coreErr_fixed (s : State) (c code : Nat) : (s.coreErr c code).fixed = s.fixed := by
  rw [State.coreErr_eq]; exact State.fixed_eq rfl rfl rfl

@[simp] theorem State.writerErr_fixed (s : State) (w : Writer) (code a : Nat) : (s.writerErr w code a).fixed = s.fixed := by
  rw [State.writerErr_eq]; exact State.fixed_eq rfl rfl rfl

@[simp] theorem State.recordRefusal_fixed (s : State) (w : Writer) (page : Option Nat) (off code a : Nat) :
    (s.recordRefusal w page off code a).fixed = s.fixed := by
  rw [State.recordRefusal_eq]; exact State.fixed_eq rfl rfl rfl

/-! ### The guard of a write -/

@[simp] theorem State.plain_fixed (s : State) (w : Writer) (p wd : Nat) (v : Word) : (s.plain w p wd v).fixed = s.fixed := by
  simp only [State.plain, State.setReg_fixed]

@[simp] theorem Handler.plain_fixed (w : Writer) (p wd : Nat) (v : Word) (s : State) :
    (Handler.plain w p wd v s).result.fixed = s.fixed := by
  simp only [Handler.plain, State.plain_fixed]

@[simp] theorem Handler.refuse_fixed (code : Nat) (s : State) : (Handler.refuse code s).result.fixed = s.fixed := by
  simp only [Handler.refuse]

@[simp] theorem State.stallWrite_fixed (s : State) (c : Fin 4) (p wd : Nat) (v : Word) : (s.stallWrite c p wd v).fixed = s.fixed := by
  simp [State.stallWrite]

@[simp] theorem guarded_fixed {s : State} {h : Handler} (hr : h.result.fixed = s.fixed) (w : Writer) (p wd : Nat) (v : Word) :
    (guarded w p wd v h s).fixed = s.fixed := by
  rcases guarded_cases w p wd v h s with e | ⟨c, -, e⟩ | e | ⟨-, e⟩
  · rw [e]
  · rw [e, State.stallWrite_fixed]
  · rw [e, hr]
  · rw [e, State.recordRefusal_fixed]

@[simp] theorem hdrErr_fixed (p : Nat) (v : Word) (s : State) : (hdrErr p v s).fixed = s.fixed := by
  simp [hdrErr]

@[simp] theorem lockHandler_fixed (w : Writer) (p : Nat) (v : Word) (s : State) : (lockHandler w p v s).result.fixed = s.fixed := by
  unfold lockHandler
  split <;> simp

@[simp] theorem headerHandler_fixed (w : Writer) (p wd : Nat) (v : Word) (s : State) :
    (headerHandler w p wd v s).result.fixed = s.fixed := by
  simp [headerHandler]

/-! ### The words of a channel -/

@[simp] theorem State.setCtx_fixed (s : State) (c k : Nat) (v : Word) : (s.setCtx c k v).fixed = s.fixed := by
  simp only [State.setCtx, State.wrMem_fixed]

@[simp] theorem State.setCtxF_fixed (s : State) (c k hi lo n : Nat) : (s.setCtxF c k hi lo n).fixed = s.fixed := by
  simp only [State.setCtxF, State.setCtx_fixed]

@[simp] theorem State.setCtx2_fixed (s : State) (c k n : Nat) : (s.setCtx2 c k n).fixed = s.fixed := by
  simp only [State.setCtx2, State.setCtx_fixed]

@[simp] theorem State.setChan_fixed (s : State) (c : Nat) (x : Chan) : (s.setChan c x).fixed = s.fixed := by
  simp only [State.setChan, State.fixed_with]

/-! ### Memory words -/

@[simp] theorem State.setRetnBit_fixed (s : State) (w b : Nat) (v : Bool) : (s.setRetnBit w b v).fixed = s.fixed := by
  simp [State.setRetnBit]

@[simp] theorem State.eccRecord_fixed (s : State) (m off : Nat) (unc : Bool) : (s.eccRecord m off unc).fixed = s.fixed := by
  rw [State.eccRecord_eq]; exact State.fixed_eq rfl rfl rfl

@[simp] theorem State.memRead_fixed (s : State) (key : Nat) : (s.memRead key).2.2.fixed = s.fixed := by
  simp [State.memRead]

@[simp] theorem State.memReadN_fixed (s : State) (key : Nat) (n : Nat) : (s.memReadN key n).2.2.fixed = s.fixed := by
  induction n generalizing s key with
  | zero => simp only [State.memReadN]
  | succ n ih => simp only [State.memReadN, State.memRead_fixed, ih]

@[simp] theorem State.ringReadE_fixed (s : State) (r i : Nat) (n : Nat) : (s.ringReadE r i n).2.2.fixed = s.fixed := by
  induction n generalizing s r i with
  | zero => simp only [State.ringReadE]
  | succ n ih => simp only [State.ringReadE, State.memRead_fixed, ih]

@[simp] theorem State.coreMemLoad_fixed (s : State) (c key : Nat) : (s.coreMemLoad c key).2.fixed = s.fixed := by
  simp [State.coreMemLoad]

@[simp] theorem State.hostMemRead_fixed (s : State) (q key a : Nat) : (s.hostMemRead q key a).2.2.fixed = s.fixed := by
  simp [State.hostMemRead]

/-! ### Exemplar -/

@[simp] theorem State.dropCache_fixed (s : State) : s.dropCache.fixed = s.fixed := by
  simp only [State.dropCache, State.fixed_with]

@[simp] theorem programHandler_fixed (w : Writer) (p k : Nat) (v : Word) (s : State) :
    (programHandler w p k v s).result.fixed = s.fixed := by
  simp [programHandler]

@[simp] theorem regionHandler_fixed (w : Writer) (r k : Nat) (v : Word) (s : State) :
    (regionHandler w r k v s).result.fixed = s.fixed := by
  simp [regionHandler]

@[simp] theorem State.retargetDone_fixed (s : State) : s.retargetDone.fixed = s.fixed := by
  simp [State.retargetDone]

@[simp] theorem State.countUse_fixed (s : State) (key : Nat) : (s.countUse key).fixed = s.fixed := by
  simp [State.countUse]

@[simp] theorem State.takeCodes_fixed (s : State) (c : Nat) : (s.takeCodes c).fixed = s.fixed := by
  simp [State.takeCodes]

@[simp] theorem State.dropCodes_fixed (s : State) (c : Nat) : (s.dropCodes c).fixed = s.fixed := by
  rw [State.dropCodes, State.retargetDone_fixed]
  exact foldl_fixed (fun t k => State.setReg_fixed t k _) _ _

@[simp] theorem State.switchField_fixed (s : State) (key : Nat) : (s.switchField key).fixed = s.fixed := by
  simp [State.switchField]

@[simp] theorem State.switchChan_fixed (s : State) (c : Nat) : (s.switchChan c).fixed = s.fixed := by
  simp [State.switchChan]

@[simp] theorem State.retargetNow_fixed (s : State) (c : Nat) : (s.retargetNow c).fixed = s.fixed := by
  simp [State.retargetNow]

@[simp] theorem retargetHandler_fixed (w : Writer) (v : Word) (s : State) : (retargetHandler w v s).result.fixed = s.fixed := by
  simp [retargetHandler]

@[simp] theorem exmpHandler_fixed (w : Writer) (wd : Nat) (v : Word) (s : State) : (exmpHandler w wd v s).result.fixed = s.fixed := by
  simp [exmpHandler]

@[simp] theorem State.stallMem_fixed (s : State) (c : Fin 4) (a dom : Nat) (v : Word) : (s.stallMem c a dom v).fixed = s.fixed := by
  simp [State.stallMem]

@[simp] theorem State.exmpRefused_fixed (s : State) (w : Writer) (code o : Nat) : (s.exmpRefused w code o).fixed = s.fixed := by
  simp [State.exmpRefused]

@[simp] theorem State.exmpWrite_fixed (s : State) (w : Writer) (o : Nat) (v : Word) : (s.exmpWrite w o v).fixed = s.fixed := by
  unfold State.exmpWrite
  split <;> simp

@[simp] theorem State.codeErr_fixed (s : State) (r o : Nat) : (s.codeErr r o).fixed = s.fixed := by
  simp [State.codeErr]

/-! ### Capture -/

@[simp] theorem State.setCap_fixed (s : State) (e : Nat) (x : Capture) : (s.setCap e x).fixed = s.fixed := by
  simp only [State.setCap, State.fixed_with]

@[simp] theorem State.captureSample_fixed (s : State) (e : Nat) (l : List Sample) : (s.captureSample e l).fixed = s.fixed := by
  simp [State.captureSample]

@[simp] theorem State.captureTake_fixed (s : State) (e : Nat) (a : Sample) : (s.captureTake e a).fixed = s.fixed := by
  simp [State.captureTake]

@[simp] theorem State.captureRun_fixed (s : State) (e : Nat) (n : Nat) : (s.captureRun e n).fixed = s.fixed := by
  induction n generalizing s e with
  | zero => simp only [State.captureRun]
  | succ n ih => simp only [State.captureRun, State.memRead_fixed, State.setCap_fixed, State.captureTake_fixed, ite_fixed, ite_self, ih]

@[simp] theorem State.captureZeros_fixed (s : State) (e : Nat) (n : Nat) : (s.captureZeros e n).fixed = s.fixed := by
  induction n generalizing s e with
  | zero => simp only [State.captureZeros]
  | succ n ih => simp only [State.captureZeros, State.captureTake_fixed, ite_fixed, ite_self, ih]

@[simp] theorem State.captureAll_fixed (s : State) : s.captureAll.fixed = s.fixed := by
  simp only [State.captureAll, State.captureRun_fixed]

/-! ### Feeds and streams -/

@[simp] theorem State.setFeed_fixed (s : State) (p : Fin 8) (x : Feed) : (s.setFeed p x).fixed = s.fixed := by
  simp only [State.setFeed, State.fixed_with]

@[simp] theorem State.setValid_fixed (s : State) (n : Nat) (b : Bool) : (s.setValid n b).fixed = s.fixed := by
  simp [State.setValid]

@[simp] theorem State.zeroFill_fixed (s : State) (n : Nat) (boundary : Bool) : (s.zeroFill n boundary).fixed = s.fixed := by
  simp [State.zeroFill]

@[simp] theorem State.zeroPort_fixed (s : State) (p : Nat) : (s.zeroPort p).fixed = s.fixed := by
  simp [State.zeroPort]

@[simp] theorem State.setLane_fixed (s : State) (p : Fin 8) (st : Nat) : (s.setLane p st).fixed = s.fixed := by
  simp [State.setLane]

@[simp] theorem State.laneFail_fixed (s : State) (p : Fin 8) (code : Nat) : (s.laneFail p code).fixed = s.fixed := by
  simp [State.laneFail]

@[simp] theorem feedCtrl_fixed (w : Writer) (p : Fin 8) (v : Word) (s : State) : (feedCtrl w p v s).result.fixed = s.fixed := by
  simp [feedCtrl]

@[simp] theorem State.notchMode_fixed (s : State) (p k mode : Nat) : (s.notchMode p k mode).fixed = s.fixed := by
  simp [State.notchMode]

@[simp] theorem feedWord_fixed (w : Writer) (p : Fin 8) (wd : Nat) (v : Word) (s : State) :
    (feedWord w p wd v s).result.fixed = s.fixed := by
  simp [feedWord]

@[simp] theorem feedHandler_fixed (w : Writer) (p : Fin 8) (wd : Nat) (v : Word) (s : State) :
    (feedHandler w p wd v s).result.fixed = s.fixed := by
  simp [feedHandler]

@[simp] theorem State.portDown_fixed (s : State) (p : Fin 8) : (s.portDown p).fixed = s.fixed := by
  simp [State.portDown]

@[simp] theorem State.pushPath_fixed (s : State) (p q : Nat) (a : Sample) : (s.pushPath p q a).fixed = s.fixed := by
  simp only [State.pushPath, State.fixed_with]

@[simp] theorem State.intoPaths_fixed (s : State) (p : Fin 8) (y : (Rat × Rat) × Bool) : (s.intoPaths p y).fixed = s.fixed := by
  simp only [State.intoPaths]
  repeat' split
  all_goals simp

@[simp] theorem State.specTap_fixed (s : State) (p : Fin 8) (src : Bool) (z : Rat × Rat) : (s.specTap p src z).fixed = s.fixed := by
  simp [State.specTap]

@[simp] theorem State.condition_fixed (s : State) (p : Fin 8) (real : Bool) (z : Rat × Rat) : (s.condition p real z).fixed = s.fixed := by
  simp only [State.condition]
  split <;> simp

@[simp] theorem State.portSample_fixed (s : State) (p : Fin 8) (a : Int × Int) : (s.portSample p a).fixed = s.fixed := by
  simp [State.portSample]

@[simp] theorem State.dataWord_fixed (s : State) (p : Fin 8) (b : BitVec 8) : (s.dataWord p b).fixed = s.fixed := by
  simp [State.dataWord]

@[simp] theorem State.notchFrame_fixed (s : State) (p : Fin 8) (k : Fin 4) : (s.notchFrame p k).fixed = s.fixed := by
  simp [State.notchFrame]

@[simp] theorem State.feedFrame_fixed (s : State) (p : Fin 8) : (s.feedFrame p).fixed = s.fixed := by
  simp [State.feedFrame]

@[simp] theorem State.streamFrame_fixed (s : State) (words : List (BitVec 64)) (n : Fin 16) :
    (s.streamFrame words n).fixed = s.fixed := by
  simp [State.streamFrame]

@[simp] theorem smapHandler_fixed (w : Writer) (n : Fin 16) (v : Word) (s : State) : (smapHandler w n v s).result.fixed = s.fixed := by
  simp [smapHandler]

@[simp] theorem routeHandler_fixed (w : Writer) (wd : Nat) (v : Word) (s : State) : (routeHandler w wd v s).result.fixed = s.fixed := by
  unfold routeHandler
  repeat' split
  all_goals simp

@[simp] theorem State.rfIdle_fixed (s : State) : s.rfIdle.fixed = s.fixed := by
  simp only [State.rfIdle, State.fixed_with]

@[simp] theorem specHandler_fixed (w : Writer) (wd : Nat) (v : Word) (s : State) : (specHandler w wd v s).result.fixed = s.fixed := by
  simp [specHandler]

@[simp] theorem State.pwmNano_fixed (s : State) : s.pwmNano.fixed = s.fixed := by
  simp [State.pwmNano]

/-! ### Channels -/

@[simp] theorem State.moveTo_fixed (s : State) (c st e : Nat) : (s.moveTo c st e).fixed = s.fixed := by
  simp [State.moveTo]

@[simp] theorem State.discardPage_fixed (s : State) (c : Nat) : (s.discardPage c).fixed = s.fixed := by
  simp [State.discardPage]

@[simp] theorem State.discard_fixed (s : State) (c : Nat) : (s.discard c).fixed = s.fixed := by
  simp [State.discard]

@[simp] theorem State.setExt_fixed (s : State) (c : Nat) (b : Bool) : (s.setExt c b).fixed = s.fixed := by
  simp [State.setExt]

@[simp] theorem State.freeSlots_fixed (s : State) (c : Nat) : (s.freeSlots c).fixed = s.fixed := by
  simp [State.freeSlots]

@[simp] theorem State.chanOff_fixed (s : State) (c : Nat) : (s.chanOff c).fixed = s.fixed := by
  simp [State.chanOff]

@[simp] theorem State.chanFault_fixed (s : State) (c cause : Nat) : (s.chanFault c cause).fixed = s.fixed := by
  simp [State.chanFault]

@[simp] theorem State.quireWrite_fixed (s : State) (w : Writer) (o : Nat) (v : Word) : (s.quireWrite w o v).fixed = s.fixed := by
  unfold State.quireWrite
  split <;> simp

@[simp] theorem State.request_fixed (s : State) (c : Nat) (by_ : Option Writer) : (s.request c by_).fixed = s.fixed := by
  simp [State.request]

@[simp] theorem ctrlHandler_fixed (w : Writer) (c : Nat) (v : Word) (s : State) : (ctrlHandler w c v s).result.fixed = s.fixed := by
  simp [ctrlHandler]

@[simp] theorem State.arm_fixed (s : State) (c : Nat) (p : PhaseSet) : (s.arm c p).fixed = s.fixed := by
  simp [State.arm]

@[simp] theorem sctlHandler_fixed (w : Writer) (c : Nat) (v : Word) (s : State) : (sctlHandler w c v s).result.fixed = s.fixed := by
  simp [sctlHandler]

@[simp] theorem State.commitUpdate_fixed (s : State) (c sel : Nat) (ws : List Word) (by_ : Option Writer) :
    (s.commitUpdate c sel ws by_).fixed = s.fixed := by
  simp [State.commitUpdate]

@[simp] theorem uctlHandler_fixed (w : Writer) (c : Nat) (v : Word) (s : State) : (uctlHandler w c v s).result.fixed = s.fixed := by
  simp only [uctlHandler, State.commitUpdate_fixed]

@[simp] theorem chanHandler_fixed (w : Writer) (c wd : Nat) (v : Word) (s : State) : (chanHandler w c wd v s).result.fixed = s.fixed := by
  simp [chanHandler]

/-! ### Ductus -/

@[simp] theorem State.setRstate_fixed (s : State) (r st : Nat) : (s.setRstate r st).fixed = s.fixed := by
  simp only [State.setRstate, State.setF_fixed]

@[simp] theorem State.reportDecision_fixed (s : State) (c rank result d rt cl off : Nat) :
    (s.reportDecision c rank result d rt cl off).fixed = s.fixed := by
  simp only [State.reportDecision, State.setReg_fixed]

@[simp] theorem State.refuseRequest_fixed (s : State) (c code : Nat) : (s.refuseRequest c code).fixed = s.fixed := by
  unfold State.refuseRequest
  split <;> simp

@[simp] theorem State.takeSlots_fixed (s : State) (c rank off d : Nat) : (s.takeSlots c rank off d).fixed = s.fixed := by
  simp [State.takeSlots]

@[simp] theorem State.dequeue_fixed (s : State) (c : Nat) (q : List Nat) : (s.dequeue c q).fixed = s.fixed := by
  simp [State.dequeue]

@[simp] theorem winHandler_fixed (w : Writer) (v : Word) (s : State) : (winHandler w v s).result.fixed = s.fixed := by
  simp [winHandler]

@[simp] theorem ductHandler_fixed (w : Writer) (wd : Nat) (v : Word) (s : State) : (ductHandler w wd v s).result.fixed = s.fixed := by
  simp [ductHandler]

@[simp] theorem rankCtrl_fixed (w : Writer) (r : Nat) (v : Word) (s : State) : (rankCtrl w r v s).result.fixed = s.fixed := by
  simp [rankCtrl]

@[simp] theorem rankHandler_fixed (w : Writer) (r wd : Nat) (v : Word) (s : State) : (rankHandler w r wd v s).result.fixed = s.fixed := by
  simp [rankHandler]

@[simp] theorem State.drainDomain_fixed (s : State) (d : Nat) : (s.drainDomain d).fixed = s.fixed := by
  simp [State.drainDomain]

/-! ### Rank -/

@[simp] theorem State.setCompState_fixed (s : State) (c k : Nat) (x : Nat × Nat × Nat) : (s.setCompState c k x).fixed = s.fixed := by
  simp [State.setCompState]

@[simp] theorem State.setNco_fixed (s : State) (c : Nat) (x : Nco) : (s.setNco c x).fixed = s.fixed := by
  simp [State.setNco]

@[simp] theorem State.startIntegration_fixed (s : State) (c : Nat) (partial_ : Bool) (upda : Nat) :
    (s.startIntegration c partial_ upda).fixed = s.fixed := by
  simp [State.startIntegration]

@[simp] theorem State.firstIntegration_fixed (s : State) (c upda : Nat) : (s.firstIntegration c upda).fixed = s.fixed := by
  simp [State.firstIntegration]

@[simp] theorem State.applyUpdate_fixed (s : State) (c : Nat) : (s.applyUpdate c).fixed = s.fixed := by
  simp only [State.applyUpdate]
  repeat' split
  all_goals simp

@[simp] theorem State.openWindow_fixed (s : State) (c : Nat) : (s.openWindow c).fixed = s.fixed := by
  simp [State.openWindow]

@[simp] theorem State.boundary_fixed (s : State) (c : Nat) : (s.boundary c).fixed = s.fixed := by
  simp [State.boundary]

@[simp] theorem State.dueUpdate_fixed (s : State) (c : Nat) : (s.dueUpdate c).fixed = s.fixed := by
  simp [State.dueUpdate]

@[simp] theorem State.countCode_fixed (s : State) (c : Nat) (seen : List Nat) (l : List (Nat × Nat)) :
    (s.countCode c seen l).1.fixed = s.fixed := by
  induction l generalizing s c seen with
  | nil => simp only [State.countCode]
  | cons a l ih => simp only [State.countCode, State.setCtxF_fixed, State.memRead_fixed, State.codeErr_fixed, ite_fixed, ite_self,
    ite_fst_fixed, ih]

@[simp] theorem State.correlate_fixed (s : State) (c : Nat) (a : Sample) (within : Bool) (seen : List Nat) :
    (s.correlate c a within seen).1.fixed = s.fixed := by
  simp [State.correlate]

@[simp] theorem State.advance_fixed (s : State) (c : Nat) : (s.advance c).fixed = s.fixed := by
  simp [State.advance]

@[simp] theorem State.latchHook_fixed (s : State) (c n : Nat) (inv : Bool) : (s.latchHook c n inv).fixed = s.fixed := by
  unfold State.latchHook
  repeat' split
  all_goals simp only [State.fixed_with]

@[simp] theorem State.takeSample_fixed (s : State) (st n : Nat) : (s.takeSample st n).2.fixed = s.fixed := by
  simp only [State.takeSample, State.memRead_fixed]

@[simp] theorem State.loadRun_fixed (s : State) (c n : Nat) (p : Option PhaseSet) : (s.loadRun c n p).fixed = s.fixed := by
  unfold State.loadRun
  repeat' split
  all_goals simp

@[simp] theorem State.slotSample_fixed (s : State) (c st n : Nat) (within : Bool) (seen : List Nat) :
    (s.slotSample c st n within seen).1.fixed = s.fixed := by
  unfold State.slotSample
  split <;> simp

@[simp] theorem State.slotSamples_fixed (s : State) (c st n cap : Nat) (seen : List Nat) (x : Nat) :
    (s.slotSamples c st n cap seen x).fixed = s.fixed := by
  induction x generalizing s c st n cap seen with
  | zero => simp only [State.slotSamples]
  | succ x ih => simp only [State.slotSamples, State.slotSample_fixed, ih]

@[simp] theorem State.overrun_fixed (s : State) (st : Nat) : (s.overrun st).fixed = s.fixed := by
  simp [State.overrun]

@[simp] theorem State.loadContext_fixed (s : State) (c : Nat) : (s.loadContext c).2.fixed = s.fixed := by
  simp only [State.loadContext, State.memReadN_fixed]

@[simp] theorem State.loadTaps_fixed (s : State) (c : Nat) : (s.loadTaps c).2.fixed = s.fixed := by
  simp [State.loadTaps]

@[simp] theorem State.serve_fixed (s : State) (x : TabRow) (i : Nat) : (s.serve x i).fixed = s.fixed := by
  simp only [State.serve]
  repeat' split
  all_goals simp

/-! ### Inkwell -/

@[simp] theorem State.setCst_fixed (s : State) (e st : Nat) : (s.setCst e st).fixed = s.fixed := by
  simp only [State.setCst, State.setF_fixed]

@[simp] theorem State.regionWrite_fixed {after : State → State} (hafter : ∀ t, (after t).fixed = t.fixed) (s : State) (w : Writer)
    (group dom key : Nat) (busy : Bool) (v : Word) : (s.regionWrite w group dom key busy v after).fixed = s.fixed := by
  unfold State.regionWrite
  split <;> simp [hafter]

@[simp] theorem State.inkwWrite_fixed (s : State) (w : Writer) (o : Nat) (v : Word) : (s.inkwWrite w o v).fixed = s.fixed := by
  simp [State.inkwWrite]

@[simp] theorem State.armCapture_fixed (s : State) (e : Nat) : (s.armCapture e).fixed = s.fixed := by
  simp [State.armCapture]

@[simp] theorem State.stopCapture_fixed (s : State) (e : Nat) : (s.stopCapture e).fixed = s.fixed := by
  simp [State.stopCapture]

@[simp] theorem inkwCtrl_fixed (w : Writer) (v : Word) (s : State) : (inkwCtrl w v s).result.fixed = s.fixed := by
  simp [inkwCtrl]

@[simp] theorem inkwHandler_fixed (w : Writer) (wd : Nat) (v : Word) (s : State) : (inkwHandler w wd v s).result.fixed = s.fixed := by
  simp [inkwHandler]

@[simp] theorem State.startCapture_fixed (s : State) (e : Nat) : (s.startCapture e).fixed = s.fixed := by
  simp only [State.startCapture]
  repeat' split
  all_goals simp

/-! ### Scriptorium -/

@[simp] theorem State.dChips_fixed (s : State) (d : List Word) : (s.dChips d).2.2.fixed = s.fixed := by
  simp [State.dChips]

@[simp] theorem State.inkRead_fixed (s : State) (key : Nat) (n : Nat) : (s.inkRead key n).2.2.fixed = s.fixed := by
  induction n generalizing s key with
  | zero => simp only [State.inkRead]
  | succ n ih => simp only [State.inkRead, State.memRead_fixed, ih]

@[simp] theorem State.plainRecord_fixed (s : State) (j : Job) (outcome code : Nat) (eccf : Option Bool) :
    (s.plainRecord j outcome code eccf).2.fixed = s.fixed := by
  simp only [State.plainRecord, State.freeWords_fixed]

@[simp] theorem State.completeRecord_fixed (s : State) (j : Job) (ws : List (Option Word)) (eccf : Bool) :
    (s.completeRecord j ws eccf).2.fixed = s.fixed := by
  simp only [State.completeRecord, State.free_fixed]

@[simp] theorem State.setPair_fixed (s : State) (k : Option Nat) : (s.setPair k).fixed = s.fixed := by
  simp [State.setPair]

@[simp] theorem State.forgetRam_fixed (s : State) : s.forgetRam.fixed = s.fixed := by
  simp only [State.forgetRam, State.fixed_with]

@[simp] theorem State.useCache_fixed (s : State) (d : List Word) : (s.useCache d).2.fixed = s.fixed := by
  simp only [State.useCache]
  split <;> simp

@[simp] theorem State.setPipes_fixed (s : State) (ps : List Nat) (b : Bool) : (s.setPipes ps b).fixed = s.fixed := by
  simp [State.setPipes]

@[simp] theorem State.setJobs_fixed (s : State) (l : List Job) : (s.setJobs l).fixed = s.fixed := by
  simp only [State.setJobs, State.fixed_with]

@[simp] theorem State.putJob_fixed (s : State) (j : Job) (keep : Bool) : (s.putJob j keep).fixed = s.fixed := by
  simp [State.putJob]

@[simp] theorem State.countOutcome_fixed (s : State) (o : Nat) : (s.countOutcome o).fixed = s.fixed := by
  simp [State.countOutcome]

@[simp] theorem State.commitJob_fixed (s : State) (j : Job) : (s.commitJob j).fixed = s.fixed := by
  simp [State.commitJob]

@[simp] theorem State.ringEcc_fixed (e : List Word × Nat × State) : (State.ringEcc e).fixed = e.2.2.fixed := by
  simp [State.ringEcc]

@[simp] theorem State.cancelQueued_fixed (s : State) (ring : Nat) (hit : Word → Bool) (i : Nat) (n : Nat) :
    (s.cancelQueued ring hit i n).1.fixed = s.fixed := by
  induction n generalizing s ring hit i with
  | zero => simp only [State.cancelQueued]
  | succ n ih => simp only [State.cancelQueued, State.ringReadE_fixed, State.ringEcc_fixed, State.wrMem_fixed, ite_fixed, ite_self, ih]

@[simp] theorem State.abortJob_fixed (s : State) (j : Job) : (s.abortJob j).fixed = s.fixed := by
  simp [State.abortJob]

@[simp] theorem State.startAbort_fixed (s : State) (w : Writer) : (s.startAbort w).fixed = s.fixed := by
  simp [State.startAbort]

@[simp] theorem State.hoReport_fixed (s : State) : s.hoReport.fixed = s.fixed := by
  simp [State.hoReport]

@[simp] theorem scrpCtrl_fixed (w : Writer) (v : Word) (s : State) : (scrpCtrl w v s).result.fixed = s.fixed := by
  simp [scrpCtrl]

@[simp] theorem jrHandler_fixed (w : Writer) (k : Nat) (v : Word) (s : State) : (jrHandler w k v s).result.fixed = s.fixed := by
  simp only [jrHandler, State.plain_fixed]

@[simp] theorem cacheHandler_fixed (w : Writer) (v : Word) (s : State) : (cacheHandler w v s).result.fixed = s.fixed := by
  simp [cacheHandler]

@[simp] theorem scrpHandler_fixed (w : Writer) (wd : Nat) (v : Word) (s : State) : (scrpHandler w wd v s).result.fixed = s.fixed := by
  simp [scrpHandler]

@[simp] theorem scrpGuarded_fixed (w : Writer) (wd : Nat) (v : Word) (s : State) : (scrpGuarded w wd v s).fixed = s.fixed := by
  simp [scrpGuarded]

@[simp] theorem State.ramWrite_fixed (s : State) (w : Writer) (o : Nat) (v : Word) : (s.ramWrite w o v).fixed = s.fixed := by
  simp [State.ramWrite]

/-! ### Time -/

@[simp] theorem State.wrapped_fixed (s : State) : s.wrapped.fixed = s.fixed := by
  simp [State.wrapped]

@[simp] theorem State.setNs_fixed (s : State) (n : Nat) : (s.setNs n).fixed = s.fixed := by
  simp only [State.setNs, State.fixed_with]

@[simp] theorem State.settlePols_fixed (s : State) : s.settlePols.fixed = s.fixed := by
  simp only [State.settlePols, State.fixed_with]

@[simp] theorem State.reach_fixed (s : State) (t : Nat) : (s.reach t).fixed = s.fixed := by
  simp [State.reach]

@[simp] theorem State.reachX_fixed (s : State) (t : Nat) : (s.reachX t).fixed = s.fixed := by
  simp [State.reachX]

@[simp] theorem timeCtrl_fixed (w : Writer) (v : Word) (s : State) : (timeCtrl w v s).result.fixed = s.fixed := by
  simp [timeCtrl]

@[simp] theorem timeHandler_fixed (w : Writer) (wd : Nat) (v : Word) (s : State) : (timeHandler w wd v s).result.fixed = s.fixed := by
  simp [timeHandler]

@[simp] theorem State.applyMap_fixed (s : State) : s.applyMap.fixed = s.fixed := by
  simp [State.applyMap]

/-! ### Measurement -/

@[simp] theorem State.startLatch_fixed (s : State) (src evin t : Nat) : (s.startLatch src evin t).fixed = s.fixed := by
  simp [State.startLatch]

@[simp] theorem State.skipLatch_fixed (s : State) : s.skipLatch.fixed = s.fixed := by
  simp [State.skipLatch]

@[simp] theorem State.trigger_fixed (s : State) (src evin t : Nat) : (s.trigger src evin t).fixed = s.fixed := by
  simp [State.trigger]

@[simp] theorem measCtrl_fixed (w : Writer) (v : Word) (s : State) : (measCtrl w v s).result.fixed = s.fixed := by
  simp [measCtrl]

@[simp] theorem measHandler_fixed (w : Writer) (wd : Nat) (v : Word) (s : State) : (measHandler w wd v s).result.fixed = s.fixed := by
  simp [measHandler]

@[simp] theorem State.takeEpoch_fixed (s : State) : s.takeEpoch.fixed = s.fixed := by
  simp [State.takeEpoch]

@[simp] theorem State.legacyLatch_fixed (s : State) : s.legacyLatch.fixed = s.fixed := by
  simp [State.legacyLatch]

/-! ### Pulses and events -/

@[simp] theorem State.setTp_fixed (s : State) (n : Nat) (x : TpSt) : (s.setTp n x).fixed = s.fixed := by
  simp only [State.setTp, State.fixed_with]

@[simp] theorem State.applyTp_fixed (s : State) (n : Nat) (x : TpSet) : (s.applyTp n x).fixed = s.fixed := by
  simp [State.applyTp]

@[simp] theorem State.noteTab_fixed (s : State) (n : Nat) : (s.noteTab n).fixed = s.fixed := by
  simp [State.noteTab]

@[simp] theorem tpCtrl_fixed (w : Writer) (v : Word) (s : State) : (tpCtrl w v s).result.fixed = s.fixed := by
  simp [tpCtrl]

@[simp] theorem tpHandler_fixed (w : Writer) (wd : Nat) (v : Word) (s : State) : (tpHandler w wd v s).result.fixed = s.fixed := by
  simp [tpHandler]

@[simp] theorem State.takeTp_fixed (s : State) (n : Nat) (c : TpSet) : (s.takeTp n c).fixed = s.fixed := by
  simp only [State.takeTp]
  repeat' split
  all_goals simp only [State.setTp_fixed]

@[simp] theorem State.tpTakes_fixed (s : State) (n : Nat) : (s.tpTakes n).fixed = s.fixed := by
  simp [State.tpTakes]

@[simp] theorem State.reachExt_fixed (s : State) (tick : Int) : (s.reachExt tick).fixed = s.fixed := by
  simp only [State.reachExt, State.reachX_fixed]

@[simp] theorem State.beforeEdge_fixed (s : State) (n : Nat) (x : Nat) : (s.beforeEdge n x).fixed = s.fixed := by
  induction x generalizing s n with
  | zero => simp only [State.beforeEdge]
  | succ x ih =>
    simp only [State.beforeEdge]
    repeat' split
    all_goals simp only [State.reachX_fixed, State.applyMap_fixed, State.tpTakes_fixed, ih]

@[simp] theorem State.activeEdge_fixed (s : State) (n : Nat) (g : Rat) : (s.activeEdge n g).fixed = s.fixed := by
  unfold State.activeEdge
  lift_lets
  extract_lets target e t x near close u
  have ht : t.fixed = s.fixed := State.reachExt_fixed ..
  have hu : u.fixed = t.fixed := by
    unfold u
    split
    · exact State.setB_fixed ..
    · rfl
  split
  · rw [State.setTp_fixed, ht]
  · split
    · rw [State.raise_fixed, State.incSat_fixed, State.setTp_fixed, ht]
    · rw [State.raise_fixed, State.setRegs_fixed, State.setB_fixed, State.setTp_fixed, hu, ht]

@[simp] theorem evtHandler_fixed (w : Writer) (wd : Nat) (v : Word) (s : State) : (evtHandler w wd v s).result.fixed = s.fixed := by
  simp [evtHandler]

@[simp] theorem State.setFifo_fixed (s : State) (l : List EvEntry) (lost : Bool) : (s.setFifo l lost).fixed = s.fixed := by
  simp [State.setFifo]

/-! ### Blotter -/

@[simp] theorem State.quireTimedOut_fixed (s : State) (q : QReq) (o : Nat) : (s.quireTimedOut q o).fixed = s.fixed := by
  simp only [State.quireTimedOut]
  repeat' split
  all_goals simp

@[simp] theorem quireHandler_fixed (w : Writer) (wd : Nat) (v : Word) (s : State) : (quireHandler w wd v s).result.fixed = s.fixed := by
  simp [quireHandler]

@[simp] theorem State.newSweep_fixed (s : State) : s.newSweep.fixed = s.fixed := by
  simp only [State.newSweep, State.fixed_with]

@[simp] theorem State.endSweep_fixed (s : State) : s.endSweep.fixed = s.fixed := by
  unfold State.endSweep
  split <;> simp

@[simp] theorem State.restoreRegion_fixed (s : State) (m r : Nat) : (s.restoreRegion m r).fixed = s.fixed := by
  simp [State.restoreRegion]

@[simp] theorem State.failingCell_fixed (s : State) (key : Nat) : (s.failingCell key).fixed = s.fixed := by
  simp [State.failingCell]

@[simp] theorem State.marchFail_fixed (s : State) (m r : Nat) (f : MarchFail) : (s.marchFail m r f).fixed = s.fixed := by
  simp [State.marchFail]

@[simp] theorem blotCtrl_fixed (w : Writer) (v : Word) (s : State) : (blotCtrl w v s).result.fixed = s.fixed := by
  simp [blotCtrl]

@[simp] theorem xctlHandler_fixed (w : Writer) (v : Word) (s : State) : (xctlHandler w v s).result.fixed = s.fixed := by
  simp [xctlHandler]

@[simp] theorem State.zeroRegs_fixed (s : State) (key n : Nat) : (s.zeroRegs key n).fixed = s.fixed := by
  simp only [State.zeroRegs, State.setRegs_fixed]

@[simp] theorem blotHandler_fixed (w : Writer) (wd : Nat) (v : Word) (s : State) : (blotHandler w wd v s).result.fixed = s.fixed := by
  simp [blotHandler]

@[simp] theorem retnHandler_fixed (w : Writer) (wd : Nat) (v : Word) (s : State) : (retnHandler w wd v s).result.fixed = s.fixed := by
  simp only [retnHandler, headerHandler_fixed]

@[simp] theorem State.forget_fixed (s : State) (key n : Nat) : (s.forget key n).fixed = s.fixed := by
  simp only [State.forget, State.fixed_with]

@[simp] theorem State.clearEntries_fixed (s : State) (c : Nat) : (s.clearEntries c).fixed = s.fixed := by
  simp only [State.clearEntries, State.zeroRegs_fixed]

@[simp] theorem State.forgetBank_fixed (s : State) (b : Nat) : (s.forgetBank b).fixed = s.fixed := by
  simp [State.forgetBank]

@[simp] theorem State.bankOff_fixed (s : State) (b : Nat) : (s.bankOff b).fixed = s.fixed := by
  simp [State.bankOff]

@[simp] theorem State.bankOn_fixed (s : State) (b : Nat) : (s.bankOn b).fixed = s.fixed := by
  simp [State.bankOn]

@[simp] theorem State.memOff_fixed (s : State) (d : Nat) : (s.memOff d).fixed = s.fixed := by
  simp only [State.memOff]
  repeat' split
  all_goals simp

@[simp] theorem State.memOn_fixed (s : State) (d : Nat) : (s.memOn d).fixed = s.fixed := by
  simp [State.memOn]

/-! ### Flash -/

@[simp] theorem State.flashWrite_fixed (s : State) (a : Nat) (l : List Byte) : (s.flashWrite a l).fixed = s.fixed := by
  induction l generalizing s a with
  | nil => simp only [State.flashWrite]
  | cons a l ih => simp only [State.flashWrite, State.fixed_with_upd, ih]

@[simp] theorem State.freeBytes_fixed (s : State) (n : Nat) : (s.freeBytes n).2.fixed = s.fixed := by
  induction n generalizing s with
  | zero => simp only [State.freeBytes]
  | succ n ih => simp only [State.freeBytes, State.free_fixed, ih]

@[simp] theorem State.flashBroken_fixed (s : State) (a n : Nat) : (s.flashBroken a n).fixed = s.fixed := by
  simp [State.flashBroken]

@[simp] theorem State.showRec_fixed (s : State) : s.showRec.fixed = s.fixed := by
  simp [State.showRec]

@[simp] theorem State.writeRec_fixed (s : State) (r : Rec) : (s.writeRec r).fixed = s.fixed := by
  simp [State.writeRec]

@[simp] theorem State.writeSet_fixed (s : State) (classN : Bool) (lver : Nat) (payload : List Byte) :
    (s.writeSet classN lver payload).fixed = s.fixed := by
  simp [State.writeSet]

@[simp] theorem State.brokenCopy_fixed (s : State) (a n : Nat) (valid : State → Bool) : (s.brokenCopy a n valid).fixed = s.fixed := by
  simp [State.brokenCopy]

@[simp] theorem State.failRec_fixed (s : State) : s.failRec.fixed = s.fixed := by
  simp [State.failRec]

@[simp] theorem State.tryRec_fixed (s : State) (ok : Bool) (r : Rec) : (s.tryRec ok r).fixed = s.fixed := by
  simp [State.tryRec]

@[simp] theorem State.trySet_fixed (s : State) (ok : Bool) (classN : Bool) (lver : Nat) (payload : List Byte) :
    (s.trySet ok classN lver payload).fixed = s.fixed := by
  simp [State.trySet]

@[simp] theorem State.breakOp_fixed (s : State) : s.breakOp.fixed = s.fixed := by
  unfold State.breakOp
  split <;> simp

@[simp] theorem State.cutOp_fixed (s : State) : s.cutOp.fixed = s.fixed := by
  simp [State.cutOp]

@[simp] theorem State.ramBytes_fixed (s : State) (key n : Nat) : (s.ramBytes key n).2.fixed = s.fixed := by
  simp only [State.ramBytes, State.memReadN_fixed]

/-! ### Rings and records -/

@[simp] theorem State.latchRing_fixed (s : State) (r : Nat) : (s.latchRing r).fixed = s.fixed := by
  unfold State.latchRing
  split <;> simp

@[simp] theorem State.ringChanged_fixed (s : State) (r : Nat) : (s.ringChanged r).fixed = s.fixed := by
  simp [State.ringChanged]

@[simp] theorem rcfgHandler_fixed (w : Writer) (r : Nat) (v : Word) (s : State) : (rcfgHandler w r v s).result.fixed = s.fixed := by
  simp [rcfgHandler]

@[simp] theorem indexHandler_fixed (w : Writer) (r : Nat) (prod : Bool) (v : Word) (s : State) :
    (indexHandler w r prod v s).result.fixed = s.fixed := by
  simp [indexHandler]

@[simp] theorem ringWordHandler_fixed (w : Writer) (r k : Nat) (v : Word) (s : State) :
    (ringWordHandler w r k v s).result.fixed = s.fixed := by
  simp [ringWordHandler]

@[simp] theorem ringHandler_fixed (w : Writer) (i wd : Nat) (v : Word) (s : State) : (ringHandler w i wd v s).result.fixed = s.fixed := by
  simp [ringHandler]

@[simp] theorem ringGuarded_fixed (w : Writer) (i wd : Nat) (v : Word) (s : State) : (ringGuarded w i wd v s).fixed = s.fixed := by
  simp [ringGuarded]

@[simp] theorem State.loadTimer_fixed (s : State) (k : Nat) : (s.loadTimer k).fixed = s.fixed := by
  simp only [State.loadTimer, State.fixed_with]

@[simp] theorem evcHandler_fixed (w : Writer) (wd : Nat) (v : Word) (s : State) : (evcHandler w wd v s).result.fixed = s.fixed := by
  simp [evcHandler]

@[simp] theorem State.setSes_fixed (s : State) (q : Nat) (x : Ses) : (s.setSes q x).fixed = s.fixed := by
  simp only [State.setSes, State.fixed_with]

@[simp] theorem State.endSession_fixed (s : State) (q : Nat) : (s.endSession q).fixed = s.fixed := by
  unfold State.endSession
  split <;> simp

@[simp] theorem sctlSesHandler_fixed (w : Writer) (q : Nat) (v : Word) (s : State) : (sctlSesHandler w q v s).result.fixed = s.fixed := by
  simp [sctlSesHandler]

@[simp] theorem State.clearErrw_fixed (s : State) (q : Nat) (v : Word) : (s.clearErrw q v).fixed = s.fixed := by
  simp [State.clearErrw]

@[simp] theorem sesBlockHandler_fixed (w : Writer) (q k : Nat) (v : Word) (s : State) :
    (sesBlockHandler w q k v s).result.fixed = s.fixed := by
  simp [sesBlockHandler]

@[simp] theorem sesHandler_fixed (w : Writer) (wd : Nat) (v : Word) (s : State) : (sesHandler w wd v s).result.fixed = s.fixed := by
  simp [sesHandler]

@[simp] theorem State.offer_fixed (s : State) (rec : List Word) (q : Nat) : (s.offer rec q).fixed = s.fixed := by
  simp [State.offer]

/-! ### Serial channels -/

@[simp] theorem State.setSer_fixed (s : State) (n : Nat) (x : Ser) : (s.setSer n x).fixed = s.fixed := by
  simp [State.setSer]

@[simp] theorem State.pendSetting_fixed (s : State) (n : Nat) : (s.pendSetting n).fixed = s.fixed := by
  simp only [State.pendSetting, State.setSer_fixed]

@[simp] theorem State.sendResp_fixed (s : State) (n : Nat) : (s.sendResp n).fixed = s.fixed := by
  simp [State.sendResp]

@[simp] theorem serCtrl_fixed (w : Writer) (n : Nat) (v : Word) (s : State) : (serCtrl w n v s).result.fixed = s.fixed := by
  simp [serCtrl]

@[simp] theorem serCfg_fixed (w : Writer) (n : Nat) (v : Word) (s : State) : (serCfg w n v s).result.fixed = s.fixed := by
  simp [serCfg]

@[simp] theorem serBaudf_fixed (w : Writer) (n : Nat) (v : Word) (s : State) : (serBaudf w n v s).result.fixed = s.fixed := by
  simp [serBaudf]

@[simp] theorem serDrn_fixed (w : Writer) (n : Nat) (v : Word) (s : State) : (serDrn w n v s).result.fixed = s.fixed := by
  simp [serDrn]

@[simp] theorem serFlow_fixed (w : Writer) (n : Nat) (v : Word) (s : State) : (serFlow w n v s).result.fixed = s.fixed := by
  simp [serFlow]

@[simp] theorem serWord_fixed (w : Writer) (n wd : Nat) (v : Word) (s : State) : (serWord w n wd v s).result.fixed = s.fixed := by
  simp [serWord]

@[simp] theorem serHandler_fixed (w : Writer) (n wd : Nat) (v : Word) (s : State) : (serHandler w n wd v s).result.fixed = s.fixed := by
  simp [serHandler]

@[simp] theorem State.takeRx_fixed (s : State) (n : Nat) : (s.takeRx n).fixed = s.fixed := by
  simp only [State.takeRx, State.setSer_fixed]

@[simp] theorem State.startRx_fixed (s : State) (n : Nat) : (s.startRx n).fixed = s.fixed := by
  simp [State.startRx]

@[simp] theorem State.fastTakes_fixed (s : State) (n : Nat) : (s.fastTakes n).fixed = s.fixed := by
  simp only [State.fastTakes, State.setSer_fixed]

@[simp] theorem State.uartEvent_fixed (s : State) (n : Nat) : (s.uartEvent n).fixed = s.fixed := by
  simp [State.uartEvent]

@[simp] theorem State.storeChar_fixed (s : State) (n : Nat) (h : Word) : (s.storeChar n h).fixed = s.fixed := by
  simp [State.storeChar]

@[simp] theorem State.receive_fixed (s : State) (n : Nat) (h : Word) : (s.receive n h).fixed = s.fixed := by
  simp [State.receive]

@[simp] theorem State.rxChar_fixed (s : State) (n data : Nat) (par : Word → Bool) (stop : Bool) :
    (s.rxChar n data par stop).fixed = s.fixed := by
  unfold State.rxChar
  repeat' split
  all_goals simp

@[simp] theorem State.flowReceived_fixed (s : State) (n d : Nat) : (s.flowReceived n d).fixed = s.fixed := by
  simp only [State.flowReceived, State.rxChar_fixed]

@[simp] theorem State.beginTx_fixed (s : State) (n : Nat) (x : Ser) (c : BitVec 9) : (s.beginTx n x c).fixed = s.fixed := by
  simp only [State.beginTx, State.setSer_fixed]

@[simp] theorem State.drainMove_fixed (s : State) (n : Nat) : (s.drainMove n).fixed = s.fixed := by
  simp [State.drainMove]

@[simp] theorem State.latchWake_fixed (s : State) (b : Nat) : (s.latchWake b).fixed = s.fixed := by
  simp [State.latchWake]

@[simp] theorem State.handOver_fixed (s : State) (u : Nat) : (s.handOver u).fixed = s.fixed := by
  unfold State.handOver
  split <;> simp

@[simp] theorem State.slowKeep_fixed (s : State) (u : Nat) (h : Word) : (s.slowKeep u h).fixed = s.fixed := by
  simp [State.slowKeep]

@[simp] theorem State.slowWoken_fixed (s : State) : s.slowWoken.fixed = s.fixed := by
  simp [State.slowWoken]

/-! ### Frames -/

@[simp] theorem State.park_fixed (s : State) (c : Nat) : (s.park c).fixed = s.fixed := by
  unfold State.park
  split <;> simp

@[simp] theorem State.drainRank_fixed (s : State) (r : Nat) : (s.drainRank r).fixed = s.fixed := by
  simp [State.drainRank]

@[simp] theorem State.drainRanks_fixed (s : State) : s.drainRanks.fixed = s.fixed := by
  simp [State.drainRanks]

@[simp] theorem State.disables_fixed (s : State) : s.disables.fixed = s.fixed := by
  simp [State.disables]

@[simp] theorem State.releaseFaults_fixed (s : State) : s.releaseFaults.fixed = s.fixed := by
  simp only [State.releaseFaults, State.fixed_with]

@[simp] theorem State.switchTables_fixed (s : State) : s.switchTables.fixed = s.fixed := by
  simp only [State.switchTables, State.fixed_with]

@[simp] theorem State.beginRun_fixed (s : State) (c : Nat) (load : Nat × Option PhaseSet) : (s.beginRun c load).fixed = s.fixed := by
  simp [State.beginRun]

@[simp] theorem State.resumeChan_fixed (s : State) (c : Nat) : (s.resumeChan c).fixed = s.fixed := by
  simp [State.resumeChan]

@[simp] theorem State.phaseBoundary_fixed (s : State) (c : Nat) : (s.phaseBoundary c).fixed = s.fixed := by
  unfold State.phaseBoundary
  split <;> simp

@[simp] theorem State.startRuns_fixed (s : State) : s.startRuns.fixed = s.fixed := by
  simp [State.startRuns]

@[simp] theorem State.switchWindow_fixed (s : State) : s.switchWindow.fixed = s.fixed := by
  simp [State.switchWindow]

@[simp] theorem State.readmit_fixed (s : State) : s.readmit.fixed = s.fixed := by
  simp [State.readmit]

@[simp] theorem State.enableRank_fixed (s : State) (r : Nat) : (s.enableRank r).fixed = s.fixed := by
  simp [State.enableRank]

@[simp] theorem State.enableRanks_fixed (s : State) : s.enableRanks.fixed = s.fixed := by
  simp [State.enableRanks]

@[simp] theorem State.frameOpen_fixed (s : State) (stamps : List (BitVec 64)) : (s.frameOpen stamps).fixed = s.fixed := by
  simp [State.frameOpen]

@[simp] theorem State.frameClose_fixed (s : State) : s.frameClose.fixed = s.fixed := by
  simp [State.frameClose]

/-! ### The state of a core -/

@[simp] theorem State.setCore_fixed (s : State) (c : Fin 4) (x : Core) : (s.setCore c x).fixed = s.fixed := by
  simp only [State.setCore, State.fixed_with]

/-! ### Fetch -/

@[simp] theorem State.fetchSyl_fixed (s : State) (c : Fin 4) (a : Nat) : (s.fetchSyl c a).2.2.fixed = s.fixed := by
  simp only [State.fetchSyl, State.memReadN_fixed]

@[simp] theorem State.fetchBundle_fixed (s : State) (c : Fin 4) (a i prev : Nat) (n : Nat) :
    (s.fetchBundle c a i prev n).2.2.fixed = s.fixed := by
  induction n generalizing s c a i prev with
  | zero => simp only [State.fetchBundle]
  | succ n ih => simp only [State.fetchBundle, State.fetchSyl_fixed, ite_self, ite_snd_snd_fixed, ih]

@[simp] theorem State.pick_fixed (s : State) (l : List Nat) : (s.pick l).2.fixed = s.fixed := by
  simp [State.pick]

@[simp] theorem State.raiseTrap_fixed (s : State) (c : Fin 4) (tcs tra bundle : Nat) :
    (s.raiseTrap c tcs tra bundle).fixed = s.fixed := by
  simp only [State.raiseTrap, State.setCore_fixed]

@[simp] theorem State.decodeBundle_fixed (s : State) (c : Fin 4) : (s.decodeBundle c).2.2.fixed = s.fixed := by
  simp only [State.decodeBundle, State.fetchBundle_fixed]

theorem State.decodeTrap_fixed {s t : State} {c : Fin 4} (h : s.decodeTrap c = some t) : t.fixed = s.fixed := by
  simp only [State.decodeTrap] at h
  split at h
  · cases h
  · cases h; simp

/-! ### Control of a core -/

@[simp] theorem State.resetCore_fixed (s : State) (c : Fin 4) : (s.resetCore c).fixed = s.fixed := by
  simp only [State.resetCore, State.setCore_fixed]

@[simp] theorem State.haltCore_fixed (s : State) (c : Fin 4) (event : Nat) : (s.haltCore c event).fixed = s.fixed := by
  simp [State.haltCore]

@[simp] theorem State.askHalt_fixed (s : State) (c : Fin 4) : (s.askHalt c).fixed = s.fixed := by
  simp only [State.askHalt, State.setCore_fixed]

@[simp] theorem State.wantHalt_fixed (s : State) (w : Writer) (c : Fin 4) : (s.wantHalt w c).fixed = s.fixed := by
  unfold State.wantHalt
  extract_lets x
  split
  · split
    · exact State.askHalt_fixed ..
    · split
      · exact State.haltCore_fixed ..
      · split
        next t h => rw [State.askHalt_fixed, State.decodeTrap_fixed h]
        next => exact State.haltCore_fixed ..
  · simp only [ite_fixed, State.askHalt_fixed, ite_self]

@[simp] theorem State.wantRun_fixed (s : State) (c : Fin 4) : (s.wantRun c).fixed = s.fixed := by
  simp [State.wantRun]

@[simp] theorem coreCtrl_fixed (w : Writer) (c : Fin 4) (v : Word) (s : State) : (coreCtrl w c v s).result.fixed = s.fixed := by
  simp [coreCtrl]

@[simp] theorem rdatHandler_fixed (c : Fin 4) (v : Word) (s : State) : (rdatHandler c v s).result.fixed = s.fixed := by
  simp only [rdatHandler, State.setCore_fixed]

@[simp] theorem coreHandler_fixed (w : Writer) (c : Fin 4) (wd : Nat) (v : Word) (s : State) :
    (coreHandler w c wd v s).result.fixed = s.fixed := by
  simp [coreHandler]

@[simp] theorem udlHandler_fixed (w : Writer) (v : Word) (s : State) : (udlHandler w v s).result.fixed = s.fixed := by
  simp [udlHandler]

@[simp] theorem dentHandler_fixed (w : Writer) (c : Fin 4) (e : Nat) (v : Word) (s : State) :
    (dentHandler w c e v s).result.fixed = s.fixed := by
  simp [dentHandler]

@[simp] theorem rubrCtrl_fixed (w : Writer) (v : Word) (s : State) : (rubrCtrl w v s).result.fixed = s.fixed := by
  simp [rubrCtrl]

@[simp] theorem rubrHandler_fixed (w : Writer) (wd : Nat) (v : Word) (s : State) : (rubrHandler w wd v s).result.fixed = s.fixed := by
  simp [rubrHandler]

/-! ### Power -/

@[simp] theorem State.startTime_fixed (s : State) : s.startTime.fixed = s.fixed := by
  simp [State.startTime]

@[simp] theorem State.lockPll_fixed (s : State) (p : Nat) : (s.lockPll p).fixed = s.fixed := by
  simp [State.lockPll]

@[simp] theorem State.stopPlls_fixed (s : State) : s.stopPlls.fixed = s.fixed := by
  simp [State.stopPlls]

@[simp] theorem State.setPstate_fixed (s : State) (d : Nat) (v : BitVec 2) : (s.setPstate d v).fixed = s.fixed := by
  simp only [State.setPstate, State.fixed_with]

@[simp] theorem State.feedsOff_fixed (s : State) (d : Nat) : (s.feedsOff d).fixed = s.fixed := by
  simp [State.feedsOff]

@[simp] theorem State.endSessions_fixed (s : State) (d : Nat) : (s.endSessions d).fixed = s.fixed := by
  simp [State.endSessions]

@[simp] theorem State.timeOff_fixed (s : State) : s.timeOff.fixed = s.fixed := by
  simp only [State.timeOff, State.setB_fixed, State.setF_fixed, State.free_fixed, State.setRegs_fixed, State.inc_fixed,
    State.raise_fixed, ite_fixed, ite_self, State.fixed_with]

@[simp] theorem State.domainDown_fixed (s : State) (d : Nat) : (s.domainDown d).fixed = s.fixed := by
  simp only [State.domainDown, ite_fixed, State.stopPlls_fixed, State.fixed_with, State.setPstate_fixed, State.memOff_fixed,
    State.feedsOff_fixed, State.fixed_with_pins_of (State.endSessions_fixed _ _), State.endSessions_fixed, State.dropCache_fixed,
      State.timeOff_fixed, ite_self]

@[simp] theorem State.clearPage_fixed (s : State) (p lo n : Nat) : (s.clearPage p lo n).fixed = s.fixed := by
  simp only [State.clearPage, State.fixed_with]

@[simp] theorem State.noCodes_fixed (s : State) : s.noCodes.fixed = s.fixed := by
  simp [State.noCodes]

@[simp] theorem State.quireUp_fixed (s : State) (kept : Bool) : (s.quireUp kept).fixed = s.fixed := by
  simp [State.quireUp]

@[simp] theorem State.coreUp_fixed (s : State) (c : Fin 4) : (s.coreUp c).fixed = s.fixed := by
  simp [State.coreUp]

@[simp] theorem State.quireLost_fixed (s : State) : s.quireLost.fixed = s.fixed := by
  simp [State.quireLost]

@[simp] theorem State.domainUp_fixed (s : State) (d : Nat) : (s.domainUp d).fixed = s.fixed := by
  unfold State.domainUp
  repeat' split
  all_goals simp

@[simp] theorem State.switchOff_fixed (s : State) (d : Nat) : (s.switchOff d).fixed = s.fixed := by
  simp [State.switchOff]

@[simp] theorem dctlHandler_fixed (w : Writer) (d : Nat) (v : Word) (s : State) : (dctlHandler w d v s).result.fixed = s.fixed := by
  simp [dctlHandler]

@[simp] theorem State.setPhase_fixed (s : State) (n : Nat) : (s.setPhase n).fixed = s.fixed := by
  simp only [State.setPhase, State.setF_fixed]

@[simp] theorem State.setDev_fixed (s : State) (d : DevState) : (s.setDev d).fixed = s.fixed := by
  simp [State.setDev]

@[simp] theorem State.beginEntry_fixed (s : State) (d : DevState) (by_ : Option Writer) : (s.beginEntry d by_).fixed = s.fixed := by
  simp [State.beginEntry]

@[simp] theorem State.beginEntryLw_fixed (s : State) (w : Writer) : (s.beginEntryLw w).fixed = s.fixed := by
  simp [State.beginEntryLw]

@[simp] theorem State.dropEntry_fixed (s : State) : s.dropEntry.fixed = s.fixed := by
  simp [State.dropEntry]

@[simp] theorem State.ungate_fixed (s : State) (c : Fin 4) : (s.ungate c).fixed = s.fixed := by
  simp [State.ungate]

@[simp] theorem State.ungateAll_fixed (s : State) : s.ungateAll.fixed = s.fixed := by
  simp [State.ungateAll]

@[simp] theorem State.endDoze_fixed (s : State) : s.endDoze.fixed = s.fixed := by
  simp [State.endDoze]

@[simp] theorem pwrCtrl_fixed (w : Writer) (v : Word) (s : State) : (pwrCtrl w v s).result.fixed = s.fixed := by
  simp [pwrCtrl]

@[simp] theorem State.refuseEntry_fixed (s : State) (w : Writer) : (s.refuseEntry w).fixed = s.fixed := by
  simp [State.refuseEntry]

@[simp] theorem State.unready_fixed (s : State) (d : DevState) : (s.unready d).fixed = s.fixed := by
  simp [State.unready]

@[simp] theorem State.settleEntry_fixed (s : State) (d : DevState) : (s.settleEntry d).fixed = s.fixed := by
  simp [State.settleEntry]

@[simp] theorem State.entryDrain_fixed (s : State) (off : List Nat) : (s.entryDrain off).fixed = s.fixed := by
  simp [State.entryDrain]

@[simp] theorem State.setLp_fixed (s : State) (lp : Bool) : (s.setLp lp).fixed = s.fixed := by
  simp only [State.setLp, State.setF_fixed]

@[simp] theorem State.powerDown_fixed (s : State) (off : List Nat) : (s.powerDown off).fixed = s.fixed := by
  simp [State.powerDown]

@[simp] theorem State.legacyTrain_fixed (s : State) (wasOff : Bool) : (s.legacyTrain wasOff).fixed = s.fixed := by
  simp [State.legacyTrain]

@[simp] theorem State.dropUpdateLock_fixed (s : State) : s.dropUpdateLock.fixed = s.fixed := by
  simp only [State.dropUpdateLock, State.setReg_fixed]

@[simp] theorem State.deepEntry_fixed (s : State) (d : DevState) : (s.deepEntry d).fixed = s.fixed := by
  rw [State.deepEntry]
  refine (State.fixed_with_pins_of (t := State.setLp _ true) (State.setLp_fixed _ _) ..).trans ?_
  simp only [ite_fixed, foldl_fixed, implies_true, State.forgetBank_fixed, State.setPstate_fixed, State.dropUpdateLock_fixed,
    State.powerDown_fixed, State.setReg_fixed, ite_self]

@[simp] theorem State.wakeEvent_fixed (s : State) (cause event : Nat) : (s.wakeEvent cause event).fixed = s.fixed := by
  simp [State.wakeEvent]

@[simp] theorem State.pinEvent_fixed (s t : State) (n : Nat) : (s.pinEvent t n).fixed = t.fixed := by
  simp [State.pinEvent]

@[simp] theorem State.rtcTicks_fixed (s : State) (k : Nat) : (s.rtcTicks k).fixed = s.fixed := by
  simp only [State.rtcTicks, State.fixed_with]

@[simp] theorem alm2Handler_fixed (w : Writer) (v : Word) (s : State) : (alm2Handler w v s).result.fixed = s.fixed := by
  simp [alm2Handler]

@[simp] theorem State.rtcWant_fixed (s : State) (rc : Bool) : (s.rtcWant rc).fixed = s.fixed := by
  simp [State.rtcWant]

@[simp] theorem rtcctlHandler_fixed (w : Writer) (v : Word) (s : State) : (rtcctlHandler w v s).result.fixed = s.fixed := by
  simp [rtcctlHandler]

@[simp] theorem clkHandler_fixed (w : Writer) (wd : Nat) (v : Word) (s : State) : (clkHandler w wd v s).result.fixed = s.fixed := by
  simp [clkHandler]

@[simp] theorem bkdHandler_fixed (v : Word) (s : State) : (bkdHandler v s).result.fixed = s.fixed := by
  simp [bkdHandler]

@[simp] theorem pwrHandler_fixed (w : Writer) (wd : Nat) (v : Word) (s : State) : (pwrHandler w wd v s).result.fixed = s.fixed := by
  simp [pwrHandler]

@[simp] theorem State.drainedOff_fixed (s : State) : s.drainedOff.fixed = s.fixed := by
  simp [State.drainedOff]

/-! ### Resets -/

@[simp] theorem State.keepArun_fixed (t s : State) : (t.keepArun s).fixed = t.fixed := by
  simp [State.keepArun]

/-- A reset that keeps AON breaks no OTP operation off. -/
@[simp] theorem State.resetUnits_fixed {k : Kept} (hk : k.aon = true) (s : State) : (s.resetUnits k).fixed = s.fixed := by
  simp [State.resetUnits, hk]

@[simp] theorem State.resetCause_fixed (t s : State) (n : Nat) : (t.resetCause s n).fixed = t.fixed := by
  simp [State.resetCause]

@[simp] theorem State.forgetCore_fixed (s : State) : s.forgetCore.fixed = s.fixed := by
  simp [State.forgetCore]

@[simp] theorem State.forgetAon_fixed (s : State) : s.forgetAon.fixed = s.fixed := by
  simp [State.forgetAon]

@[simp] theorem State.allUp_fixed (s : State) : s.allUp.fixed = s.fixed := by
  simp [State.allUp]

@[simp] theorem State.deepExit_fixed (s : State) : s.deepExit.fixed = s.fixed := by
  simp [State.deepExit]

@[simp] theorem State.warmReset_fixed (s : State) : s.warmReset.fixed = s.fixed := by
  simp [State.warmReset]

@[simp] theorem rstCtrl_fixed (w : Writer) (v : Word) (s : State) : (rstCtrl w v s).result.fixed = s.fixed := by
  simp [rstCtrl]

@[simp] theorem rstHandler_fixed (w : Writer) (wd : Nat) (v : Word) (s : State) : (rstHandler w wd v s).result.fixed = s.fixed := by
  simp [rstHandler]

/-! ### Update and lifecycle -/

@[simp] theorem State.freeLock_fixed (s : State) : s.freeLock.fixed = s.fixed := by
  simp only [State.freeLock, State.setReg_fixed]

@[simp] theorem State.trialRestart_fixed (s : State) : s.trialRestart.fixed = s.fixed := by
  simp [State.trialRestart]

@[simp] theorem State.beginFlash_fixed (s : State) (op : FlashOp) : (s.beginFlash op).fixed = s.fixed := by
  simp [State.beginFlash]

@[simp] theorem State.endFlash_fixed (s : State) : s.endFlash.fixed = s.fixed := by
  simp [State.endFlash]

@[simp] theorem State.beginBlock_fixed (s : State) : s.beginBlock.fixed = s.fixed := by
  simp [State.beginBlock]

@[simp] theorem State.beginSettings_fixed (s : State) (classN : Bool) : (s.beginSettings classN).fixed = s.fixed := by
  simp [State.beginSettings]

@[simp] theorem State.confirm_fixed (s : State) : s.confirm.fixed = s.fixed := by
  simp [State.confirm]

@[simp] theorem State.updAct_fixed (s : State) (w : Writer) (b : Nat) : (s.updAct w b).2.2.fixed = s.fixed := by
  simp [State.updAct]

@[simp] theorem updCtrl_fixed (w : Writer) (v : Word) (s : State) : (updCtrl w v s).result.fixed = s.fixed := by
  unfold updCtrl
  split <;> simp only [State.updAct_fixed]

@[simp] theorem ulockHandler_fixed (w : Writer) (v : Word) (s : State) : (ulockHandler w v s).result.fixed = s.fixed := by
  unfold ulockHandler
  repeat' split
  all_goals simp

@[simp] theorem updHandler_fixed (w : Writer) (wd : Nat) (v : Word) (s : State) : (updHandler w wd v s).result.fixed = s.fixed := by
  simp [updHandler]

@[simp] theorem updGuarded_fixed (w : Writer) (wd : Nat) (v : Word) (s : State) : (updGuarded w wd v s).fixed = s.fixed := by
  simp [updGuarded]

@[simp] theorem State.failFlash_fixed (s : State) : s.failFlash.fixed = s.fixed := by
  simp [State.failFlash]

@[simp] theorem State.blockDone_fixed (s : State) (off : Nat) (bytes : List Byte) (ok : Bool) :
    (s.blockDone off bytes ok).fixed = s.fixed := by
  simp [State.blockDone]

@[simp] theorem State.activateEnd_fixed (s : State) (ok : Bool) : (s.activateEnd ok).fixed = s.fixed := by
  simp [State.activateEnd]

@[simp] theorem State.confirmEnd_fixed (s : State) (ok : Bool) : (s.confirmEnd ok).fixed = s.fixed := by
  simp [State.confirmEnd]

@[simp] theorem State.settingsEnd_fixed (s : State) (classN : Bool) (lver : Nat) (payload : List Byte) (ok : Bool) :
    (s.settingsEnd classN lver payload ok).fixed = s.fixed := by
  simp [State.settingsEnd]

@[simp] theorem State.discardEnd_fixed (s : State) (ok : Bool) : (s.discardEnd ok).fixed = s.fixed := by
  simp [State.discardEnd]

@[simp] theorem State.finishOp_fixed (s : State) (ok : Bool) : (s.finishOp ok).fixed = s.fixed := by
  unfold State.finishOp
  split <;> simp

@[simp] theorem State.trialOver_fixed (s : State) : s.trialOver.fixed = s.fixed := by
  simp [State.trialOver]

@[simp] theorem State.beginOtp_fixed (s : State) (kind r : Nat) (bits : BitVec 16) : (s.beginOtp kind r bits).fixed = s.fixed := by
  simp [State.beginOtp]

@[simp] theorem State.lcsAct_fixed (s : State) (b : Nat) : (s.lcsAct b).result.fixed = s.fixed := by
  simp [State.lcsAct]

@[simp] theorem lcsCtrl_fixed (v : Word) (s : State) : (lcsCtrl v s).result.fixed = s.fixed := by
  unfold lcsCtrl
  split <;> simp only [State.lcsAct_fixed]

@[simp] theorem lcsHandler_fixed (w : Writer) (wd : Nat) (v : Word) (s : State) : (lcsHandler w wd v s).result.fixed = s.fixed := by
  simp [lcsHandler]

@[simp] theorem State.endOtp_fixed (s : State) : s.endOtp.fixed = s.fixed := by
  simp [State.endOtp]

/-! ### Legacy -/

@[simp] theorem State.portNext_fixed (s : State) : s.portNext.fixed = s.fixed := by
  simp [State.portNext]

@[simp] theorem State.dumpClear_fixed (s : State) : s.dumpClear.fixed = s.fixed := by
  simp [State.dumpClear]

@[simp] theorem State.dumpRead_fixed (s : State) : (s.dumpRead).2.2.fixed = s.fixed := by
  simp [State.dumpRead]

@[simp] theorem State.legacySnap_fixed (s : State) : s.legacySnap.fixed = s.fixed := by
  simp [State.legacySnap]

@[simp] theorem State.legacyTpApply_fixed (s : State) (v : Word) : (s.legacyTpApply v).fixed = s.fixed := by
  simp [State.legacyTpApply]

@[simp] theorem State.legacyFeed_fixed (s : State) (rate : Nat) : (s.legacyFeed rate).fixed = s.fixed := by
  simp [State.legacyFeed]

@[simp] theorem State.sampleOn_fixed (s : State) (w : Writer) (rate : Nat) : (s.sampleOn w rate).fixed = s.fixed := by
  simp [State.sampleOn]

@[simp] theorem State.sampleOff_fixed (s : State) (w : Writer) : (s.sampleOff w).fixed = s.fixed := by
  simp [State.sampleOff]

@[simp] theorem lsctlHandler_fixed (w : Writer) (v : Word) (s : State) : (lsctlHandler w v s).result.fixed = s.fixed := by
  simp [lsctlHandler]

@[simp] theorem State.uartApply_fixed (s : State) (u : Nat) : (s.uartApply u).fixed = s.fixed := by
  simp [State.uartApply]

@[simp] theorem uartHandler_fixed (u j : Nat) (v : Word) (s : State) : (uartHandler u j v s).result.fixed = s.fixed := by
  simp [uartHandler]

@[simp] theorem State.legacyEnable_fixed (s : State) (c : Nat) (v : Word) : (s.legacyEnable c v).fixed = s.fixed := by
  simp [State.legacyEnable]

@[simp] theorem lcctlHandler_fixed (c : Nat) (v : Word) (s : State) : (lcctlHandler c v s).result.fixed = s.fixed := by
  simp [lcctlHandler]

@[simp] theorem State.legacyNco_fixed (s : State) (c b : Nat) : (s.legacyNco c b).fixed = s.fixed := by
  simp [State.legacyNco]

@[simp] theorem lcHandler_fixed (c j : Nat) (v : Word) (s : State) : (lcHandler c j v s).result.fixed = s.fixed := by
  simp [lcHandler]

@[simp] theorem lctlHandler_fixed (w : Writer) (v : Word) (s : State) : (lctlHandler w v s).result.fixed = s.fixed := by
  simp [lctlHandler]

@[simp] theorem lwWord_fixed (w : Writer) (k : Nat) (v : Word) (s : State) : (lwWord w k v s).result.fixed = s.fixed := by
  simp [lwWord]

@[simp] theorem lmdatHandler_fixed (w : Writer) (v : Word) (s : State) : (lmdatHandler w v s).result.fixed = s.fixed := by
  unfold lmdatHandler
  split <;> simp

@[simp] theorem lwHandler_fixed (w : Writer) (k : Nat) (v : Word) (s : State) : (lwHandler w k v s).result.fixed = s.fixed := by
  simp [lwHandler]

@[simp] theorem State.lwRefuse_fixed (s : State) (w : Writer) (code k : Nat) : (s.lwRefuse w code k).fixed = s.fixed := by
  simp [State.lwRefuse]

@[simp] theorem State.lwApply_fixed (s : State) (w : Writer) (k : Nat) (v : Word) : (s.lwApply w k v).fixed = s.fixed := by
  simp [State.lwApply]

@[simp] theorem State.lwPost_fixed (s : State) (q : Fin 8) (k : Nat) (v : Word) : (s.lwPost q k v).fixed = s.fixed := by
  simp [State.lwPost]

@[simp] theorem State.lwArrive_fixed (s : State) (w : Writer) : (s.lwArrive w).fixed = s.fixed := by
  unfold State.lwArrive
  split <;> simp

@[simp] theorem State.lwWrite_fixed (s : State) (w : Writer) (k : Nat) (v : Word) : (s.lwWrite w k v).fixed = s.fixed := by
  unfold State.lwWrite
  repeat' split
  all_goals simp

@[simp] theorem State.takeRxd_fixed (s : State) (n : Nat) : (s.takeRxd n).fixed = s.fixed := by
  simp [State.takeRxd]

@[simp] theorem State.portFetch_fixed (s : State) : s.portFetch.2.fixed = s.fixed := by
  unfold State.portFetch
  split <;> simp only [State.hostMemRead_fixed]

@[simp] theorem State.lwRead_fixed (s : State) (w : Writer) (k : Nat) : (s.lwRead w k).2.fixed = s.fixed := by
  simp [State.lwRead]

@[simp] theorem State.lwHostRead_fixed (s : State) (q : Fin 8) (k : Nat) : (s.lwHostRead q k).2.2.fixed = s.fixed := by
  simp [State.lwHostRead]

@[simp] theorem State.driveBus_fixed (s : State) (q : Fin 8) (v : Word) (tag : BitVec 2) : (s.driveBus q v tag).fixed = s.fixed := by
  simp [State.driveBus]

@[simp] theorem State.lwReadRow_fixed (s : State) (q : Fin 8) (k : Nat) : (s.lwReadRow q k).fixed = s.fixed := by
  simp [State.lwReadRow]

@[simp] theorem State.lwRow_fixed (s : State) (w : Writer) (k : Nat) (v : Word) : (s.lwRow w k v).fixed = s.fixed := by
  unfold State.lwRow
  repeat' split
  all_goals simp

/-! ### Reads -/

@[simp] theorem State.clearRc_fixed (s : State) (p wd : Nat) : (s.clearRc p wd).fixed = s.fixed := by
  simp only [State.clearRc, State.setReg_fixed]

@[simp] theorem State.captureLow_fixed (s : State) (p wd : Nat) : (s.captureLow p wd).fixed = s.fixed := by
  unfold State.captureLow
  repeat' split
  all_goals simp only [State.fixed_with]

@[simp] theorem State.readEffect_fixed (s : State) (p wd : Nat) : (s.readEffect p wd).fixed = s.fixed := by
  simp [State.readEffect]

@[simp] theorem State.nextBka_fixed (s : State) (p wd : Nat) : (s.nextBka p wd).fixed = s.fixed := by
  simp [State.nextBka]

@[simp] theorem State.loadMem_fixed (s : State) (c : Fin 4) (key : Nat) : (s.loadMem c key).2.fixed = s.fixed := by
  simp [State.loadMem]

@[simp] theorem State.coreLoad_fixed (s : State) (c : Fin 4) (a : Nat) : (s.coreLoad c a).2.fixed = s.fixed := by
  unfold State.coreLoad
  extract_lets key
  split
  · exact State.coreErr_fixed ..
  · split
    · split
      · exact (State.nextBka_fixed ..).trans (State.loadMem_fixed ..)
      · exact State.readEffect_fixed ..
    · exact State.loadMem_fixed ..

@[simp] theorem State.startPrefetch_fixed (s : State) (q p : Nat) : (s.startPrefetch q p).fixed = s.fixed := by
  simp [State.startPrefetch]

@[simp] theorem State.autoAdvance_fixed (s : State) (q : Nat) : (s.autoAdvance q).fixed = s.fixed := by
  simp [State.autoAdvance]

@[simp] theorem State.windowRead_fixed (s : State) (q i : Nat) : (s.windowRead q i).2.2.fixed = s.fixed := by
  simp [State.windowRead]

@[simp] theorem State.pageRead_fixed (s : State) (q : Fin 8) (p wd : Nat) : (s.pageRead q p wd).2.2.fixed = s.fixed := by
  unfold State.pageRead
  repeat' split
  all_goals simp

@[simp] theorem State.hostRead_fixed (s : State) (q : Fin 8) (a : Nat) : (s.hostRead q a).2.2.fixed = s.fixed := by
  unfold State.hostRead
  repeat' split
  all_goals simp

@[simp] theorem State.hostReadN_fixed (s : State) (q : Fin 8) (a : Nat) (n : Nat) : (s.hostReadN q a n).2.fixed = s.fixed := by
  induction n generalizing s q a with
  | zero => simp only [State.hostReadN]
  | succ n ih => simp only [State.hostReadN, State.hostRead_fixed, ih]

/-! ### Writes -/

@[simp] theorem raplHandler_fixed (w : Writer) (q : Nat) (v : Word) (s : State) : (raplHandler w q v s).result.fixed = s.fixed := by
  simp [raplHandler]

@[simp] theorem hifHandler_fixed (w : Writer) (wd : Nat) (v : Word) (s : State) : (hifHandler w wd v s).result.fixed = s.fixed := by
  simp only [hifHandler]
  repeat' split
  all_goals simp

@[simp] theorem spiHandler_fixed (w : Writer) (wd : Nat) (v : Word) (s : State) : (spiHandler w wd v s).result.fixed = s.fixed := by
  simp [spiHandler]

@[simp] theorem legacyHandler_fixed (w : Writer) (wd : Nat) (v : Word) (s : State) : (legacyHandler w wd v s).result.fixed = s.fixed := by
  simp [legacyHandler]

@[simp] theorem pageHandler_fixed (w : Writer) (p wd : Nat) (v : Word) (s : State) : (pageHandler w p wd v s).result.fixed = s.fixed := by
  simp [pageHandler]

@[simp] theorem State.endLate_fixed (s : State) (c : Fin 4) : (s.endLate c).fixed = s.fixed := by
  simp only [State.endLate, State.setCore_fixed]

@[simp] theorem State.chanWrite_fixed (s : State) (w : Writer) (c wd : Nat) (v : Word) : (s.chanWrite w c wd v).fixed = s.fixed := by
  unfold State.chanWrite
  split <;> simp

@[simp] theorem State.pageWrite_fixed (s : State) (w : Writer) (p wd : Nat) (v : Word) : (s.pageWrite w p wd v).fixed = s.fixed := by
  simp [State.pageWrite]

@[simp] theorem State.memWrite_fixed (s : State) (w : Writer) (key : Nat) (v : Word) : (s.memWrite w key v).fixed = s.fixed := by
  simp only [State.memWrite]
  repeat' split
  all_goals simp

@[simp] theorem State.writeAddr_fixed (s : State) (w : Writer) (a : Nat) (v : Word) : (s.writeAddr w a v).fixed = s.fixed := by
  simp only [State.writeAddr]
  repeat' split
  all_goals simp

@[simp] theorem State.readAddr_fixed (s : State) (w : Writer) (a : Nat) : (s.readAddr w a).fixed = s.fixed := by
  simp only [State.readAddr]
  repeat' split
  all_goals simp

@[simp] theorem State.release_fixed (s : State) (c : Fin 4) : (s.release c).fixed = s.fixed := by
  simp only [State.release]
  repeat' split
  all_goals simp

/-! ### Boot -/

@[simp] theorem State.bootWake_fixed (s : State) (d : Nat) : (s.bootWake d).fixed = s.fixed := by
  simp [State.bootWake]

@[simp] theorem State.bootWrite_fixed (s : State) (a : Nat) (v : Word) : (s.bootWrite a v).2.fixed = s.fixed := by
  unfold State.bootWrite
  split <;> simp

/-- A list that is written as in NATIVE leaves the personality as it stood. -/
@[simp] theorem State.listWrite_fixed (s : State) (kind a : Nat) (v : Word) : (s.listWrite kind a v).2.fixed = s.fixed := by
  have hnative := State.fixed_eq_iff.mp (State.bootWrite_fixed { s with pins := { s.pins with persona := .native } } a v)
  unfold State.listWrite
  split
  · rfl
  · split
    · exact State.fixed_eq_iff.mpr ⟨rfl, hnative.2⟩
    · exact State.bootWrite_fixed ..

@[simp] theorem Loader.next_fixed (kind : Nat) (l : Loader) (v : Word) : (l.next kind v).s.fixed = l.s.fixed := by
  unfold Loader.next
  split
  · rfl
  · split
    · simp only [State.listWrite_fixed]
    · split
      · split <;> rfl
      · rfl

@[simp] theorem State.loadList_fixed (s : State) (kind : Nat) (ws : List Word) : (s.loadList kind ws).2.fixed = s.fixed :=
  foldl_carries_fixed Loader.s (fun l v => Loader.next_fixed kind l v) ws _

@[simp] theorem State.bootRun_fixed (s : State) (a : Nat) (ws : List Word) : (s.bootRun a ws).2.fixed = s.fixed :=
  foldl_carries_fixed (fun x : Nat × Nat × State => x.2.2) (fun x v => by
    simp only [ite_snd_snd_fixed, State.bootWrite_fixed, ite_self]) ws _

@[simp] theorem State.loadCore_fixed (s : State) (c : Nat) (ws : List Word) : (s.loadCore c ws).2.fixed = s.fixed := by
  simp [State.loadCore]

@[simp] theorem State.loadMicro_fixed (s : State) (c u : Nat) (hi lo : Word) : (s.loadMicro c u hi lo).2.fixed = s.fixed := by
  simp [State.loadMicro]

@[simp] theorem State.loadRubric_fixed (s : State) (c version : Nat) (ws : List Word) :
    (s.loadRubric c version ws).2.fixed = s.fixed := by
  unfold State.loadRubric
  lift_lets
  extract_lets t keep r1 r2
  have hkeep : ∀ x f, (∀ u, (f u).2.fixed = u.fixed) → (keep x f).2.fixed = x.2.fixed := fun x f hf => by
    simp only [keep, ite_snd_fixed, hf, ite_self]
  have h1 : r1.2.fixed = t.fixed :=
    foldl_carries_fixed Prod.snd (fun x u => hkeep x _ fun v => State.loadMicro_fixed v c u _ _) _ _
  have h2 : r2.2.fixed = r1.2.fixed :=
    foldl_carries_fixed Prod.snd (fun x e => hkeep x _ fun v => State.bootWrite_fixed v _ _) _ _
  have ht : t.fixed = s.fixed := by simp only [t, State.bootWake_fixed]
  simp only [ite_snd_fixed, State.setReg_fixed, h2, h1, ht, ite_self]

@[simp] theorem State.loadHairline_fixed (s : State) (ws : List Word) : (s.loadHairline ws).2.fixed = s.fixed := by
  simp [State.loadHairline]

@[simp] theorem State.loadBody_fixed (s : State) (c : Comp) (ws : List Word) : (s.loadBody c ws).2.fixed = s.fixed := by
  simp [State.loadBody]

@[simp] theorem State.loadComp_fixed (s : State) (f : Nat) (c : Comp) : (s.loadComp f c).2.2.fixed = s.fixed := by
  simp [State.loadComp]

@[simp] theorem State.loadFolio_fixed (s : State) (f : Nat) : (s.loadFolio f).2.2.fixed = s.fixed :=
  (foldl_carries_fixed (fun x : Nat × Nat × State => x.2.2) (fun x v => by
    simp only [ite_snd_snd_fixed, State.loadComp_fixed, ite_self]) _ _).trans (State.noCodes_fixed s)

@[simp] theorem State.putSettings_fixed (s : State) (classN : Bool) (c : SetCopy) : (s.putSettings classN c).fixed = s.fixed := by
  simp only [State.putSettings, State.wrMemN_fixed]

@[simp] theorem State.loadClassP_fixed (s : State) (f : Nat) (ok : Bool) : (s.loadClassP f ok).fixed = s.fixed := by
  simp only [State.loadClassP]
  repeat' split
  all_goals simp

@[simp] theorem State.loadClassN_fixed (s : State) : s.loadClassN.fixed = s.fixed := by
  unfold State.loadClassN
  split <;> simp

@[simp] theorem State.bootFail_fixed (s : State) (f check code : Nat) : (s.bootFail f check code).fixed = s.fixed := by
  simp [State.bootFail]

@[simp] theorem State.enterRecovery_fixed (s : State) : s.enterRecovery.fixed = s.fixed := by
  simp [State.enterRecovery]

@[simp] theorem State.bootCore_fixed (s : State) (run : Bool) (c : Fin 4) : (s.bootCore run c).fixed = s.fixed := by
  simp [State.bootCore]

@[simp] theorem State.setupDumpRing_fixed (s : State) : s.setupDumpRing.fixed = s.fixed := by
  simp [State.setupDumpRing]

@[simp] theorem State.finishBoot_fixed (s : State) (f : Nat) (fresh fell : Bool) (ms : Word) (bad : BitVec 4) :
    (s.finishBoot f fresh fell ms bad).fixed = s.fixed := by
  simp [State.finishBoot]

@[simp] theorem State.fallBack_fixed (s : State) (f : Nat) (ok : Bool) : (s.fallBack f ok).fixed = s.fixed := by
  simp [State.fallBack]

@[simp] theorem State.bootOther_fixed (s : State) (f : Nat) (fresh : Bool) (ms : Word) (bad : BitVec 4) :
    (s.bootOther f fresh ms bad).fixed = s.fixed := by
  simp [State.bootOther]

@[simp] theorem State.bootActive_fixed (s : State) (ms : Word) (bad : BitVec 4) : (s.bootActive ms bad).fixed = s.fixed := by
  simp [State.bootActive]

@[simp] theorem State.bootClock_fixed (s : State) (khz : Nat) : (s.bootClock khz).fixed = s.fixed := by
  simp [State.bootClock]

@[simp] theorem State.muteErr_fixed (s : State) (parts : BitVec 10) : (s.muteErr parts).fixed = s.fixed := by
  simp [State.muteErr]

@[simp] theorem State.bootFlash_fixed (s : State) (ms : Word) (bad : BitVec 4) : (s.bootFlash ms bad).fixed = s.fixed := by
  simp [State.bootFlash]

/-! ### Bundles -/

@[simp] theorem State.ldWord_fixed (s : State) (c : Fin 4) (a : Nat) : (s.ldWord c a).2.fixed = s.fixed := by
  simp [State.ldWord]

@[simp] theorem State.stWord_fixed (s : State) (c : Fin 4) (a v : Nat) : (s.stWord c a v).fixed = s.fixed := by
  simp [State.stWord]

@[simp] theorem State.sLoad_fixed (s : State) (c : Fin 4) (x : Core) (b : Nat) : (s.sLoad c x b).2.2.fixed = s.fixed := by
  simp [State.sLoad]

@[simp] theorem State.sStore_fixed (s : State) (c : Fin 4) (x : Core) (b old : Nat) : (s.sStore c x b old).2.fixed = s.fixed := by
  simp [State.sStore]

@[simp] theorem State.endBundle_fixed (s : State) (c : Fin 4) (res : List Result) (next : Nat) :
    (s.endBundle c res next).fixed = s.fixed := by
  simp only [State.endBundle, State.setCore_fixed]

@[simp] theorem State.endStep_fixed (s : State) (c : Fin 4) : (s.endStep c).fixed = s.fixed := by
  simp [State.endStep]

@[simp] theorem State.countBundle_fixed (s : State) (c : Fin 4) : (s.countBundle c).fixed = s.fixed := by
  simp [State.countBundle]

@[simp] theorem State.runsMicro_fixed (s : State) (c : Fin 4) (b : Nat) : (s.runsMicro c b).fixed = s.fixed := by
  simp [State.runsMicro]

@[simp] theorem State.issue_fixed (s : State) (c : Fin 4) (ys : List Syl) : (s.issue c ys).fixed = s.fixed := by
  unfold State.issue
  lift_lets
  extract_lets x start s1 body ma mb la lb ta tb cx xr f tx tm lbk te tf y ti dz traps p tt
  have hla : la.2.2.fixed = s1.fixed := elim_fixed (fun r : List Result × Nat × State => r.2.2) rfl (fun b => State.sLoad_fixed ..) _
  have hlb : lb.2.2.fixed = la.2.2.fixed :=
    elim_fixed (fun r : List Result × Nat × State => r.2.2) rfl (fun b => State.sLoad_fixed ..) _
  have hta : ta.2.fixed = lb.2.2.fixed := elim_fixed (fun r : List Result × State => r.2) rfl (fun b => State.sStore_fixed ..) _
  have htb : tb.2.fixed = ta.2.fixed := elim_fixed (fun r : List Result × State => r.2) rfl (fun b => State.sStore_fixed ..) _
  have hmem : tb.2.fixed = s.fixed := by rw [htb, hta, hlb, hla, State.countBundle_fixed]
  have hmicro : tm.fixed = tb.2.fixed := by simp only [tm, tx, ite_fixed, State.runsMicro_fixed, ite_self]
  have hend : te.fixed = tm.fixed := by simp only [te, State.endBundle_fixed, State.setCore_fixed]
  have hflow : tf.fixed = te.fixed := by
    simp only [tf]
    split
    · exact State.setCore_fixed ..
    · rfl
  have hidle : ti.fixed = tf.fixed := by simp only [ti, ite_fixed, State.setCore_fixed, ite_self]
  have htrap : tt.fixed = ti.fixed := by simp only [tt, p, ite_fixed, State.raiseTrap_fixed, State.pick_fixed, ite_self]
  simp only [ite_fixed, State.endStep_fixed, htrap, hidle, hflow, hend, hmicro, hmem, ite_self]

@[simp] theorem State.blockEnd_fixed (s : State) (c : Fin 4) (flags : Option Nat) : (s.blockEnd c flags).fixed = s.fixed := by
  simp [State.blockEnd]

@[simp] theorem State.blockNext_fixed (s : State) (c : Fin 4) (ptrs : List Nat) (dc : Nat) (flags : Option Nat) :
    (s.blockNext c ptrs dc flags).fixed = s.fixed := by
  simp [State.blockNext]

@[simp] theorem State.blockStep_fixed (s : State) (c : Fin 4) (b : Nat) : (s.blockStep c b).fixed = s.fixed := by
  simp [State.blockStep]

@[simp] theorem State.vectorIn_fixed (s : State) (c : Fin 4) : (s.vectorIn c).fixed = s.fixed := by
  simp only [State.vectorIn]
  split <;> simp

@[simp] theorem State.doubleTrap_fixed (s : State) (c : Fin 4) (a : BitVec 17) : (s.doubleTrap c a).fixed = s.fixed := by
  simp [State.doubleTrap]

@[simp] theorem State.trapIn_fixed (s : State) (c : Fin 4) (tcs : Nat) (a bundle : BitVec 17) :
    (s.trapIn c tcs a bundle).fixed = s.fixed := by
  simp [State.trapIn]

/-! ### L-mode -/

@[simp] theorem State.lPace_fixed (s : State) (n : Nat) : (s.lPace n).fixed = s.fixed := by
  simp only [State.lPace, State.fixed_with]

@[simp] theorem State.lEnd_fixed (s : State) (op : LOp) (e : LEffect) : (s.lEnd op e).fixed = e.state.fixed := by
  simp [State.lEnd]

@[simp] theorem State.lFetch_fixed (s : State) : s.lFetch.state.fixed = s.fixed := by
  simp only [State.lFetch]
  repeat' split
  all_goals simp only [State.memRead_fixed]

/-- An instruction of L-mode keeps what its effect keeps. -/
@[simp] theorem State.lIssue_fixed {run : State → Nat → Nat → Nat → LEffect} (hrun : ∀ t w w2 n, (run t w w2 n).state.fixed = t.fixed)
    (s : State) (op : LOp) (addr : State → Nat → Nat → Option BankWord) : (s.lIssue op addr run).fixed = s.fixed := by
  unfold State.lIssue
  split
  · rfl
  · simp only
    split
    · rfl
    · split
      · rfl
      · split
        · simp
        · split
          · rename_i h
            simp [State.restoreFor_fixed h]
          · simp [hrun]

@[simp] theorem State.lCompute_fixed (s : State) (op : LOp) (run : Core → Nat → Nat → Nat → List Result) :
    (s.lCompute op run).fixed = s.fixed := State.lIssue_fixed (fun _ _ _ _ => rfl) _ _ _

@[simp] theorem State.lLoad_fixed (s : State) (t : BankWord) : (s.lLoad t).2.fixed = s.fixed := by
  unfold State.lLoad
  repeat' split
  all_goals simp

@[simp] theorem State.lStore_fixed (s : State) (t : BankWord) (v : Nat) : (s.lStore t v).fixed = s.fixed := by
  unfold State.lStore
  repeat' split
  all_goals simp

@[simp] theorem State.lHalt_fixed (s : State) (tcs : Nat) : (s.lHalt tcs).fixed = s.fixed := by
  simp [State.lHalt]

/-! ### Ports -/

@[simp] theorem State.busError_fixed (s : State) : s.busError.fixed = s.fixed := by
  simp [State.busError]

@[simp] theorem State.busOff_fixed (s : State) : s.busOff.fixed = s.fixed := by
  simp only [State.busOff, State.fixed_with_pins]

@[simp] theorem State.post_fixed (s : State) (q : Nat) (a : BitVec 24) (v : Word) : (s.post q a v).fixed = s.fixed := by
  simp [State.post]

@[simp] theorem State.windowCopy_fixed (s : State) (q a : Nat) (v : Word) : (s.windowCopy q a v).fixed = s.fixed := by
  simp [State.windowCopy]

@[simp] theorem State.fetchWord_fixed (s : State) (q : Nat) (i : Nat) : (s.fetchWord q i).fixed = s.fixed := by
  simp [State.fetchWord]

@[simp] theorem State.spiEnd_fixed (s : State) (n : Fin 2) (out : List Byte) (whole : Bool) : (s.spiEnd n out whole).fixed = s.fixed := by
  simp [State.spiEnd]

@[simp] theorem State.postN_fixed (s : State) (q : Nat) (a : Nat) (l : List Word) : (s.postN q a l).fixed = s.fixed := by
  induction l generalizing s q a with
  | nil => simp only [State.postN]
  | cons a l ih => simp only [State.postN, State.post_fixed, ih]

@[simp] theorem State.spiFrame_fixed {f : State → State} (hf : ∀ t, (f t).fixed = t.fixed) (s : State) (n : Fin 2) :
    (s.spiFrame n f).fixed = s.fixed := by
  simp [State.spiFrame, hf]

@[simp] theorem State.spiPartial_fixed (s : State) (n : Fin 2) (write : Bool) (a : BitVec 24) (ws : List Word) :
    (s.spiPartial n write a ws).fixed = s.fixed := by
  simp [State.spiPartial]

@[simp] theorem State.postUntil_fixed (s : State) (q : Nat) (a : Nat) (l : List Word) : (s.postUntil q a l).1.fixed = s.fixed := by
  induction l generalizing s q a with
  | nil => simp only [State.postUntil]
  | cons a l ih => simp only [State.postUntil, State.post_fixed, ite_self, ite_fst_fixed, ih]

@[simp] theorem State.iluhiRun_fixed (s : State) (q : Fin 8) (typ seq : Byte) (pl : List Byte) :
    (s.iluhiRun q typ seq pl).2.fixed = s.fixed := by
  simp [State.iluhiRun]

@[simp] theorem State.respond_fixed (s : State) (l : Fin 4) (frame : List Byte) : (s.respond l frame).fixed = s.fixed := by
  simp [State.respond]

@[simp] theorem State.iluhiRequest_fixed (s : State) (l : Fin 4) (typ seq : Byte) (pl : List Byte) :
    (s.iluhiRequest l typ seq pl).fixed = s.fixed := by
  simp [State.iluhiRequest]

@[simp] theorem State.iluhiDrop_fixed (s : State) (l : Fin 4) : (s.iluhiDrop l).fixed = s.fixed := by
  simp [State.iluhiDrop]

@[simp] theorem State.beginPush_fixed (s : State) (l : Fin 4) (event : Bool) (r : Nat) : (s.beginPush l event r).fixed = s.fixed := by
  simp [State.beginPush]

/-! ### The passing of time -/

@[simp] theorem State.rxtTick_fixed (s : State) : s.rxtTick.fixed = s.fixed := by
  simp [State.rxtTick]

@[simp] theorem State.rtcSecond_fixed (s : State) : s.rtcSecond.fixed = s.fixed := by
  simp [State.rtcSecond]

@[simp] theorem State.rtcTick_fixed (s : State) : s.rtcTick.fixed = s.fixed := by
  simp [State.rtcTick]

@[simp] theorem State.noteSwitch_fixed (s : State) : s.noteSwitch.fixed = s.fixed := by
  simp only [State.noteSwitch, State.fixed_with]

@[simp] theorem State.onSource_fixed (s : State) (b : Bool) : (s.onSource b).fixed = s.fixed := by
  simp only [State.onSource, State.fixed_with]

@[simp] theorem State.rtcNano_fixed (s : State) : s.rtcNano.fixed = s.fixed := by
  simp [State.rtcNano]

@[simp] theorem State.idle_fixed (s : State) : s.idle.fixed = s.fixed := by
  simp [State.idle]

end Sys2Proof.Machine
end

section
/-! SUPPORT. The end of a command that keeps what is fixed (00 R2; 15 R517). -/

namespace Sys2Proof.Machine

/-- The outcome of a command met in state s: the end of a command that keeps what is fixed. -/
def EndsFixed (s : State) (o : Host.Outcome State Fault Refusal) : Prop := ∃ t, o = .next (settle s t) ∧ t.fixed = s.fixed

theorem ends_done {s t : State} (h : t.fixed = s.fixed) : EndsFixed s (done s t) := ⟨t, rfl, h⟩

theorem getD_fixed {s u : State} {o : Option State} (ho : ∀ t, o = some t → t.fixed = s.fixed) (hu : u.fixed = s.fixed) :
    (o.getD u).fixed = s.fixed := by
  cases o with
  | none => exact hu
  | some t => exact ho t rfl

@[simp] theorem lLoadTo_fixed (s : State) (t : Option BankWord) (d next : Nat) (res : List Result) :
    (lLoadTo s t d next res).state.fixed = s.fixed := State.lLoad_fixed ..

@[simp] theorem lStoreFrom_fixed (s : State) (t : Option BankWord) (d next : Nat) (res : List Result) :
    (lStoreFrom s t d next res).state.fixed = s.fixed := State.lStore_fixed ..

end Sys2Proof.Machine
end

section
/-! SUPPORT. The commands keep the personality, the queue and the fuses (00 R2; 15 R517). -/

namespace Sys2Proof.Machine

/-! ### Exemplar -/

theorem execProgramValidate_ends (w : Writer) (p : Fin 32) (v : Word) (s : State) : EndsFixed s (execProgramValidate w p v s) :=
  ends_done (by simp only [guarded_fixed, programHandler_fixed])

theorem execProgramInvalidate_ends (w : Writer) (p : Fin 32) (v : Word) (s : State) : EndsFixed s (execProgramInvalidate w p v s) :=
  ends_done (by simp only [guarded_fixed, programHandler_fixed])

theorem execRegionValidate_ends (w : Writer) (r : Fin 64) (v : Word) (s : State) : EndsFixed s (execRegionValidate w r v s) :=
  ends_done (by simp only [guarded_fixed, regionHandler_fixed])

theorem execRegionInvalidate_ends (w : Writer) (r : Fin 64) (v : Word) (s : State) : EndsFixed s (execRegionInvalidate w r v s) :=
  ends_done (by simp only [guarded_fixed, regionHandler_fixed])

theorem execRetarget_ends (w : Writer) (v : Word) (s : State) : EndsFixed s (execRetarget w v s) :=
  ends_done (by simp only [guarded_fixed, retargetHandler_fixed])

theorem execTmblWrite_ends (w : Writer) (v : Word) (s : State) : EndsFixed s (execTmblWrite w v s) :=
  ends_done (by simp only [guarded_fixed, exmpHandler_fixed])

theorem execExemplarWrite_ends (w : Writer) (o : BitVec 19) (v : Word) (s : State) : EndsFixed s (execExemplarWrite w o v s) :=
  ends_done (by simp)

/-! ### Feeds and streams -/

theorem execFeedEnable_ends (w : Writer) (p : Fin 8) (v : Word) (s : State) : EndsFixed s (execFeedEnable w p v s) :=
  ends_done (by simp only [guarded_fixed, feedCtrl_fixed])

theorem execFeedDisable_ends (w : Writer) (p : Fin 8) (v : Word) (s : State) : EndsFixed s (execFeedDisable w p v s) :=
  ends_done (by simp only [guarded_fixed, feedCtrl_fixed])

theorem execLaneTrain_ends (w : Writer) (p : Fin 8) (v : Word) (s : State) : EndsFixed s (execLaneTrain w p v s) :=
  ends_done (by simp only [guarded_fixed, feedCtrl_fixed])

theorem execLaneGo_ends (w : Writer) (p : Fin 8) (v : Word) (s : State) : EndsFixed s (execLaneGo w p v s) :=
  ends_done (by simp only [guarded_fixed, feedCtrl_fixed])

theorem execWaitclkCountDone_ends (p : Fin 8) (inTol : Bool) (s : State) : EndsFixed s (execWaitclkCountDone p inTol s) :=
  ends_done (by simp)

theorem execWaitclkGap_ends (p : Fin 8) (s : State) : EndsFixed s (execWaitclkGap p s) :=
  ends_done (by simp)

theorem execSweepDone_ends (p : Fin 8) (ok : BitVec 64) (s : State) : EndsFixed s (execSweepDone p ok s) := by
  refine ends_done ?_
  repeat' split
  all_goals simp

theorem execAlignDone_ends (p : Fin 8) (s : State) : EndsFixed s (execAlignDone p s) :=
  ends_done (by simp)

theorem execTrainConfirmDone_ends (p : Fin 8) (s : State) : EndsFixed s (execTrainConfirmDone p s) :=
  ends_done (by simp)

theorem execTrainTimeout_ends (p : Fin 8) (s : State) : EndsFixed s (execTrainTimeout p s) :=
  ends_done (by simp)

theorem execClockLoss_ends (m : Fin 4) (s : State) : EndsFixed s (execClockLoss m s) :=
  ends_done (by simp only [State.portDown_fixed])

theorem execLaneWord_ends (p : Fin 8) (b : BitVec 8) (s : State) : EndsFixed s (execLaneWord p b s) :=
  ends_done (by simp)

theorem execNotchAdapt_ends (p : Fin 8) (k : Fin 4) (s : State) : EndsFixed s (execNotchAdapt p k s) :=
  ends_done (by simp)

theorem execBlankerLimit_ends (p : Fin 8) (s : State) : EndsFixed s (execBlankerLimit p s) :=
  ends_done (by simp)

theorem execSubstreamFreqWrite_ends (w : Writer) (p : Fin 8) (sub : Fin 2) (v : Word) (s : State) :
    EndsFixed s (execSubstreamFreqWrite w p sub v s) :=
  ends_done (by simp only [guarded_fixed, feedWord_fixed])

theorem execClockGateEnd_ends (m : Fin 4) (count : BitVec 36) (s : State) : EndsFixed s (execClockGateEnd m count s) :=
  ends_done (by simp)

theorem execAgcUpdate_ends (p : Fin 8) (s : State) : EndsFixed s (execAgcUpdate p s) :=
  ends_done (by simp)

theorem execStreamEnable_ends (w : Writer) (n : Fin 16) (v : Word) (s : State) : EndsFixed s (execStreamEnable w n v s) :=
  ends_done (by simp only [guarded_fixed, smapHandler_fixed])

theorem execStreamDisable_ends (w : Writer) (n : Fin 16) (v : Word) (s : State) : EndsFixed s (execStreamDisable w n v s) :=
  ends_done (by simp only [guarded_fixed, smapHandler_fixed])

theorem execRfspiTransfer_ends (w : Writer) (v : Word) (s : State) : EndsFixed s (execRfspiTransfer w v s) :=
  ends_done (by simp only [guarded_fixed, routeHandler_fixed])

theorem execRfspiReady_ends (s : State) : EndsFixed s (execRfspiReady s) :=
  ends_done (by simp)

theorem execRfspiReadyTimeout_ends (s : State) : EndsFixed s (execRfspiReadyTimeout s) :=
  ends_done (by simp)

theorem execRfspiDone_ends (rx : BitVec 64) (s : State) : EndsFixed s (execRfspiDone rx s) :=
  ends_done (by simp)

theorem execSpectrumRecordTick_ends (m : Fin 8) (blocksDone : Bool) (t0 : BitVec 16) (s : State) :
    EndsFixed s (execSpectrumRecordTick m blocksDone t0 s) := by
  refine ends_done ?_
  split <;> simp

/-! ### Channels -/

theorem execContextWrite_ends (w : Writer) (viaQuire : Bool) (c : Fin 512) (k : Fin 64) (v : Word) (s : State) :
    EndsFixed s (execContextWrite w viaQuire c k v s) :=
  ends_done (by simp)

theorem execChannelAdmit_ends (w : Writer) (c : Fin 512) (s : State) : EndsFixed s (execChannelAdmit w c s) :=
  ends_done (by simp only [guarded_fixed, ctrlHandler_fixed])

theorem execChannelDisable_ends (w : Writer) (c : Fin 512) (s : State) : EndsFixed s (execChannelDisable w c s) :=
  ends_done (by simp only [guarded_fixed, ctrlHandler_fixed])

theorem execChannelTrack_ends (w : Writer) (c : Fin 512) (s : State) : EndsFixed s (execChannelTrack w c s) :=
  ends_done (by simp only [guarded_fixed, ctrlHandler_fixed])

theorem execChannelDrop_ends (w : Writer) (c : Fin 512) (s : State) : EndsFixed s (execChannelDrop w c s) :=
  ends_done (by simp only [guarded_fixed, ctrlHandler_fixed])

theorem execPhaseSetArm_ends (w : Writer) (c : Fin 512) (v : Word) (s : State) : EndsFixed s (execPhaseSetArm w c v s) :=
  ends_done (by simp only [guarded_fixed, sctlHandler_fixed])

theorem execUpdateCommit_ends (w : Writer) (c : Fin 512) (v : Word) (s : State) : EndsFixed s (execUpdateCommit w c v s) :=
  ends_done (by simp only [guarded_fixed, uctlHandler_fixed])

/-! ### Ductus -/

theorem execAdmissionDecision_ends (s : State) : EndsFixed s (execAdmissionDecision s) := by
  refine ends_done ?_
  split <;> simp

theorem execWindowWrite_ends (w : Writer) (v : Word) (s : State) : EndsFixed s (execWindowWrite w v s) :=
  ends_done (by simp only [guarded_fixed, winHandler_fixed])

theorem execRankDisable_ends (w : Writer) (r : Fin 8) (v : Word) (s : State) : EndsFixed s (execRankDisable w r v s) :=
  ends_done (by simp only [guarded_fixed, rankCtrl_fixed])

theorem execRankEnable_ends (w : Writer) (r : Fin 8) (v : Word) (s : State) : EndsFixed s (execRankEnable w r v s) :=
  ends_done (by simp only [guarded_fixed, rankCtrl_fixed])

/-! ### Rank -/

theorem execRankSlot_ends (r : Fin 8) (slot : Fin 3125) (s : State) : EndsFixed s (execRankSlot r slot s) := by
  refine ends_done ?_
  repeat' split
  all_goals simp only [State.serve_fixed]

/-! ### Inkwell -/

theorem execInkwellWrite_ends (w : Writer) (o : BitVec 22) (v : Word) (s : State) : EndsFixed s (execInkwellWrite w o v s) :=
  ends_done (by simp)

theorem execCaptureGo_ends (w : Writer) (e : Fin 2) (v : Word) (s : State) : EndsFixed s (execCaptureGo w e v s) :=
  ends_done (by simp only [guarded_fixed, inkwCtrl_fixed])

theorem execCaptureStop_ends (w : Writer) (e : Fin 2) (v : Word) (s : State) : EndsFixed s (execCaptureStop w e v s) :=
  ends_done (by simp only [guarded_fixed, inkwCtrl_fixed])

theorem execCaptureDone_ends (e : Fin 2) (s : State) : EndsFixed s (execCaptureDone e s) :=
  ends_done (by simp)

/-! ### Scriptorium -/

theorem execJobStart_ends (s : State) : EndsFixed s (execJobStart s) := by
  refine ends_done ?_
  split
  · simp only [ite_fixed, State.setPair_fixed, ite_self]
  extract_lets d cxl pair free ps c e t0 t1 src t cap j r1 r2 r3 b lo hi u r4
  have ht : t.fixed = s.fixed := by
    simp only [t, src, t1, t0, e, State.fixed_with, State.setPipes_fixed, State.setPair_fixed, State.ringTake_fixed, ite_fixed,
      State.pageErr_fixed, State.ringReadE_fixed, ite_self]
  have hu : u.2.fixed = s.fixed := (State.useCache_fixed ..).trans ht
  split
  · rfl
  split
  · exact State.unitFails_fixed ..
  split
  · exact State.setPair_fixed ..
  split
  · rfl
  split
  · exact (State.commitJob_fixed ..).trans ((State.plainRecord_fixed ..).trans ht)
  split
  · exact (State.commitJob_fixed ..).trans ((State.plainRecord_fixed ..).trans ht)
  split
  · exact (State.commitJob_fixed ..).trans ((State.plainRecord_fixed ..).trans ((State.unitFails_fixed ..).trans ht))
  split
  · exact (State.commitJob_fixed ..).trans ((State.plainRecord_fixed ..).trans hu)
  · rw [State.putJob_fixed, State.abortRange_fixed, State.abortRange_fixed, State.forgetRam_fixed, hu]

theorem execJobExtractionDone_ends (pipe : Fin 2) (s : State) : EndsFixed s (execJobExtractionDone pipe s) := by
  refine ends_done ?_
  split <;> simp

theorem execJobCommit_ends (pipe : Fin 2) (s : State) : EndsFixed s (execJobCommit pipe s) := by
  refine ends_done ?_
  split <;> simp

theorem execRecordRoomTimeout_ends (pipe : Fin 2) (s : State) : EndsFixed s (execRecordRoomTimeout pipe s) := by
  refine ends_done ?_
  split <;> simp

theorem execJobAbortStop_ends (pipe : Fin 2) (s : State) : EndsFixed s (execJobAbortStop pipe s) := by
  refine ends_done ?_
  repeat' split
  all_goals simp

theorem execAbortScanDone_ends (s : State) : EndsFixed s (execAbortScanDone s) := by
  refine ends_done ?_
  repeat' split
  all_goals simp

theorem execJobRingConfig_ends (w : Writer) (k : Fin 8) (v : Word) (s : State) : EndsFixed s (execJobRingConfig w k v s) :=
  ends_done (by simp only [guarded_fixed, jrHandler_fixed])

theorem execJobAbort_ends (w : Writer) (v : Word) (s : State) : EndsFixed s (execJobAbort w v s) :=
  ends_done (scrpGuarded_fixed ..)

theorem execHandoff_ends (w : Writer) (v : Word) (s : State) : EndsFixed s (execHandoff w v s) :=
  ends_done (scrpGuarded_fixed ..)

theorem execCacheWrite_ends (w : Writer) (v : Word) (s : State) : EndsFixed s (execCacheWrite w v s) :=
  ends_done (by simp only [guarded_fixed, cacheHandler_fixed])

theorem execWorkingRamWrite_ends (w : Writer) (o : BitVec 20) (v : Word) (s : State) : EndsFixed s (execWorkingRamWrite w o v s) :=
  ends_done (by simp)

/-! ### Time -/

theorem execRxtWrap_ends (s : State) : EndsFixed s (execRxtWrap s) :=
  ends_done (State.reach_fixed ..)

theorem execRxtSecond_ends (s : State) : EndsFixed s (execRxtSecond s) :=
  ends_done (by simp)

theorem execRxtCapture_ends (w : Writer) (v : Word) (s : State) : EndsFixed s (execRxtCapture w v s) :=
  ends_done (by simp only [guarded_fixed, timeCtrl_fixed])

theorem execTdiscClear_ends (w : Writer) (v : Word) (s : State) : EndsFixed s (execTdiscClear w v s) :=
  ends_done (by simp only [guarded_fixed, timeCtrl_fixed])

theorem execRebuiltClear_ends (w : Writer) (v : Word) (s : State) : EndsFixed s (execRebuiltClear w v s) :=
  ends_done (by simp only [guarded_fixed, timeCtrl_fixed])

theorem execMapGo_ends (w : Writer) (v : Word) (s : State) : EndsFixed s (execMapGo w v s) :=
  ends_done (by simp only [guarded_fixed, timeCtrl_fixed])

theorem execMapApply_ends (s : State) : EndsFixed s (execMapApply s) :=
  ends_done (by simp)

theorem execRtcCalGo_ends (w : Writer) (v : Word) (s : State) : EndsFixed s (execRtcCalGo w v s) :=
  ends_done (by simp only [guarded_fixed, timeCtrl_fixed])

theorem execRtcCalDone_ends (span : BitVec 54) (s : State) : EndsFixed s (execRtcCalDone span s) :=
  ends_done (by simp)

theorem execCalplWrite_ends (w : Writer) (v : Word) (s : State) : EndsFixed s (execCalplWrite w v s) :=
  ends_done (by simp only [guarded_fixed, timeHandler_fixed])

theorem execRcplWrite_ends (w : Writer) (v : Word) (s : State) : EndsFixed s (execRcplWrite w v s) :=
  ends_done (by simp only [guarded_fixed, timeHandler_fixed])

theorem execRxtRebuild_ends (s : State) : EndsFixed s (execRxtRebuild s) :=
  ends_done (by simp only [State.setReg_fixed, State.setReg2_fixed, State.setB_fixed, State.raise_fixed, ite_fixed, ite_self,
    State.fixed_with])

/-! ### Measurement -/

theorem execPeriodicEnable_ends (w : Writer) (v : Word) (s : State) : EndsFixed s (execPeriodicEnable w v s) :=
  ends_done (by simp only [guarded_fixed, measCtrl_fixed])

theorem execSnap_ends (w : Writer) (v : Word) (s : State) : EndsFixed s (execSnap w v s) :=
  ends_done (by simp only [guarded_fixed, measCtrl_fixed])

theorem execPeriodicEpoch_ends (s : State) : EndsFixed s (execPeriodicEpoch s) :=
  ends_done (by simp)

theorem execLatchCommit_ends (s : State) : EndsFixed s (execLatchCommit s) := by
  refine ends_done ?_
  split <;> simp

/-! ### Pulses and events -/

theorem execTpApply_ends (w : Writer) (n : Fin 4) (v : Word) (s : State) : EndsFixed s (execTpApply w n v s) :=
  ends_done (by simp only [guarded_fixed, tpCtrl_fixed])

theorem execTpApplyTakeEffect_ends (n : Fin 4) (s : State) : EndsFixed s (execTpApplyTakeEffect n s) :=
  ends_done (by simp)

theorem execTpActiveEdge_ends (n : Fin 4) (s : State) : EndsFixed s (execTpActiveEdge n s) := by
  refine ends_done ?_
  simp only
  repeat' split
  all_goals simp

theorem execTpInactiveEdge_ends (n : Fin 4) (s : State) : EndsFixed s (execTpInactiveEdge n s) := by
  refine ends_done ?_
  split <;> simp

theorem execHairlineCalibrate_ends (w : Writer) (v : Word) (s : State) : EndsFixed s (execHairlineCalibrate w v s) :=
  ends_done (by simp only [guarded_fixed, tpCtrl_fixed])

theorem execHairlineCalDone_ends (taps : List (BitVec 13)) (s : State) : EndsFixed s (execHairlineCalDone taps s) := by
  refine ends_done ?_
  split
  · rw [State.raise_fixed, State.setB_fixed]
    refine (foldl_fixed (fun t i => ?_) _ _).trans (foldl_fixed (fun t n => State.noteTab_fixed t n) _ _)
    split
    · exact State.setReg_fixed ..
    · rfl
  · rfl

theorem execEventEdge_ends (n : Fin 8) (rising : Bool) (tap : Fin 40) (s : State) : EndsFixed s (execEventEdge n rising tap s) :=
  ends_done (by simp)

theorem execEventFifoMove_ends (s : State) : EndsFixed s (execEventFifoMove s) := by
  refine ends_done ?_
  split <;> simp

/-! ### Blotter -/

theorem execEccWriteback_ends (s : State) : EndsFixed s (execEccWriteback s) := by
  refine ends_done ?_
  split <;> simp

theorem execQuireAccessTimeout_ends (q : QReq) (o : BitVec 15) (s : State) : EndsFixed s (execQuireAccessTimeout q o s) :=
  ends_done (by simp)

theorem execBlotterBorrow_ends (s : State) : EndsFixed s (execBlotterBorrow s) := by
  refine ends_done ?_
  repeat' split
  all_goals simp

theorem execBlotterBorrowDone_ends (fail : Option MarchFail) (s : State) : EndsFixed s (execBlotterBorrowDone fail s) := by
  refine ends_done ?_
  repeat' split
  all_goals simp

theorem execBlotterAbort_ends (s : State) : EndsFixed s (execBlotterAbort s) :=
  ends_done (State.abortBorrow_fixed ..)

theorem execBlotterRestoreDone_ends (s : State) : EndsFixed s (execBlotterRestoreDone s) := by
  refine ends_done ?_
  split <;> simp

theorem execBlotterRestart_ends (w : Writer) (v : Word) (s : State) : EndsFixed s (execBlotterRestart w v s) :=
  ends_done (by simp only [guarded_fixed, blotCtrl_fixed])

theorem execExclusionApply_ends (w : Writer) (v : Word) (s : State) : EndsFixed s (execExclusionApply w v s) :=
  ends_done (by simp only [guarded_fixed, xctlHandler_fixed])

theorem execLostAcknowledge_ends (w : Writer) (high : Bool) (v : Word) (s : State) : EndsFixed s (execLostAcknowledge w high v s) :=
  ends_done (by simp only [guarded_fixed, retnHandler_fixed])

theorem execRetentionMonitorTrip_ends (b : Fin 26) (s : State) : EndsFixed s (execRetentionMonitorTrip b s) :=
  ends_done (by simp)

/-! ### Rings and records -/

theorem execRingConfig_ends (w : Writer) (r : Fin 64) (v : Word) (s : State) : EndsFixed s (execRingConfig w r v s) :=
  ends_done (ringGuarded_fixed ..)

theorem execRingIndexWrite_ends (w : Writer) (r : Fin 64) (prod : Bool) (v : Word) (s : State) :
    EndsFixed s (execRingIndexWrite w r prod v s) :=
  ends_done (ringGuarded_fixed ..)

theorem execSwsetWrite_ends (w : Writer) (high : Bool) (v : Word) (s : State) : EndsFixed s (execSwsetWrite w high v s) :=
  ends_done (by simp only [guarded_fixed, evcHandler_fixed])

theorem execTimerLoad_ends (w : Writer) (k : Fin 6) (v : Word) (s : State) : EndsFixed s (execTimerLoad w k v s) :=
  ends_done (by simp only [guarded_fixed, evcHandler_fixed])

theorem execTimerExpiry_ends (k : Fin 6) (s : State) : EndsFixed s (execTimerExpiry k s) :=
  ends_done (by simp)

theorem execRouteWrite_ends (w : Writer) (k : Fin 192) (v : Word) (s : State) : EndsFixed s (execRouteWrite w k v s) :=
  ends_done (by simp only [guarded_fixed, evcHandler_fixed])

theorem execEventRecordWrite_ends (s : State) : EndsFixed s (execEventRecordWrite s) := by
  refine ends_done ?_
  split <;> simp

theorem execSessionEnable_ends (w : Writer) (q : Fin 8) (v : Word) (s : State) : EndsFixed s (execSessionEnable w q v s) :=
  ends_done (by simp only [guarded_fixed, sesHandler_fixed])

theorem execPermissionMaskWrite_ends (w : Writer) (q : Fin 8) (v : Word) (s : State) : EndsFixed s (execPermissionMaskWrite w q v s) :=
  ends_done (by simp only [guarded_fixed, sesHandler_fixed])

theorem execDoorbellSet_ends (w : Writer) (q : Fin 8) (v : Word) (s : State) : EndsFixed s (execDoorbellSet w q v s) :=
  ends_done (by simp only [guarded_fixed, sesHandler_fixed])

theorem execDeliveryRecord_ends (s : State) : EndsFixed s (execDeliveryRecord s) :=
  ends_done (by simp)

/-! ### Serial channels -/

theorem execSerTxdWrite_ends (w : Writer) (n : Fin 4) (v : Word) (s : State) : EndsFixed s (execSerTxdWrite w n v s) :=
  ends_done (by simp only [guarded_fixed, serHandler_fixed])

theorem execSerConfigWrite_ends (w : Writer) (n : Fin 4) (v : Word) (s : State) : EndsFixed s (execSerConfigWrite w n v s) :=
  ends_done (by simp only [guarded_fixed, serHandler_fixed])

theorem execSerBaudWrite_ends (w : Writer) (n : Fin 4) (v : Word) (s : State) : EndsFixed s (execSerBaudWrite w n v s) :=
  ends_done (by simp only [guarded_fixed, serHandler_fixed])

theorem execSerSendBreak_ends (w : Writer) (n : Fin 4) (v : Word) (s : State) : EndsFixed s (execSerSendBreak w n v s) :=
  ends_done (by simp only [guarded_fixed, serHandler_fixed])

theorem execSerFlowWrite_ends (w : Writer) (n : Fin 4) (v : Word) (s : State) : EndsFixed s (execSerFlowWrite w n v s) :=
  ends_done (by simp only [guarded_fixed, serHandler_fixed])

theorem execSerDrainEnable_ends (w : Writer) (n : Fin 4) (v : Word) (s : State) : EndsFixed s (execSerDrainEnable w n v s) :=
  ends_done (by simp only [guarded_fixed, serHandler_fixed])

theorem execSerRxCharacter_ends (n : Fin 4) (data : BitVec 9) (par stop : Bool) (s : State) :
    EndsFixed s (execSerRxCharacter n data par stop s) :=
  ends_done (State.rxChar_fixed ..)

theorem execSerBreak_ends (n : Fin 4) (s : State) : EndsFixed s (execSerBreak n s) :=
  ends_done (by simp)

theorem execSerXoffReceived_ends (n : Fin 4) (s : State) : EndsFixed s (execSerXoffReceived n s) :=
  ends_done (State.flowReceived_fixed ..)

theorem execSerXonReceived_ends (n : Fin 4) (s : State) : EndsFixed s (execSerXonReceived n s) :=
  ends_done (State.flowReceived_fixed ..)

theorem execSerTxStart_ends (n : Fin 4) (s : State) : EndsFixed s (execSerTxStart n s) := by
  refine ends_done ?_
  split <;> simp

theorem execSerTxCharacterDone_ends (n : Fin 4) (s : State) : EndsFixed s (execSerTxCharacterDone n s) :=
  ends_done (by simp)

theorem execSerFlowCharacterSend_ends (n : Fin 4) (s : State) : EndsFixed s (execSerFlowCharacterSend n s) := by
  refine ends_done ?_
  split <;> simp

theorem execSerFlowTimeout_ends (n : Fin 4) (s : State) : EndsFixed s (execSerFlowTimeout n s) :=
  ends_done (by simp)

theorem execSerDrainMove_ends (n : Fin 4) (s : State) : EndsFixed s (execSerDrainMove n s) :=
  ends_done (by simp)

theorem execSerFeedTake_ends (n : Fin 4) (s : State) : EndsFixed s (execSerFeedTake n s) :=
  ends_done (by simp)

theorem execSlowRxCharacter_ends (u : Fin 2) (data : BitVec 9) (par stop : Bool) (s : State) :
    EndsFixed s (execSlowRxCharacter u data par stop s) := by
  refine ends_done ?_
  repeat' split
  all_goals simp

/-! ### Control of a core -/

theorem execCoreReset_ends (w : Writer) (c : Fin 4) (v : Word) (s : State) : EndsFixed s (execCoreReset w c v s) :=
  ends_done (by simp only [guarded_fixed, coreCtrl_fixed])

theorem execCoreRun_ends (w : Writer) (c : Fin 4) (v : Word) (s : State) : EndsFixed s (execCoreRun w c v s) :=
  ends_done (by simp only [guarded_fixed, coreCtrl_fixed])

theorem execCoreHalt_ends (w : Writer) (c : Fin 4) (v : Word) (s : State) : EndsFixed s (execCoreHalt w c v s) :=
  ends_done (by simp only [guarded_fixed, coreCtrl_fixed])

theorem execCoreStep_ends (w : Writer) (c : Fin 4) (v : Word) (s : State) : EndsFixed s (execCoreStep w c v s) :=
  ends_done (by simp only [guarded_fixed, coreCtrl_fixed])

theorem execCoreRegisterWrite_ends (w : Writer) (c : Fin 4) (v : Word) (s : State) : EndsFixed s (execCoreRegisterWrite w c v s) :=
  ends_done (by simp only [guarded_fixed, rdatHandler_fixed])

theorem execCorePcWrite_ends (w : Writer) (c : Fin 4) (v : Word) (s : State) : EndsFixed s (execCorePcWrite w c v s) :=
  ends_done (by simp only [guarded_fixed, coreHandler_fixed])

theorem execSwevSet_ends (w : Writer) (c : Fin 4) (s : State) : EndsFixed s (execSwevSet w c s) :=
  ends_done (by simp only [guarded_fixed, coreHandler_fixed])

theorem execCoreResetDone_ends (c : Fin 4) (s : State) : EndsFixed s (execCoreResetDone c s) :=
  ends_done (by simp)

theorem execBreakpointHalt_ends (c : Fin 4) (s : State) : EndsFixed s (execBreakpointHalt c s) := by
  refine ends_done ?_
  split
  · exact getD_fixed (fun _ h => State.decodeTrap_fixed h) (State.haltCore_fixed ..)
  · rfl

theorem execRubricMicrowordWrite_ends (w : Writer) (v : Word) (s : State) : EndsFixed s (execRubricMicrowordWrite w v s) :=
  ends_done (by simp only [guarded_fixed, udlHandler_fixed])

theorem execRubricEntryWrite_ends (w : Writer) (c : Fin 4) (e : Fin 16) (v : Word) (s : State) :
    EndsFixed s (execRubricEntryWrite w c e v s) :=
  ends_done (by simp only [guarded_fixed, dentHandler_fixed])

theorem execQuiesceRequest_ends (w : Writer) (c : Fin 4) (v : Word) (s : State) : EndsFixed s (execQuiesceRequest w c v s) :=
  ends_done (by simp only [guarded_fixed, rubrCtrl_fixed])

theorem execQuiesceDone_ends (c : Fin 4) (s : State) : EndsFixed s (execQuiesceDone c s) :=
  ends_done (by simp)

theorem execQuiesceRelease_ends (w : Writer) (c : Fin 4) (v : Word) (s : State) : EndsFixed s (execQuiesceRelease w c v s) :=
  ends_done (by simp only [guarded_fixed, rubrCtrl_fixed])

/-! ### Power -/

theorem execPllUnlock_ends (k : Fin 4) (s : State) : EndsFixed s (execPllUnlock k s) :=
  ends_done (by simp)

theorem execPllRelock_ends (k : Fin 4) (s : State) : EndsFixed s (execPllRelock k s) :=
  ends_done (by simp)

theorem execDomainSwitchOff_ends (w : Writer) (d : Fin 16) (v : Word) (s : State) : EndsFixed s (execDomainSwitchOff w d v s) :=
  ends_done (by simp only [guarded_fixed, dctlHandler_fixed])

theorem execDomainPowerUp_ends (w : Writer) (d : Fin 16) (v : Word) (s : State) : EndsFixed s (execDomainPowerUp w d v s) :=
  ends_done (by simp only [guarded_fixed, dctlHandler_fixed])

theorem execDomainIdleExpiry_ends (d : Fin 16) (s : State) : EndsFixed s (execDomainIdleExpiry d s) :=
  ends_done (by simp)

theorem execDeviceStateGo_ends (w : Writer) (v : Word) (s : State) : EndsFixed s (execDeviceStateGo w v s) :=
  ends_done (by simp only [guarded_fixed, pwrCtrl_fixed])

theorem execDeviceIdleTimerExpiry_ends (k : Fin 4) (s : State) : EndsFixed s (execDeviceIdleTimerExpiry k s) := by
  refine ends_done ?_
  split <;> simp

theorem execEntryWaitTimeout_ends (s : State) : EndsFixed s (execEntryWaitTimeout s) := by
  refine ends_done ?_
  repeat' split
  all_goals simp

theorem execDozeEntry_ends (s : State) : EndsFixed s (execDozeEntry s) :=
  ends_done (by simp)

theorem execDozeExit_ends (s : State) : EndsFixed s (execDozeExit s) :=
  ends_done (by simp)

theorem execSleepEntry_ends (s : State) : EndsFixed s (execSleepEntry s) :=
  ends_done (by simp)

theorem execBackupEntry_ends (s : State) : EndsFixed s (execBackupEntry s) :=
  ends_done (by simp)

theorem execWakePin_ends (n : Fin 8) (level : Bool) (s : State) : EndsFixed s (execWakePin n level s) :=
  ends_done (by simp)

theorem execRtcAlarm_ends (s : State) : EndsFixed s (execRtcAlarm s) :=
  ends_done (by simp)

theorem execAlm2Write_ends (w : Writer) (v : Word) (s : State) : EndsFixed s (execAlm2Write w v s) :=
  ends_done (by simp only [guarded_fixed, alm2Handler_fixed])

theorem execRtcSourceWrite_ends (w : Writer) (v : Word) (s : State) : EndsFixed s (execRtcSourceWrite w v s) :=
  ends_done (by simp only [guarded_fixed, rtcctlHandler_fixed])

theorem execXtalOk_ends (s : State) : EndsFixed s (execXtalOk s) :=
  ends_done (State.setB_fixed ..)

theorem execCrystalFailure_ends (s : State) : EndsFixed s (execCrystalFailure s) :=
  ends_done (State.setB_fixed ..)

theorem execBackupStoreWrite_ends (w : Writer) (v : Word) (s : State) : EndsFixed s (execBackupStoreWrite w v s) :=
  ends_done (by simp only [guarded_fixed, bkdHandler_fixed])

theorem execFrameBoundary_ends (stamps : List (BitVec 64)) (s : State) : EndsFixed s (execFrameBoundary stamps s) :=
  ends_done (by simp)

/-! ### Resets -/

theorem execDormantEntry_ends (s : State) : EndsFixed s (execDormantEntry s) :=
  ends_done (by simp)

theorem execPowerRailsInRange_ends (s : State) : EndsFixed s (execPowerRailsInRange s) :=
  ends_done (by simp)

theorem execPwrenRetry_ends (s : State) : EndsFixed s (execPwrenRetry s) :=
  ends_done (by simp)

theorem execBackupExit_ends (s : State) : EndsFixed s (execBackupExit s) :=
  ends_done (by simp)

theorem execWarmRestart_ends (w : Writer) (v : Word) (s : State) : EndsFixed s (execWarmRestart w v s) :=
  ends_done (by simp only [guarded_fixed, rstCtrl_fixed])

/-! ### Update and lifecycle -/

theorem execUpdateLockTake_ends (w : Writer) (v : Word) (s : State) : EndsFixed s (execUpdateLockTake w v s) :=
  ends_done (updGuarded_fixed ..)

theorem execUpdateLockRelease_ends (w : Writer) (v : Word) (s : State) : EndsFixed s (execUpdateLockRelease w v s) :=
  ends_done (updGuarded_fixed ..)

theorem execUpdateLockExpiry_ends (s : State) : EndsFixed s (execUpdateLockExpiry s) :=
  ends_done (by simp)

theorem execBlockWrite_ends (w : Writer) (v : Word) (s : State) : EndsFixed s (execBlockWrite w v s) :=
  ends_done (updGuarded_fixed ..)

theorem execActivate_ends (w : Writer) (v : Word) (s : State) : EndsFixed s (execActivate w v s) :=
  ends_done (updGuarded_fixed ..)

theorem execHealthConfirm_ends (w : Writer) (v : Word) (s : State) : EndsFixed s (execHealthConfirm w v s) :=
  ends_done (updGuarded_fixed ..)

theorem execClassPSettingsWrite_ends (w : Writer) (v : Word) (s : State) : EndsFixed s (execClassPSettingsWrite w v s) :=
  ends_done (updGuarded_fixed ..)

theorem execClassNSettingsWrite_ends (w : Writer) (v : Word) (s : State) : EndsFixed s (execClassNSettingsWrite w v s) :=
  ends_done (updGuarded_fixed ..)

theorem execClassNDiscard_ends (w : Writer) (v : Word) (s : State) : EndsFixed s (execClassNDiscard w v s) :=
  ends_done (updGuarded_fixed ..)

theorem execBlockWriteDone_ends (ok : Bool) (s : State) : EndsFixed s (execBlockWriteDone ok s) := by
  refine ends_done ?_
  split <;> simp only [State.finishOp_fixed]

theorem execActivateDone_ends (ok : Bool) (s : State) : EndsFixed s (execActivateDone ok s) :=
  ends_done (by simp)

theorem execSettingsWriteDone_ends (ok : Bool) (s : State) : EndsFixed s (execSettingsWriteDone ok s) := by
  refine ends_done ?_
  split <;> simp only [State.finishOp_fixed]

theorem execFlashTimeout_ends (s : State) : EndsFixed s (execFlashTimeout s) :=
  ends_done (State.finishOp_fixed ..)

theorem execTrialTimerExpiry_ends (s : State) : EndsFixed s (execTrialTimerExpiry s) :=
  ends_done (by simp)

theorem execSleepExit_ends (s : State) : EndsFixed s (execSleepExit s) :=
  ends_done (by simp)

theorem execOtpWrite_ends (w : Writer) (v : Word) (s : State) : EndsFixed s (execOtpWrite w v s) :=
  ends_done (by simp only [guarded_fixed, lcsCtrl_fixed])

theorem execLifecycleAdvance_ends (w : Writer) (v : Word) (s : State) : EndsFixed s (execLifecycleAdvance w v s) :=
  ends_done (by simp only [guarded_fixed, lcsCtrl_fixed])

theorem execReturnToken_ends (w : Writer) (v : Word) (s : State) : EndsFixed s (execReturnToken w v s) :=
  ends_done (by simp only [guarded_fixed, lcsCtrl_fixed])

/-! ### Legacy -/

theorem execLegacyDspRun_ends (w : Writer) (v : Word) (s : State) : EndsFixed s (execLegacyDspRun w v s) :=
  ends_done (State.lwRow_fixed ..)

theorem execLegacyDspReset_ends (w : Writer) (v : Word) (s : State) : EndsFixed s (execLegacyDspReset w v s) :=
  ends_done (State.lwRow_fixed ..)

theorem execLegacyFifoClear_ends (w : Writer) (v : Word) (s : State) : EndsFixed s (execLegacyFifoClear w v s) :=
  ends_done (State.lwRow_fixed ..)

theorem execLegacyPowerDown_ends (w : Writer) (v : Word) (s : State) : EndsFixed s (execLegacyPowerDown w v s) :=
  ends_done (State.lwRow_fixed ..)

theorem execLegacySnap_ends (w : Writer) (v : Word) (s : State) : EndsFixed s (execLegacySnap w v s) :=
  ends_done (State.lwRow_fixed ..)

theorem execLegacyMailboxHostWrite_ends (q : Fin 8) (v : Word) (s : State) : EndsFixed s (execLegacyMailboxHostWrite q v s) :=
  ends_done (State.lwRow_fixed ..)

theorem execLegacyMailboxDspRead_ends (s : State) : EndsFixed s (execLegacyMailboxDspRead s) :=
  ends_done (by simp)

theorem execLegacyMailboxDspWrite_ends (v : Word) (s : State) : EndsFixed s (execLegacyMailboxDspWrite v s) :=
  ends_done (by simp)

theorem execLegacyMailboxHostRead_ends (q : Fin 8) (s : State) : EndsFixed s (execLegacyMailboxHostRead q s) :=
  ends_done (State.lwReadRow_fixed ..)

theorem execLegacyMemoryAddressWrite_ends (w : Writer) (low : Bool) (v : Word) (s : State) :
    EndsFixed s (execLegacyMemoryAddressWrite w low v s) :=
  ends_done (State.lwRow_fixed ..)

theorem execLegacyReadaheadComplete_ends (s : State) : EndsFixed s (execLegacyReadaheadComplete s) :=
  ends_done (by simp)

theorem execLegacyMemoryPortRead_ends (q : Fin 8) (s : State) : EndsFixed s (execLegacyMemoryPortRead q s) :=
  ends_done (State.lwReadRow_fixed ..)

theorem execLegacyMemoryPortWrite_ends (w : Writer) (v : Word) (s : State) : EndsFixed s (execLegacyMemoryPortWrite w v s) :=
  ends_done (State.lwRow_fixed ..)

theorem execLegacyDumpFifoRead_ends (q : Fin 8) (s : State) : EndsFixed s (execLegacyDumpFifoRead q s) :=
  ends_done (State.lwReadRow_fixed ..)

theorem execLegacySampleEnable_ends (w : Writer) (v : Word) (s : State) : EndsFixed s (execLegacySampleEnable w v s) :=
  ends_done (State.lwRow_fixed ..)

theorem execLegacyChannelEnable_ends (w : Writer) (c : Fin 48) (v : Word) (s : State) : EndsFixed s (execLegacyChannelEnable w c v s) :=
  ends_done (State.lwRow_fixed ..)

theorem execLegacyChannelDisable_ends (w : Writer) (c : Fin 48) (v : Word) (s : State) : EndsFixed s (execLegacyChannelDisable w c v s) :=
  ends_done (State.lwRow_fixed ..)

theorem execLegacyCarrierWrite_ends (w : Writer) (c : Fin 48) (v : Word) (s : State) : EndsFixed s (execLegacyCarrierWrite w c v s) :=
  ends_done (State.lwRow_fixed ..)

theorem execLegacyCodeWrite_ends (w : Writer) (c : Fin 48) (v : Word) (s : State) : EndsFixed s (execLegacyCodeWrite w c v s) :=
  ends_done (State.lwRow_fixed ..)

theorem execLegacyCodeSet_ends (w : Writer) (c : Fin 48) (v : Word) (s : State) : EndsFixed s (execLegacyCodeSet w c v s) :=
  ends_done (State.lwRow_fixed ..)

theorem execLegacyUartWrite_ends (w : Writer) (u : Fin 2) (v : Word) (s : State) : EndsFixed s (execLegacyUartWrite w u v s) :=
  ends_done (State.lwRow_fixed ..)

theorem execLegacyUartRead_ends (q : Fin 8) (u : Fin 2) (s : State) : EndsFixed s (execLegacyUartRead q u s) :=
  ends_done (State.lwReadRow_fixed ..)

theorem execLegacyTpApply_ends (w : Writer) (v : Word) (s : State) : EndsFixed s (execLegacyTpApply w v s) :=
  ends_done (State.lwRow_fixed ..)

theorem execLtpoflWrite_ends (w : Writer) (v : Word) (s : State) : EndsFixed s (execLtpoflWrite w v s) :=
  ends_done (State.lwRow_fixed ..)

/-! ### Writes -/

theorem execRegisterWrite_ends (w : Writer) (a : BitVec 24) (v : Word) (s : State) : EndsFixed s (execRegisterWrite w a v s) :=
  ends_done (State.writeAddr_fixed ..)

theorem execPageLockTake_ends (w : Writer) (pg : BitVec 10) (s : State) : EndsFixed s (execPageLockTake w pg s) :=
  ends_done (State.writeAddr_fixed ..)

theorem execPageLockRelease_ends (w : Writer) (pg : BitVec 10) (s : State) : EndsFixed s (execPageLockRelease w pg s) :=
  ends_done (State.writeAddr_fixed ..)

theorem execTapDebugAccess_ends (write : Bool) (a : BitVec 24) (v : Word) (s : State) : EndsFixed s (execTapDebugAccess write a v s) :=
  ends_done (by simp)

theorem execSerRxdRead_ends (w : Writer) (n : Fin 4) (s : State) : EndsFixed s (execSerRxdRead w n s) :=
  ends_done (State.readAddr_fixed ..)

theorem execBackupStoreRead_ends (w : Writer) (s : State) : EndsFixed s (execBackupStoreRead w s) :=
  ends_done (State.readAddr_fixed ..)

theorem execDomainOn_ends (d : Fin 16) (s : State) : EndsFixed s (execDomainOn d s) :=
  ends_done (by simp)

theorem execWakeOnDemandTimeout_ends (c : Fin 4) (s : State) : EndsFixed s (execWakeOnDemandTimeout c s) :=
  ends_done (by simp)

/-! ### Boot -/

theorem execBootSequence_ends (run : BootRun) (s : State) : EndsFixed s (execBootSequence run s) := by
  refine ends_done ?_
  split <;> simp

theorem execRefclkMeasureTimeout_ends (s : State) : EndsFixed s (execRefclkMeasureTimeout s) :=
  ends_done (by simp)

/-! ### Bundles -/

theorem execBundleIssue_ends (c : Fin 4) (s : State) : EndsFixed s (execBundleIssue c s) := by
  refine ends_done ?_
  split
  · rfl
  split
  · exact State.haltCore_fixed ..
  extract_lets x d off
  have hd : d.2.2.fixed = s.fixed := State.decodeBundle_fixed ..
  split
  next t h => exact State.decodeTrap_fixed h
  split
  · exact State.endStep_fixed ..
  split
  · exact (State.setCore_fixed ..).trans (State.wakeDom_fixed ..)
  split
  next t h => rw [State.setCore_fixed, State.restoreFor_fixed h]
  split
  · simp only [ite_fixed, State.blockStep_fixed, State.issue_fixed, hd, ite_self]
  · rw [State.issue_fixed, hd]

theorem execInterruptEntry_ends (c : Fin 4) (s : State) : EndsFixed s (execInterruptEntry c s) := by
  refine ends_done ?_
  split
  · exact getD_fixed (fun _ h => State.decodeTrap_fixed h) (State.vectorIn_fixed ..)
  · rfl

theorem execIdleWake_ends (c : Fin 4) (s : State) : EndsFixed s (execIdleWake c s) :=
  ends_done (by simp)

theorem execTrapEntry_ends (c : Fin 4) (s : State) : EndsFixed s (execTrapEntry c s) := by
  refine ends_done ?_
  split <;> simp

/-! ### L-mode -/

theorem execLNop_ends (s : State) : EndsFixed s (execLNop s) :=
  ends_done (State.lCompute_fixed ..)

theorem execLRet_ends (s : State) : EndsFixed s (execLRet s) :=
  ends_done (by simp)

theorem execLRti_ends (s : State) : EndsFixed s (execLRti s) :=
  ends_done (by simp)

theorem execLIdle_ends (s : State) : EndsFixed s (execLIdle s) :=
  ends_done (by simp)

theorem execLEi_ends (s : State) : EndsFixed s (execLEi s) :=
  ends_done (State.lCompute_fixed ..)

theorem execLDi_ends (s : State) : EndsFixed s (execLDi s) :=
  ends_done (State.lCompute_fixed ..)

theorem execLRegisterOperation_ends (s : State) : EndsFixed s (execLRegisterOperation s) :=
  ends_done (State.lCompute_fixed ..)

theorem execLAddi_ends (s : State) : EndsFixed s (execLAddi s) :=
  ends_done (State.lCompute_fixed ..)

theorem execLLdi_ends (s : State) : EndsFixed s (execLLdi s) :=
  ends_done (State.lCompute_fixed ..)

theorem execLCmpi_ends (s : State) : EndsFixed s (execLCmpi s) :=
  ends_done (State.lCompute_fixed ..)

theorem execLShli_ends (s : State) : EndsFixed s (execLShli s) :=
  ends_done (State.lCompute_fixed ..)

theorem execLShri_ends (s : State) : EndsFixed s (execLShri s) :=
  ends_done (State.lCompute_fixed ..)

theorem execLAsri_ends (s : State) : EndsFixed s (execLAsri s) :=
  ends_done (State.lCompute_fixed ..)

theorem execLLdw_ends (s : State) : EndsFixed s (execLLdw s) :=
  ends_done (State.lIssue_fixed (fun _ _ _ _ => lLoadTo_fixed ..) _ _ _)

theorem execLStw_ends (s : State) : EndsFixed s (execLStw s) :=
  ends_done (State.lIssue_fixed (fun _ _ _ _ => lStoreFrom_fixed ..) _ _ _)

theorem execLLdp_ends (s : State) : EndsFixed s (execLLdp s) :=
  ends_done (State.lIssue_fixed (fun _ _ _ _ => lLoadTo_fixed ..) _ _ _)

theorem execLStp_ends (s : State) : EndsFixed s (execLStp s) :=
  ends_done (State.lIssue_fixed (fun _ _ _ _ => lStoreFrom_fixed ..) _ _ _)

theorem execLLpi_ends (s : State) : EndsFixed s (execLLpi s) :=
  ends_done (State.lCompute_fixed ..)

theorem execLLap_ends (s : State) : EndsFixed s (execLLap s) :=
  ends_done (State.lCompute_fixed ..)

theorem execLMpy_ends (s : State) : EndsFixed s (execLMpy s) :=
  ends_done (State.lCompute_fixed ..)

theorem execLMac_ends (s : State) : EndsFixed s (execLMac s) :=
  ends_done (State.lCompute_fixed ..)

theorem execLMsu_ends (s : State) : EndsFixed s (execLMsu s) :=
  ends_done (State.lCompute_fixed ..)

theorem execLExt_ends (s : State) : EndsFixed s (execLExt s) :=
  ends_done (State.lCompute_fixed ..)

theorem execLExh_ends (s : State) : EndsFixed s (execLExh s) :=
  ends_done (State.lCompute_fixed ..)

theorem execLLdh_ends (s : State) : EndsFixed s (execLLdh s) :=
  ends_done (State.lCompute_fixed ..)

theorem execLClra_ends (s : State) : EndsFixed s (execLClra s) :=
  ends_done (State.lCompute_fixed ..)

theorem execLMova_ends (s : State) : EndsFixed s (execLMova s) :=
  ends_done (State.lCompute_fixed ..)

theorem execLAdda_ends (s : State) : EndsFixed s (execLAdda s) :=
  ends_done (State.lCompute_fixed ..)

theorem execLNega_ends (s : State) : EndsFixed s (execLNega s) :=
  ends_done (State.lCompute_fixed ..)

theorem execLB_ends (s : State) : EndsFixed s (execLB s) :=
  ends_done (State.lIssue_fixed (fun _ _ _ _ => by split <;> rfl) _ _ _)

theorem execLJmp_ends (s : State) : EndsFixed s (execLJmp s) :=
  ends_done (by simp)

theorem execLCall_ends (s : State) : EndsFixed s (execLCall s) :=
  ends_done (by simp)

theorem execLMfl_ends (s : State) : EndsFixed s (execLMfl s) :=
  ends_done (State.lCompute_fixed ..)

theorem execLMtl_ends (s : State) : EndsFixed s (execLMtl s) :=
  ends_done (State.lCompute_fixed ..)

theorem execLIllegalHalt_ends (s : State) : EndsFixed s (execLIllegalHalt s) := by
  refine ends_done ?_
  split
  · extract_lets f
    split
    · exact (State.lHalt_fixed ..).trans (State.lFetch_fixed s)
    · rfl
  · rfl

/-! ### Ports -/

theorem execHostBusRead_ends (cs0 cs1 wrLow : Bool) (a : BitVec 24) (s : State) : EndsFixed s (execHostBusRead cs0 cs1 wrLow a s) :=
  ends_done (by simp)

theorem execHostBusWrite_ends (cs0 cs1 rdLow : Bool) (a : BitVec 24) (v : Word) (s : State) :
    EndsFixed s (execHostBusWrite cs0 cs1 rdLow a v s) :=
  ends_done (by simp)

theorem execPostedWritePerform_ends (q : Fin 8) (s : State) : EndsFixed s (execPostedWritePerform q s) := by
  refine ends_done ?_
  split
  · rfl
  · split
    · rfl
    · split
      next t h => exact State.restoreFor_fixed h
      next => simp

theorem execShadowRefill_ends (d : Fin 16) (s : State) : EndsFixed s (execShadowRefill d s) :=
  ends_done (by simp)

theorem execReadaheadPointerWrite_ends (q : Fin 8) (v : Word) (s : State) : EndsFixed s (execReadaheadPointerWrite q v s) :=
  ends_done (State.writeAddr_fixed ..)

theorem execPrefetchComplete_ends (q : Fin 8) (s : State) : EndsFixed s (execPrefetchComplete q s) := by
  refine ends_done ?_
  split
  · refine getD_fixed (fun _ h => State.restoreFor_fixed h) ?_
    rw [State.setReg_fixed]
    exact foldl_fixed (fun t i => State.fetchWord_fixed t q.val i) _ _
  · rfl

theorem execPrefetchTimeout_ends (q : Fin 8) (got : Fin 64) (s : State) : EndsFixed s (execPrefetchTimeout q got s) :=
  ends_done (by simp)

theorem execSpiReadFrame_ends (n : Fin 2) (a : BitVec 24) (nw : Fin 64) (s : State) : EndsFixed s (execSpiReadFrame n a nw s) :=
  ends_done (by simp)

theorem execSpiWriteFrame_ends (n : Fin 2) (a : BitVec 24) (ws : List (BitVec 24)) (crc : BitVec 16) (s : State) :
    EndsFixed s (execSpiWriteFrame n a ws crc s) :=
  ends_done (by simp)

theorem execSpiStatusFrame_ends (n : Fin 2) (s : State) : EndsFixed s (execSpiStatusFrame n s) :=
  ends_done (by simp)

theorem execSpiOpRefused_ends (n : Fin 2) (s : State) : EndsFixed s (execSpiOpRefused n s) :=
  ends_done (by simp)

theorem execSpiPartialFrame_ends (n : Fin 2) (write : Bool) (a : BitVec 24) (ws : List Word) (s : State) :
    EndsFixed s (execSpiPartialFrame n write a ws s) :=
  ends_done (by simp)

theorem execSpiClockIdleTimeout_ends (n : Fin 2) (write : Bool) (a : BitVec 24) (ws : List Word) (s : State) :
    EndsFixed s (execSpiClockIdleTimeout n write a ws s) :=
  ends_done (by simp)

theorem execIluhiRead_ends (l : Fin 4) (seq : Byte) (payload : List Byte) (s : State) : EndsFixed s (execIluhiRead l seq payload s) :=
  ends_done (State.iluhiRequest_fixed ..)

theorem execIluhiWrite_ends (l : Fin 4) (seq : Byte) (payload : List Byte) (s : State) : EndsFixed s (execIluhiWrite l seq payload s) :=
  ends_done (State.iluhiRequest_fixed ..)

theorem execIluhiPing_ends (l : Fin 4) (seq : Byte) (payload : List Byte) (s : State) : EndsFixed s (execIluhiPing l seq payload s) :=
  ends_done (State.iluhiRequest_fixed ..)

theorem execIluhiUnknownType_ends (l : Fin 4) (typ seq : Byte) (payload : List Byte) (s : State) :
    EndsFixed s (execIluhiUnknownType l typ seq payload s) :=
  ends_done (State.iluhiRequest_fixed ..)

theorem execIluhiFrameDiscard_ends (l : Fin 4) (s : State) : EndsFixed s (execIluhiFrameDiscard l s) :=
  ends_done (State.iluhiDrop_fixed ..)

theorem execIluhiGapTimeout_ends (l : Fin 4) (s : State) : EndsFixed s (execIluhiGapTimeout l s) :=
  ends_done (State.iluhiDrop_fixed ..)

theorem execIluhiPush_ends (l : Fin 4) (s : State) : EndsFixed s (execIluhiPush l s) :=
  ends_done (by simp)

theorem execIluhiPushSent_ends (l : Fin 4) (s : State) : EndsFixed s (execIluhiPushSent l s) := by
  refine ends_done ?_
  split <;> simp

/-! ### The passing of time -/

theorem execRtcFallback_ends (s : State) : EndsFixed s (execRtcFallback s) :=
  ends_done (by simp)

theorem execRtcSourceChange_ends (s : State) : EndsFixed s (execRtcSourceChange s) := by
  refine ends_done ?_
  split <;> simp

end Sys2Proof.Machine
end

section
/-! SUPPORT. The commands that reset the device, blow fuses or sample the straps (00 R2, 15 R517). -/

namespace Sys2Proof.Machine

/-! ### The commands that may blow fuses keep the personality and the queue -/

/-- What a command keeps of its state even where it blows fuses: the personality and the queue of commands. -/
def State.kept (s : State) : Persona × List Instr := (s.pins.persona, s.pending)

theorem State.kept_eq_iff {s t : State} : t.kept = s.kept ↔ t.pins.persona = s.pins.persona ∧ t.pending = s.pending := by
  simp only [State.kept, Prod.mk.injEq]

theorem State.kept_of_fixed {s t : State} (h : t.fixed = s.fixed) : t.kept = s.kept :=
  State.kept_eq_iff.mpr ⟨(State.fixed_eq_iff.mp h).1, (State.fixed_eq_iff.mp h).2.1⟩

/-- The outcome of a command met in state s: the end of a command that keeps the personality and the queue. -/
def EndsKept (s : State) (o : Host.Outcome State Fault Refusal) : Prop := ∃ t, o = .next (settle s t) ∧ t.kept = s.kept

theorem ends_kept {s t : State} (h : t.kept = s.kept) : EndsKept s (done s t) := ⟨t, rfl, h⟩

theorem EndsFixed.kept {s : State} {o : Host.Outcome State Fault Refusal} (h : EndsFixed s o) : EndsKept s o := by
  obtain ⟨t, ho, ht⟩ := h
  exact ⟨t, ho, State.kept_of_fixed ht⟩

@[simp] theorem State.blow_kept (s : State) (r : Nat) (bits : BitVec 16) : (s.blow r bits).kept = s.kept :=
  State.kept_eq_iff.mpr ⟨rfl, rfl⟩

@[simp] theorem State.breakOtp_kept (s : State) : s.breakOtp.kept = s.kept := by
  unfold State.breakOtp
  split
  · exact (State.blow_kept ..).trans (State.kept_of_fixed (State.free_fixed s))
  · rfl

/-- The reset of the units leaves pins, queue and fuses as the OTP operation that it breaks off leaves them. -/
theorem State.resetUnits_fixed_of_aon_off {k : Kept} (hk : k.aon = false) (s : State) :
    (s.resetUnits k).fixed = s.cutOp.breakOtp.fixed := by
  simp [State.resetUnits, hk]

@[simp] theorem State.resetUnits_kept (s : State) (k : Kept) : (s.resetUnits k).kept = s.kept := by
  cases hk : k.aon with
  | true => exact State.kept_of_fixed (State.resetUnits_fixed hk s)
  | false =>
    calc (s.resetUnits k).kept = s.cutOp.breakOtp.kept := State.kept_of_fixed (State.resetUnits_fixed_of_aon_off hk s)
      _ = s.cutOp.kept := State.breakOtp_kept _
      _ = s.kept := State.kept_of_fixed (State.cutOp_fixed s)

theorem State.resetCause_kept (s u : State) (k : Kept) (n : Nat) : ((s.resetUnits k).resetCause u n).kept = s.kept :=
  (State.kept_of_fixed (State.resetCause_fixed ..)).trans (State.resetUnits_kept ..)

@[simp] theorem State.rstReset_kept (s : State) : s.rstReset.kept = s.kept := by
  refine Eq.trans (State.kept_of_fixed ?_) (State.resetCause_kept s s ⟨false, true, s.domOn 1, false⟩ 1)
  simp only [State.rstReset, ite_fixed, State.setReg_fixed, State.fixed_with, ite_self]

@[simp] theorem State.blowFuses_kept (s : State) (n : Nat) : (s.blowFuses n).kept = s.kept := by
  refine List.foldlRecOn (motive := fun t : State => t.kept = s.kept) _ _ rfl fun t ht i _ => ?_
  split
  · exact (State.blow_kept ..).trans ht
  · exact ht

theorem execResetAssert_kept (s : State) : EndsKept s (execResetAssert s) :=
  ends_kept (State.rstReset_kept s)

theorem execPowerOnReset_kept (s : State) : EndsKept s (execPowerOnReset s) := by
  refine ends_kept (Eq.trans (State.kept_of_fixed ?_) (State.resetCause_kept s s ⟨false, false, false, false⟩ 0))
  simp only [State.fixed_with_pins, State.setReg_fixed, State.forgetBank_fixed, State.forgetCore_fixed]

theorem execSupplyFall_kept (s : State) : EndsKept s (execSupplyFall s) := by
  refine ends_kept ?_
  split
  · rfl
  · exact (State.rstReset_kept _).trans (State.kept_of_fixed (State.forgetCore_fixed s))

theorem execOtpWriteDone_kept (s : State) : EndsKept s (execOtpWriteDone s) := by
  refine ends_kept ?_
  split
  next r bits _ =>
    refine Eq.trans (State.kept_of_fixed ?_) (State.blow_kept s r bits)
    simp only [State.trialRestart_fixed, State.raise_fixed, State.endOtp_fixed]
  next => rfl

theorem execLifecycleAdvanceDone_kept (s : State) : EndsKept s (execLifecycleAdvanceDone s) := by
  refine ends_kept ?_
  split
  next r bits _ =>
    refine Eq.trans (State.kept_of_fixed ?_) (State.blow_kept s r bits)
    simp only [State.trialRestart_fixed, State.raise_fixed, State.endOtp_fixed]
  next => rfl

theorem execReturnTokenDone_kept (s : State) : EndsKept s (execReturnTokenDone s) := by
  refine ends_kept ?_
  split
  next r bits _ =>
    refine Eq.trans (State.kept_of_fixed ?_) (State.blow_kept s r bits)
    simp only [State.trialRestart_fixed, State.raise_fixed, State.endOtp_fixed]
  next =>
    refine State.kept_of_fixed ?_
    simp only [State.trialRestart_fixed, State.raise_fixed, State.endOtp_fixed, State.pageErr_fixed]
  next => rfl

theorem execRollbackFuseProgram_kept (s : State) : EndsKept s (execRollbackFuseProgram s) := by
  refine ends_kept ?_
  extract_lets t
  split
  · refine Eq.trans (State.kept_of_fixed (t := _) (s := t) ?_) (State.blowFuses_kept s _)
    simp only [State.setB_fixed, State.setF_fixed]
  · rfl

/-! ### The sampling of the straps -/

/-- The personality that the two straps select. -/
def strapPersona (p : BitVec 2) : Persona := if p = 1 then .legacy else if p = 2 then .dual else .native

theorem State.resetCore_pins (s : State) (c : Fin 4) : (s.resetCore c).pins = s.pins := rfl

theorem State.resetCores_pins (s : State) (l : List (Fin 4)) : (l.foldl State.resetCore s).pins = s.pins :=
  List.foldlRecOn (motive := fun t : State => t.pins = s.pins) l _ rfl fun t ht c _ => (State.resetCore_pins t c).trans ht

theorem State.sampleStraps_pins (s : State) (p b : BitVec 2) : (s.sampleStraps p b).pins =
    { s.pins with rstN := true, personaPins := p, bootsrcPins := b, persona := strapPersona p } :=
  State.resetCores_pins _ _

theorem execRstNRelease_samples (p b : BitVec 2) {s : State} (h : s.pins.rstN = false) :
    execRstNRelease p b s = .next (settle s (s.sampleStraps p b)) := by
  rw [execRstNRelease, h]
  rfl

theorem execRstNRelease_kept (p b : BitVec 2) {s : State} (h : s.pins.rstN = true) : EndsKept s (execRstNRelease p b s) := by
  rw [execRstNRelease, if_pos h]
  exact ends_kept rfl

/-- A brown-out with RST_N high ends in the sampling of straps that stand at a free level (log 3). -/
theorem execBrownOut_samples {s : State} (h : s.pins.rstN = true) :
    ∃ (u : State) (b : BitVec 2), execBrownOut s = .next (settle s (u.sampleStraps (BitVec.ofNat 2 (Config.freeNat s.freeCtr)) b)) := by
  rw [execBrownOut, if_pos h]
  exact ⟨_, _, rfl⟩

theorem execBrownOut_kept {s : State} (h : s.pins.rstN = false) : EndsKept s (execBrownOut s) := by
  rw [execBrownOut, h]
  refine ends_kept ((State.kept_of_fixed (State.setReg_fixed ..)).trans ((State.resetCause_kept ..).trans (State.kept_of_fixed ?_)))
  rw [State.forgetAon_fixed, State.free_fixed, State.free_fixed]

end Sys2Proof.Machine
end

section
/-! SUPPORT. Every command (00 R2): what stays as it stands, whatever the device runs. -/

namespace Sys2Proof.Machine

/-- The commands that may blow fuses, restart the device or sample the straps. -/
def changesFixed : Instr → Bool
  | .resetAssert | .powerOnReset | .brownOut | .supplyFall | .rollbackFuseProgram | .otpWriteDone | .lifecycleAdvanceDone |
  .returnTokenDone | .rstNRelease _ _ => true
  | _ => false

/-- Every other command ends with the personality, the queue and the fuses as they stand. -/
theorem exec_fixed (i : Instr) (s : State) (h : changesFixed i = false) : EndsFixed s (exec i s) := by
  cases i with
  | registerWrite w a v => exact execRegisterWrite_ends w a v s
  | pageLockTake w pg => exact execPageLockTake_ends w pg s
  | pageLockRelease w pg => exact execPageLockRelease_ends w pg s
  | feedEnable w p v => exact execFeedEnable_ends w p v s
  | feedDisable w p v => exact execFeedDisable_ends w p v s
  | laneTrain w p v => exact execLaneTrain_ends w p v s
  | waitclkCountDone p inTol => exact execWaitclkCountDone_ends p inTol s
  | waitclkGap p => exact execWaitclkGap_ends p s
  | sweepDone p ok => exact execSweepDone_ends p ok s
  | alignDone p => exact execAlignDone_ends p s
  | trainConfirmDone p => exact execTrainConfirmDone_ends p s
  | trainTimeout p => exact execTrainTimeout_ends p s
  | laneGo w p v => exact execLaneGo_ends w p v s
  | laneWord p b => exact execLaneWord_ends p b s
  | clockLoss m => exact execClockLoss_ends m s
  | notchAdapt p k => exact execNotchAdapt_ends p k s
  | blankerLimit p => exact execBlankerLimit_ends p s
  | substreamFreqWrite w p sub v => exact execSubstreamFreqWrite_ends w p sub v s
  | clockGateEnd m count => exact execClockGateEnd_ends m count s
  | streamEnable w n v => exact execStreamEnable_ends w n v s
  | streamDisable w n v => exact execStreamDisable_ends w n v s
  | spectrumRecordTick m blocksDone t0 => exact execSpectrumRecordTick_ends m blocksDone t0 s
  | agcUpdate p => exact execAgcUpdate_ends p s
  | rfspiTransfer w v => exact execRfspiTransfer_ends w v s
  | rfspiReady => exact execRfspiReady_ends s
  | rfspiReadyTimeout => exact execRfspiReadyTimeout_ends s
  | rfspiDone rx => exact execRfspiDone_ends rx s
  | programValidate w p v => exact execProgramValidate_ends w p v s
  | programInvalidate w p v => exact execProgramInvalidate_ends w p v s
  | regionValidate w r v => exact execRegionValidate_ends w r v s
  | regionInvalidate w r v => exact execRegionInvalidate_ends w r v s
  | exemplarWrite w o v => exact execExemplarWrite_ends w o v s
  | retarget w v => exact execRetarget_ends w v s
  | tmblWrite w v => exact execTmblWrite_ends w v s
  | contextWrite w viaQuire c k v => exact execContextWrite_ends w viaQuire c k v s
  | channelAdmit w c => exact execChannelAdmit_ends w c s
  | admissionDecision => exact execAdmissionDecision_ends s
  | channelDisable w c => exact execChannelDisable_ends w c s
  | channelTrack w c => exact execChannelTrack_ends w c s
  | channelDrop w c => exact execChannelDrop_ends w c s
  | phaseSetArm w c v => exact execPhaseSetArm_ends w c v s
  | updateCommit w c v => exact execUpdateCommit_ends w c v s
  | frameBoundary stamps => exact execFrameBoundary_ends stamps s
  | rankSlot r slot => exact execRankSlot_ends r slot s
  | windowWrite w v => exact execWindowWrite_ends w v s
  | rankDisable w r v => exact execRankDisable_ends w r v s
  | rankEnable w r v => exact execRankEnable_ends w r v s
  | inkwellWrite w o v => exact execInkwellWrite_ends w o v s
  | captureGo w e v => exact execCaptureGo_ends w e v s
  | captureStop w e v => exact execCaptureStop_ends w e v s
  | captureDone e => exact execCaptureDone_ends e s
  | jobRingConfig w k v => exact execJobRingConfig_ends w k v s
  | jobStart => exact execJobStart_ends s
  | jobExtractionDone pipe => exact execJobExtractionDone_ends pipe s
  | jobCommit pipe => exact execJobCommit_ends pipe s
  | recordRoomTimeout pipe => exact execRecordRoomTimeout_ends pipe s
  | jobAbort w v => exact execJobAbort_ends w v s
  | abortScanDone => exact execAbortScanDone_ends s
  | jobAbortStop pipe => exact execJobAbortStop_ends pipe s
  | handoff w v => exact execHandoff_ends w v s
  | cacheWrite w v => exact execCacheWrite_ends w v s
  | workingRamWrite w o v => exact execWorkingRamWrite_ends w o v s
  | rxtWrap => exact execRxtWrap_ends s
  | rxtSecond => exact execRxtSecond_ends s
  | rxtCapture w v => exact execRxtCapture_ends w v s
  | tdiscClear w v => exact execTdiscClear_ends w v s
  | rebuiltClear w v => exact execRebuiltClear_ends w v s
  | mapGo w v => exact execMapGo_ends w v s
  | mapApply => exact execMapApply_ends s
  | periodicEnable w v => exact execPeriodicEnable_ends w v s
  | periodicEpoch => exact execPeriodicEpoch_ends s
  | snap w v => exact execSnap_ends w v s
  | latchCommit => exact execLatchCommit_ends s
  | tpApply w n v => exact execTpApply_ends w n v s
  | tpApplyTakeEffect n => exact execTpApplyTakeEffect_ends n s
  | tpActiveEdge n => exact execTpActiveEdge_ends n s
  | tpInactiveEdge n => exact execTpInactiveEdge_ends n s
  | hairlineCalibrate w v => exact execHairlineCalibrate_ends w v s
  | hairlineCalDone taps => exact execHairlineCalDone_ends taps s
  | eventEdge n rising tap => exact execEventEdge_ends n rising tap s
  | eventFifoMove => exact execEventFifoMove_ends s
  | rtcCalGo w v => exact execRtcCalGo_ends w v s
  | rtcCalDone span => exact execRtcCalDone_ends span s
  | calplWrite w v => exact execCalplWrite_ends w v s
  | rcplWrite w v => exact execRcplWrite_ends w v s
  | rxtRebuild => exact execRxtRebuild_ends s
  | bundleIssue c => exact execBundleIssue_ends c s
  | interruptEntry c => exact execInterruptEntry_ends c s
  | idleWake c => exact execIdleWake_ends c s
  | trapEntry c => exact execTrapEntry_ends c s
  | coreReset w c v => exact execCoreReset_ends w c v s
  | coreResetDone c => exact execCoreResetDone_ends c s
  | coreRun w c v => exact execCoreRun_ends w c v s
  | coreHalt w c v => exact execCoreHalt_ends w c v s
  | coreStep w c v => exact execCoreStep_ends w c v s
  | breakpointHalt c => exact execBreakpointHalt_ends c s
  | coreRegisterWrite w c v => exact execCoreRegisterWrite_ends w c v s
  | corePcWrite w c v => exact execCorePcWrite_ends w c v s
  | swevSet w c => exact execSwevSet_ends w c s
  | rubricMicrowordWrite w v => exact execRubricMicrowordWrite_ends w v s
  | rubricEntryWrite w c e v => exact execRubricEntryWrite_ends w c e v s
  | quiesceRequest w c v => exact execQuiesceRequest_ends w c v s
  | quiesceDone c => exact execQuiesceDone_ends c s
  | quiesceRelease w c v => exact execQuiesceRelease_ends w c v s
  | lNop => exact execLNop_ends s
  | lRet => exact execLRet_ends s
  | lRti => exact execLRti_ends s
  | lIdle => exact execLIdle_ends s
  | lEi => exact execLEi_ends s
  | lDi => exact execLDi_ends s
  | lRegisterOperation => exact execLRegisterOperation_ends s
  | lAddi => exact execLAddi_ends s
  | lLdi => exact execLLdi_ends s
  | lCmpi => exact execLCmpi_ends s
  | lShli => exact execLShli_ends s
  | lShri => exact execLShri_ends s
  | lAsri => exact execLAsri_ends s
  | lLdw => exact execLLdw_ends s
  | lStw => exact execLStw_ends s
  | lLdp => exact execLLdp_ends s
  | lStp => exact execLStp_ends s
  | lLpi => exact execLLpi_ends s
  | lLap => exact execLLap_ends s
  | lMpy => exact execLMpy_ends s
  | lMac => exact execLMac_ends s
  | lMsu => exact execLMsu_ends s
  | lExt => exact execLExt_ends s
  | lExh => exact execLExh_ends s
  | lLdh => exact execLLdh_ends s
  | lClra => exact execLClra_ends s
  | lMova => exact execLMova_ends s
  | lAdda => exact execLAdda_ends s
  | lNega => exact execLNega_ends s
  | lB => exact execLB_ends s
  | lJmp => exact execLJmp_ends s
  | lCall => exact execLCall_ends s
  | lMfl => exact execLMfl_ends s
  | lMtl => exact execLMtl_ends s
  | lIllegalHalt => exact execLIllegalHalt_ends s
  | legacyDspRun w v => exact execLegacyDspRun_ends w v s
  | legacyDspReset w v => exact execLegacyDspReset_ends w v s
  | legacyFifoClear w v => exact execLegacyFifoClear_ends w v s
  | legacyPowerDown w v => exact execLegacyPowerDown_ends w v s
  | legacySnap w v => exact execLegacySnap_ends w v s
  | legacyMailboxHostWrite q v => exact execLegacyMailboxHostWrite_ends q v s
  | legacyMailboxDspRead => exact execLegacyMailboxDspRead_ends s
  | legacyMailboxDspWrite v => exact execLegacyMailboxDspWrite_ends v s
  | legacyMailboxHostRead q => exact execLegacyMailboxHostRead_ends q s
  | legacyMemoryAddressWrite w low v => exact execLegacyMemoryAddressWrite_ends w low v s
  | legacyReadaheadComplete => exact execLegacyReadaheadComplete_ends s
  | legacyMemoryPortRead q => exact execLegacyMemoryPortRead_ends q s
  | legacyMemoryPortWrite w v => exact execLegacyMemoryPortWrite_ends w v s
  | legacyDumpFifoRead q => exact execLegacyDumpFifoRead_ends q s
  | legacySampleEnable w v => exact execLegacySampleEnable_ends w v s
  | legacyChannelEnable w c v => exact execLegacyChannelEnable_ends w c v s
  | legacyChannelDisable w c v => exact execLegacyChannelDisable_ends w c v s
  | legacyCarrierWrite w c v => exact execLegacyCarrierWrite_ends w c v s
  | legacyCodeWrite w c v => exact execLegacyCodeWrite_ends w c v s
  | legacyCodeSet w c v => exact execLegacyCodeSet_ends w c v s
  | legacyUartWrite w u v => exact execLegacyUartWrite_ends w u v s
  | legacyUartRead q u => exact execLegacyUartRead_ends q u s
  | legacyTpApply w v => exact execLegacyTpApply_ends w v s
  | ltpoflWrite w v => exact execLtpoflWrite_ends w v s
  | eccWriteback => exact execEccWriteback_ends s
  | quireAccessTimeout q o => exact execQuireAccessTimeout_ends q o s
  | blotterBorrow => exact execBlotterBorrow_ends s
  | blotterBorrowDone fail => exact execBlotterBorrowDone_ends fail s
  | blotterAbort => exact execBlotterAbort_ends s
  | blotterRestoreDone => exact execBlotterRestoreDone_ends s
  | blotterRestart w v => exact execBlotterRestart_ends w v s
  | exclusionApply w v => exact execExclusionApply_ends w v s
  | lostAcknowledge w high v => exact execLostAcknowledge_ends w high v s
  | hostBusRead cs0 cs1 wrLow a => exact execHostBusRead_ends cs0 cs1 wrLow a s
  | hostBusWrite cs0 cs1 rdLow a v => exact execHostBusWrite_ends cs0 cs1 rdLow a v s
  | postedWritePerform q => exact execPostedWritePerform_ends q s
  | shadowRefill d => exact execShadowRefill_ends d s
  | readaheadPointerWrite q v => exact execReadaheadPointerWrite_ends q v s
  | prefetchComplete q => exact execPrefetchComplete_ends q s
  | prefetchTimeout q got => exact execPrefetchTimeout_ends q got s
  | spiReadFrame n a nw => exact execSpiReadFrame_ends n a nw s
  | spiWriteFrame n a ws crc => exact execSpiWriteFrame_ends n a ws crc s
  | spiStatusFrame n => exact execSpiStatusFrame_ends n s
  | spiOpRefused n => exact execSpiOpRefused_ends n s
  | spiPartialFrame n write a ws => exact execSpiPartialFrame_ends n write a ws s
  | spiClockIdleTimeout n write a ws => exact execSpiClockIdleTimeout_ends n write a ws s
  | iluhiRead l seq payload => exact execIluhiRead_ends l seq payload s
  | iluhiWrite l seq payload => exact execIluhiWrite_ends l seq payload s
  | iluhiPing l seq payload => exact execIluhiPing_ends l seq payload s
  | iluhiUnknownType l typ seq payload => exact execIluhiUnknownType_ends l typ seq payload s
  | iluhiFrameDiscard l => exact execIluhiFrameDiscard_ends l s
  | iluhiGapTimeout l => exact execIluhiGapTimeout_ends l s
  | iluhiPush l => exact execIluhiPush_ends l s
  | iluhiPushSent l => exact execIluhiPushSent_ends l s
  | sessionEnable w q v => exact execSessionEnable_ends w q v s
  | permissionMaskWrite w q v => exact execPermissionMaskWrite_ends w q v s
  | doorbellSet w q v => exact execDoorbellSet_ends w q v s
  | ringConfig w r v => exact execRingConfig_ends w r v s
  | ringIndexWrite w r prod v => exact execRingIndexWrite_ends w r prod v s
  | swsetWrite w high v => exact execSwsetWrite_ends w high v s
  | timerLoad w k v => exact execTimerLoad_ends w k v s
  | timerExpiry k => exact execTimerExpiry_ends k s
  | routeWrite w k v => exact execRouteWrite_ends w k v s
  | eventRecordWrite => exact execEventRecordWrite_ends s
  | deliveryRecord => exact execDeliveryRecord_ends s
  | serRxCharacter n data par stop => exact execSerRxCharacter_ends n data par stop s
  | serBreak n => exact execSerBreak_ends n s
  | serXoffReceived n => exact execSerXoffReceived_ends n s
  | serXonReceived n => exact execSerXonReceived_ends n s
  | serRxdRead w n => exact execSerRxdRead_ends w n s
  | serTxdWrite w n v => exact execSerTxdWrite_ends w n v s
  | serTxStart n => exact execSerTxStart_ends n s
  | serTxCharacterDone n => exact execSerTxCharacterDone_ends n s
  | serConfigWrite w n v => exact execSerConfigWrite_ends w n v s
  | serBaudWrite w n v => exact execSerBaudWrite_ends w n v s
  | serSendBreak w n v => exact execSerSendBreak_ends w n v s
  | serFlowWrite w n v => exact execSerFlowWrite_ends w n v s
  | serFlowCharacterSend n => exact execSerFlowCharacterSend_ends n s
  | serFlowTimeout n => exact execSerFlowTimeout_ends n s
  | serDrainEnable w n v => exact execSerDrainEnable_ends w n v s
  | serDrainMove n => exact execSerDrainMove_ends n s
  | serFeedTake n => exact execSerFeedTake_ends n s
  | slowRxCharacter u data par stop => exact execSlowRxCharacter_ends u data par stop s
  | domainSwitchOff w d v => exact execDomainSwitchOff_ends w d v s
  | domainIdleExpiry d => exact execDomainIdleExpiry_ends d s
  | domainPowerUp w d v => exact execDomainPowerUp_ends w d v s
  | domainOn d => exact execDomainOn_ends d s
  | wakeOnDemandTimeout c => exact execWakeOnDemandTimeout_ends c s
  | deviceStateGo w v => exact execDeviceStateGo_ends w v s
  | deviceIdleTimerExpiry k => exact execDeviceIdleTimerExpiry_ends k s
  | entryWaitTimeout => exact execEntryWaitTimeout_ends s
  | dozeEntry => exact execDozeEntry_ends s
  | dozeExit => exact execDozeExit_ends s
  | sleepEntry => exact execSleepEntry_ends s
  | sleepExit => exact execSleepExit_ends s
  | backupEntry => exact execBackupEntry_ends s
  | dormantEntry => exact execDormantEntry_ends s
  | backupExit => exact execBackupExit_ends s
  | wakePin n level => exact execWakePin_ends n level s
  | rtcAlarm => exact execRtcAlarm_ends s
  | alm2Write w v => exact execAlm2Write_ends w v s
  | rtcSourceWrite w v => exact execRtcSourceWrite_ends w v s
  | rtcFallback => exact execRtcFallback_ends s
  | rtcSourceChange => exact execRtcSourceChange_ends s
  | xtalOk => exact execXtalOk_ends s
  | pllUnlock k => exact execPllUnlock_ends k s
  | pllRelock k => exact execPllRelock_ends k s
  | backupStoreRead w => exact execBackupStoreRead_ends w s
  | backupStoreWrite w v => exact execBackupStoreWrite_ends w v s
  | warmRestart w v => exact execWarmRestart_ends w v s
  | resetAssert => cases h
  | powerOnReset => cases h
  | brownOut => cases h
  | supplyFall => cases h
  | pwrenRetry => exact execPwrenRetry_ends s
  | bootSequence ms => exact execBootSequence_ends ms s
  | refclkMeasureTimeout => exact execRefclkMeasureTimeout_ends s
  | trialTimerExpiry => exact execTrialTimerExpiry_ends s
  | healthConfirm w v => exact execHealthConfirm_ends w v s
  | rollbackFuseProgram => cases h
  | updateLockTake w v => exact execUpdateLockTake_ends w v s
  | updateLockRelease w v => exact execUpdateLockRelease_ends w v s
  | updateLockExpiry => exact execUpdateLockExpiry_ends s
  | blockWrite w v => exact execBlockWrite_ends w v s
  | blockWriteDone ok => exact execBlockWriteDone_ends ok s
  | activate w v => exact execActivate_ends w v s
  | activateDone ok => exact execActivateDone_ends ok s
  | classPSettingsWrite w v => exact execClassPSettingsWrite_ends w v s
  | classNSettingsWrite w v => exact execClassNSettingsWrite_ends w v s
  | classNDiscard w v => exact execClassNDiscard_ends w v s
  | settingsWriteDone ok => exact execSettingsWriteDone_ends ok s
  | flashTimeout => exact execFlashTimeout_ends s
  | otpWrite w v => exact execOtpWrite_ends w v s
  | otpWriteDone => cases h
  | lifecycleAdvance w v => exact execLifecycleAdvance_ends w v s
  | lifecycleAdvanceDone => cases h
  | returnToken w v => exact execReturnToken_ends w v s
  | returnTokenDone => cases h
  | rstNRelease _ _ => cases h
  | crystalFailure => exact execCrystalFailure_ends s
  | retentionMonitorTrip b => exact execRetentionMonitorTrip_ends b s
  | powerRailsInRange => exact execPowerRailsInRange_ends s
  | tapDebugAccess write a v => exact execTapDebugAccess_ends write a v s

/-- Every command but a release of RST_N where it is low and a brown-out where it is high keeps the personality and the queue. -/
theorem exec_kept (i : Instr) (s : State) (hrelease : ∀ p b, i = .rstNRelease p b → s.pins.rstN = true)
    (hbrownOut : i = .brownOut → s.pins.rstN = false) : EndsKept s (exec i s) := by
  cases i with
  | resetAssert => exact execResetAssert_kept s
  | powerOnReset => exact execPowerOnReset_kept s
  | brownOut => exact execBrownOut_kept (hbrownOut rfl)
  | supplyFall => exact execSupplyFall_kept s
  | rollbackFuseProgram => exact execRollbackFuseProgram_kept s
  | otpWriteDone => exact execOtpWriteDone_kept s
  | lifecycleAdvanceDone => exact execLifecycleAdvanceDone_kept s
  | returnTokenDone => exact execReturnTokenDone_kept s
  | rstNRelease pins bootpins => exact execRstNRelease_kept pins bootpins (hrelease pins bootpins rfl)
  | _ => exact (exec_fixed _ s rfl).kept

/-- The same of a step of the machine, whether the queue holds a command or is empty. -/
theorem step_persona {s t : State} (h : step s = .next t) (hrelease : ∀ p b l, s.pending = .rstNRelease p b :: l → s.pins.rstN = true)
    (hbrownOut : ∀ l, s.pending = .brownOut :: l → s.pins.rstN = false) : t.pins.persona = s.pins.persona := by
  unfold step at h
  split at h
  next hq =>
    obtain rfl := Host.Outcome.next.inj h
    exact (State.fixed_eq_iff.mp (State.idle_fixed s)).1
  next c r hq =>
    obtain ⟨u, hu, hk⟩ := exec_kept c { s with pending := r } (fun p b hc => hrelease p b r (hc ▸ hq)) (fun hc => hbrownOut r (hc ▸ hq))
    obtain rfl := Host.Outcome.next.inj (h.symm.trans hu)
    rw [settle_pins]
    exact (State.kept_eq_iff.mp hk).1

/-- Settles O5: a release of RST_N and a brown-out sample the straps, and every other command keeps the personality. -/
theorem personaHolds : Obligations.PersonaHolds := by
  refine ⟨fun p b s h => ?_, fun p s h hp => ?_, fun s t => step_persona⟩
  · refine ⟨_, execRstNRelease_samples p b h, ?_⟩
    rw [settle_pins, State.sampleStraps_pins]
    exact ⟨rfl, rfl⟩
  · obtain ⟨u, b, hu⟩ := execBrownOut_samples h
    refine ⟨_, hu, ?_⟩
    rw [settle_pins, State.sampleStraps_pins, hp]
    rfl

end Sys2Proof.Machine
end

section
/-! SUPPORT. A write of ERR (01 R36): the path it takes on every page, and what it leaves in ERR and ERRADR. -/

namespace Sys2Proof.Machine

/-! ### Words covered by written 1s -/

theorem fieldOf_code (x : Word) : fieldOf x 3 0 = (x &&& 0o17).toNat := by
  rw [BitVec.toNat_and, show (0o17 : Word).toNat = 2 ^ 4 - 1 from rfl, Nat.and_two_pow_sub_one_eq_mod]
  simp [fieldOf]

/-- The written 1s cover a word when none of its bits is left once they are cleared. -/
theorem and_eq_self_iff_and_not_eq_zero {n : Nat} (x y : BitVec n) : x &&& y = x ↔ x &&& ~~~ y = 0 := by
  simp only [BitVec.eq_of_getLsbD_eq_iff, BitVec.getLsbD_and, BitVec.getLsbD_not]
  refine forall₂_congr fun i hi => ?_
  cases x.getLsbD i <;> simp [hi]

/-- The written 1s cover CODE when they clear each of its bits. -/
theorem code_covered_iff (x v : Word) : fieldOf x 3 0 &&& fieldOf v 3 0 = fieldOf x 3 0 ↔ (x &&& 0o17) &&& ~~~ (v &&& 0o17) = 0 := by
  rw [fieldOf_code, fieldOf_code, ← BitVec.toNat_and, BitVec.toNat_inj, and_eq_self_iff_and_not_eq_zero]

theorem code_covered_of_cleared {x v : Word} (h : x &&& ~~~ (v &&& 0o17) = 0) : fieldOf x 3 0 &&& fieldOf v 3 0 = fieldOf x 3 0 := by
  rw [code_covered_iff, BitVec.and_assoc, BitVec.and_comm 0o17, ← BitVec.and_assoc, h]
  exact BitVec.zero_and

/-! ### The rule of ERR -/

section
variable (s : State) (p : Nat) (v : Word)

@[simp] theorem hdrErr_mem : (hdrErr p v s).mem = s.mem := by
  simp only [hdrErr]
  split <;> rfl

theorem wf_hdrErr (hwf : Store.wf s.regs = true) : Store.wf (hdrErr p v s).regs = true := by
  have h := s.wf_setReg (pg p 6) (s.reg (pg p 6) &&& ~~~ (v &&& 0o17)) hwf
  simp only [hdrErr]
  split
  · exact State.wf_setReg _ _ _ h
  · exact h

/-- ERR keeps the bits that no 1 was written to. -/
theorem reg_hdrErr_err (hwf : Store.wf s.regs = true) :
    (hdrErr p v s).reg (pg p 6) = s.reg (pg p 6) &&& ~~~ (v &&& 0o17) := by
  simp only [hdrErr]
  split
  · rw [State.reg_setReg_ne _ _ (pg_ne_of_word (by decide) (by decide) (by decide)), State.reg_setReg_self _ _ _ hwf]
  · rw [State.reg_setReg_self _ _ _ hwf]

/-- ERRADR clears with the last bit of ERR, and stays while one is left. -/
theorem reg_hdrErr_erradr (hwf : Store.wf s.regs = true) :
    (hdrErr p v s).reg (pg p 7) = if s.reg (pg p 6) &&& ~~~ (v &&& 0o17) = 0 then 0 else s.reg (pg p 7) := by
  simp only [hdrErr, State.reg_setReg_self _ _ _ hwf]
  split
  · rw [State.reg_setReg_self _ _ _ (State.wf_setReg _ _ _ hwf)]
  · rw [State.reg_setReg_ne _ _ (pg_ne_of_word (by decide) (by decide) (by decide))]

end

/-! ### What two pages do besides -/

/-- Beside the rule of ERR, a write of it on EXMP clears BADH and BADL with the code (01 R36; 03, page EXMP), and on
UPD restarts LKIDLE where the update lock's owner writes (15 R508). -/
def State.errServed (s : State) (w : Writer) (p : Nat) (t : State) : State :=
  if p = 39 ∧ t.reg (pg 39 6) = 0 then (t.setReg (pg 39 20) 0).setReg (pg 39 21) 0 else s.lockServed w p t

section
variable (s : State) (w : Writer) (p : Nat) (t : State)

@[simp] theorem State.lockServed_mem : (s.lockServed w p t).mem = t.mem := by
  unfold State.lockServed
  split <;> rfl

theorem State.wf_lockServed (hwf : Store.wf t.regs = true) : Store.wf (s.lockServed w p t).regs = true := by
  unfold State.lockServed
  split
  · exact State.wf_setReg _ _ _ hwf
  · exact hwf

theorem State.reg_lockServed_header {wd : Nat} (hwd : wd < 16) : (s.lockServed w p t).reg (pg p wd) = t.reg (pg p wd) := by
  unfold State.lockServed
  split
  · exact State.reg_setReg_ne _ _ (pg_ne_of_word (by omega) (by decide) (by omega))
  · rfl

@[simp] theorem State.errServed_mem : (s.errServed w p t).mem = t.mem := by
  unfold State.errServed
  split
  · rfl
  · exact s.lockServed_mem w p t

theorem State.wf_errServed (hwf : Store.wf t.regs = true) : Store.wf (s.errServed w p t).regs = true := by
  unfold State.errServed
  split
  · exact State.wf_setReg _ _ _ (State.wf_setReg _ _ _ hwf)
  · exact s.wf_lockServed w p t hwf

theorem State.reg_errServed_header {wd : Nat} (hwd : wd < 16) : (s.errServed w p t).reg (pg p wd) = t.reg (pg p wd) := by
  unfold State.errServed
  split
  · rw [State.reg_setReg_ne _ _ (pg_ne_of_word (by omega) (by decide) (by omega)),
      State.reg_setReg_ne _ _ (pg_ne_of_word (by omega) (by decide) (by omega))]
  · exact s.reg_lockServed_header w p t hwd

end

/-! ### The path of a write of ERR -/

section
variable {s : State} {w : Writer} {p : Nat} {v : Word}

/-- A header word other than CTRL takes the guarded path with the page's handler, on every page but RING0, RING1 and UPD. -/
theorem State.pageWrite_header (s : State) (w : Writer) {p wd : Nat} (v : Word) (h67 : ¬ (p = 6 ∨ p = 7)) (h14 : p ≠ 14) (hw : 3 ≤ wd)
    (hw2 : wd < 16) : s.pageWrite w p wd v = guarded w p wd v (pageHandler w p wd v s) s := by
  rw [State.pageWrite, if_neg h67, if_neg h14]
  split
  next h40 =>
    subst h40
    rw [scrpGuarded, if_neg (by omega)]
    rfl
  next =>
    split
    next h512 => rw [State.chanWrite, if_neg (by omega), pageHandler_chan _ _ _ _ h512, Nat.add_sub_cancel' h512]
    next => rfl

theorem guarded_err (hc : s.Clear w p 6 v) : guarded w p 6 v (headerHandler w p 6 v s) s = hdrErr p v s :=
  guarded_clear hc rfl rfl rfl

theorem updGuarded_err (hc : s.Clear w 14 6 v) : updGuarded w 6 v s = s.lockServed w 14 (hdrErr 14 v s) := by
  have hh : updHandler w 6 v s = headerHandler w 14 6 v s := rfl
  have hr : s.lockRefused w 6 v = false := rfl
  have hcode : writeRefusal w 14 6 v (headerHandler w 14 6 v s) s = 0 := writeRefusal_of_clear _ hc
  have hon : s.domOn 2 = true := hc.on
  simp [updGuarded, hh, hr, hcode, hc.live, hon, guarded_err hc, State.lockServed]

/-- On a page that is not closed, a write of ERR whose checks pass does what the rule of ERR says and what the page does besides. -/
theorem State.pageWrite_err (hp : p ≤ 50 ∨ 512 ≤ p) (hc : s.Clear w p 6 v) (hopen : ¬ s.pageClosed p) :
    s.pageWrite w p 6 v = s.errServed w p (hdrErr p v s) := by
  by_cases h14 : p = 14
  · subst h14
    exact updGuarded_err hc
  by_cases h39 : p = 39
  · subst h39
    rw [State.pageWrite_header s w v (by decide) (by decide) (by decide) (by decide), guarded_clear hc rfl rfl rfl]
    simp [pageHandler, exmpHandler, State.errServed, State.lockServed]
  have hserved : s.errServed w p (hdrErr p v s) = hdrErr p v s := by simp [State.errServed, State.lockServed, h39, h14]
  rw [hserved, ← guarded_err hc]
  by_cases h67 : p = 6 ∨ p = 7
  · rcases h67 with rfl | rfl <;> simp [State.pageWrite, ringGuarded, ringHandler]
  · rw [State.pageWrite_header s w v h67 h14 (by decide) (by decide),
      pageHandler_header s w v hp (by omega) (by omega) h14 (fun h => absurd h h39) (by decide) (by decide)]
    · exact fun h1 h2 => by simpa using fun h => hopen (.inl ⟨h1, h2, h⟩)
    · exact fun h1 => by simpa using fun h => hopen (.inr ⟨h1, h⟩)

end

/-- Settles O9, from the path of a write of ERR and the two words that its rule leaves. -/
theorem errClearsTogether : Obligations.ErrClearsTogether := by
  intro s w p v a hwf hp ha hc hd hser hleg
  have hopen : ¬ s.pageClosed p := by
    rintro (⟨h1, h2, h⟩ | ⟨h1, h⟩)
    · simp [hser h1 h2] at h
    · simp [hleg h1] at h
  have herr := reg_hdrErr_err s p v hwf
  have hadr := reg_hdrErr_erradr s p v hwf
  have hwfe := wf_hdrErr s p v hwf
  refine ⟨s.errServed w p (hdrErr p v s), ?_, by simp, fun hcover hcode => ?_, fun hcover => ?_⟩
  · rw [exec_registerWrite, ha, writeAddr_page s w v hp (by decide) hc.live hd, State.pageWrite_err (hp.imp_right And.left) hc hopen]
  · have h0 : s.reg (pg p 6) &&& ~~~ (v &&& 0o17) = 0 := hcode ▸ (code_covered_iff _ _).mp hcover
    rw [h0, ← s.reg_errServed_header w p _ (by decide)] at herr
    rw [if_pos h0, ← s.reg_errServed_header w p _ (by decide)] at hadr
    refine ⟨herr, hadr, fun code off _ hlt hoff => ?_⟩
    obtain ⟨h6, h7⟩ := State.pageErr_first _ p (s.wf_errServed w p _ hwfe) (by rw [State.fld, herr]; rfl) hlt hoff
    exact ⟨h6, by rw [State.fld, h7, fieldOf_wordOf_low (by decide) hoff]⟩
  · have h0 : s.reg (pg p 6) &&& ~~~ (v &&& 0o17) ≠ 0 := fun h => hcover (code_covered_of_cleared h)
    rw [if_neg h0] at hadr
    exact ⟨(s.reg_errServed_header w p _ (by decide)).trans herr, (s.reg_errServed_header w p _ (by decide)).trans hadr⟩

end Sys2Proof.Machine
end

section
/-! SUPPORT. A register write whose checks pass: what its command ends in, by the code that the block gives (00 R16). -/

namespace Sys2Proof.Machine

section
variable {s : State} {w : Writer} {p wd c : Nat} {v : Word} {h : Handler}

/-- A write that passes the checks of 00 R16 and that its block's last check refuses records the code of that check. -/
theorem guarded_refused_extra (hc : s.Clear w p wd v) (h1 : h.state = 0) (h2 : h.range = true) (h3 : h.extra ≠ 0) :
    guarded w p wd v h s = s.recordRefusal w (some p) wd h.extra (pageAddr p wd) := by
  have hcode : writeRefusal w p wd v h s = h.extra := by simp [writeRefusal_of_clear h hc, h1, h2]
  rw [guarded_of_clear h hc, hcode, if_pos h3]

/-- The command of a write that its block accepts. -/
theorem done_guarded_clear (hc : s.Clear w p wd v) (h1 : h.state = 0) (h2 : h.range = true) (h3 : h.extra = 0) :
    done s (guarded w p wd v h s) = .next (settle s h.result) := by
  rw [guarded_clear hc h1 h2 h3, done]

/-- The command of a write that its block's state refuses. -/
theorem done_guarded_state (hc : s.Clear w p wd v) (h1 : h.state = c) (h0 : c ≠ 0) :
    done s (guarded w p wd v h s) = .next (settle s (s.recordRefusal w (some p) wd c (pageAddr p wd))) := by
  subst h1
  rw [guarded_refused hc h0, done]

/-- The command of a write that its block's last check refuses. -/
theorem done_guarded_extra (hc : s.Clear w p wd v) (h1 : h.state = 0) (h2 : h.range = true) (h3 : h.extra = c) (h0 : c ≠ 0) :
    done s (guarded w p wd v h s) = .next (settle s (s.recordRefusal w (some p) wd c (pageAddr p wd))) := by
  subst h3
  rw [guarded_refused_extra hc h1 h2 h0, done]

end

/-! ### The sixteen streams -/

theorem any_allStreams (f : Nat → Bool) : allStreams.any f = true ↔ ∃ n, n < 16 ∧ f n = true := by
  simp [allStreams]

theorem any_allStreams_eq_false (f : Nat → Bool) : allStreams.any f = false ↔ ∀ n, n < 16 → f n = false := by
  simp [allStreams]

end Sys2Proof.Machine
end

section
/-! SUPPORT. A write of FEEDn.CTRL (02 R49, R55, R57, R58, R75, R88). -/

namespace Sys2Proof.Machine

section
variable {s : State} {w : Writer} {p : Fin 8} {v : Word}

/-- The port is held by the personality, or a stream maps the port that the write disables, or GO comes outside LOCKED. -/
theorem feedCtrl_state : (feedCtrl w p v s).state = if p.val = 0 ∧ s.legacyHeld = true then eSTATE
    else if bitOf v 0 = false ∧ (allStreams.any fun n => s.maps n p.val) = true then eBUSY
    else if bitOf v 2 = true ∧ s.lane p.val ≠ 4 then eSTATE else 0 := rfl

theorem feedCtrl_state_held (h0 : p.val = 0) (hl : s.legacyHeld = true) : (feedCtrl w p v s).state = eSTATE := by
  rw [feedCtrl_state, if_pos ⟨h0, hl⟩]

theorem feedCtrl_state_open (hopen : p.val = 0 → s.legacyHeld = false) : (feedCtrl w p v s).state
    = if bitOf v 0 = false ∧ (allStreams.any fun n => s.maps n p.val) = true then eBUSY
      else if bitOf v 2 = true ∧ s.lane p.val ≠ 4 then eSTATE else 0 := by
  rw [feedCtrl_state, if_neg (by rintro ⟨h0, hl⟩; simp [hopen h0] at hl)]

theorem feedCtrl_state_unmapped (hopen : p.val = 0 → s.legacyHeld = false) (hfree : bitOf v 0 = false → ∀ n, n < 16 → s.maps n p.val = false) :
    (feedCtrl w p v s).state = if bitOf v 2 = true ∧ s.lane p.val ≠ 4 then eSTATE else 0 := by
  rw [feedCtrl_state_open hopen, if_neg]
  rintro ⟨hen, hmap⟩
  simp [(any_allStreams_eq_false _).mpr (hfree hen)] at hmap

theorem feedCtrl_extra : (feedCtrl w p v s).extra
    = if bitOf v 0 = true ∧ s.clockOk p.val (s.fmt p.val) (s.reg (fdKey p.val 17)).toNat = false then eCONFIG else 0 := rfl

/-- EN = 0 switches the lane off (R58). -/
theorem feedCtrl_result_off (hen : bitOf v 0 = false) : (feedCtrl w p v s).result
    = ((s.plain w (20 + p.val) 2 v).setLane p 0).setFeed p { s.feed p with goArmed := false, timerOn := false, confirming := false } := by
  simp [feedCtrl, hen]

/-- EN = 1 arms GO (R57) and starts training (R55) as the bits ask. -/
theorem feedCtrl_result_on {x : State} (hen : bitOf v 0 = true) (hx : x = if bitOf v 2 then
      (s.plain w (20 + p.val) 2 v).setFeed p { s.feed p with goArmed := true } else s.plain w (20 + p.val) 2 v) :
    (feedCtrl w p v s).result = if bitOf v 1 then
      (x.setLane p 1).setFeed p { x.feed p with timerOn := true, goArmed := false, confirming := false } else x := by
  have hfeed : (s.plain w (20 + p.val) 2 v).feed p = s.feed p := rfl
  simp [feedCtrl, hen, hfeed, hx]

/-- The four commands of CTRL are writes of its word with one bit forced. -/
theorem exec_feedCtrl {u : Word} {row : Instr} (hrow : (row, u) ∈ [(Instr.feedEnable w p v, forceBit v 0 true),
      (.feedDisable w p v, forceBit v 0 false), (.laneTrain w p v, forceBit v 1 true), (.laneGo w p v, forceBit v 2 true)]) :
    exec row s = done s (guarded w (20 + p.val) 2 u (feedCtrl w p u s) s) := by
  simp only [List.mem_cons, List.not_mem_nil, or_false, Prod.mk.injEq] at hrow
  rcases hrow with ⟨rfl, rfl⟩ | ⟨rfl, rfl⟩ | ⟨rfl, rfl⟩ | ⟨rfl, rfl⟩ <;> rfl

end

/-- Settles O12: the checks of CTRL in their order, then the effect of its bits. -/
theorem feedCtrlCommandsRun : Obligations.FeedCtrlCommandsRun := by
  intro s w p v u row refuse t x hrow hc hrefuse ht hx
  subst ht
  rw [exec_feedCtrl hrow]
  have hstate : ∀ c, (feedCtrl w p u s).state = c → c ≠ 0 → done s (guarded w (20 + p.val) 2 u (feedCtrl w p u s) s) = refuse c :=
    fun c h h0 => (done_guarded_state hc h h0).trans (hrefuse c).symm
  refine ⟨fun h0 hl => hstate _ (feedCtrl_state_held h0 hl) (by decide), fun hopen => ⟨fun hen hmap => ?_, fun hfree => ?_⟩⟩
  · exact hstate _ (by rw [feedCtrl_state_open hopen, if_pos ⟨hen, (any_allStreams _).mpr hmap⟩]) (by decide)
  have hgo := feedCtrl_state_unmapped (w := w) hopen hfree
  refine ⟨fun h2 hlane => hstate _ (by rw [hgo, if_pos ⟨h2, hlane⟩]) (by decide), fun hlocked => ?_⟩
  rw [if_neg (fun h => h.2 (hlocked h.1))] at hgo
  refine ⟨fun hen => ?_, fun hen hclock => ?_, fun hen hclock => ?_⟩
  · rw [done_guarded_clear hc hgo rfl (by simp [feedCtrl_extra, hen]), feedCtrl_result_off hen]
  · rw [hrefuse, done_guarded_extra hc hgo rfl (by rw [feedCtrl_extra, if_pos ⟨hen, hclock⟩]) (by decide)]
  · rw [done_guarded_clear hc hgo rfl (by simp [feedCtrl_extra, hclock]), feedCtrl_result_on hen hx]

end Sys2Proof.Machine
end

section
/-! SUPPORT. Lane training, lane words and the loss of a clock (02 R55 to R58, R60, R88; 10 R360). -/

namespace Sys2Proof.Machine

section
variable (s : State) (p : Fin 8)

/-! ### The events of training -/

/-- The end of the count of step 2 sends a lane in WAITCLK on, or to FAIL. -/
theorem exec_waitclkCountDone (ok : Bool) : exec (.waitclkCountDone p ok) s
    = .next (settle s (if s.lane p.val = 1 then (if ok then s.setLane p 2 else s.laneFail p eCONFIG) else s)) := rfl

theorem exec_waitclkGap : exec (.waitclkGap p) s = .next (settle s (if s.lane p.val = 1 then s.setLane p 1 else s)) := rfl

/-- The end of the sweep answers in SWEEP only: the delay step that the tests choose, or FAIL. -/
theorem exec_sweepDone_some {ok : BitVec 64} {d : Nat} (hlane : s.lane p.val = 2) (hd : chooseStep ok = some d) :
    exec (.sweepDone p ok) s = .next (settle s (((s.setF (fdKey p.val 3) 11 6 d).setLane p 3).setFeed p
      { s.feed p with wordCnt := 0, rotCand := 255, confirming := false })) := by
  change execSweepDone p ok s = _
  simp only [execSweepDone, done, if_pos hlane, hd]

theorem exec_sweepDone_none {ok : BitVec 64} (hlane : s.lane p.val = 2) (hd : chooseStep ok = none) :
    exec (.sweepDone p ok) s = .next (settle s (s.laneFail p eTIMEOUT)) := by
  change execSweepDone p ok s = _
  simp only [execSweepDone, done, if_pos hlane, hd]

theorem exec_sweepDone_idle {ok : BitVec 64} (hlane : s.lane p.val ≠ 2) : exec (.sweepDone p ok) s = .next (settle s s) := by
  change execSweepDone p ok s = _
  rw [execSweepDone, if_neg hlane, done]

theorem exec_alignDone : exec (.alignDone p) s = .next (settle s
    (if s.lane p.val = 3 ∧ (s.feed p).confirming = false ∧ 64 ≤ (s.feed p).wordCnt then
      (s.setF (fdKey p.val 3) 5 3 (lowBit (s.feed p).rotCand)).setFeed p { s.feed p with confirming := true, wordCnt := 0 }
    else s)) := rfl

theorem exec_trainConfirmDone : exec (.trainConfirmDone p) s = .next (settle s
    (if s.lane p.val = 3 ∧ (s.feed p).confirming = true ∧ 1024 ≤ (s.feed p).wordCnt then
      ((s.setLane p 4).setFeed p { s.feed p with
        confirming := false, timerOn := false
        goArmed := decide (p.val = 0) && s.legacyDual && s.bit (pg lwinPage 0o30) 17 }).raise (20 + p.val) 0
    else s)) := rfl

theorem exec_trainTimeout : exec (.trainTimeout p) s
    = .next (settle s (if (s.feed p).timerOn then s.laneFail p eTIMEOUT else s)) := rfl

/-- The loss of a clock takes both ports of the pair down (R58). -/
theorem exec_clockLoss (m : Fin 4) : exec (.clockLoss m) s
    = .next (settle s ((s.portDown ⟨2 * m.val, by omega⟩).portDown ⟨2 * m.val + 1, by omega⟩)) := rfl

/-! ### A lane word, by the state of its lane -/

variable {s : State} {p : Fin 8} (b : BitVec 8)

theorem exec_laneWord_align (hlane : s.lane p.val = 3) (hconf : (s.feed p).confirming = false) :
    exec (.laneWord p b) s = .next (settle s (State.captureAll
      (if (s.feed p).rotCand &&& matchRot (trainPattern (s.fmt p.val)) b = 0 then
        (s.setLane p 2).setFeed p { s.feed p with wordCnt := 0, rotCand := 255 }
      else s.setFeed p { s.feed p with wordCnt := (s.feed p).wordCnt + 1
                                       rotCand := (s.feed p).rotCand &&& matchRot (trainPattern (s.fmt p.val)) b }))) := by
  change execLaneWord p b s = _
  simp only [execLaneWord, done, if_pos (And.intro hlane hconf)]

theorem exec_laneWord_confirm (hlane : s.lane p.val = 3) (hconf : (s.feed p).confirming = true) :
    exec (.laneWord p b) s = .next (settle s (State.captureAll
      (if b = trainPattern (s.fmt p.val) then s.setFeed p { s.feed p with wordCnt := (s.feed p).wordCnt + 1 }
      else (s.setLane p 2).setFeed p { s.feed p with wordCnt := 0, rotCand := 255, confirming := false }))) := by
  change execLaneWord p b s = _
  simp [execLaneWord, done, hlane, hconf]

theorem exec_laneWord_locked (hlane : s.lane p.val = 4) :
    exec (.laneWord p b) s = .next (settle s (State.captureAll
      (if b = trainPattern (s.fmt p.val) then s
      else if (s.feed p).goArmed then
        if s.carries p then ((s.setLane p 5).setFeed p { s.feed p with goArmed := false }).dataWord p b
        else (s.setLane p 5).setFeed p { s.feed p with goArmed := false }
      else s.laneFail p 0))) := by
  change execLaneWord p b s = _
  simp [execLaneWord, done, hlane]

theorem exec_laneWord_data (hlane : s.lane p.val = 5) :
    exec (.laneWord p b) s = .next (settle s (State.captureAll (if s.carries p then s.dataWord p b else s))) := by
  change execLaneWord p b s = _
  simp [execLaneWord, done, hlane]

theorem exec_laneWord_idle (h3 : s.lane p.val ≠ 3) (h4 : s.lane p.val ≠ 4) (h5 : s.lane p.val ≠ 5) :
    exec (.laneWord p b) s = .next (settle s s.captureAll) := by
  change execLaneWord p b s = _
  simp [execLaneWord, done, h3, h4, h5]

/-- A port carries no samples when LEGACY gives them to SP0 alone (R88). -/
theorem ite_carries {α : Type} (x y : α) :
    (if s.carries p then x else y) = if s.pins.persona = .legacy ∧ p.val ≠ 0 then y else x := by
  have hcarries : s.carries p = true ↔ ¬ (s.pins.persona = .legacy ∧ p.val ≠ 0) := by
    simp [State.carries, or_iff_not_imp_left]
  by_cases h : s.pins.persona = .legacy ∧ p.val ≠ 0
  · rw [if_pos h, if_neg (fun hx => hcarries.mp hx h)]
  · rw [if_neg h, if_pos (hcarries.mpr h)]

end

/-- Settles O13: each event by the state of the lane that it meets. -/
theorem laneEventsRun : Obligations.LaneEventsRun := by
  refine ⟨fun s p x hx => ?_, fun s p b pat m x ends hx hpat hm hends => ?_⟩
  · subst hx
    refine ⟨fun h1 => ?_, fun h1 ok => ?_, fun ok => ⟨fun d h2 hd => exec_sweepDone_some s p h2 hd, fun h2 hd => exec_sweepDone_none s p h2 hd,
      fun h2 => exec_sweepDone_idle s p h2⟩, fun h3 hconf hcnt => ?_, fun hnot => ?_, fun h3 hconf hcnt => ?_, fun hnot => ?_,
      exec_trainTimeout s p, fun k down hdown => ?_⟩
    · simp [exec_waitclkCountDone, exec_waitclkGap, h1]
    · simp [exec_waitclkCountDone, exec_waitclkGap, h1]
    · rw [exec_alignDone, if_pos ⟨h3, hconf, hcnt⟩]
    · rw [exec_alignDone, if_neg]
      rintro ⟨h3, hconf, hcnt⟩
      simp [h3, hconf, Nat.not_lt.mpr hcnt] at hnot
    · rw [exec_trainConfirmDone, if_pos ⟨h3, hconf, hcnt⟩]
    · rw [exec_trainConfirmDone, if_neg]
      rintro ⟨h3, hconf, hcnt⟩
      simp [h3, hconf, Nat.not_lt.mpr hcnt] at hnot
    · have hport : down = State.portDown := funext₂ hdown
      rw [exec_clockLoss, hport]
  · subst hx hpat hm
    refine ⟨fun h3 hconf => ?_, fun h3 hconf => ?_, fun t ht h4 => ⟨fun hb => ?_, fun hb hgo => ?_, fun hb hgo => ?_⟩, fun h5 => ?_,
      fun h3 h4 h5 => ?_⟩
    · rw [exec_laneWord_align b h3 hconf, hends]
    · rw [exec_laneWord_confirm b h3 hconf, hends]
    · rw [exec_laneWord_locked b h4, if_pos hb, hends]
    · rw [exec_laneWord_locked b h4, if_neg hb, if_pos hgo, ite_carries, hends, ht]
    · rw [exec_laneWord_locked b h4, if_neg hb, if_neg (by simp [hgo]), hends]
    · rw [exec_laneWord_data b h5, ite_carries, hends]
    · rw [exec_laneWord_idle b h3 h4 h5, hends]

end Sys2Proof.Machine
end

section
/-! SUPPORT. The loops of the Feed: notches, blanker, sub-streams, clock gate and gain control (02 R59, R65, R68, R70, R85). -/

namespace Sys2Proof.Machine

section
variable {s : State} {w : Writer} {p : Fin 8} {v : Word}

theorem exec_notchAdapt (k : Fin 4) : exec (.notchAdapt p k) s = .next (settle s
    (if 2 ≤ s.fld (fdKey p.val (23 + 3 * k.val)) 17 16 ∧ 2 ^ s.fld (fdKey p.val (23 + 3 * k.val)) 7 4 ≤ (s.feed p).notch[k.val].n then
      (s.setReg (fdKey p.val (24 + 3 * k.val))
        (if 0 < notchG s p.val k.val (s.feed p).notch[k.val] then
          s.reg (fdKey p.val (24 + 3 * k.val)) + wordOf (2 ^ s.fld (fdKey p.val (23 + 3 * k.val)) 11 8)
        else if notchG s p.val k.val (s.feed p).notch[k.val] < 0 then
          s.reg (fdKey p.val (24 + 3 * k.val)) - wordOf (2 ^ s.fld (fdKey p.val (23 + 3 * k.val)) 11 8)
        else s.reg (fdKey p.val (24 + 3 * k.val)))).setFeed p
          { s.feed p with notch := (s.feed p).notch.set k.val { (s.feed p).notch[k.val] with n := 0 } }
    else s)) := rfl

theorem exec_blankerLimit : exec (.blankerLimit p) s = .next (settle s
    (if s.bit (fdKey p.val 35) 17 = true ∧ (s.feed p).blkStop = false ∧ s.fld (fdKey p.val 36) 17 10
        * ((s.reg (fdKey p.val 17)).toNat / (if isReal (s.fmt p.val) then 2 else 1)) ≤ (s.feed p).blkHits * 256 then
      ((s.setFeed p { s.feed p with blkStop := true }).setB (fdKey p.val 37) 17 true).raise (20 + p.val) 5
    else s)) := rfl

theorem exec_substreamFreqWrite (sub : Fin 2) : exec (.substreamFreqWrite w p sub v) s
    = done s (guarded w (20 + p.val) (39 + 4 * sub.val) v (feedWord w p (39 + 4 * sub.val) v s) s) := rfl

/-- A write of the low word of a frequency (R70): refused where the personality holds the port, else the frequency of both words waits. -/
theorem feedWord_freq (w : Writer) (p : Fin 8) (sub : Fin 2) (v : Word) (s : State) : feedWord w p (39 + 4 * sub.val) v s
    = ⟨if p.val = 0 ∧ s.legacyHeld = true then eSTATE else 0, true, 0,
      (s.plain w (20 + p.val) (39 + 4 * sub.val) v).setFeed p { s.feed p with sub := (s.feed p).sub.set sub.val { (s.feed p).sub[sub.val] with
        fPend := some (BitVec.ofNat 36 ((s.reg (fdKey p.val (38 + 4 * sub.val))).toNat * 262144 + v.toNat)) } }⟩ := by
  fin_cases sub <;> rfl

end

/-- Settles O14, by the meaning of each event and the rule of a frequency's low word. -/
theorem feedLoopsRun : Obligations.FeedLoopsRun := by
  intro s p
  refine ⟨fun k g th d hmode hcnt hg hth hd => ?_, fun k hnot => ?_, fun spf hen hrun hspf hlimit => ?_, fun spf hspf hnot => ?_,
    fun w sub v hc hopen => ?_, fun w sub v hc hheld => ?_, fun m n => rfl,
    fun occ tgt hyst duty gain want got t hauto hocc htgt hhyst hduty hgain hwant hgot ht => ?_, fun hmode => ?_⟩
  · subst hg hth hd
    rw [exec_notchAdapt, if_pos ⟨hmode, hcnt⟩]
  · rw [exec_notchAdapt, if_neg (by omega)]
  · subst hspf
    rw [exec_blankerLimit, if_pos ⟨hen, hrun, hlimit⟩]
  · subst hspf
    rw [exec_blankerLimit, if_neg]
    rintro ⟨hen, hrun, hlimit⟩
    simp [hen, hrun, Nat.not_lt.mpr hlimit] at hnot
  · have hfree : ¬ (p.val = 0 ∧ s.legacyHeld = true) := by
      rintro ⟨h0, hl⟩
      simp [hopen h0] at hl
    rw [exec_substreamFreqWrite, feedWord_freq, done_guarded_clear hc (if_neg hfree) rfl rfl]
  · rw [exec_substreamFreqWrite, feedWord_freq]
    exact done_guarded_state hc (if_pos ⟨rfl, hheld⟩) (by decide)
  · subst hocc htgt hhyst hduty hgain hwant hgot ht
    change execAgcUpdate p s = _
    rw [execAgcUpdate, if_pos hauto, done]
  · change execAgcUpdate p s = _
    rw [execAgcUpdate, if_neg hmode, done]

end Sys2Proof.Machine
end

section
/-! SUPPORT. The ROUTE page: the SPI for the RF parts, the streams and the records of the spectrum monitors (02 R75 to R88). -/

namespace Sys2Proof.Machine

/-! ### The RF control SPI -/

section
variable {s : State} {w : Writer} {v : Word} {wd : Nat}

/-- Words of ROUTE that a running transfer holds (R87). -/
theorem routeHandler_state_busy (hbusy : s.bit (pg 28 3) 0 = true) (hwd : wd = 2 ∧ bitOf v 1 = true ∨ 43 ≤ wd ∧ wd ≤ 48) :
    (routeHandler w wd v s).state = eBUSY := by
  rcases hwd with ⟨rfl, hgo⟩ | ⟨hlo, hhi⟩
  · simp [routeHandler, hbusy, hgo]
  · simp [routeHandler, hbusy, hlo, hhi, show wd ≠ 2 by omega, show ¬ wd < 32 by omega]

/-- RFGO starts a transfer: the chip select goes low, and the bits go out at once unless the peripheral is to become ready first (R86). -/
theorem routeHandler_go (hgo : bitOf v 1 = true) (hidle : s.bit (pg 28 3) 0 = false) : routeHandler w 2 v s
    = ⟨0, true, 0, { (s.plain w 28 2 v).setB (pg 28 3) 0 true with
        rf := ⟨s.bit (pg 28 43) 13, some (Fin.ofNat 4 (s.fld (pg 28 43) 17 16)), Fin.ofNat 4 (s.fld (pg 28 43) 15 14),
          if s.bit (pg 28 43) 13 then [] else s.rfBits⟩ }⟩ := by
  simp [routeHandler, hgo, hidle]

theorem exec_rfspiTransfer : exec (.rfspiTransfer w v) s
    = done s (guarded w 28 2 (forceBit v 1 true) (routeHandler w 2 (forceBit v 1 true) s) s) := rfl

theorem State.pageWrite_route (s : State) (w : Writer) (wd : Nat) (v : Word) :
    s.pageWrite w 28 wd v = guarded w 28 wd v (routeHandler w wd v s) s := rfl

end

section
variable (s : State)

theorem exec_rfspiReady : exec .rfspiReady s
    = .next (settle s (if s.rf.waiting then { s with rf := { s.rf with waiting := false, out := s.rfBits } } else s)) := rfl

theorem exec_rfspiReadyTimeout : exec .rfspiReadyTimeout s = .next (settle s (if s.rf.waiting then
    ((s.rfIdle.setB (pg 28 3) 0 false).raise 28 1).pageErr 28 eTIMEOUT 2 else s)) := rfl

/-- The received bits stand in RFRX0 to RFRX3, the unused ones at 0 (R86). -/
theorem exec_rfspiDone (rx : BitVec 64) {n x : Nat} (hn : n = s.fld (pg 28 43) 5 0 + 1)
    (hx : x = rx.toNat / 2 ^ (64 - n) * 2 ^ (64 - n) * 256) : exec (.rfspiDone rx) s
    = .next (settle s (if s.bit (pg 28 3) 0 = true ∧ s.rf.waiting = false then
        ((s.rfIdle.setRegs (pg 28 49) [wordOf (x / 2 ^ 54), wordOf (x / 2 ^ 36), wordOf (x / 2 ^ 18), wordOf x]).setB (pg 28 3) 0 false).raise 28 0
      else s)) := by
  subst hn hx
  rfl

end

/-- Settles O16: a running transfer holds the words, by whichever path they are written. -/
theorem rfspiWaitsForTheTransfer : Obligations.RfspiWaitsForTheTransfer := by
  intro s w v wd a hbusy hc hwin hwd ha
  have hrefused := done_guarded_state hc (routeHandler_state_busy (w := w) hbusy hwd) (by decide)
  refine ⟨?_, fun u h2 hv => ?_⟩
  · rw [exec_registerWrite, ha, writeAddr_page s w v (by decide) (by omega) hc.live hwin, State.pageWrite_route, ← done, hrefused]
  · subst h2 hv
    rw [exec_rfspiTransfer, hrefused]

/-! ### Streams -/

section
variable {s : State} {w : Writer} {n : Fin 16} {v : Word}

theorem smapHandler_state_held (h0 : n.val = 0) (hl : s.legacyHeld = true) : (smapHandler w n v s).state = eSTATE :=
  if_pos ⟨h0, hl⟩

/-- A stream that the personality leaves open keeps its enable while it is used, and its path while it is enabled (R75, R79). -/
theorem smapHandler_state_open (hopen : n.val = 0 → s.legacyHeld = false) : (smapHandler w n v s).state
    = if s.bit (smapKey n.val) 17 = true ∧ bitOf v 17 = false ∧ s.streamUsed n.val = true then eBUSY
      else if s.bit (smapKey n.val) 17 = true
        ∧ (fieldOf v 3 1 ≠ s.fld (smapKey n.val) 3 1 ∨ fieldOf v 0 0 ≠ s.fld (smapKey n.val) 0 0) then eSTATE else 0 :=
  if_neg fun ⟨h0, hl⟩ => by simp [hopen h0] at hl

theorem smapHandler_extra : (smapHandler w n v s).extra
    = if s.bit (smapKey n.val) 17 = false ∧ bitOf v 17 = true
        ∧ ((allStreams.any fun m => m != n.val && s.mapsPath m (fieldOf v 3 1) (fieldOf v 0 0)) = true
          ∨ 65536 < (s.reg (pg 28 33)).toNat + s.unitsOf (fieldOf v 3 1) (fieldOf v 0 0)) then eCONFIG else 0 := rfl

theorem smapHandler_extra_enabled (hwas : s.bit (smapKey n.val) 17 = true) : (smapHandler w n v s).extra = 0 := by
  simp [smapHandler_extra, hwas]

theorem any_mapsPath (s : State) (n p q : Nat) : (allStreams.any fun m => m != n && s.mapsPath m p q) = true
    ↔ ∃ m, m < 16 ∧ m ≠ n ∧ s.mapsPath m p q = true := by
  simp only [any_allStreams, Bool.and_eq_true, bne_iff_ne]

/-- An enable is refused where another stream maps the path or the buffer has too few units left (R75, R76). -/
theorem smapHandler_extra_refused (hwas : s.bit (smapKey n.val) 17 = false) (hen : bitOf v 17 = true)
    (hbad : (∃ m, m < 16 ∧ m ≠ n.val ∧ s.mapsPath m (fieldOf v 3 1) (fieldOf v 0 0) = true)
      ∨ 65536 < (s.reg (pg 28 33)).toNat + s.unitsOf (fieldOf v 3 1) (fieldOf v 0 0)) : (smapHandler w n v s).extra = eCONFIG := by
  rw [smapHandler_extra, if_pos ⟨hwas, hen, hbad.imp_left (any_mapsPath ..).mpr⟩]

theorem smapHandler_extra_free (hfree : ∀ m, m < 16 → m ≠ n.val → s.mapsPath m (fieldOf v 3 1) (fieldOf v 0 0) = false)
    (hroom : (s.reg (pg 28 33)).toNat + s.unitsOf (fieldOf v 3 1) (fieldOf v 0 0) ≤ 65536) : (smapHandler w n v s).extra = 0 := by
  rw [smapHandler_extra, if_neg]
  rintro ⟨-, -, hmapped | hfull⟩
  · obtain ⟨m, hm, hne, hmaps⟩ := (any_mapsPath ..).mp hmapped
    simp [hfree m hm hne] at hmaps
  · omega

theorem smapHandler_result_unchanged (h : bitOf v 17 = s.bit (smapKey n.val) 17) :
    (smapHandler w n v s).result = s.plain w 28 (16 + n.val) v := by
  cases hwas : s.bit (smapKey n.val) 17 <;> simp [smapHandler, h, hwas]

theorem smapHandler_result_enable (hwas : s.bit (smapKey n.val) 17 = false) (hen : bitOf v 17 = true) : (smapHandler w n v s).result
    = { (s.plain w 28 (16 + n.val) v).setReg (pg 28 33)
          (wordOf ((s.reg (pg 28 33)).toNat + s.unitsOf (fieldOf v 3 1) (fieldOf v 0 0))) with
        streams := s.streams.set n.val { Stream.reset with
          next := s.streams[n.val].next, units := s.unitsOf (fieldOf v 3 1) (fieldOf v 0 0), zeroAt := s.time.ns } } := by
  simp [smapHandler, hwas, hen]

theorem smapHandler_result_disable (hwas : s.bit (smapKey n.val) 17 = true) (hen : bitOf v 17 = false) : (smapHandler w n v s).result
    = { ((s.plain w 28 (16 + n.val) v).setValid n.val false).setReg (pg 28 33)
          (wordOf ((s.reg (pg 28 33)).toNat - s.streams[n.val].units)) with
        streams := s.streams.set n.val { Stream.reset with next := s.streams[n.val].next } } := by
  simp [smapHandler, hwas, hen]

/-- The two commands of SMAPn are writes of its word with EN forced. -/
theorem exec_smap {u : Word} {row : Instr}
    (hrow : (row, u) ∈ [(Instr.streamEnable w n v, forceBit v 17 true), (.streamDisable w n v, forceBit v 17 false)]) :
    exec row s = done s (guarded w 28 (16 + n.val) u (smapHandler w n u s) s) := by
  simp only [List.mem_cons, List.not_mem_nil, or_false, Prod.mk.injEq] at hrow
  rcases hrow with ⟨rfl, rfl⟩ | ⟨rfl, rfl⟩ <;> rfl

/-- A write of the word of an enabled stream: refused while it is used or where it names another path, else taken. -/
theorem done_smap_enabled (hc : s.Clear w 28 (16 + n.val) v) (hopen : n.val = 0 → s.legacyHeld = false)
    (hwas : s.bit (smapKey n.val) 17 = true) : done s (guarded w 28 (16 + n.val) v (smapHandler w n v s) s)
    = .next (settle s (if bitOf v 17 = false ∧ s.streamUsed n.val = true then
          s.recordRefusal w (some 28) (16 + n.val) eBUSY (pageAddr 28 (16 + n.val))
        else if fieldOf v 3 1 ≠ s.fld (smapKey n.val) 3 1 ∨ fieldOf v 0 0 ≠ s.fld (smapKey n.val) 0 0 then
          s.recordRefusal w (some 28) (16 + n.val) eSTATE (pageAddr 28 (16 + n.val))
        else (smapHandler w n v s).result)) := by
  have hstate := smapHandler_state_open (w := w) (v := v) hopen
  simp only [hwas, true_and] at hstate
  split
  next hused => exact done_guarded_state hc (by rw [hstate, if_pos hused]) (by decide)
  next hused =>
    rw [if_neg hused] at hstate
    split
    next hmoved => exact done_guarded_state hc (by rw [hstate, if_pos hmoved]) (by decide)
    next hmoved => exact done_guarded_clear hc (by rw [hstate, if_neg hmoved]) rfl (smapHandler_extra_enabled hwas)

end

/-! ### Spectrum records -/

section
variable {s : State} (m : Fin 8) (t0 : BitVec 16)

/-- The blocks at hand become a record in the monitor's ring, or are dropped (R82). -/
theorem exec_spectrumRecordTick_due {b : Nat × List Rat} {r : Nat} {t : State} (hon : s.bit (spcKey m.val) 17 = true)
    (hb : (s.feed m).spec.done = some b) (hr : r = s.fld (spcKey m.val + 1) 5 0)
    (ht : t = s.setFeed m { s.feed m with spec := { (s.feed m).spec with done := none } }) :
    exec (.spectrumRecordTick m true t0) s = .next (settle s
      (if s.prodIs r 13 = true ∧ 1032 ≤ s.ringRoom r ∧ s.domOn 2 = true then
        ((t.ringPut r (s.specRecord m.val ((b.1 + t0.toNat) % 2 ^ 64, b.2))).setReg (spcKey m.val + 2)
          (s.reg (spcKey m.val + 2) + 1)).raise 29 m.val
      else ((if s.domOn 2 then t else t.unitFails 29).incSat (spcKey m.val + 3)).raise 29 (8 + m.val))) := by
  subst hr ht
  change execSpectrumRecordTick m true t0 s = _
  simp only [execSpectrumRecordTick, done, hon, hb, Bool.and_true]

/-- A tick of a monitor that is off, or that has no set of blocks at hand, does nothing. -/
theorem exec_spectrumRecordTick_idle {blocksDone : Bool}
    (h : s.bit (spcKey m.val) 17 = false ∨ blocksDone = false ∨ (s.feed m).spec.done = none) :
    exec (.spectrumRecordTick m blocksDone t0) s = .next (settle s s) := by
  change execSpectrumRecordTick m blocksDone t0 s = _
  rw [execSpectrumRecordTick]
  rcases h with hoff | hearly | hnone
  · simp only [hoff, Bool.false_and, done]
  · simp only [hearly, Bool.and_false, done]
  · cases s.bit (spcKey m.val) 17 && blocksDone <;> simp only [hnone, done]

end

/-- Settles O15: a write of SMAPn by the stream's enable, the SPI by its state, a record by what stands in its way. -/
theorem streamAndRfCommandsRun : Obligations.StreamAndRfCommandsRun := by
  intro s w v
  refine ⟨fun n u row refuse t moved need hrow hc hrefuse ht hmoved hneed => ?_, fun u hu hc => ?_, fun hwait => ?_, fun hwait => ?_,
    fun rx n x hbusy hwait hn hx => ?_, fun rx hnot => ?_, fun m t0 b r t hon hb hr ht => ?_,
    fun m blocksDone t0 hnot => exec_spectrumRecordTick_idle m t0 hnot⟩
  · subst ht hneed
    rw [exec_smap hrow]
    refine ⟨fun h0 hl => ?_, fun hopen => ⟨fun hwas => ?_, fun hwas => ?_⟩⟩
    · rw [hrefuse, done_guarded_state hc (smapHandler_state_held h0 hl) (by decide)]
    · rw [done_smap_enabled hc hopen hwas]
      refine ⟨fun hen hused => ?_, fun hused hmv => ?_, fun hen hmv => ?_, fun hen hused hmv => ?_⟩
      · rw [if_pos ⟨hen, hused⟩, hrefuse]
      · rw [if_neg (fun h => by simp [hused h.1] at h), if_pos (hmoved.mp hmv), hrefuse]
      · rw [if_neg (by simp [hen]), if_neg (fun h => hmv (hmoved.mpr h)), smapHandler_result_unchanged (hen.trans hwas.symm)]
      · rw [if_neg (by simp [hused]), if_neg (fun h => hmv (hmoved.mpr h)), smapHandler_result_disable hwas hen]
    · have hstate : (smapHandler w n u s).state = 0 := by simp [smapHandler_state_open hopen, hwas]
      refine ⟨fun hen => ?_, fun hen hbad => ?_, fun hen hfree hroom => ?_⟩
      · rw [done_guarded_clear hc hstate rfl (by simp [smapHandler_extra, hen]), smapHandler_result_unchanged (hen.trans hwas.symm)]
      · rw [hrefuse, done_guarded_extra hc hstate rfl (smapHandler_extra_refused hwas hen hbad) (by decide)]
      · rw [done_guarded_clear hc hstate rfl (smapHandler_extra_free hfree hroom), smapHandler_result_enable hwas hen]
  · subst hu
    have hgo : bitOf (forceBit v 1 true) 1 = true := bitOf_forceBit v 1 true (by decide)
    refine ⟨fun hbusy => ?_, fun hidle => ?_⟩
    · rw [exec_rfspiTransfer, done_guarded_state hc (routeHandler_state_busy hbusy (.inl ⟨rfl, hgo⟩)) (by decide)]
    · rw [exec_rfspiTransfer, routeHandler_go hgo hidle, done_guarded_clear hc rfl rfl rfl]
  · rw [exec_rfspiReady, exec_rfspiReadyTimeout, if_pos hwait, if_pos hwait]
    exact ⟨rfl, rfl⟩
  · rw [exec_rfspiReady, exec_rfspiReadyTimeout, if_neg (by simp [hwait]), if_neg (by simp [hwait])]
    exact ⟨rfl, rfl⟩
  · rw [exec_rfspiDone s rx hn hx, if_pos ⟨hbusy, hwait⟩]
  · rw [exec_rfspiDone s rx rfl rfl, if_neg]
    rintro ⟨hbusy, hwait⟩
    simp [hbusy, hwait] at hnot
  · rw [exec_spectrumRecordTick_due m t0 hon hb hr ht]
    refine ⟨fun hprod hroom hdom => ?_, fun hring hdom => ?_, fun hdom => ?_⟩
    · rw [if_pos ⟨hprod, hroom, hdom⟩]
    · rw [if_neg, if_pos hdom]
      rintro ⟨hprod, hroom, -⟩
      simp [hprod, Nat.not_lt.mpr hroom] at hring
    · rw [if_neg (by simp [hdom]), if_neg (by simp [hdom])]

end Sys2Proof.Machine
end

section
/-! SUPPORT. The EXMP page and the code memory: programs, region descriptors, the retarget, TMBL and code words (03 R101 to R113). -/

namespace Sys2Proof.Machine

/-! ### The word of a program that holds VALID (R101) -/

section
variable {s : State} {w : Writer} {p : Nat} {v : Word}

/-- Programs 30 and 31 are held in LEGACY and DUAL; any other program can be made valid while it is not. -/
theorem programHandler_state_validate (hopen : s.legacyDual = true → p < 30) (hwas : s.lpValid p = false) (hen : bitOf v 17 = true) :
    (programHandler w p 0 v s).state = 0 := by
  have hheld : ¬ (s.legacyDual = true ∧ 30 ≤ p) := fun h => absurd (hopen h.1) (Nat.not_lt.mpr h.2)
  simp [programHandler, hheld, hwas, hen]

/-- A program that channels use stays valid. -/
theorem programHandler_state_invalidate (hopen : s.legacyDual = true → p < 30) (hen : bitOf v 17 = false) :
    (programHandler w p 0 v s).state = if 0 < s.puse p then eBUSY else 0 := by
  have hheld : ¬ (s.legacyDual = true ∧ 30 ≤ p) := fun h => absurd (hopen h.1) (Nat.not_lt.mpr h.2)
  simp [programHandler, hheld, hen]

theorem programHandler_extra_validate (hok : s.programOk p (fieldOf v 16 15) (fieldOf v 11 6) (fieldOf v 5 0) = true) :
    (programHandler w p 0 v s).extra = 0 := by
  simp [programHandler, hok]

theorem programHandler_extra_invalidate (hen : bitOf v 17 = false) : (programHandler w p 0 v s).extra = 0 := by
  simp [programHandler, hen]

/-- A change of VALID empties the cache (06 R203). -/
theorem programHandler_result_changed (h : s.lpValid p ≠ bitOf v 17) :
    (programHandler w p 0 v s).result = (s.plain w 39 (32 + 12 * p) v).dropCache := by
  simp [programHandler, h]

end

/-- The two commands of a program's first word are writes of it with VALID forced. -/
theorem exec_programWord {s : State} {w : Writer} {p : Fin 32} {v u : Word} {row : Instr}
    (hrow : (row, u) ∈ [(Instr.programValidate w p v, forceBit v 17 true), (.programInvalidate w p v, forceBit v 17 false)]) :
    exec row s = done s (guarded w 39 (32 + 12 * p.val) u (programHandler w p.val 0 u s) s) := by
  simp only [List.mem_cons, List.not_mem_nil, or_false, Prod.mk.injEq] at hrow
  rcases hrow with ⟨rfl, rfl⟩ | ⟨rfl, rfl⟩ <;> rfl

/-! ### The word of a region descriptor that holds VALID (R104) -/

section
variable {s : State} {w : Writer} {r : Nat} {v : Word}

theorem regionHandler_state_validate (hwas : s.rdValid r = false) (hen : bitOf v 17 = true) : (regionHandler w r 0 v s).state = 0 := by
  simp [regionHandler, hwas, hen]

/-- A region that channels use stays valid. -/
theorem regionHandler_state_invalidate (hen : bitOf v 17 = false) :
    (regionHandler w r 0 v s).state = if 0 < s.ruse r then eBUSY else 0 := by
  simp [regionHandler, hen]

/-- LEN fits the stride, and the codes fit the code memory. -/
theorem regionHandler_extra_validate {len stride : Nat} (hlen : len = fieldOf v 15 12 * 262144 + (s.reg (rdKey r 3)).toNat)
    (hstride : stride = s.fld (rdKey r 2) 14 0) (hpos : 1 ≤ len) (hfits : len ≤ stride * 256)
    (hroom : s.fld (rdKey r 1) 14 0 + (fieldOf v 7 0 + 1) * stride ≤ 32768) : (regionHandler w r 0 v s).extra = 0 := by
  subst hlen hstride
  refine if_neg ?_
  rintro ⟨-, -, hzero | hlong | hfull⟩ <;> omega

theorem regionHandler_extra_invalidate (hen : bitOf v 17 = false) : (regionHandler w r 0 v s).extra = 0 := by
  simp [regionHandler, hen]

/-- A change of VALID empties the cache (06 R203). -/
theorem regionHandler_result_changed (h : s.rdValid r ≠ bitOf v 17) :
    (regionHandler w r 0 v s).result = (s.plain w 39 (416 + 4 * r) v).dropCache := by
  simp [regionHandler, h]

end

/-- The two commands of a descriptor's first word are writes of it with VALID forced. -/
theorem exec_regionWord {s : State} {w : Writer} {r : Fin 64} {v u : Word} {row : Instr}
    (hrow : (row, u) ∈ [(Instr.regionValidate w r v, forceBit v 17 true), (.regionInvalidate w r v, forceBit v 17 false)]) :
    exec row s = done s (guarded w 39 (416 + 4 * r.val) u (regionHandler w r.val 0 u s) s) := by
  simp only [List.mem_cons, List.not_mem_nil, or_false, Prod.mk.injEq] at hrow
  rcases hrow with ⟨rfl, rfl⟩ | ⟨rfl, rfl⟩ <;> rfl

/-! ### The retarget and TMBL (R110, R113) -/

section
variable {s : State} {w : Writer} {v : Word}

/-- Of two different valid regions that are alike, OLD and NEW are taken, and the channels that do not correlate switch at once. -/
theorem retargetHandler_alike {o n : Nat} {x : State} (hgo : bitOf v 0 = true) (hidle : s.bit (pg 39 3) 0 = false)
    (ho : o = s.fld (pg 39 16) 11 6) (hn : n = s.fld (pg 39 16) 5 0)
    (halike : s.rdValid o = true ∧ s.rdValid n = true ∧ s.bit (rdKey o 0) 16 = s.bit (rdKey n 0) 16 ∧ s.rdLen o = s.rdLen n
      ∧ s.rdCount o = s.rdCount n ∧ o ≠ n)
    (hx : x = { (s.plain w 39 2 v).setB (pg 39 3) 0 true with exm := { s.exm with retOld := o, retNew := n } }) :
    retargetHandler w v s
      = ⟨0, true, 0, ((x.chansIn fun st => st == 1 || st == 4 || st == 5).foldl (fun t c => t.switchChan c) x).retargetDone⟩ := by
  subst ho hn hx
  rw [retargetHandler, if_neg (by simp [hidle]), if_neg (fun h => h.2 halike), if_pos hgo]
  rfl

theorem exec_retarget : exec (.retarget w v) s
    = done s (guarded w 39 2 (forceBit v 0 true) (retargetHandler w (forceBit v 0 true) s) s) := rfl

/-- A write of TMBL takes TMB from TMBH and the written word. -/
theorem exmpHandler_tmbl : exmpHandler w 24 v s = ⟨0, true, 0, { s.plain w 39 24 v with
    exm := { s.exm with tmb := BitVec.ofNat 33 (s.fld (pg 39 23) 14 0 * 262144 + v.toNat) } }⟩ := rfl

theorem exec_tmblWrite : exec (.tmblWrite w v) s = done s (guarded w 39 24 v (exmpHandler w 24 v s) s) := rfl

end

/-! ### A word of the code memory (R102, R105) -/

section
variable {s : State} {w : Writer}

theorem State.stalls_of_on {dom : Nat} (hon : s.domOn dom = true) : s.stalls w dom = none := by
  cases w <;> simp [State.stalls, hon]

/-- A word that no check refuses is stored, and the cache emptied (06 R203). -/
theorem State.exmpWrite_of_code {o : Nat} {v : Word} (hon : s.domOn 10 = true) (hcode : s.exmpCode w o v = 0) :
    s.exmpWrite w o v = (s.wrMem (exmpBase + o) v).dropCache := by
  simp [State.exmpWrite, State.stalls_of_on hon, hcode]

theorem State.exmpCode_of_free {o : Nat} {v : Word} (hmem : s.memRefusal w 15 10 (exmpBase + o) = 0) (hfree : s.exmpInUse o = false)
    (hparity : exmpParity v = true) : s.exmpCode w o v = 0 := by
  simp [State.exmpCode, hmem, hfree, hparity]

theorem exec_exemplarWrite {o : BitVec 19} {v : Word} (hl : s.writerLive w = true) :
    exec (.exemplarWrite w o v) s = .next (settle s (s.exmpWrite w o.toNat v)) := by
  change execExemplarWrite w o v s = _
  rw [execExemplarWrite, if_pos hl, done]

end

/-- Settles O17: VALID by the use count and the checks of its word, then the retarget, TMBL and the code memory. -/
theorem codeCommandsRun : Obligations.CodeCommandsRun := by
  have hset : ∀ v, bitOf (forceBit v 17 true) 17 = true := fun v => bitOf_forceBit v 17 true (by decide)
  have hclr : ∀ v, bitOf (forceBit v 17 false) 17 = false := fun v => bitOf_forceBit v 17 false (by decide)
  refine ⟨fun s w v => ⟨?programValidate, ?programInvalidate, ?regionValidate, ?regionInvalidate⟩,
    fun s w v => ⟨?programUsed, ?regionUsed⟩, fun s w v => ⟨?retarget, ?tmbl, ?code⟩⟩
  case programValidate =>
    rintro p u rfl hc hopen hwas hok
    rw [exec_programWord (.head _), done_guarded_clear hc (programHandler_state_validate hopen hwas (hset v)) rfl
      (programHandler_extra_validate hok), programHandler_result_changed (by simp [hwas, hset])]
  case programInvalidate =>
    rintro p u rfl hc hopen hwas hfree
    rw [exec_programWord (.tail _ (.head _)), done_guarded_clear hc (by simp [programHandler_state_invalidate hopen, hclr, hfree]) rfl
      (programHandler_extra_invalidate (hclr v)), programHandler_result_changed (by simp [hwas, hclr])]
  case regionValidate =>
    rintro r u len stride rfl hc hwas hlen hstride hpos hfits hroom
    rw [exec_regionWord (.head _), done_guarded_clear hc (regionHandler_state_validate hwas (hset v)) rfl
      (regionHandler_extra_validate hlen hstride hpos hfits hroom), regionHandler_result_changed (by simp [hwas, hset])]
  case regionInvalidate =>
    rintro r u rfl hc hwas hfree
    rw [exec_regionWord (.tail _ (.head _)), done_guarded_clear hc (by simp [regionHandler_state_invalidate, hclr, hfree]) rfl
      (regionHandler_extra_invalidate (hclr v)), regionHandler_result_changed (by simp [hwas, hclr])]
  case programUsed =>
    intro p hc hopen hused
    rw [exec_programWord (.tail _ (.head _)),
      done_guarded_state hc (by rw [programHandler_state_invalidate hopen (hclr v), if_pos hused]) (by decide)]
  case regionUsed =>
    intro r hc hused
    rw [exec_regionWord (.tail _ (.head _)),
      done_guarded_state hc (by rw [regionHandler_state_invalidate (hclr v), if_pos hused]) (by decide)]
  case retarget =>
    rintro u o n x rfl hc hidle ho hn hold hnew hkind hlen hcount hne hx
    have hgo : bitOf (forceBit v 0 true) 0 = true := bitOf_forceBit v 0 true (by decide)
    rw [exec_retarget, retargetHandler_alike hgo hidle ho hn ⟨hold, hnew, hkind, hlen, hcount, hne⟩ hx, done_guarded_clear hc rfl rfl rfl]
  case tmbl =>
    intro hc
    rw [exec_tmblWrite, exmpHandler_tmbl, done_guarded_clear hc rfl rfl rfl]
  case code =>
    intro o hl hon hmem hfree hparity
    rw [exec_exemplarWrite hl, State.exmpWrite_of_code hon (State.exmpCode_of_free hmem hfree hparity)]

end Sys2Proof.Machine
end

section
/-! SUPPORT. The commands of a channel's CTRL word (04 R118 to R121). -/

namespace Sys2Proof.Machine

/-! ### The four commands of CTRL -/

/-- The four channel commands: the row, the word that it writes to CTRL, and the bit of that word. -/
def channelCommands (w : Writer) (c : Fin 512) : List (Instr × Word × Nat) :=
  [(.channelAdmit w c, 1, 0), (.channelDisable w c, 2, 1), (.channelTrack w c, 4, 2), (.channelDrop w c, 8, 3)]

section
variable {s : State} {w : Writer} {c : Fin 512} {row : Instr} {v : Word} {b code : Nat}

theorem exec_channelCommand (hrow : (row, v, b) ∈ channelCommands w c) :
    exec row s = done s (guarded w (512 + c.val) 2 v (ctrlHandler w c.val v s) s) := by
  simp only [channelCommands, List.mem_cons, List.not_mem_nil, or_false, Prod.mk.injEq] at hrow
  rcases hrow with ⟨rfl, rfl, rfl⟩ | ⟨rfl, rfl, rfl⟩ | ⟨rfl, rfl, rfl⟩ | ⟨rfl, rfl, rfl⟩ <;> rfl

/-- A channel command writes CTRL with one bit set. -/
theorem channelCommands_bits (hrow : (row, v, b) ∈ channelCommands w c) : ((List.range 4).filter fun i => bitOf v i) = [b] := by
  simp only [channelCommands, List.mem_cons, List.not_mem_nil, or_false, Prod.mk.injEq] at hrow
  rcases hrow with ⟨-, rfl, rfl⟩ | ⟨-, rfl, rfl⟩ | ⟨-, rfl, rfl⟩ | ⟨-, rfl, rfl⟩ <;> decide

/-- A native channel's own context: check 4 is the command's alone. -/
theorem ctrlHandler_state_native {n : Nat} (hnative : s.isLegacy n = false) (hown : s.bit (chKey n 16) 17 = false)
    (hbits : ((List.range 4).filter fun i => bitOf v i) = [b]) : (ctrlHandler w n v s).state = s.cmdRefusal n b := by
  by_cases h : s.cmdRefusal n b = 0 <;> simp [ctrlHandler, hnative, hown, hbits, h]

theorem ctrlHandler_range_single {n : Nat} (hbits : ((List.range 4).filter fun i => bitOf v i) = [b]) :
    (ctrlHandler w n v s).range = true := by
  simp [ctrlHandler, hbits]

/-- A channel command whose state allows it, and which no check of an admission refuses, has its effect. -/
theorem exec_channelCommand_allowed (hrow : (row, v, b) ∈ channelCommands w c) (hc : s.Clear w (512 + c.val) 2 v)
    (hnative : s.isLegacy c.val = false) (hown : s.bit (chKey c.val 16) 17 = false) (hcmd : s.cmdRefusal c.val b = 0)
    (hextra : (ctrlHandler w c.val v s).extra = 0) : exec row s = .next (settle s (ctrlHandler w c.val v s).result) := by
  have hbits := channelCommands_bits hrow
  rw [exec_channelCommand hrow,
    done_guarded_clear hc ((ctrlHandler_state_native hnative hown hbits).trans hcmd) (ctrlHandler_range_single hbits) hextra]

/-- A channel command that check 4 refuses records the code of that check. -/
theorem exec_channelCommand_refused (hrow : (row, v, b) ∈ channelCommands w c) (hc : s.Clear w (512 + c.val) 2 v)
    (hnative : s.isLegacy c.val = false) (hown : s.bit (chKey c.val 16) 17 = false) (hcmd : s.cmdRefusal c.val b = code)
    (hcode : code ≠ 0) :
    exec row s = .next (settle s (s.recordRefusal w (some (512 + c.val)) 2 code (pageAddr (512 + c.val) 2))) := by
  rw [exec_channelCommand hrow,
    done_guarded_state hc ((ctrlHandler_state_native hnative hown (channelCommands_bits hrow)).trans hcmd) hcode]

end

/-! ### Check 4 of each command (R119), and the checks of an admission (R120) -/

section
variable (s : State) (c : Nat)

theorem State.cmdRefusal_request : s.cmdRefusal c 0
    = if s.chState c ≠ 0 ∧ s.chState c ≠ 4 then eSTATE else if s.bit (chKey c 3) 0 then eBUSY else 0 := rfl

theorem State.cmdRefusal_disable : s.cmdRefusal c 1
    = if s.chState c = 0 then eSTATE else if s.bit (chKey c 3) 0 then eBUSY else 0 := rfl

theorem State.cmdRefusal_track : s.cmdRefusal c 2 = if s.chState c ≠ 2 then eSTATE else 0 := rfl

theorem State.cmdRefusal_drop : s.cmdRefusal c 3 = if s.chState c ≠ 3 then eSTATE else 0 := rfl

theorem ctrlHandler_extra_request (w : Writer) :
    (ctrlHandler w c 1 s).extra = if s.namesOld c then eBUSY else if s.admissionOk c then 0 else eCONFIG := rfl

end

/-- Settles O18: check 4 of each command by the channel's state, then its effect. -/
theorem channelCommandsRun : Obligations.ChannelCommandsRun := by
  refine ⟨fun s w c hnative hown => ⟨?request, ?disable, ?track, ?drop⟩,
    fun s w c hnative hown r hr => ⟨?requestRefused, ?disableRefused, ?trackRefused, ?dropRefused⟩⟩
  case request =>
    intro hc hst hidle hold hok
    have hcmd : s.cmdRefusal c.val 0 = 0 := by
      rw [State.cmdRefusal_request, if_neg (fun h => hst.elim h.1 h.2), if_neg (by simp [hidle])]
    exact exec_channelCommand_allowed (.head _) hc hnative hown hcmd
      (by rw [ctrlHandler_extra_request, if_neg (by simp [hold]), if_pos hok])
  case disable =>
    intro hc hst hidle
    have hcmd : s.cmdRefusal c.val 1 = 0 := by rw [State.cmdRefusal_disable, if_neg hst, if_neg (by simp [hidle])]
    exact exec_channelCommand_allowed (.tail _ (.head _)) hc hnative hown hcmd rfl
  case track =>
    intro hc hst
    have hcmd : s.cmdRefusal c.val 2 = 0 := by rw [State.cmdRefusal_track, if_neg (not_not.mpr hst)]
    exact exec_channelCommand_allowed (.tail _ (.tail _ (.head _))) hc hnative hown hcmd rfl
  case drop =>
    intro hc hst
    have hcmd : s.cmdRefusal c.val 3 = 0 := by rw [State.cmdRefusal_drop, if_neg (not_not.mpr hst)]
    exact exec_channelCommand_allowed (.tail _ (.tail _ (.tail _ (.head _)))) hc hnative hown hcmd rfl
  case requestRefused =>
    intro hc hoff hparked
    rw [hr, exec_channelCommand_refused (.head _) hc hnative hown (if_pos ⟨hoff, hparked⟩) (by decide)]
  case disableRefused =>
    intro hc hoff
    rw [hr, exec_channelCommand_refused (.tail _ (.head _)) hc hnative hown (if_pos hoff) (by decide)]
  case trackRefused =>
    intro hc hst
    rw [hr, exec_channelCommand_refused (.tail _ (.tail _ (.head _))) hc hnative hown (if_pos hst) (by decide)]
  case dropRefused =>
    intro hc hst
    rw [hr, exec_channelCommand_refused (.tail _ (.tail _ (.tail _ (.head _)))) hc hnative hown (if_pos hst) (by decide)]

end Sys2Proof.Machine
end

section
/-! SUPPORT. Context words, phase sets and updates of a channel (04 R125, R126, R134, R135, R143). -/

namespace Sys2Proof.Machine

/-! ### What a write of a context word can reach (R125) -/

/-- From s to x at most the word under one key is stored, with the Blotter's record and the cores' reservations that go with it;
what else may change is a register word, a domain that wakes and a core that waits. -/
structure State.StoresOnly (s x : State) (key : Nat) (v : Word) : Prop where
  frame : x = { s with regs := x.regs, pwr := x.pwr, cores := x.cores, blot := x.blot, mem := x.mem }
  mem : x.mem = s.mem.put key v ∨ x.mem = s.mem

section
variable (s : State) (key : Nat) (v : Word)

theorem State.storesOnly_self : s.StoresOnly s key v := ⟨rfl, .inr rfl⟩

theorem State.storesOnly_wrMem : s.StoresOnly (s.wrMem key v) key v := ⟨by rw [State.wrMem_eq], .inl (s.wrMem_mem key v)⟩

theorem State.storesOnly_recordRefusal (w : Writer) (p : Option Nat) (off code a : Nat) :
    s.StoresOnly (s.recordRefusal w p off code a) key v := ⟨by rw [State.recordRefusal_eq], .inr (by simp)⟩

theorem State.storesOnly_stallMem (c : Fin 4) (a dom : Nat) (u : Word) : s.StoresOnly (s.stallMem c a dom u) key v := by
  rw [State.stallMem, State.wakeDom_eq]
  exact ⟨rfl, .inr rfl⟩

/-- A core that waits for a page waits as for a memory word of the page's domain (14 R462). -/
theorem State.storesOnly_stallWrite (c : Fin 4) (p wd : Nat) (u : Word) : s.StoresOnly (s.stallWrite c p wd u) key v :=
  s.storesOnly_stallMem key v c (pageAddr p wd) (homeDomain p) u

/-- A write through the Quire region waits, is refused, or stores the word. -/
theorem State.storesOnly_quireWrite (w : Writer) (o : Nat) : s.StoresOnly (s.quireWrite w o v) (quireBase + o) v := by
  unfold State.quireWrite
  split
  · exact s.storesOnly_stallMem _ _ _ _ _ _
  · dsimp only
    split
    · exact s.storesOnly_wrMem _ _
    · exact s.storesOnly_recordRefusal _ _ _ _ _ _ _

/-- A register write that passes its checks stores what its block stores; one that does not stores nothing. -/
theorem State.storesOnly_guarded {w : Writer} {p wd : Nat} {u : Word} {h : Handler} (hres : s.StoresOnly h.result key v) :
    s.StoresOnly (guarded w p wd u h s) key v := by
  rcases guarded_cases w p wd u h s with hg | ⟨c, -, hg⟩ | hg | ⟨-, hg⟩ <;> rw [hg]
  · exact s.storesOnly_self _ _
  · exact s.storesOnly_stallWrite _ _ _ _ _ _
  · exact hres
  · exact s.storesOnly_recordRefusal _ _ _ _ _ _ _

end

theorem State.StoresOnly.get?_ne {s x : State} {key a : Nat} {v : Word} (h : s.StoresOnly x key v) (ha : a ≠ key) :
    x.mem.get? a = s.mem.get? a := by
  rcases h.mem with hm | hm <;> rw [hm]
  exact Store.get?_put_ne _ _ ha

theorem State.StoresOnly.get?_self {s x : State} {key : Nat} {v : Word} (h : s.StoresOnly x key v) :
    x.mem.get? key = some v ∨ x.mem.get? key = s.mem.get? key := by
  rcases h.mem with hm | hm <;> rw [hm]
  · exact .inl (Store.get?_put_self _ _ _)
  · exact .inr rfl

/-! ### CONTEXT_WRITE -/

section
variable {s : State} {w : Writer} {c : Fin 512} {k : Fin 64} {v : Word}

theorem ctxKey_eq_quire (c k : Nat) : ctxKey c k = quireBase + (64 * c + k) := Nat.add_assoc _ _ _

/-- The block of a context word: a LOST bank, the class of the word, and the store. -/
def ctxHandler (s : State) (c k : Nat) (v : Word) : Handler :=
  { state := if s.lost (ctxKey c k) then eLOST else s.ctxRefusal c k, range := true, extra := 0, result := s.wrMem (ctxKey c k) v }

theorem exec_contextWrite_page : exec (.contextWrite w false c k v) s
    = done s (guarded w (512 + c.val) (64 + k.val) v (ctxHandler s c.val k.val v) s) := rfl

theorem exec_contextWrite_quire : exec (.contextWrite w true c k v) s
    = done s (if s.writerLive w then s.quireWrite w (64 * c.val + k.val) v else s) := rfl

theorem State.quireCode_of_free (hmem : s.memRefusal w 15 10 (ctxKey c.val k.val) = 0)
    (hfree : s.lockedOut w (512 + c.val) (64 + k.val) = false) (hclass : s.ctxRefusal c.val k.val = 0) :
    s.quireCode w (64 * c.val + k.val) = 0 := by
  have hchan : (64 * c.val + k.val) / 64 = c.val := by omega
  have hword : (64 * c.val + k.val) % 64 = k.val := by omega
  rw [ctxKey_eq_quire] at hmem
  simp [State.quireCode, hmem, hchan, hword, hfree, hclass]

/-- A context word that no check refuses is stored through the Quire region. -/
theorem State.quireWrite_of_free (hon : s.domOn 10 = true) (hmem : s.memRefusal w 15 10 (ctxKey c.val k.val) = 0)
    (hfree : s.lockedOut w (512 + c.val) (64 + k.val) = false) (hclass : s.ctxRefusal c.val k.val = 0) :
    s.quireWrite w (64 * c.val + k.val) v = s.wrMem (ctxKey c.val k.val) v := by
  simp [State.quireWrite, State.stalls_of_on hon, State.quireCode_of_free hmem hfree hclass, ctxKey_eq_quire]

/-- Whatever becomes of a context write, it stores at most its own word. -/
theorem exec_contextWrite_storesOnly (s : State) (w : Writer) (via : Bool) (c : Fin 512) (k : Fin 64) (v : Word) :
    ∃ x, exec (.contextWrite w via c k v) s = .next (settle s x) ∧ s.StoresOnly x (ctxKey c.val k.val) v := by
  cases via with
  | false => exact ⟨_, exec_contextWrite_page, s.storesOnly_guarded _ _ (s.storesOnly_wrMem _ _)⟩
  | true =>
    refine ⟨_, exec_contextWrite_quire, ?_⟩
    rw [ctxKey_eq_quire]
    split
    · exact s.storesOnly_quireWrite _ _ _
    · exact s.storesOnly_self _ _

end

/-! ### PHASE_SET_ARM (R134, R171) -/

section
variable {s : State} {w : Writer} {c : Nat} {v : Word}

/-- GO arms a phase set of a native channel that holds slots while none is armed. -/
theorem sctlHandler_state_go (hgo : bitOf v 17 = true) (hnative : s.isLegacy c = false) (hown : s.bit (chKey c 16) 17 = false)
    (hslots : holdsSlots (s.chState c) = true) (hidle : s.bit (chKey c 3) 1 = false) : (sctlHandler w c v s).state = 0 := by
  simp [sctlHandler, hgo, hnative, hown, hslots, hidle]

/-- The new code phase lies in the code, SIPH within IMUL but in SEC, and FK within FKLIM. -/
theorem sctlHandler_range_go (hgo : bitOf v 17 = true) (hchip : s.chPage2 c 32 < s.primary c)
    (hsiph : s.align c = 3 ∨ fieldOf v 4 0 < s.imul c) (hfk : s.fk c ≤ (s.chan c).fklim) : (sctlHandler w c v s).range = true := by
  simp [sctlHandler, hgo, hchip, hsiph, hfk]

theorem sctlHandler_extra : (sctlHandler w c v s).extra = 0 := by
  unfold sctlHandler
  split <;> rfl

theorem sctlHandler_result_go (hgo : bitOf v 17 = true) : (sctlHandler w c v s).result
    = (s.plain w (512 + c) 38 v).arm c ((s.plain w (512 + c) 38 v).staged c (fieldOf v 4 0)) := by
  simp [sctlHandler, hgo]

theorem exec_phaseSetArm {c : Fin 512} : exec (.phaseSetArm w c v) s
    = done s (guarded w (512 + c.val) 38 (forceBit v 17 true) (sctlHandler w c.val (forceBit v 17 true) s) s) := rfl

end

/-! ### UPDATE_COMMIT (R135, R143) -/

section
variable {s : State} {w : Writer} {c : Nat} {v : Word}

/-- An update is taken from a native channel that correlates. -/
theorem uctlHandler_state_correlates (hnative : s.isLegacy c = false) (hown : s.bit (chKey c 16) 17 = false)
    (hcorr : correlates (s.chState c) = true) : (uctlHandler w c v s).state = 0 := by
  simp [uctlHandler, hnative, hown, hcorr]

/-- Some SEL bit is set, and a selected FK lies within its limits and keeps the integration time. -/
theorem uctlHandler_range_selected (hsel : fieldOf v 3 0 ≠ 0) (hfk : (fieldOf v 3 0).testBit 1 = true → 1 ≤ s.chPage2 c 26
      ∧ s.chPage2 c 26 ≤ 2 ^ 35 ∧ s.chPage2 c 26 ≤ (s.chan c).fklim ∧ s.timeOk c (s.chPage2 c 26) = true) :
    (uctlHandler w c v s).range = true := by
  cases hbit : (fieldOf v 3 0).testBit 1 with
  | false => simp [uctlHandler, hsel, hbit]
  | true =>
    obtain ⟨hpos, hmax, hlim, htime⟩ := hfk hbit
    simp only [uctlHandler, hpos, hmax, hlim, htime]
    simp [hsel]

theorem uctlHandler_extra : (uctlHandler w c v s).extra = 0 := rfl

/-- The six words of the update are taken from the page. -/
theorem uctlHandler_result : (uctlHandler w c v s).result = s.commitUpdate c (fieldOf v 3 0)
    [s.reg (chKey c 24), s.reg (chKey c 25), s.reg (chKey c 26), s.reg (chKey c 27), s.reg (chKey c 28), s.reg (chKey c 29)] (some w) := rfl

theorem exec_updateCommit {c : Fin 512} :
    exec (.updateCommit w c v) s = done s (guarded w (512 + c.val) 30 v (uctlHandler w c.val v s) s) := rfl

end

/-- Settles O19: the checks of the three words and their effects, then what a context write stores at most. -/
theorem contextCommandsRun : Obligations.ContextCommandsRun := by
  refine ⟨fun s w c v => ⟨?page, ?quire, ?phaseSet, ?update⟩, ?frame⟩
  case page =>
    intro k hc hlost hclass
    rw [exec_contextWrite_page, done_guarded_clear hc (by simp [ctxHandler, hlost, hclass]) rfl rfl, ctxHandler]
  case quire =>
    intro k hlive hon hmem hfree hclass
    rw [exec_contextWrite_quire, if_pos hlive, State.quireWrite_of_free hon hmem hfree hclass, done]
  case phaseSet =>
    rintro u rfl hc hnative hown hslots hidle hchip hsiph hfk
    have hgo : bitOf (forceBit v 17 true) 17 = true := bitOf_forceBit v 17 true (by decide)
    rw [exec_phaseSetArm, done_guarded_clear hc (sctlHandler_state_go hgo hnative hown hslots hidle)
      (sctlHandler_range_go hgo hchip hsiph hfk) sctlHandler_extra, sctlHandler_result_go hgo]
  case update =>
    intro hc hnative hown hcorr hsel hfk
    rw [exec_updateCommit, done_guarded_clear hc (uctlHandler_state_correlates hnative hown hcorr)
      (uctlHandler_range_selected hsel hfk) uctlHandler_extra, uctlHandler_result]
  case frame =>
    intro s t w via c k v ht
    obtain ⟨x, hx, hstores⟩ := exec_contextWrite_storesOnly s w via c k v
    obtain rfl : settle s x = t := Host.Outcome.next.inj (hx.symm.trans ht)
    rw [settle_mem]
    refine ⟨fun a ha => hstores.get?_ne ha, hstores.get?_self, ?_⟩
    rw [settle_eq, hstores.frame]
    exact ⟨rfl, rfl, rfl, rfl, rfl, rfl, rfl, rfl⟩

end Sys2Proof.Machine
end

section
/-! SUPPORT. The decision of an admission, the closure window, the enables of the ranks and their slots (05 R157, R163 to R166, R172 to
R178). -/

namespace Sys2Proof.Machine

/-! ### The decision on the request at the front of the queue (R163 to R166) -/

section
variable {s s0 : State} {c : Nat} {q : List Nat}

theorem exec_admissionDecision_idle (h : s.duct.admQ = [] ∨ s.domOn 10 = false) : exec .admissionDecision s = .next (settle s s) := by
  change execAdmissionDecision s = _
  rw [execAdmissionDecision, done]
  cases hq : s.duct.admQ with
  | nil => rfl
  | cons c q => exact congrArg (fun x => Host.Outcome.next (settle s x)) (if_pos (h.resolve_left (by simp [hq])))

variable (hq : s.duct.admQ = c :: q) (hon : s.domOn 10 = true) (hs0 : s0 = s.dequeue c q)
include hq hon hs0

/-- A request that a check refuses leaves the queue with CONFIG; five report words are free (log 10). -/
theorem exec_admissionDecision_refused (hbad : s0.namesOld c = true ∨ s0.admissionOk c = false) :
    ∃ rank d rt cl off, exec .admissionDecision s = .next (settle s
      ((s0.free.2.free.2.free.2.free.2.free.2.reportDecision c rank 4 d rt cl off).refuseRequest c eCONFIG)) := by
  subst hs0
  change ∃ rank d rt cl off, execAdmissionDecision s = _
  simp only [execAdmissionDecision, done, hq, hon, hbad, if_true]
  exact ⟨_, _, _, _, _, rfl⟩

variable (hold : s0.namesOld c = false) (hok : s0.admissionOk c = true)
include hold hok

/-- A legacy request that passes its checks takes the slots of its block while rank 0 is ENABLED; else it is refused with ADMIT, and two
report words are free (R165, R178) (logs 10, 47). -/
theorem exec_admissionDecision_legacy (hleg : s.isLegacy c = true) {cl : Nat}
    (hcl : cl = (s.dClose c (fklimOf (s.fk c)) s.winNow).getD 0) :
    ∃ rank off, exec .admissionDecision s = .next (settle s (if s.rstate 0 = 1
      then (s0.reportDecision c 0 0 4 (s.dRate c) cl c).takeSlots c 0 c 4
      else (s0.free.2.free.2.reportDecision c rank 3 4 (s.dRate c) cl off).refuseRequest c eADMIT)) := by
  subst hs0 hcl
  change ∃ rank off, execAdmissionDecision s = _
  simp only [execAdmissionDecision, done, hq, hon, hold, hok, hleg]
  exact ⟨_, _, rfl⟩

/-- A native request that passes its checks takes the rank and the slots chosen for it; else it is refused with ADMIT, and two report words
are free (R163 to R165) (log 10). -/
theorem exec_admissionDecision_native (hnative : s.isLegacy c = false) {cl d : Nat}
    (hcl : cl = (s.dClose c (fklimOf (s.fk c)) s.winNow).getD 0) (hd : d = max (s.dRate c) cl) :
    ∃ rank off, exec .admissionDecision s = .next (settle s (if (s0.choose d).1 = 0
      then (s0.reportDecision c (s0.choose d).2.1 0 d (s.dRate c) cl (s0.choose d).2.2).takeSlots c (s0.choose d).2.1 (s0.choose d).2.2 d
      else (s0.free.2.free.2.reportDecision c rank (s0.choose d).1 d (s.dRate c) cl off).refuseRequest c eADMIT)) := by
  subst hs0 hd hcl
  change ∃ rank off, execAdmissionDecision s = _
  simp only [execAdmissionDecision, done, hq, hon, hold, hok, hnative]
  exact ⟨_, _, rfl⟩

end

/-! ### The closure window (R172) and CTRL of a rank (R174 to R176) -/

section
variable {s : State} {w : Writer} {v : Word}

theorem exec_windowWrite : exec (.windowWrite w v) s = done s (guarded w 30 16 v (winHandler w v s) s) := rfl

theorem winHandler_extra_fits (hfits : ∀ c ∈ s.chansIn holdsSlots, ∃ d, s.dClose c (s.chan c).fklim (fieldOf v 8 0) = some d
    ∧ d ≤ (s.chan c).d) : (winHandler w v s).extra = 0 := by
  refine if_neg fun hmany => ?_
  obtain ⟨c, hc, hover⟩ := List.any_eq_true.mp hmany
  obtain ⟨d, hd, hle⟩ := hfits c hc
  simp [hd, Nat.not_lt.mpr hle] at hover

/-- A channel for which the window has no closure term, or one above its slots, refuses it. -/
theorem winHandler_extra_exceeds {c : Nat} (hc : c ∈ s.chansIn holdsSlots)
    (hexceeds : ∀ d, s.dClose c (s.chan c).fklim (fieldOf v 8 0) = some d → (s.chan c).d < d) : (winHandler w v s).extra = eCONFIG := by
  refine if_pos (List.any_eq_true.mpr ⟨c, hc, ?_⟩)
  cases hd : s.dClose c (s.chan c).fklim (fieldOf v 8 0) with
  | none => rfl
  | some d => exact decide_eq_true (hexceeds d hd)

theorem rankCtrl_disable (r : Nat) (hen : bitOf v 0 = false) : rankCtrl w r v s = ⟨0, true, 0,
    if s.rstate r = 1 then (s.plain w (31 + r) 2 v).setRstate r 2
    else if s.rstate r = 3 then (s.plain w (31 + r) 2 v).setRstate r 0 else s.plain w (31 + r) 2 v⟩ := by
  simp [rankCtrl, hen]

theorem rankCtrl_enable (r : Nat) (hen : bitOf v 0 = true) : rankCtrl w r v s = ⟨if s.rstate r = 2 then eBUSY else 0, true, 0,
    if s.rstate r = 0 then (s.plain w (31 + r) 2 v).setRstate r 3 else s.plain w (31 + r) 2 v⟩ := by
  simp [rankCtrl, hen]

theorem exec_rankDisable (r : Fin 8) : exec (.rankDisable w r v) s
    = done s (guarded w (31 + r.val) 2 (forceBit v 0 false) (rankCtrl w r.val (forceBit v 0 false) s) s) := rfl

theorem exec_rankEnable (r : Fin 8) : exec (.rankEnable w r v) s
    = done s (guarded w (31 + r.val) 2 (forceBit v 0 true) (rankCtrl w r.val (forceBit v 0 true) s) s) := rfl

end

/-! ### A slot of a rank (R157) -/

section
variable {s : State} {r : Fin 8} {slot : Fin 3125}

/-- The rank serves in the slot: it is enabled or drains, its domain and the Quire are on, and the slot is one of the 3000. -/
def State.servesIn (s : State) (r slot : Nat) : Prop :=
  (s.rstate r = 1 ∨ s.rstate r = 2) ∧ s.domOn (rankDomain r) = true ∧ s.domOn 10 = true ∧ slot < 3000

theorem exec_rankSlot_barred (h : ¬ s.servesIn r.val slot.val) : exec (.rankSlot r slot) s = .next (settle s s) := by
  change execRankSlot r slot s = _
  rw [State.servesIn] at h
  rw [execRankSlot, if_neg h, done]

theorem exec_rankSlot_empty (hfree : s.duct.force.find? (fun x => x.rank == r.val && (x.bandOf slot.val).isSome) = none) :
    exec (.rankSlot r slot) s = .next (settle s s) := by
  change execRankSlot r slot s = _
  simp only [execRankSlot, done, hfree, ite_self]

theorem exec_rankSlot_serve {x : TabRow} {i : Nat} (h : s.servesIn r.val slot.val)
    (hrow : s.duct.force.find? (fun x => x.rank == r.val && (x.bandOf slot.val).isSome) = some x) (hband : x.bandOf slot.val = some i) :
    exec (.rankSlot r slot) s = .next (settle s (s.serve x i)) := by
  change execRankSlot r slot s = _
  rw [State.servesIn] at h
  rw [execRankSlot, if_pos h]
  simp only [hrow, hband, done]

end

/-- Settles O20: the branches of a decision, the checks of the window and of a rank's CTRL, and a slot that is served or is not. -/
theorem ductusCommandsRun : Obligations.DuctusCommandsRun := by
  intro s w v
  have hclear : bitOf (forceBit v 0 false) 0 = false := bitOf_forceBit v 0 false (by decide)
  have hset : bitOf (forceBit v 0 true) 0 = true := bitOf_forceBit v 0 true (by decide)
  refine ⟨?admitted, exec_admissionDecision_idle, ?noRank, ?legacy, ?config, ?windowFits, ?windowExceeds, ?disable, ?enable,
    ?notServed, ?served⟩
  case admitted =>
    intro c q s0 d hq hon hs0 hold hok hnative hd hchosen
    obtain ⟨_, _, h⟩ := exec_admissionDecision_native hq hon hs0 hold hok hnative rfl hd
    rw [h, if_pos hchosen]
  case noRank =>
    intro c q s0 hq hon hs0 hold hok
    refine ⟨fun hleg hrank => ?_, fun d hnative hd hnone => ?_⟩
    · obtain ⟨rank, off, h⟩ := exec_admissionDecision_legacy hq hon hs0 hold hok hleg rfl
      exact ⟨rank, off, by rw [h, if_neg hrank]⟩
    · obtain ⟨rank, off, h⟩ := exec_admissionDecision_native hq hon hs0 hold hok hnative rfl hd
      exact ⟨rank, off, by rw [h, if_neg hnone]⟩
  case legacy =>
    intro c q s0 hq hon hs0 hold hok hleg hrank
    obtain ⟨_, _, h⟩ := exec_admissionDecision_legacy hq hon hs0 hold hok hleg rfl
    rw [h, if_pos hrank]
  case config =>
    intro c q s0 hq hon hs0 hbad
    exact ⟨_, rfl, exec_admissionDecision_refused hq hon hs0 hbad⟩
  case windowFits =>
    intro hc hfits
    rw [exec_windowWrite, done_guarded_clear hc rfl rfl (winHandler_extra_fits hfits), winHandler]
  case windowExceeds =>
    intro c hc hmem hexceeds
    rw [exec_windowWrite, done_guarded_extra hc rfl rfl (winHandler_extra_exceeds hmem hexceeds) (by decide)]
  case disable =>
    rintro r u hc rfl
    rw [exec_rankDisable, rankCtrl_disable r.val hclear, done_guarded_clear hc rfl rfl rfl]
  case enable =>
    rintro r u hc rfl
    rw [exec_rankEnable, rankCtrl_enable r.val hset]
    by_cases hdrains : s.rstate r.val = 2
    · rw [if_pos hdrains, if_pos hdrains, done_guarded_state (c := eBUSY) hc rfl (by decide)]
    · rw [if_neg hdrains, if_neg hdrains, done_guarded_clear hc rfl rfl rfl]
  case notServed =>
    intro r slot h
    by_cases hserves : s.servesIn r.val slot.val
    · obtain ⟨hstate, hdom, hquire, hslot⟩ := hserves
      refine exec_rankSlot_empty ?_
      simpa [hdom, hquire, Nat.not_le.mpr hslot, show ¬ (s.rstate r.val ≠ 1 ∧ s.rstate r.val ≠ 2) by omega] using h
    · exact exec_rankSlot_barred hserves
  case served =>
    intro r slot x i hstate hdom hquire hslot hrow hband
    exact exec_rankSlot_serve ⟨hstate, hdom, hquire, hslot⟩ hrow hband

end Sys2Proof.Machine
end

section
/-! SUPPORT. Frame boundaries, the locks of the PLLs, and the source and the alarm of the RTC (05 R155; 07 R214, R219, R244; 14 R476 to
R478). -/

namespace Sys2Proof.Machine

/-! ### Frame boundaries (05 R155) -/

theorem State.framesFall_iff (s : State) : s.framesFall = true
    ↔ s.domOn 10 = true ∧ s.pllRuns 1 = true ∧ (s.bit (pg 2 3) 1 = true ∨ ∃ d ∈ pllUsers 1, s.domOn d = true) := by
  simp only [State.framesFall, Bool.and_eq_true, Bool.or_eq_true, List.any_eq_true, and_assoc]

theorem exec_frameBoundary (s : State) (stamps : List (BitVec 64)) : exec (.frameBoundary stamps) s
    = .next (settle s (if s.framesFall then (s.frameOpen stamps).drainRanks.drainedOff.frameClose else s)) := rfl

/-! ### The locks of the PLLs (07 R214, R219; 14 R478) -/

section
variable {s : State} {k : Fin 4}

theorem exec_pllUnlock_locked {t : State} (ht : t = ((s.setB (pg 2 3) k.val false).raise 2 k.val).incSat (pg 2 (18 + k.val)))
    (hruns : s.pllRuns k.val = true) (hlock : s.locked k.val = true) : exec (.pllUnlock k) s = .next (settle s (if k = 3
      then (((t.setB (pg 16 3) 0 false).setB (pg 16 3) 4 true).setB (pg 16 3) 3 false).raise 16 0 else t)) := by
  subst ht
  change execPllUnlock k s = _
  simp only [execPllUnlock, done, hruns, hlock, Fin.ext_iff, and_self, if_true]
  rfl

theorem exec_pllUnlock_idle (h : s.pllRuns k.val = false ∨ s.locked k.val = false) : exec (.pllUnlock k) s = .next (settle s s) := by
  have hidle : ¬ (s.pllRuns k.val = true ∧ s.locked k.val = true) := by rcases h with h | h <;> simp [h]
  change execPllUnlock k s = _
  rw [execPllUnlock, if_neg hidle, done]

theorem exec_pllRelock_unlocked (hruns : s.pllRuns k.val = true) (hlock : s.locked k.val = false) : exec (.pllRelock k) s
    = .next (settle s (if k = 3 then (((s.setB (pg 2 3) k.val true).setB (pg 16 3) 0 true).startTime).raise 16 1
      else s.setB (pg 2 3) k.val true)) := by
  change execPllRelock k s = _
  rw [execPllRelock, if_pos ⟨hruns, hlock⟩, done]
  by_cases h3 : k = 3
  · subst h3; rfl
  · have hk : k.val ≠ 3 := fun h => h3 (Fin.ext h)
    simp only [State.lockPll, if_neg hk, if_neg h3]

theorem exec_pllRelock_idle (h : s.pllRuns k.val = false ∨ s.locked k.val = true) : exec (.pllRelock k) s = .next (settle s s) := by
  have hidle : ¬ (s.pllRuns k.val = true ∧ s.locked k.val = false) := by rcases h with h | h <;> simp [h]
  change execPllRelock k s = _
  rw [execPllRelock, if_neg hidle, done]

end

/-! ### The RTC's source and its alarm (07 R244; 14 R476, R477) -/

section
variable {s : State} {w : Writer} {v : Word}

theorem exec_rtcSourceWrite : exec (.rtcSourceWrite w v) s = done s (guarded w 2 17 v (rtcctlHandler w v s) s) := rfl

theorem exec_alm2Write : exec (.alm2Write w v) s = done s (guarded w 1 31 v (alm2Handler w v s) s) := rfl

/-- The crystal is to give way to the RC oscillator: the fallback is on, the crystal is in use or due, and BKP is on. -/
def State.fallsBack (s : State) : Prop := s.bit (pg 2 17) 1 = true ∧ s.rtcSel = false ∧ s.domOn 1 = true

/-- The change of source begins; when the crystal was in use, the RC ticks of its four silent periods count (log 6). -/
theorem exec_rtcFallback_falls {t : State} (ht : t = (s.rtcWant true).raise 2 4) (h : s.fallsBack) : exec .rtcFallback s
    = .next (settle s (if s.time.rtcSrc then t
      else ((t.onSource true).rtcTick.rtcTick.rtcTick.rtcTick.onSource false).noteSwitch)) := by
  subst ht
  rw [State.fallsBack] at h
  change execRtcFallback s = _
  rw [execRtcFallback, if_pos h, done]

theorem exec_rtcFallback_idle (h : ¬ s.fallsBack) : exec .rtcFallback s = .next (settle s s) := by
  rw [State.fallsBack] at h
  change execRtcFallback s = _
  rw [execRtcFallback, if_neg h, done]

/-- The due source is in use from this tick of it on, which counts. -/
theorem exec_rtcSourceChange_due {b : Bool} (hdue : s.time.rtcDue = some b) : exec .rtcSourceChange s = .next (settle s
    ({ s with time := { s.time with rtcDue := none, rtcAcc := 0, rtcSrc := b } } : State).noteSwitch.rtcTick) := by
  change execRtcSourceChange s = _
  simp only [execRtcSourceChange, hdue, done, State.onSource]

theorem exec_rtcSourceChange_idle (hdue : s.time.rtcDue = none) : exec .rtcSourceChange s = .next (settle s s) := by
  change execRtcSourceChange s = _
  simp only [execRtcSourceChange, hdue, done]

end

/-- Settles O52: where frames fall, each PLL by whether it runs and is locked, and the RTC's source and alarm. -/
theorem clockCommandsRun : Obligations.ClockCommandsRun := by
  refine ⟨fun s stamps frames hframes => ?frame, fun s w v => ⟨?unlock, ?relock, rfl, rfl, ?source, ?fallback,
    fun b => exec_rtcSourceChange_due, exec_rtcSourceChange_idle, ?alarm⟩⟩
  case frame =>
    rw [hframes, ← State.framesFall_iff, exec_frameBoundary]
    exact ⟨fun h => by rw [if_pos h], fun h => by rw [if_neg h]⟩
  case unlock =>
    intro k t ht
    exact ⟨exec_pllUnlock_locked ht, exec_pllUnlock_idle⟩
  case relock =>
    rintro k t u rfl rfl
    refine ⟨fun hruns hlock => ?_, exec_pllRelock_idle⟩
    rw [exec_pllRelock_unlocked hruns hlock, ite_not]
    rfl
  case source =>
    intro hc
    refine ⟨fun hcrystal hstopped => ?_, fun h => ?_⟩
    · rw [exec_rtcSourceWrite, done_guarded_state hc (if_pos ⟨hcrystal, hstopped⟩) (by decide)]
    · have hallowed : ¬ (bitOf v 0 = false ∧ s.bit (pg 2 3) 4 = false) := by rcases h with h | h <;> simp [h]
      rw [exec_rtcSourceWrite, done_guarded_clear hc (if_neg hallowed) rfl rfl, rtcctlHandler]
  case fallback =>
    intro falls t hfalls ht
    obtain rfl : falls = s.fallsBack := propext hfalls
    refine ⟨fun h hrc => ?_, fun h hcrystal => ?_, exec_rtcFallback_idle⟩
    · rw [exec_rtcFallback_falls ht h, if_pos hrc]
    · rw [exec_rtcFallback_falls ht h, if_neg (by simp [hcrystal])]
  case alarm =>
    intro hc
    rw [exec_alm2Write, done_guarded_clear hc rfl rfl rfl]
    rfl

end Sys2Proof.Machine
end

section
/-! SUPPORT. The Inkwell and the captures (06 R183 to R188). -/

namespace Sys2Proof.Machine

/-! ### A word of the Inkwell (R183) -/

section
variable {s : State} {w : Writer} {v : Word}

/-- A word of a region that is on, which neither the shared checks nor the region's own rule refuses, is stored. -/
theorem State.regionWrite_of_free {group dom key : Nat} {busy : Bool} {after : State → State} (hon : s.domOn dom = true)
    (hmem : s.memRefusal w group dom key = 0) (hfree : busy = false) :
    s.regionWrite w group dom key busy v after = after (s.wrMem key v) := by
  simp [State.regionWrite, State.regionCode, State.stalls_of_on hon, hmem, hfree]

theorem exec_inkwellWrite {o : BitVec 22} (hl : s.writerLive w = true) :
    exec (.inkwellWrite w o v) s = .next (settle s (s.inkwWrite w o.toNat v)) := by
  change execInkwellWrite w o v s = _
  rw [execInkwellWrite, if_pos hl, done]

end

/-! ### GO and STOP (R185, R188) -/

/-- What a write of CTRL does to engine e: its GO, then its STOP. -/
def State.captureCommand (v : Word) (s : State) (e : Nat) : State :=
  if bitOf v (2 + e) then (if bitOf v e then s.armCapture e else s).stopCapture e else if bitOf v e then s.armCapture e else s

section
variable {s : State} {w : Writer} {v : Word}

theorem inkwCtrl_state_allowed (h : ∀ e, e < 2 → s.capRefusal e (bitOf v e) (bitOf v (2 + e)) = 0) : (inkwCtrl w v s).state = 0 := by
  simp [inkwCtrl, List.range_succ, h]

theorem inkwCtrl_range_allowed (h : ∀ e, e < 2 → bitOf v e = true → s.capRange e = true) : (inkwCtrl w v s).range = true := by
  refine List.all_eq_true.mpr fun e he => ?_
  simpa [or_iff_not_imp_left] using h e (List.mem_range.mp he)

theorem inkwCtrl_extra_allowed (h : ∀ e, e < 2 → bitOf v e = true → s.capConfig e (bitOf v 0 && bitOf v 1) = true) :
    (inkwCtrl w v s).extra = 0 := by
  refine if_pos (List.all_eq_true.mpr fun e he => ?_)
  simpa [or_iff_not_imp_left] using h e (List.mem_range.mp he)

theorem inkwCtrl_result : (inkwCtrl w v s).result = ((s.plain w 41 2 v).captureCommand v 0).captureCommand v 1 := rfl

/-- The two commands of an engine are writes of CTRL with its GO or its STOP forced. -/
theorem exec_captureCommand {e : Fin 2} {u : Word} {row : Instr}
    (hrow : (row, u) ∈ [(Instr.captureGo w e v, forceBit v e.val true), (.captureStop w e v, forceBit v (2 + e.val) true)]) :
    exec row s = done s (guarded w 41 2 u (inkwCtrl w u s) s) := by
  simp only [List.mem_cons, List.not_mem_nil, or_false, Prod.mk.injEq] at hrow
  rcases hrow with ⟨rfl, rfl⟩ | ⟨rfl, rfl⟩ <;> rfl

end

/-- Settles O21: a word that nothing holds, the whole check of CTRL with the effect on each engine, and the end of a capture. -/
theorem inkwellCommandsRun : Obligations.InkwellCommandsRun := by
  refine fun s w v => ⟨?store, ?control, ?finish⟩
  case store =>
    intro o hl hon hmem hheld hread
    rw [exec_inkwellWrite hl, State.inkwWrite, State.regionWrite_of_free hon hmem (by rw [hheld, hread]; rfl), id]
  case control =>
    rintro e u f hc rfl hok
    have heffect : ∀ row, (row, u) ∈ [(Instr.captureGo w e v, forceBit v e.val true), (.captureStop w e v, forceBit v (2 + e.val) true)] →
        exec row s = .next (settle s (((s.plain w 41 2 u).captureCommand u 0).captureCommand u 1)) := fun row hrow => by
      rw [exec_captureCommand hrow, done_guarded_clear hc (inkwCtrl_state_allowed fun k hk => (hok k hk).1)
        (inkwCtrl_range_allowed fun k hk hgo => ((hok k hk).2 hgo).1) (inkwCtrl_extra_allowed fun k hk hgo => ((hok k hk).2 hgo).2),
        inkwCtrl_result]
    exact ⟨fun hu => heffect _ (by simp [hu]), fun hu => heffect _ (by simp [hu])⟩
  case finish =>
    rintro e t x k rfl rfl rfl
    refine ⟨fun hrun hend => ?ended, fun hgoes => ?goes⟩ <;> change execCaptureDone e s = _
    case ended => rw [execCaptureDone, if_pos ⟨hrun, hend⟩, done]
    case goes =>
      rw [execCaptureDone, if_neg, done]
      rintro ⟨hrun, hend⟩
      obtain ⟨hshort, hstop | hacc⟩ := hgoes.resolve_left (· hrun)
      · simp [hshort, hstop] at hend
      · simp [hshort, hacc] at hend

end Sys2Proof.Machine
end

section
/-! SUPPORT. The Scriptorium's job rings, its cache and its working RAM, aborts and handoffs (06 R196, R203 to R205, R208, R209). -/

namespace Sys2Proof.Machine

/-! ### Job rings, the cache and the working RAM (R196, R204) -/

section
variable {s : State} {w : Writer} {k : Nat} {v : Word}

theorem jrHandler_state_idle (hscan : s.abBusy = false) (hidle : ∀ j ∈ s.scr.jobs, j.jr ≠ k) : (jrHandler w k v s).state = 0 := by
  refine if_neg ?_
  simpa [hscan] using hidle

/-- An entry is switched on where its rings are the Scriptorium's and no other entry that is on names its job ring. -/
theorem jrHandler_extra_fits (hon : bitOf v 17 = true → s.consIs (fieldOf v 11 6) 14 = true ∧ s.prodIs (fieldOf v 5 0) 14 = true
    ∧ ∀ j, j < 8 → j ≠ k → s.jrOn j = true → s.jring j ≠ fieldOf v 11 6) : (jrHandler w k v s).extra = 0 := by
  refine if_neg ?_
  rintro ⟨hen, hbad⟩
  obtain ⟨hcons, hprod, halone⟩ := hon hen
  rcases hbad with h | h | h
  · simp [hcons] at h
  · simp [hprod] at h
  · obtain ⟨j, hj, hnames⟩ := List.any_eq_true.mp h
    simp only [Bool.and_eq_true, bne_iff_ne, beq_iff_eq] at hnames
    exact halone j (List.mem_range.mp hj) hnames.1.1 hnames.1.2 hnames.2

theorem exec_jobRingConfig {k : Fin 8} :
    exec (.jobRingConfig w k v) s = done s (guarded w 40 (20 + k.val) v (jrHandler w k.val v s) s) := rfl

theorem cacheHandler_state_idle (hbusy : s.pbusy = 0) (hqueued : s.jobQueued = false) : (cacheHandler w v s).state = 0 := by
  simp [cacheHandler, hbusy, hqueued]

theorem exec_cacheWrite : exec (.cacheWrite w v) s = done s (guarded w 40 16 v (cacheHandler w v s) s) := rfl

theorem exec_workingRamWrite {o : BitVec 20} (hl : s.writerLive w = true) :
    exec (.workingRamWrite w o v) s = .next (settle s (s.ramWrite w o.toNat v)) := by
  change execWorkingRamWrite w o v s = _
  rw [execWorkingRamWrite, if_pos hl, done]

end

/-! ### ABGO and HOGO (R205, R208) -/

section
variable {s : State} {w : Writer} {v : Word}

/-- ABGO waits for the scan that runs, and its job ring is on. -/
theorem scrpCtrl_state_allowed (hab : bitOf v 2 = true → s.abBusy = false ∧ s.jrOn (s.fld (pg 40 32) 2 0) = true) :
    (scrpCtrl w v s).state = 0 := by
  cases hbit : bitOf v 2 with
  | false => simp [scrpCtrl, hbit]
  | true => simp [scrpCtrl, hab hbit]

theorem scrpCtrl_extra : (scrpCtrl w v s).extra = if bitOf v 1 then s.hoRefusal else 0 := rfl

theorem scrpCtrl_extra_allowed (hho : bitOf v 1 = true → s.hoRefusal = 0) : (scrpCtrl w v s).extra = 0 := by
  rw [scrpCtrl_extra, ite_eq_right_iff]
  exact hho

/-- A write of CTRL that passes its checks but those of the handoff: HOGO reads its record, whatever the path gives. -/
theorem scrpGuarded_ctrl (hc : s.Clear w 40 2 v) (hstate : (scrpCtrl w v s).state = 0) : scrpGuarded w 2 v s
    = if bitOf v 1 then (guarded w 40 2 v (scrpCtrl w v s) s).hoReport else guarded w 40 2 v (scrpCtrl w v s) s := by
  have hcode : writeRefusal w 40 2 v { scrpCtrl w v s with extra := 0 } s = 0 := by
    rw [writeRefusal_of_clear _ hc, if_neg (by simp [hstate]), if_neg (by simp [scrpCtrl])]
  have hon : s.domOn 8 = true := hc.on
  simp only [scrpGuarded, scrpHandler, if_true, hcode, hc.live, hon, true_and, and_true]

theorem exec_scrpCommand {row : Instr} {u : Word}
    (hrow : (row, u) ∈ [(Instr.jobAbort w v, forceBit v 2 true), (.handoff w v, forceBit v 1 true)]) :
    exec row s = .next (settle s (scrpGuarded w 2 u s)) := by
  simp only [List.mem_cons, List.not_mem_nil, or_false, Prod.mk.injEq] at hrow
  rcases hrow with ⟨rfl, rfl⟩ | ⟨rfl, rfl⟩ <;> rfl

/-- A write of CTRL whose checks pass arms the phase set of a handoff and starts the scan of an abort. -/
theorem scrpGuarded_ctrl_allowed {t x : State} (hc : s.Clear w 40 2 v)
    (hab : bitOf v 2 = true → s.abBusy = false ∧ s.jrOn (s.fld (pg 40 32) 2 0) = true) (hho : bitOf v 1 = true → s.hoRefusal = 0)
    (ht : t = if bitOf v 1 then (s.plain w 40 2 v).arm (s.fld (pg 40 35) 8 0) ⟨s.time.ns, 0, 0, 0, 0,
      some (s.hoRates.1, codeOf 36 s.hoRates.2, s.hoWord2 (10 + 8 * s.fld (pg 40 36) 9 6), s.hoRxt0)⟩ else s.plain w 40 2 v)
    (hx : x = if bitOf v 2 then t.startAbort w else t) : scrpGuarded w 2 v s = if bitOf v 1 then x.hoReport else x := by
  have hstate := scrpCtrl_state_allowed (w := w) hab
  subst ht hx
  rw [scrpGuarded_ctrl hc hstate, guarded_clear hc hstate rfl (scrpCtrl_extra_allowed hho)]
  rfl

/-- A handoff that fails a check is refused with its code; its record has been read. -/
theorem scrpGuarded_ctrl_refused (hc : s.Clear w 40 2 v) (hho : bitOf v 1 = true) (hab : bitOf v 2 = false) (hbad : s.hoRefusal ≠ 0) :
    scrpGuarded w 2 v s = (s.recordRefusal w (some 40) 2 s.hoRefusal (pageAddr 40 2)).hoReport := by
  have hstate : (scrpCtrl w v s).state = 0 := scrpCtrl_state_allowed (by simp [hab])
  have hextra : (scrpCtrl w v s).extra = s.hoRefusal := by rw [scrpCtrl_extra, if_pos hho]
  rw [scrpGuarded_ctrl hc hstate, if_pos hho, guarded_refused_extra hc hstate rfl (hextra ▸ hbad), hextra]

end

end Sys2Proof.Machine
end

section
/-! SUPPORT. The start of a job (06 R195, R197, R198; 11 R371; 14 R462). -/

namespace Sys2Proof.Machine

/-! ### What becomes of a job that is taken off its ring -/

/-- What becomes of job j of descriptor d, chosen in s, once it is taken off its ring in t: it ends ABORTED or FAILED at once, or runs. -/
def State.beginJob (s t : State) (d : List Word) (j : Job) : State :=
  if bitOf (dw d 0) 17 then
    (t.plainRecord j 1 0 none).2.commitJob { j with record := (t.plainRecord j 1 0 none).1 }
  else if s.dCheck d ≠ 0 then
    (t.plainRecord j 2 (s.dCheck d) none).2.commitJob { j with outcome := 2, record := (t.plainRecord j 2 (s.dCheck d) none).1 }
  else if s.domOn 9 = false ∨ (s.domOn 10 = false ∧ s.cached d = false) then
    ((t.unitFails 40).plainRecord j 2 eSTATE none).2.commitJob
      { j with outcome := 2, record := ((t.unitFails 40).plainRecord j 2 eSTATE none).1 }
  else
    match (t.useCache d).1 with
    | none => ((t.useCache d).2.plainRecord j 2 eECC none).2.commitJob
        { j with outcome := 2, record := ((t.useCache d).2.plainRecord j 2 eECC none).1 }
    | some rep =>
      let lo := (s.descRange (dCap d)).1 + dSoff d / 4
      let hi := (s.descRange (dCap d)).1 + ceilDiv (s.dEnd d) 4
      (((t.useCache d).2.forgetRam.abortRange 11 0 1048576).abortRange 12 lo hi).putJob
        { j with phase := .running, outcome := 0, lo := lo, hi := hi, replica := rep } true

section
variable {s t : State} {d : List Word} {j : Job}

theorem State.beginJob_cancelled (hcxl : bitOf (dw d 0) 17 = true) :
    s.beginJob t d j = (t.plainRecord j 1 0 none).2.commitJob { j with record := (t.plainRecord j 1 0 none).1 } := if_pos hcxl

variable (hcxl : bitOf (dw d 0) 17 = false)
include hcxl

theorem State.beginJob_unfit (hbad : s.dCheck d ≠ 0) : s.beginJob t d j = (t.plainRecord j 2 (s.dCheck d) none).2.commitJob
    { j with outcome := 2, record := (t.plainRecord j 2 (s.dCheck d) none).1 } := by
  rw [State.beginJob, if_neg (by simp [hcxl]), if_pos hbad]

variable (hok : s.dCheck d = 0)
include hok

theorem State.beginJob_domainOff (hoff : s.domOn 9 = false ∨ s.domOn 10 = false ∧ s.cached d = false) :
    s.beginJob t d j = ((t.unitFails 40).plainRecord j 2 eSTATE none).2.commitJob
      { j with outcome := 2, record := ((t.unitFails 40).plainRecord j 2 eSTATE none).1 } := by
  rw [State.beginJob, if_neg (by simp [hcxl]), if_neg (not_not.mpr hok), if_pos hoff]

variable (hink : s.domOn 9 = true) (hcode : s.domOn 10 = true ∨ s.cached d = true)
include hink hcode

theorem State.beginJob_codeBad (hnone : (t.useCache d).1 = none) :
    s.beginJob t d j = ((t.useCache d).2.plainRecord j 2 eECC none).2.commitJob
      { j with outcome := 2, record := ((t.useCache d).2.plainRecord j 2 eECC none).1 } := by
  rw [State.beginJob, if_neg (by simp [hcxl]), if_neg (not_not.mpr hok), if_neg, hnone]
  rcases hcode with h | h <;> simp [hink, h]

theorem State.beginJob_runs {rep : List Int} {lo hi : Nat} (hrep : (t.useCache d).1 = some rep)
    (hlo : lo = (s.descRange (dCap d)).1 + dSoff d / 4) (hhi : hi = (s.descRange (dCap d)).1 + ceilDiv (s.dEnd d) 4) :
    s.beginJob t d j = (((t.useCache d).2.forgetRam.abortRange 11 0 1048576).abortRange 12 lo hi).putJob
      { j with phase := .running, outcome := 0, lo := lo, hi := hi, replica := rep } true := by
  subst hlo hhi
  rw [State.beginJob, if_neg (by simp [hcxl]), if_neg (not_not.mpr hok), if_neg, hrep]
  rcases hcode with h | h <;> simp [hink, h]

end

/-! ### JOB_START -/

section
variable {s : State}

theorem exec_jobStart_none (hnone : s.chosenJr = none) :
    exec .jobStart s = .next (settle s (if s.scr.pair.any s.pairWaits then s else s.setPair none)) := by
  change execJobStart s = _
  rw [execJobStart, hnone, done]

/-- The pipelines that are free, in their order. -/
def State.freePipes (s : State) : List Nat := (List.range 2).filter fun p => !s.bit (pg 40 3) p

/-- The pipelines that a job takes: both for PAIR = 1 of a descriptor that is not cancelled, else the first that is free. -/
def State.pipesFor (s : State) (d : List Word) : List Nat :=
  if bitOf (dw d 0) 16 && !bitOf (dw d 0) 17 then [0, 1] else s.freePipes.take 1

/-- The head of job ring entry k has been taken off its ring and holds the pipelines ps. -/
def State.takeHead (s : State) (k : Nat) (ps : List Nat) : State :=
  let e := s.ringReadE (s.jring k) (s.reg (ringKey (s.jring k) 3)).toNat 24
  let t := if e.2.1 = 2 then e.2.2.pageErr 40 eECC 2 else e.2.2
  let t := ((t.ringTake (s.jring k) 24).setPair none).setPipes ps true
  { t with scr := { t.scr with last := k } }

/-- The job of descriptor d, taken from entry k for the pipelines ps, before it is known what becomes of it. -/
def State.newJob (s : State) (k : Nat) (d : List Word) (ps : List Nat) : Job :=
  { jr := k, desc := d, pipes := ps, phase := .extracted, outcome := 1, abort := false, lo := 0, hi := 0, plen := s.dP d
    replica := [], inv := s.bit (capKey (dCap d) 12) 16, fiN := (s.cap (dCap d)).fiN, fiD := (s.cap (dCap d)).fiD
    rxt0 := s.jobRxt0 d, record := [] }

/-- JOB_START by the branches of R197: the block off, the rings' domain off, a pair that waits, no pipeline free, the head taken. -/
theorem exec_jobStart_chosen {k : Nat} {d : List Word} (hchosen : s.chosenJr = some k) (hd : d = s.headDesc k) :
    exec .jobStart s = .next (settle s (if s.bit (pg 40 2) 0 = false ∨ s.domOn 8 = false then s
      else if s.domOn 2 = false then s.unitFails 40
      else if (bitOf (dw d 0) 16 && !bitOf (dw d 0) 17) = true ∧ s.freePipes.length < 2 then s.setPair (some k)
      else if s.freePipes = [] then s
      else s.beginJob (s.takeHead k (s.pipesFor d)) d (s.newJob k d (s.pipesFor d)))) := by
  subst hd
  change execJobStart s = _
  rw [execJobStart, hchosen]
  rfl

/-- The head is taken once the block and the rings' domain are on and the pipelines that its job needs are free. -/
theorem exec_jobStart_taken {k : Nat} {d : List Word} (hchosen : s.chosenJr = some k) (hd : d = s.headDesc k)
    (hen : s.bit (pg 40 2) 0 = true) (hon : s.domOn 8 = true) (hrings : s.domOn 2 = true)
    (hfit : (s.pipesFor d).length ≤ s.freePipes.length) (hfree : s.freePipes ≠ []) :
    exec .jobStart s = .next (settle s (s.beginJob (s.takeHead k (s.pipesFor d)) d (s.newJob k d (s.pipesFor d)))) := by
  have hboth : ¬ ((bitOf (dw d 0) 16 && !bitOf (dw d 0) 17) = true ∧ s.freePipes.length < 2) := by
    rintro ⟨hpair, hfew⟩
    rw [State.pipesFor, if_pos hpair] at hfit
    exact absurd hfit (Nat.not_le.mpr hfew)
  rw [exec_jobStart_chosen hchosen hd, if_neg (by simp [hen, hon]), if_neg (by simp [hrings]), if_neg hboth, if_neg hfree]

end

end Sys2Proof.Machine
end

section
/-! SUPPORT. The later events of a job, and the end of an abort's scan (06 R198, R199, R205, R206; 11 R371; 14 R462). -/

namespace Sys2Proof.Machine

/-! ### The commit of a finished job (R206) -/

section
variable {s : State} {j : Job}

theorem State.commitJob_room (hon : s.domOn 2 = true) (hprod : s.prodIs (s.rring j.jr) 14 = true)
    (hroom : j.record.length ≤ s.ringRoom (s.rring j.jr)) :
    s.commitJob j = ((s.ringPut (s.rring j.jr) j.record).countOutcome j.outcome).putJob j false := by
  simp only [State.commitJob, hon, hprod, hroom, Bool.true_eq_false, and_self, if_true, if_false]

theorem State.commitJob_waits (hon : s.domOn 2 = true)
    (hno : s.prodIs (s.rring j.jr) 14 = false ∨ s.ringRoom (s.rring j.jr) < j.record.length) :
    s.commitJob j = s.putJob { j with phase := .waitRoom } true := by
  rw [State.commitJob, if_neg (by simp [hon]), if_neg]
  rintro ⟨hprod, hroom⟩
  rcases hno with h | h
  · simp [hprod] at h
  · exact absurd hroom (Nat.not_le.mpr h)

theorem State.commitJob_off (hoff : s.domOn 2 = false) : s.commitJob j = (s.unitFails 40).putJob { j with phase := .waitRoom } true :=
  if_pos hoff

end

/-! ### The events of the job on a pipeline -/

section
variable {s : State} {pipe : Fin 2} {j : Job}

/-- The four events that meet the job on a pipeline. -/
def jobEvents (pipe : Fin 2) : List Instr := [.jobExtractionDone pipe, .jobCommit pipe, .recordRoomTimeout pipe, .jobAbortStop pipe]

theorem exec_jobEvent_none {row : Instr} (hrow : row ∈ jobEvents pipe) (hnone : s.jobOn pipe.val = none) :
    exec row s = .next (settle s s) := by
  simp only [jobEvents, List.mem_cons, List.not_mem_nil, or_false] at hrow
  rcases hrow with rfl | rfl | rfl | rfl
  · change execJobExtractionDone pipe s = _
    rw [execJobExtractionDone, hnone, done]
  · change execJobCommit pipe s = _
    rw [execJobCommit, hnone, done]
  · change execRecordRoomTimeout pipe s = _
    rw [execRecordRoomTimeout, hnone, done]
  · change execJobAbortStop pipe s = _
    rw [execJobAbortStop, hnone, done]

variable (hj : s.jobOn pipe.val = some j)
include hj

/-- A running job builds its record (R198), or ends FAILED by an error of the working RAM (11 R371). -/
theorem exec_jobExtractionDone_some {m : List (Option Word) × Bool × State} (hm : m = s.inkRead (inkwBase + j.lo) (j.hi - j.lo)) :
    exec (.jobExtractionDone pipe) s = .next (settle s (if j.phase = .running ∧ j.abort = false then
      (if s.ramBad j then (m.2.2.plainRecord j 2 eECC (some m.2.1)).2.forgetRam.putJob
          { j with phase := .extracted, outcome := 2, record := (m.2.2.plainRecord j 2 eECC (some m.2.1)).1 } true
        else (m.2.2.completeRecord j m.1 m.2.1).2.forgetRam.putJob
          { j with phase := .extracted, outcome := 0, record := (m.2.2.completeRecord j m.1 m.2.1).1 } true) else s)) := by
  subst hm
  change execJobExtractionDone pipe s = _
  rw [execJobExtractionDone, hj, done]

theorem exec_jobCommit_some : exec (.jobCommit pipe) s
    = .next (settle s (if j.phase = .running ∨ j.abort = true then s else s.commitJob j)) := by
  change execJobCommit pipe s = _
  rw [execJobCommit, hj, done]

theorem exec_recordRoomTimeout_some : exec (.recordRoomTimeout pipe) s = .next (settle s (if j.phase = .waitRoom then
      ((((s.incSat (pg 40 31)).raise 40 4).pageErr 40 eTIMEOUT 19).countOutcome (if j.outcome = 0 then 2 else j.outcome)).putJob j false
    else s)) := by
  change execRecordRoomTimeout pipe s = _
  rw [execRecordRoomTimeout, hj, done]

theorem exec_jobAbortStop_some {r : List Word × State}
    (hr : r = if j.phase = .running then s.plainRecord j 1 0 none else (abortedRecord j.record, s)) :
    exec (.jobAbortStop pipe) s = .next (settle s (if j.abort = true then
      r.2.forgetRam.commitJob { j with phase := .extracted, outcome := 1, abort := false, record := r.1 } else s)) := by
  subst hr
  change execJobAbortStop pipe s = _
  rw [execJobAbortStop, hj, done]

end

/-! ### The end of a scan (R205) -/

section
variable {s : State}

theorem exec_abortScanDone_idle (hidle : s.abBusy = false) : exec .abortScanDone s = .next (settle s s) := by
  change execAbortScanDone s = _
  rw [execAbortScanDone, if_pos hidle, done]

variable {t u : State} (hbusy : s.abBusy = true) (ht : t = s.setB (pg 40 3) 3 false)
include hbusy ht

theorem exec_abortScanDone_met (hmet : 0 < s.scr.abCount) :
    exec .abortScanDone s = .next (settle s (t.setReg (pg 40 34) (wordOf (s.scr.abCount % 16384 * 16)))) := by
  subst ht
  change execAbortScanDone s = _
  rw [execAbortScanDone, if_neg (by simp [hbusy]), if_pos hmet, done]

variable (hlate : s.scr.abCount = 0) (hu : u = ((t.setReg (pg 40 34) (wordOf eABORTLATE)).pageErr 40 eABORTLATE 2).raise 40 3)
include hlate hu

/-- A scan that met no job reports ABORTLATE, and to the session that started it as well. -/
theorem exec_abortScanDone_late_session {q : Fin 8} (hby : s.scr.abBy = some (.ses q)) :
    exec .abortScanDone s = .next (settle s (u.sesErr q.val eABORTLATE (pageAddr 40 2))) := by
  subst ht hu
  change execAbortScanDone s = _
  rw [execAbortScanDone, if_neg (by simp [hbusy]), if_neg (by simp [hlate]), hby, done]

theorem exec_abortScanDone_late_other (hby : ∀ q : Fin 8, s.scr.abBy ≠ some (.ses q)) :
    exec .abortScanDone s = .next (settle s u) := by
  subst ht hu
  change execAbortScanDone s = _
  rw [execAbortScanDone, if_neg (by simp [hbusy]), if_neg (by simp [hlate]), done]
  split
  · exact absurd ‹_› (hby _)
  · rfl

end

/-- Settles O22: the writes of the page and its memory, the start of a job by its branches, then what each later event meets. -/
theorem scriptoriumCommandsRun : Obligations.ScriptoriumCommandsRun := by
  refine ⟨fun s w v => ⟨?jobRing, ?cache, ?ram, ?control, ?refused⟩, ⟨fun s => exec_jobStart_none, ?start⟩,
    fun s => ⟨?extraction, ?commit, ?timeout, ?stop, ?scan, exec_abortScanDone_idle, ?idle⟩⟩
  case jobRing =>
    intro k hc hscan hidle hon
    rw [exec_jobRingConfig, done_guarded_clear hc (jrHandler_state_idle hscan hidle) rfl (jrHandler_extra_fits hon), jrHandler]
  case cache =>
    intro hc hbusy hqueued
    rw [exec_cacheWrite, done_guarded_clear hc (cacheHandler_state_idle hbusy hqueued) rfl rfl, cacheHandler]
  case ram =>
    intro o hl hon hmem hbusy
    rw [exec_workingRamWrite hl, State.ramWrite, State.regionWrite_of_free hon hmem (by rw [hbusy]; rfl)]
  case control =>
    intro u t x hc hab hho ht hx
    have hpath := scrpGuarded_ctrl_allowed hc hab hho ht hx
    refine ⟨fun hu => ?_, fun hu => ?_⟩
    · rw [exec_scrpCommand (w := w) (v := v) (u := u) (by simp [hu]), hpath]
    · have hgo : bitOf u 1 = true := hu ▸ bitOf_forceBit v 1 true (by decide)
      rw [exec_scrpCommand (w := w) (v := v) (u := u) (by simp [hu]), hpath, if_pos hgo]
  case refused =>
    rintro u rfl hc hab hbad
    rw [exec_scrpCommand (.tail _ (.head _)), scrpGuarded_ctrl_refused hc (bitOf_forceBit v 1 true (by decide)) hab hbad]
  case start =>
    rintro s k d free ps e t j hchosen hd hfree hps rfl ht hj
    obtain rfl : free = s.freePipes := hfree
    obtain rfl : ps = s.pipesFor d := hps
    obtain rfl : t = s.takeHead k (s.pipesFor d) := ht
    obtain rfl : j = s.newJob k d (s.pipesFor d) := hj
    have hstart := exec_jobStart_chosen hchosen hd
    refine ⟨fun hoff => by rw [hstart, if_pos hoff], fun hen hon hrings => ?hif, fun hen hon hrings => ⟨?waits, ?full, ?taken⟩⟩
    case hif => rw [hstart, if_neg (by simp [hen, hon]), if_pos hrings]
    case waits =>
      intro hpair hcxl hfew
      rw [hstart, if_neg (by simp [hen, hon]), if_neg (by simp [hrings]), if_pos ⟨by simp [hpair, hcxl], hfew⟩]
    case full =>
      intro hsingle hnone
      have hnopair : (bitOf (dw d 0) 16 && !bitOf (dw d 0) 17) = false := by rcases hsingle with h | h <;> simp [h]
      rw [hstart, if_neg (by simp [hen, hon]), if_neg (by simp [hrings]), if_neg (by simp [hnopair]), if_pos hnone]
    case taken =>
      intro hfit hfree
      rw [exec_jobStart_taken hchosen hd hen hon hrings hfit hfree]
      refine ⟨fun hcxl => ?_, fun hcxl hbad => ?_, fun hcxl hok hoff => ?_, fun hcxl hok hink hcode => ⟨fun hnone => ?_, ?_⟩⟩
      · rw [State.beginJob_cancelled hcxl]
      · rw [State.beginJob_unfit hcxl hbad]
      · rw [State.beginJob_domainOff hcxl hok hoff]
      · rw [State.beginJob_codeBad hcxl hok hink hcode hnone]
      · intro rep lo hi hrep hlo hhi
        rw [State.beginJob_runs hcxl hok hink hcode hrep hlo hhi]
  case extraction =>
    intro pipe j m hj hrun habort hm
    rw [exec_jobExtractionDone_some hj hm, if_pos ⟨hrun, habort⟩]
    exact ⟨fun r hgood hr => by rw [hr, if_neg (by simp [hgood])], fun r hbad hr => by rw [hr, if_pos hbad]⟩
  case commit =>
    intro pipe j hj hrun habort
    rw [exec_jobCommit_some hj, if_neg (by simp [hrun, habort])]
    exact ⟨fun hon hprod hroom => by rw [State.commitJob_room hon hprod hroom], fun hon hno => by rw [State.commitJob_waits hon hno],
      fun hoff => by rw [State.commitJob_off hoff]⟩
  case timeout =>
    intro pipe j hj hwait
    rw [exec_recordRoomTimeout_some hj, if_pos hwait]
  case stop =>
    intro pipe j r hj habort hr
    rw [exec_jobAbortStop_some hj hr, if_pos habort]
  case scan =>
    intro t hbusy ht
    exact ⟨exec_abortScanDone_met hbusy ht, fun u hlate hu => ⟨fun q => exec_abortScanDone_late_session hbusy ht hlate hu,
      exec_abortScanDone_late_other hbusy ht hlate hu⟩⟩
  case idle =>
    intro pipe
    have hmeets : ∀ row ∈ jobEvents pipe, (∀ j, s.jobOn pipe.val = some j → exec row s = .next (settle s s)) →
        exec row s = .next (settle s s) := fun row hrow hsome => by
      cases hj : s.jobOn pipe.val with
      | none => exact exec_jobEvent_none hrow hj
      | some j => exact hsome j hj
    refine ⟨fun h => hmeets _ (by simp [jobEvents]) fun j hj => ?_, fun h => hmeets _ (by simp [jobEvents]) fun j hj => ?_,
      fun h => hmeets _ (by simp [jobEvents]) fun j hj => ?_, fun h => hmeets _ (by simp [jobEvents]) fun j hj => ?_⟩
    · rw [exec_jobExtractionDone_some hj rfl, if_neg]
      rintro ⟨hrun, habort⟩
      simpa [hrun, habort] using h j hj
    · rw [exec_jobCommit_some hj, if_pos (h j hj)]
    · rw [exec_recordRoomTimeout_some hj, if_neg (h j hj)]
    · rw [exec_jobAbortStop_some hj rfl, if_neg (by simp [h j hj])]

end Sys2Proof.Machine
end

section
/-! SUPPORT. The peaks of a search (06 R198): the largest cell of a list, and the peaks that are taken one after the other. -/

namespace Sys2Proof.Machine

/-! ### The largest cell, the first of equals -/

/-- A later cell takes the place of the largest one only where it is larger. -/
theorem largestCell_append (l : List (Nat × Int × Nat)) (x : Nat × Int × Nat) :
    largestCell (l ++ [x]) = some ((largestCell l).elim x fun y => if y.2.2 < x.2.2 then x else y) := by
  rw [largestCell, List.foldl_append, ← largestCell]
  cases largestCell l with
  | none => rfl
  | some y => exact (apply_ite some _ _ _).symm

/-- Only an empty list has no largest cell. -/
theorem largestCell_eq_none {l : List (Nat × Int × Nat)} (h : largestCell l = none) : l = [] := by
  induction l using List.reverseRecOn with
  | nil => rfl
  | append_singleton l x _ => simp [largestCell_append] at h

/-- The largest cell is one of the list, and no cell of the list is larger. -/
theorem largestCell_spec {l : List (Nat × Int × Nat)} {x : Nat × Int × Nat} (h : largestCell l = some x) :
    x ∈ l ∧ ∀ y ∈ l, y.2.2 ≤ x.2.2 := by
  induction l using List.reverseRecOn generalizing x with
  | nil => simp [largestCell] at h
  | append_singleton l z ih =>
    rw [largestCell_append] at h
    rw [List.forall_mem_append, List.forall_mem_singleton, List.mem_append, List.mem_singleton]
    cases hmax : largestCell l with
    | none =>
      obtain rfl : z = x := by simpa [hmax] using h
      simp [largestCell_eq_none hmax]
    | some y =>
      obtain ⟨hmem, hle⟩ := ih hmax
      obtain rfl : (if y.2.2 < z.2.2 then z else y) = x := by simpa [hmax] using h
      split
      · rename_i hlt
        exact ⟨.inr rfl, fun u hu => (hle u hu).trans hlt.le, le_rfl⟩
      · rename_i hge
        exact ⟨.inl hmem, hle, not_lt.mp hge⟩

/-! ### The peaks that are taken -/

/-- `qs` are the peaks that a search of n more peaks takes after those in `got`: each is the largest cell outside the exclusion of the
earlier ones and reaches the threshold, and they are fewer than n only when no cell left reaches it. -/
structure PeaksAfter (d : List Word) (mean : Nat) (grid : List (Nat × Int × Nat)) (n : Nat) (got qs : List (Nat × Int × Nat)) : Prop where
  bounded : qs.length ≤ n
  largest : ∀ k x, qs[k]? = some x → largestCell (grid.filter (farFrom d (got ++ qs.take k))) = some x
  reaches : ∀ x ∈ qs, fieldOf (dw d 19) 17 10 * mean ≤ 8 * x.2.2
  spent : qs.length < n → ∀ x, largestCell (grid.filter (farFrom d (got ++ qs))) = some x → 8 * x.2.2 < fieldOf (dw d 19) 17 10 * mean

section
variable {d : List Word} {mean n : Nat} {grid got qs : List (Nat × Int × Nat)} {x : Nat × Int × Nat}

/-- Nothing more is taken once none is asked for, or once the largest cell left stays below the threshold. -/
theorem PeaksAfter.nil (h : n ≠ 0 → ∀ x, largestCell (grid.filter (farFrom d got)) = some x → 8 * x.2.2 < fieldOf (dw d 19) 17 10 * mean) :
    PeaksAfter d mean grid n got [] where
  bounded := Nat.zero_le n
  largest := by simp
  reaches := by simp
  spent hn := by simpa using h hn.ne'

/-- The largest cell left comes first, when it reaches the threshold; the others are the peaks after it. -/
theorem PeaksAfter.cons (hx : largestCell (grid.filter (farFrom d got)) = some x) (hthr : fieldOf (dw d 19) 17 10 * mean ≤ 8 * x.2.2)
    (h : PeaksAfter d mean grid n (got ++ [x]) qs) : PeaksAfter d mean grid (n + 1) got (x :: qs) where
  bounded := Nat.succ_le_succ h.bounded
  largest
    | 0, y, hy => by simpa [← Option.some.inj hy] using hx
    | k + 1, y, hy => by simpa using h.largest k y hy
  reaches := List.forall_mem_cons.mpr ⟨hthr, h.reaches⟩
  spent hn := by simpa using h.spent (Nat.lt_of_succ_lt_succ hn)

end

theorem takePeaks_spec (d : List Word) (mean : Nat) (grid : List (Nat × Int × Nat)) (n : Nat) (got : List (Nat × Int × Nat)) :
    ∃ qs, takePeaks d mean grid n got = got ++ qs ∧ PeaksAfter d mean grid n got qs := by
  induction n generalizing got with
  | zero => exact ⟨[], (List.append_nil got).symm, .nil (absurd rfl)⟩
  | succ n ih =>
    rw [takePeaks]
    cases hmax : largestCell (grid.filter (farFrom d got)) with
    | none => exact ⟨[], (List.append_nil got).symm, .nil (by simp [hmax])⟩
    | some x =>
      by_cases hthr : fieldOf (dw d 19) 17 10 * mean ≤ 8 * x.2.2
      · obtain ⟨qs, heq, hqs⟩ := ih (got ++ [x])
        exact ⟨x :: qs, by simp [hthr, heq], hqs.cons hmax hthr⟩
      · exact ⟨[], by simp [hthr], .nil (by simpa [hmax] using hthr)⟩

/-- A cell lies outside the exclusion of a peak by its distance in cells or by that in hypotheses (R198). -/
theorem farFrom_iff (d : List Word) (got : List (Nat × Int × Nat)) (x : Nat × Int × Nat) : farFrom d got x = true
    ↔ ∀ e ∈ got, fieldOf (dw d 20) 17 6 < cellDist (dCells d) x.1 e.1 ∨ fieldOf (dw d 20) 5 0 < (x.2.1 - e.2.1).natAbs := by
  simp [farFrom]

/-- Settles O23: by induction on the peaks still asked for, each the largest cell left after those already taken. -/
theorem searchPeaksAreTheLargestCells : Obligations.SearchPeaksAreTheLargestCells := by
  rintro d mean n grid ps rfl
  obtain ⟨qs, heq, hqs⟩ := takePeaks_spec d mean grid n []
  rw [heq, List.nil_append]
  refine ⟨hqs.bounded, fun k x hk => ?peak, fun hshort y hy hfar => ?spent⟩
  case peak =>
    have hmax := hqs.largest k x hk
    rw [List.nil_append] at hmax
    obtain ⟨hmem, hle⟩ := largestCell_spec hmax
    obtain ⟨hgrid, hfar⟩ := List.mem_filter.mp hmem
    exact ⟨hmax, hgrid, fun y hy hyfar => hle y (List.mem_filter.mpr ⟨hy, hyfar⟩), hqs.reaches x (List.mem_of_getElem? hk),
      (farFrom_iff d (qs.take k) x).mp hfar⟩
  case spent =>
    have hleft : y ∈ grid.filter (farFrom d qs) := List.mem_filter.mpr ⟨hy, hfar⟩
    obtain ⟨x, hmax⟩ := Option.ne_none_iff_exists'.mp fun hnone => List.ne_nil_of_mem hleft (largestCell_eq_none hnone)
    calc 8 * y.2.2 ≤ 8 * x.2.2 := Nat.mul_le_mul_left 8 ((largestCell_spec hmax).2 y hleft)
      _ < fieldOf (dw d 19) 17 10 * mean := hqs.spent hshort x hmax

end Sys2Proof.Machine
end

section
/-! SUPPORT. The timebase: RXT on its way to an instant, the commands of TIME.CTRL, the RTC calibration and the rebuild (07 R214 to R221,
R243 to R246; 12 R420). -/

namespace Sys2Proof.Machine

/-- The command of a write whose value its block finds out of range. -/
theorem done_guarded_range {s : State} {w : Writer} {p wd : Nat} {v : Word} {h : Handler} (hc : s.Clear w p wd v) (h1 : h.state = 0)
    (h2 : h.range = false) :
    done s (guarded w p wd v h s) = .next (settle s (s.recordRefusal w (some p) wd eRANGE (pageAddr p wd))) := by
  have hcode : writeRefusal w p wd v h s = eRANGE := by simp [writeRefusal_of_clear h hc, h1, h2]
  rw [guarded_of_clear h hc, hcode, if_pos (by decide), done]

/-! ### RXT on its way to an instant (R214, R217, log 12) -/

section
variable {s : State} {n : Nat}

theorem State.reach_of_stopped (hoff : s.time.on = false) (n : Nat) : s.reach n = s := if_pos (.inl hoff)

theorem State.reach_before_wrap (hon : s.time.on = true) (hahead : s.time.ns ≤ n) (hwrap : n < rxtMod) :
    s.reach n = ({ s with time := { s.time with ns := n } } : State).settlePols := by
  rw [State.reach, if_neg (by simp [hon, hahead]), if_pos hwrap, State.setNs]

theorem State.reach_wrap (hon : s.time.on = true) (hns : s.time.ns < rxtMod) : s.reach rxtMod
    = ((({ s with time := { s.time with ns := 0 } } : State).inc (pg 16 20)).raise 16 2).settlePols := by
  rw [State.reach, if_neg (by simp [hon, hns.le]), if_neg (lt_irrefl _), Nat.mod_self, State.wrapped, State.setNs]

theorem exec_rxtWrap : exec .rxtWrap s = .next (settle s (s.reach rxtMod)) := rfl

theorem exec_rxtSecond_running (hon : s.time.on = true) : exec .rxtSecond s
    = .next (settle s ((s.reach (min ((s.time.ns / 1000000000 + 1) * 1000000000) rxtMod)).setB (pg 4 32) 1 true)) := by
  change execRxtSecond s = _
  simp only [execRxtSecond, hon, if_true, done]

theorem exec_rxtSecond_stopped (hoff : s.time.on = false) : exec .rxtSecond s = .next (settle s s) := by
  change execRxtSecond s = _
  simp only [execRxtSecond, hoff, Bool.false_eq_true, if_false, done]

end

/-! ### TIME.CTRL and the periods (R218, R219, R221, R243, R245) -/

section
variable {s : State} {w : Writer} {v : Word}

/-- A calibration or a map that the write would start is already in progress. -/
def State.timeBusy (s : State) (v : Word) : Bool := bitOf v 1 && s.bit (pg 16 3) 1 || bitOf v 2 && s.bit (pg 16 3) 2

theorem timeCtrl_state : (timeCtrl w v s).state = if s.timeBusy v then eBUSY else 0 := by
  simp only [timeCtrl, State.timeBusy, Bool.or_eq_true, Bool.and_eq_true, ite_or]

/-- A capture and the start of a calibration leave the timebase. -/
theorem State.time_capture_calibrate (t : State) : (if bitOf v 1 then (if bitOf v 0 then t.setRegs (pg 16 16) (rxtWords s.rxt) else t).setB
      (pg 16 3) 1 true else if bitOf v 0 then t.setRegs (pg 16 16) (rxtWords s.rxt) else t).time = t.time := by
  split_ifs <;> simp only [State.setB_time, State.setRegs_time]

/-- What TIME.CTRL does, bit by bit. -/
theorem timeCtrl_result {t0 t1 t2 t3 t4 : State} (h0 : t0 = s.plain w 16 2 v)
    (h1 : t1 = if bitOf v 0 then t0.setRegs (pg 16 16) (rxtWords s.rxt) else t0)
    (h2 : t2 = if bitOf v 1 then t1.setB (pg 16 3) 1 true else t1)
    (h3 : t3 = if bitOf v 2 then { t2.setB (pg 16 3) 2 true with time := { s.time with mapAt := s.mapDue } } else t2)
    (h4 : t4 = if bitOf v 3 && s.bit (pg 16 3) 0 then t3.setB (pg 16 3) 4 false else t3) :
    (timeCtrl w v s).result = if bitOf v 4 then t4.setB (pg 16 3) 5 false else t4 := by
  have htime : t2.time = s.time := by rw [h2, h1, State.time_capture_calibrate, h0, State.plain_time]
  rw [h4, h3, ← htime, h2, h1, h0]
  rfl

/-- The five commands of TIME.CTRL are writes of its word with one bit forced. -/
theorem exec_timeCtrl {u : Word} {row : Instr} (hrow : (row, u) ∈ [(Instr.rxtCapture w v, forceBit v 0 true),
      (.rtcCalGo w v, forceBit v 1 true), (.mapGo w v, forceBit v 2 true), (.tdiscClear w v, forceBit v 3 true),
      (.rebuiltClear w v, forceBit v 4 true)]) : exec row s = done s (guarded w 16 2 u (timeCtrl w u s) s) := by
  simp only [List.mem_cons, List.not_mem_nil, or_false, Prod.mk.injEq] at hrow
  rcases hrow with ⟨rfl, rfl⟩ | ⟨rfl, rfl⟩ | ⟨rfl, rfl⟩ | ⟨rfl, rfl⟩ | ⟨rfl, rfl⟩ <;> rfl

/-- A write of TIME.CTRL that passes the shared checks is refused whole with BUSY, or has the effects of its bits. -/
theorem done_timeCtrl (hc : s.Clear w 16 2 v) : done s (guarded w 16 2 v (timeCtrl w v s) s) = .next (settle s
    (if s.timeBusy v then s.recordRefusal w (some 16) 2 eBUSY (pageAddr 16 2) else (timeCtrl w v s).result)) := by
  cases hbusy : s.timeBusy v with
  | true => rw [if_pos rfl, done_guarded_state hc (by rw [timeCtrl_state, hbusy, if_pos rfl]) (by decide)]
  | false => rw [if_neg (by decide), done_guarded_clear hc (by rw [timeCtrl_state, hbusy, if_neg (by decide)]) rfl rfl]

/-- A write of the low word of a period is applied when the period lies in its range, and is refused with RANGE otherwise (R243). -/
theorem done_periodWord {wd x lo hi : Nat} {t : State} (hc : s.Clear w 16 wd v)
    (hword : timeHandler w wd v s = ⟨0, decide (lo ≤ x) && decide (x ≤ hi), 0, t⟩) :
    done s (guarded w 16 wd v (timeHandler w wd v s) s) = .next (settle s
      (if lo ≤ x ∧ x ≤ hi then t else s.recordRefusal w (some 16) wd eRANGE (pageAddr 16 wd))) := by
  rw [hword]
  split
  next hin => exact done_guarded_clear hc rfl (by simpa using hin) rfl
  next hout => exact done_guarded_range hc rfl (by simpa [← Bool.decide_and] using hout)

theorem timeHandler_calpl : timeHandler w 43 v s = ⟨0, decide (1900000000 ≤ s.period 42 v) && decide (s.period 42 v ≤ 2100000000), 0,
    { s.plain w 16 43 v with time := { s.time with calp := s.period 42 v } }⟩ := rfl

theorem timeHandler_rcpl : timeHandler w 47 v s = ⟨0, decide (1536000000 ≤ s.period 46 v) && decide (s.period 46 v ≤ 2560000000), 0,
    { s.plain w 16 47 v with time := { s.time with rcp := s.period 46 v } }⟩ := rfl

theorem exec_calplWrite : exec (.calplWrite w v) s = done s (guarded w 16 43 v (timeHandler w 43 v s) s) := rfl

theorem exec_rcplWrite : exec (.rcplWrite w v) s = done s (guarded w 16 47 v (timeHandler w 47 v s) s) := rfl

end

/-! ### The map, the measured span and the rebuild (R221, R243, R245) -/

section
variable {s : State}

theorem exec_mapApply_waiting (hmap : s.bit (pg 16 3) 2 = true) (hon : s.time.on = true) :
    exec .mapApply s = .next (settle s (s.reachX s.time.mapAt).applyMap) := by
  change execMapApply s = _
  rw [execMapApply, if_pos ⟨hmap, hon⟩, done]

theorem exec_mapApply_idle (h : s.bit (pg 16 3) 2 = false ∨ s.time.on = false) : exec .mapApply s = .next (settle s s) := by
  have hidle : ¬ (s.bit (pg 16 3) 2 = true ∧ s.time.on = true) := by rcases h with h | h <;> simp [h]
  change execMapApply s = _
  rw [execMapApply, if_neg hidle, done]

/-- RXT is to be rebuilt: it stands still, BKP holds the stop, and TIME is on again with TPLL locked. -/
def State.rebuilds (s : State) : Prop := s.time.on = false ∧ s.time.kept = true ∧ s.domOn 15 = true ∧ s.bit (pg 16 3) 0 = true

theorem exec_rxtRebuild_idle (h : ¬ s.rebuilds) : exec .rxtRebuild s = .next (settle s s) := by
  change execRxtRebuild s = _
  rw [State.rebuilds] at h
  rw [execRxtRebuild, if_neg h, done]

theorem exec_rxtRebuild_stopped {t : State} {x : Nat} (h : s.rebuilds) (hx : x = s.rebuiltRxt)
    (ht : t = ((((((((s.setReg (pg 16 20) (s.reg (pg 16 20) + wordOf (x / 65536 / rxtMod))).setReg2 (pg 16 52) s.time.n1).setReg2
      (pg 16 54) s.time.n2).setReg2 (pg 16 56) s.uncertainty).setB (pg 16 3) 5 true).setB (pg 16 3) 3 false).setB (pg 16 3) 7 false).raise
        16 3)) : exec .rxtRebuild s = .next (settle s { t with
      time := { t.time with ns := x / 65536 % rxtMod, frac := x % 65536, on := true, kept := false } }) := by
  subst hx ht
  change execRxtRebuild s = _
  rw [State.rebuilds] at h
  rw [execRxtRebuild, if_pos h, done]

end

/-- Settles O24: RXT by whether it runs and what it reaches, the checks and effects of TIME.CTRL, then each event by whether something
waits for it. -/
theorem timeCommandsRun : Obligations.TimeCommandsRun := by
  refine ⟨fun s hns => ⟨fun hon => ?running, fun hoff => ?stopped⟩, ?control,
    fun s => ⟨?mapped, exec_mapApply_idle, fun span => rfl, ?calp, ?rcp, ?standing, ?rebuilt⟩⟩
  case running =>
    refine ⟨by rw [exec_rxtWrap, State.reach_wrap hon hns], ?_⟩
    rintro n rfl
    have hahead : s.time.ns ≤ (s.time.ns / 1000000000 + 1) * 1000000000 := by omega
    rw [exec_rxtSecond_running hon]
    exact ⟨fun h => by rw [Nat.min_eq_left h.le, State.reach_before_wrap hon hahead h],
      fun h => by rw [Nat.min_eq_right h, State.reach_wrap hon hns]⟩
  case stopped => exact ⟨by rw [exec_rxtWrap, State.reach_of_stopped hoff], exec_rxtSecond_stopped hoff⟩
  case control =>
    rintro s w v u busy t0 t1 t2 t3 t4 t5 t6 hc rfl h0 h1 h2 h3 h4 rfl rfl
    have hrow := @exec_timeCtrl s w v u
    rw [← timeCtrl_result h0 h1 h2 h3 h4]
    refine ⟨fun hu => ?_, fun hu => ?_, fun hu => ?_, fun hu => ?_, fun hu => ?_⟩ <;>
      exact (hrow (by simp [hu])).trans (done_timeCtrl hc)
  case mapped =>
    rintro _ _ hmap hon rfl rfl
    rw [exec_mapApply_waiting hmap hon]
    rfl
  case calp => exact fun w v hc => by rw [exec_calplWrite, done_periodWord hc timeHandler_calpl]
  case rcp => exact fun w v hc => by rw [exec_rcplWrite, done_periodWord hc timeHandler_rcpl]
  case standing =>
    intro h
    refine exec_rxtRebuild_idle ?_
    rintro ⟨hoff, hkept, hdom, hlock⟩
    simp [hoff, hkept, hdom, hlock] at h
  case rebuilt => exact fun x t hoff hkept hdom hlock hx ht => exec_rxtRebuild_stopped ⟨hoff, hkept, hdom, hlock⟩ hx ht

end Sys2Proof.Machine
end

section
/-! SUPPORT. The measurement latch: the checks of MEAS.CTRL, the triggers, the periodic epochs and the commit of a latch (07 R223 to
R230; 10 R359; 14 R462). -/

namespace Sys2Proof.Machine

theorem bitOf_forceBit_self (v : Word) {i : Nat} (h : i < 18) : bitOf (forceBit v i true) i = true := bitOf_forceBit v i true h

/-- A field from bit 0 up that holds a set bit is not 0. -/
theorem fieldOf_ne_zero_of_bitOf {v : Word} {hi i : Nat} (hle : i ≤ hi) (hbit : bitOf v i = true) : fieldOf v hi 0 ≠ 0 := by
  intro hzero
  have hlow : v.toNat % 2 ^ (hi + 1) = 0 := by simpa [fieldOf] using hzero
  have hkept := Nat.testBit_mod_two_pow v.toNat (hi + 1) i
  rw [hlow, Nat.zero_testBit, show v.toNat.testBit i = true from hbit] at hkept
  simp [Nat.lt_succ_of_le hle] at hkept

/-! ### MEAS.CTRL (R223, R224) -/

section
variable {s : State} {w : Writer} {v : Word}

/-- A SNAP of the write is let through: triggers are barred, so that it is skipped, or a latch may start now. -/
def State.snapAllowed (s : State) (v : Word) : Prop :=
  bitOf v 0 = true → s.latchBarred = true ∨ s.latchFree s.rxt = true ∧ s.epochNow = false

theorem measCtrl_state_allowed (h : s.snapAllowed v) : (measCtrl w v s).state = 0 := by
  refine if_neg ?_
  rintro ⟨hsnap, hbarred, hclash⟩
  rcases h hsnap with h | ⟨hfree, hepoch⟩
  · simp [hbarred] at h
  · simp [hfree, hepoch] at hclash

theorem measCtrl_state_busy (hsnap : bitOf v 0 = true) (hbarred : s.latchBarred = false)
    (hclash : s.latchFree s.rxt = false ∨ s.epochNow = true) : (measCtrl w v s).state = eBUSY :=
  if_pos ⟨hsnap, hbarred, hclash⟩

theorem measCtrl_extra_allowed (hring : s.prodIs s.lring 15 = true) (hcount : bitOf v 1 = true → s.fld (pg 19 17) 9 0 < s.fld (pg 19 16) 9 0) :
    (measCtrl w v s).extra = 0 := by
  refine if_neg ?_
  rintro (⟨hpen, hphase⟩ | ⟨-, hother⟩)
  · exact absurd (hcount hpen) (Nat.not_lt.mpr hphase)
  · simp [hring] at hother

theorem measCtrl_extra_refused (hset : ∃ i, i ≤ 2 ∧ bitOf v i = true)
    (hbad : s.prodIs s.lring 15 = false ∨ bitOf v 1 = true ∧ s.fld (pg 19 16) 9 0 ≤ s.fld (pg 19 17) 9 0) :
    (measCtrl w v s).extra = eCONFIG := by
  obtain ⟨i, hi, hbit⟩ := hset
  exact if_pos (hbad.symm.imp_right fun hring => ⟨fieldOf_ne_zero_of_bitOf hi hbit, hring⟩)

/-- The command of a write of MEAS.CTRL that passes all checks: a PEN that was 0 starts the grid anew, and a SNAP is a trigger. -/
theorem done_measCtrl_accepted {t : State} (hc : s.Clear w 19 2 v) (hring : s.prodIs s.lring 15 = true)
    (hcount : bitOf v 1 = true → s.fld (pg 19 17) 9 0 < s.fld (pg 19 16) 9 0) (hsnap : s.snapAllowed v)
    (ht : t = if bitOf v 1 && !s.bit (pg 19 2) 1 then
      { s.plain w 19 2 v with meas := { s.meas with penNs := s.extN, epochAt := none } } else s.plain w 19 2 v) :
    done s (guarded w 19 2 v (measCtrl w v s) s) = .next (settle s (if bitOf v 0 then t.trigger 1 0 s.rxt else t)) := by
  rw [done_guarded_clear hc (measCtrl_state_allowed hsnap) rfl (measCtrl_extra_allowed hring hcount), ht]
  rfl

/-- The command of a write of MEAS.CTRL whose count does not exceed its phase, or whose ring has another producer. -/
theorem done_measCtrl_config (hc : s.Clear w 19 2 v) (hsnap : s.snapAllowed v) (hset : ∃ i, i ≤ 2 ∧ bitOf v i = true)
    (hbad : s.prodIs s.lring 15 = false ∨ bitOf v 1 = true ∧ s.fld (pg 19 16) 9 0 ≤ s.fld (pg 19 17) 9 0) :
    done s (guarded w 19 2 v (measCtrl w v s) s) = .next (settle s (s.recordRefusal w (some 19) 2 eCONFIG (pageAddr 19 2))) :=
  done_guarded_extra hc (measCtrl_state_allowed hsnap) rfl (measCtrl_extra_refused hset hbad) (by decide)

theorem exec_periodicEnable :
    exec (.periodicEnable w v) s = done s (guarded w 19 2 (forceBit v 1 true) (measCtrl w (forceBit v 1 true) s) s) := rfl

theorem exec_snap : exec (.snap w v) s = done s (guarded w 19 2 (forceBit v 0 true) (measCtrl w (forceBit v 0 true) s) s) := rfl

end

/-! ### Triggers and epochs (R223, R224) -/

section
variable {s : State}

theorem State.trigger_of_not_free {src evin t : Nat} (h : s.latchFree t = false) : s.trigger src evin t = (s.incSat (pg 19 22)).raise 19 1 := by
  rw [State.trigger, if_neg (by simp [h]), State.skipLatch]

/-- A latch may start only when none is in progress and 5 ms have passed since the last accepted trigger. -/
theorem State.latchFree_spec {t : Nat} (h : s.latchFree t = true) :
    s.meas.cur = none ∧ ∀ u, s.meas.lastT = some u → u + 5000000 * 65536 ≤ s.extOf t := by
  rw [State.latchFree, Bool.and_eq_true, Option.isNone_iff_eq_none] at h
  obtain ⟨hcur, hlast⟩ := h
  refine ⟨hcur, fun u hu => ?_⟩
  simpa [hu] using hlast

theorem exec_periodicEpoch_due (hpen : s.bit (pg 19 2) 1 = true) (hon : s.time.on = true) :
    exec .periodicEpoch s = .next (settle s s.takeEpoch) := by
  change execPeriodicEpoch s = _
  rw [execPeriodicEpoch, if_pos ⟨hpen, hon⟩, done]

theorem exec_periodicEpoch_idle (h : s.bit (pg 19 2) 1 = false ∨ s.time.on = false) : exec .periodicEpoch s = .next (settle s s) := by
  have hidle : ¬ (s.bit (pg 19 2) 1 = true ∧ s.time.on = true) := by rcases h with h | h <;> simp [h]
  change execPeriodicEpoch s = _
  rw [execPeriodicEpoch, if_neg hidle, done]

/-! ### The commit of a latch (R229, R230) -/

theorem exec_latchCommit_idle (hcur : s.meas.cur = none) : exec .latchCommit s = .next (settle s s) := by
  change execLatchCommit s = _
  simp only [execLatchCommit, hcur, done]

/-- The record of a latch reaches no ring: in LEGACY, and for a window latch whose ring the latch did not produce (log 46). -/
def State.latchRingless (s : State) (l : Latch) : Prop := s.pins.persona = .legacy ∨ l.own = false ∧ l.src = 3

/-- The ring takes the record r of the latch. -/
def State.latchFits (s : State) (l : Latch) (r : List Word) : Prop :=
  l.lost = false ∧ s.prodIs s.lring 15 = true ∧ r.length ≤ s.ringRoom s.lring ∧ s.domOn 2 = true

/-- The latch has ended with the sequence number seq, its record of n words read from the staging buffer. -/
def State.latchEnds (s : State) (seq : Word) (n : Nat) : State :=
  { ((s.memReadN (stagingKey 0) n).2.2.setReg (pg 19 21) seq).setB (pg 19 3) 0 false with
    meas := { s.meas with cur := none, legWant := false } }

/-- The end of a latch, by where its record r goes. -/
theorem exec_latchCommit_ends {l : Latch} {seq : Word} {r : List Word} {x : State} (hcur : s.meas.cur = some l)
    (hseq : seq = s.reg (pg 19 21) + 1) (hr : r = s.latchRecord l seq)
    (hx : s.latchRingless l ∧ x = ((s.latchEnds seq r.length).setRegs (pg 19 24) (rxtWords l.t)).raise 19 0
      ∨ ¬ s.latchRingless l ∧ s.latchFits l r
        ∧ x = (((s.latchEnds seq r.length).ringPut s.lring r).setRegs (pg 19 24) (rxtWords l.t)).raise 19 0
      ∨ ¬ s.latchRingless l ∧ ¬ s.latchFits l r
        ∧ x = ((if s.domOn 2 then s.latchEnds seq r.length else (s.latchEnds seq r.length).unitFails 19).incSat (pg 19 23)).raise 19 2) :
    exec .latchCommit s = .next (settle s (if s.meas.legWant then x.legacyLatch else x)) := by
  subst hseq hr
  change execLatchCommit s = _
  simp only [execLatchCommit, hcur, done]
  rw [State.latchRingless, State.latchFits] at hx
  rcases hx with ⟨hnone, rfl⟩ | ⟨hsome, hfits, rfl⟩ | ⟨hsome, hdrops, rfl⟩
  · rw [if_pos hnone, State.latchEnds]
  · rw [if_neg hsome, if_pos hfits, State.latchEnds]
  · rw [if_neg hsome, if_neg hdrops, State.latchEnds]

end

/-! ### Event inputs (R239 to R241; 14 R462) -/

section
variable {s : State}

/-- An edge at event input n is seen: time runs, the domain is on and the edge's direction is selected. -/
def State.edgeSeen (s : State) (n : Fin 8) (rising : Bool) : Prop :=
  s.time.on = true ∧ s.domOn 15 = true ∧ bitOf (s.reg (pg 18 (24 + n.val))) (if rising then 0 else 1) = true

theorem exec_eventEdge_seen {n : Fin 8} {rising : Bool} {tap : Fin 40} {u x : State} {seq : Word} {t : Nat} (h : s.edgeSeen n rising)
    (ht : t = s.edgeTime n.val tap.val) (hseq : seq = s.reg (pg 18 17) + 1)
    (hu : u = ((s.setReg (pg 18 17) seq).setRegs (pg 18 (40 + 4 * n.val)) (rxtWords t)).raise 18 n.val)
    (hx : x = if 32 ≤ s.ev.fifo.length then ((u.incSat (pg 18 18)).raise 18 8).setFifo s.ev.fifo true
      else u.setFifo (s.ev.fifo ++ [⟨n.val, rising, s.ev.lost, seq, t⟩]) false) :
    exec (.eventEdge n rising tap) s
      = .next (settle s (if s.bit (pg 19 2) 2 = true ∧ s.fld (pg 19 2) 5 3 = n.val then x.trigger 2 n.val t else x)) := by
  subst ht hseq hu hx
  rw [State.edgeSeen] at h
  change execEventEdge n rising tap s = _
  rw [execEventEdge, if_pos h, done]

theorem exec_eventEdge_unseen {n : Fin 8} {rising : Bool} {tap : Fin 40} (h : ¬ s.edgeSeen n rising) :
    exec (.eventEdge n rising tap) s = .next (settle s s) := by
  rw [State.edgeSeen] at h
  change execEventEdge n rising tap s = _
  rw [execEventEdge, if_neg h, done]

/-- The ring of the event unit takes a record of six words. -/
def State.eventRoom (s : State) : Prop :=
  s.bit (pg 18 16) 6 = true ∧ s.prodIs (s.fld (pg 18 16) 5 0) 16 = true ∧ 6 ≤ s.ringRoom (s.fld (pg 18 16) 5 0)

theorem exec_eventFifoMove_room {e : EvEntry} {l : List EvEntry} (hfifo : s.ev.fifo = e :: l) (h : s.eventRoom) : exec .eventFifoMove s
    = .next (settle s (if s.domOn 2 then (s.ringPut (s.fld (pg 18 16) 5 0)
        ([wordOf (e.input * 32768 + (if e.rising then 1 else 2) * 8192 + b2n e.ovr * 4096), e.seq] ++ rxtWords e.t)).setFifo l s.ev.lost
      else s.unitFails 18)) := by
  rw [State.eventRoom] at h
  change execEventFifoMove s = _
  simp only [execEventFifoMove, hfifo, done]
  rw [if_pos h]

theorem exec_eventFifoMove_waits (h : s.ev.fifo = [] ∨ ¬ s.eventRoom) : exec .eventFifoMove s = .next (settle s s) := by
  rw [State.eventRoom] at h
  change execEventFifoMove s = _
  cases hfifo : s.ev.fifo with
  | nil => simp only [execEventFifoMove, hfifo, done]
  | cons e l =>
    simp only [execEventFifoMove, hfifo, done]
    rw [if_neg (h.resolve_left (by simp [hfifo]))]

end

/-- Settles O25: the checks of MEAS.CTRL, the epochs and the end of a latch; the bounds between triggers; then each edge and each record of
the FIFO by what it meets. -/
theorem measurementCommandsRun : Obligations.MeasurementCommandsRun := by
  refine ⟨fun s w v => ⟨?accepted, ?refused, exec_periodicEpoch_idle, exec_latchCommit_idle, ?epoch, ?commit⟩,
    fun s src evin t => ⟨State.trigger_of_not_free, ?busy, State.latchFree_spec⟩, fun s => ⟨?edge, ?move, ?unseen, ?waits⟩⟩
  case accepted =>
    intro u t hc hring hcount hsnap ht
    have heffect := done_measCtrl_accepted hc hring hcount hsnap ht
    refine ⟨?_, ?_⟩ <;> rintro rfl
    · rw [exec_periodicEnable, heffect]
    · rw [exec_snap, heffect, if_pos (bitOf_forceBit_self v (by decide))]
  case refused =>
    intro u hc hsnap hbad
    refine ⟨?_, ?_⟩ <;> rintro rfl
    · rw [exec_periodicEnable, done_measCtrl_config hc hsnap ⟨1, by decide, bitOf_forceBit_self v (by decide)⟩ hbad]
    · rw [exec_snap, done_measCtrl_config hc hsnap ⟨0, by decide, bitOf_forceBit_self v (by decide)⟩ hbad]
  case epoch =>
    rintro t hpen hon rfl
    rw [exec_periodicEpoch_due hpen hon, State.takeEpoch]
  case commit =>
    intro l seq r t x hcur hseq hr ht hx
    obtain rfl : t = s.latchEnds seq r.length := ht
    have hringed : s.pins.persona ≠ .legacy → (l.own = true ∨ l.src ≠ 3) → ¬ s.latchRingless l := fun hpersona hown h =>
      h.elim hpersona fun ⟨hown', hsrc⟩ => by simp [hown', hsrc] at hown
    refine exec_latchCommit_ends hcur hseq hr ?_
    rcases hx with h | ⟨hpersona, hown, hlost, hring, hroom, hon, rfl⟩ | ⟨hpersona, hown, hon, hbarred, rfl⟩ | ⟨hpersona, hown, hoff, rfl⟩
    · exact .inl h
    · exact .inr (.inl ⟨hringed hpersona hown, ⟨hlost, hring, hroom, hon⟩, rfl⟩)
    · refine .inr (.inr ⟨hringed hpersona hown, ?_, by rw [if_pos hon]⟩)
      rintro ⟨hlost, hring, hroom, -⟩
      simp [hlost, hring, Nat.not_lt.mpr hroom] at hbarred
    · refine .inr (.inr ⟨hringed hpersona hown, fun h => ?_, by rw [hoff, if_neg (by decide)]⟩)
      simp [State.latchFits, hoff] at h
  case busy =>
    intro w v hc hbarred hclash
    rw [exec_snap, done_guarded_state hc (measCtrl_state_busy (bitOf_forceBit_self v (by decide)) hbarred hclash) (by decide)]
  case edge => exact fun n rising tap u x seq t hon hdom hsel ht hseq hu hx => exec_eventEdge_seen ⟨hon, hdom, hsel⟩ ht hseq hu hx
  case move =>
    rintro e l r hfifo rfl hen hring hroom
    rw [exec_eventFifoMove_room hfifo ⟨hen, hring, hroom⟩]
    exact ⟨fun hon => by rw [if_pos hon], fun hoff => by rw [hoff, if_neg (by decide)]⟩
  case unseen =>
    intro n rising tap h
    refine exec_eventEdge_unseen ?_
    rintro ⟨hon, hdom, hsel⟩
    simp [hon, hdom, hsel] at h
  case waits =>
    intro h
    refine exec_eventFifoMove_waits (h.imp_right fun hno => ?_)
    rintro ⟨hen, hring, hroom⟩
    simp [hen, hring, Nat.not_lt.mpr hroom] at hno

end Sys2Proof.Machine
end

section
/-! SUPPORT. Time pulses and the Hairline: the checks of TP.CTRL, the settings that come into force, the two edges of a pulse and the
calibration (07 R234 to R238, R248). -/

namespace Sys2Proof.Machine

/-! ### TP.CTRL (R235, R238) -/

section
variable {s : State} {w : Writer} {v : Word}

/-- The outputs that a write of TP.CTRL names. -/
def tpNamed (v : Word) : List Nat := (List.range 4).filter fun n => bitOf v n

theorem mem_tpNamed {k : Nat} : k ∈ tpNamed v ↔ k < 4 ∧ bitOf v k = true := by
  rw [tpNamed, List.mem_filter, List.mem_range]

/-- An APPLY of a named output, or a calibration that the write would start, is pending. -/
def State.tpPending (s : State) (v : Word) : Prop :=
  (∃ k, k < 4 ∧ bitOf v k = true ∧ s.bit (pg 17 3) (4 + k) = true) ∨ bitOf v 4 = true ∧ s.bit (pg 17 3) 8 = true

theorem tpCtrl_state (hopen : s.legacyDual = true → bitOf v 0 = false) : (tpCtrl w v s).state
    = if ((tpNamed v).any fun n => s.bit (pg 17 3) (4 + n)) = true ∨ bitOf v 4 = true ∧ s.bit (pg 17 3) 8 = true then eBUSY else 0 := by
  rw [ite_or]
  exact if_neg fun ⟨hdual, hfirst⟩ => by simp [hopen hdual] at hfirst

theorem any_pending_iff : ((tpNamed v).any fun n => s.bit (pg 17 3) (4 + n)) = true ∨ bitOf v 4 = true ∧ s.bit (pg 17 3) 8 = true
    ↔ s.tpPending v := by
  simp only [State.tpPending, List.any_eq_true, mem_tpNamed, and_assoc]

theorem tpCtrl_state_pending (hopen : s.legacyDual = true → bitOf v 0 = false) (h : s.tpPending v) : (tpCtrl w v s).state = eBUSY := by
  rw [tpCtrl_state hopen, if_pos (any_pending_iff.mpr h)]

theorem tpCtrl_state_idle (hopen : s.legacyDual = true → bitOf v 0 = false) (h : ¬ s.tpPending v) : (tpCtrl w v s).state = 0 := by
  rw [tpCtrl_state hopen, if_neg (mt any_pending_iff.mp h)]

theorem tpCtrl_extra : (tpCtrl w v s).extra = if ((tpNamed v).all fun n => (s.tpStaged n).ok) = true then 0 else eCONFIG := rfl

theorem tpCtrl_extra_allowed (h : ∀ k, k < 4 → bitOf v k = true → (s.tpStaged k).ok = true) : (tpCtrl w v s).extra = 0 := by
  rw [tpCtrl_extra, if_pos (List.all_eq_true.mpr fun k hk => h k (mem_tpNamed.mp hk).1 (mem_tpNamed.mp hk).2)]

theorem tpCtrl_extra_refused {k : Nat} (hk : k < 4) (hbit : bitOf v k = true) (hbad : (s.tpStaged k).ok = false) :
    (tpCtrl w v s).extra = eCONFIG := by
  refine if_neg fun h => ?_
  simpa [hbad] using List.all_eq_true.mp h k (mem_tpNamed.mpr ⟨hk, hbit⟩)

/-- The outputs that are named take their staged settings one after the other. -/
theorem tpCtrl_result {f : State → Nat → State} {t : State} (hf : f = fun t k => if bitOf v k then t.applyTp k (s.tpStaged k) else t)
    (ht : t = f (f (f (f (s.plain w 17 2 v) 0) 1) 2) 3) :
    (tpCtrl w v s).result = if bitOf v 4 then t.setB (pg 17 3) 8 true else t := by
  have hfold : (tpNamed v).foldl (fun t n => t.applyTp n (s.tpStaged n)) (s.plain w 17 2 v) = t := by
    rw [tpNamed, List.foldl_filter, ht, hf]
    rfl
  rw [← hfold]
  rfl

theorem exec_tpApply {n : Fin 4} :
    exec (.tpApply w n v) s = done s (guarded w 17 2 (forceBit v n.val true) (tpCtrl w (forceBit v n.val true) s) s) := rfl

theorem exec_hairlineCalibrate :
    exec (.hairlineCalibrate w v) s = done s (guarded w 17 2 (forceBit v 4 true) (tpCtrl w (forceBit v 4 true) s) s) := rfl

end

/-! ### Settings that come into force (R235, R236) -/

section
variable {s : State} {n : Fin 4}

theorem exec_tpApplyTakeEffect_pending (happly : s.bit (pg 17 3) (4 + n.val) = true) (hon : s.time.on = true) :
    exec (.tpApplyTakeEffect n) s = .next (settle s (s.tpTakes n.val)) := by
  change execTpApplyTakeEffect n s = _
  rw [execTpApplyTakeEffect, if_pos ⟨happly, hon⟩, done]

theorem exec_tpApplyTakeEffect_idle (h : s.bit (pg 17 3) (4 + n.val) = false ∨ s.time.on = false) :
    exec (.tpApplyTakeEffect n) s = .next (settle s s) := by
  have hidle : ¬ (s.bit (pg 17 3) (4 + n.val) = true ∧ s.time.on = true) := by rcases h with h | h <;> simp [h]
  change execTpApplyTakeEffect n s = _
  rw [execTpApplyTakeEffect, if_neg hidle, done]

end

/-! ### The edges of a pulse (R234, R236, R237) -/

section
variable {s : State} {n : Nat} {g : Rat} {e : Int × Rat × Int} {t : State} {x : TpSt}

/-- The pulse of a grid instant would begin during the previous pulse, or less than 10 ns after its end at q. -/
def TpSt.tooClose (x : TpSt) (q : Rat) : Bool := x.pulse.isSome || x.lastEnd.any fun p => decide (q < p + 10)

/-- The same by the cases of the previous pulse's end. -/
theorem TpSt.tooClose_eq (x : TpSt) (q : Rat) : x.tooClose q = (x.pulse.isSome || match x.lastEnd with
    | some p => decide (q < p + 10)
    | none => false) := by
  rw [TpSt.tooClose]
  cases x.lastEnd <;> rfl

/-- The state in which the edge of a grid instant falls, and the output there, its instant served. -/
structure State.EdgeAt (s : State) (n : Nat) (g : Rat) (e : Int × Rat × Int) (t : State) (x : TpSt) : Prop where
  placed : e = s.placeEdge n (s.tp n).cur.dly (s.tpTarget n g)
  reached : t = s.reachExt e.1
  served : x = { t.tp n with doneTick := some e.1 }

/-- What an active edge does: nothing in mode 3 without SV, a skip too close to the previous pulse, else a pulse begins. -/
theorem State.activeEdge_eq (h : s.EdgeAt n g e t x) : s.activeEdge n g
    = if x.cur.mode = 3 ∧ t.bit (pg 16 3) 3 = false then t.setTp n x
      else if x.tooClose e.2.1 then ((t.setTp n x).incSat (tpKey n 9)).raise 17 (4 + n)
      else (((((if n = 0 ∧ t.legacyDual = true then t.setB (pg lwinPage 3) 5 true else t).setTp n { x with
        pulse := some (x.cur.pol, s.tpTarget n g + (x.cur.width : Rat), x.cur.dly)
        level := !idleLevel x.cur.pol, polAt := none }).setB (pg 17 3) n true).setRegs (tpKey n 10)
          (rxtWords (e.2.2 % 2 ^ 64).toNat)).raise 17 n) := by
  obtain ⟨rfl, rfl, rfl⟩ := h
  rw [TpSt.tooClose_eq]
  rfl

theorem State.activeEdge_suppressed (h : s.EdgeAt n g e t x) (hmode : x.cur.mode = 3) (hsv : t.bit (pg 16 3) 3 = false) :
    s.activeEdge n g = t.setTp n x := by
  rw [State.activeEdge_eq h, if_pos ⟨hmode, hsv⟩]

theorem State.activeEdge_skipped (h : s.EdgeAt n g e t x) (hlive : x.cur.mode ≠ 3 ∨ t.bit (pg 16 3) 3 = true)
    (hclose : x.tooClose e.2.1 = true) : s.activeEdge n g = ((t.setTp n x).incSat (tpKey n 9)).raise 17 (4 + n) := by
  have hlive' : ¬ (x.cur.mode = 3 ∧ t.bit (pg 16 3) 3 = false) := fun ⟨hmode, hsv⟩ => by simp [hmode, hsv] at hlive
  rw [State.activeEdge_eq h, if_neg hlive', if_pos hclose]

theorem State.activeEdge_begins {y : State} (h : s.EdgeAt n g e t x) (hlive : x.cur.mode ≠ 3 ∨ t.bit (pg 16 3) 3 = true)
    (hclose : x.tooClose e.2.1 = false) (hy : y = if n = 0 ∧ t.legacyDual = true then t.setB (pg lwinPage 3) 5 true else t) :
    s.activeEdge n g = (((y.setTp n { x with
        pulse := some (x.cur.pol, s.tpTarget n g + (x.cur.width : Rat), x.cur.dly)
        level := !idleLevel x.cur.pol, polAt := none }).setB (pg 17 3) n true).setRegs (tpKey n 10)
          (rxtWords (e.2.2 % 2 ^ 64).toNat)).raise 17 n := by
  have hlive' : ¬ (x.cur.mode = 3 ∧ t.bit (pg 16 3) 3 = false) := fun ⟨hmode, hsv⟩ => by simp [hmode, hsv] at hlive
  rw [State.activeEdge_eq h, if_neg hlive', hclose, if_neg (by decide), hy]

end

section
variable {s : State} {n : Fin 4}

theorem exec_tpActiveEdge_stopped (h : (s.tp n.val).cur.mode = 0 ∨ s.time.on = false) :
    exec (.tpActiveEdge n) s = .next (settle s s) := by
  change execTpActiveEdge n s = _
  rw [execTpActiveEdge, if_pos h, done]

/-- What an APPLY or a map that is due leaves is no running output, or one without a grid instant to serve. -/
theorem exec_tpActiveEdge_none (hmode : (s.tp n.val).cur.mode ≠ 0) (hon : s.time.on = true)
    (h : ((s.beforeEdge n.val 2).tp n.val).cur.mode = 0 ∨ (s.beforeEdge n.val 2).nextGrid n.val = none) :
    exec (.tpActiveEdge n) s = .next (settle s (s.beforeEdge n.val 2)) := by
  change execTpActiveEdge n s = _
  rw [execTpActiveEdge, if_neg (by simp [hmode, hon]), done]
  rcases h with h | h
  · simp only [h, if_true]
  · simp only [h, ite_self]

theorem exec_tpActiveEdge_grid {b : State} {g : Rat} (hmode : (s.tp n.val).cur.mode ≠ 0) (hon : s.time.on = true)
    (hb : b = s.beforeEdge n.val 2) (hbmode : (b.tp n.val).cur.mode ≠ 0) (hg : b.nextGrid n.val = some g) :
    exec (.tpActiveEdge n) s = .next (settle s (b.activeEdge n.val g)) := by
  subst hb
  change execTpActiveEdge n s = _
  rw [execTpActiveEdge, if_neg (by simp [hmode, hon]), done]
  simp only [if_neg hbmode, hg]

theorem exec_tpInactiveEdge_idle (h : (s.tp n.val).pulse = none) : exec (.tpInactiveEdge n) s = .next (settle s s) := by
  change execTpInactiveEdge n s = _
  simp only [execTpInactiveEdge, h, done]

theorem exec_tpInactiveEdge_ends {pol : Bool} {target : Rat} {dly : Int} (h : (s.tp n.val).pulse = some (pol, target, dly))
    {e : Int × Rat × Int} {t : State} (he : e = s.placeEdge n.val dly target) (ht : t = s.reachExt e.1) :
    exec (.tpInactiveEdge n) s = .next (settle s ((t.setTp n.val { t.tp n.val with
      pulse := none, lastEnd := some e.2.1, level := idleLevel pol
      polAt := if (t.tp n.val).cur.pol = pol then none else some (e.2.1 + 10) }).setB (pg 17 3) n.val false)) := by
  subst he ht
  change execTpInactiveEdge n s = _
  simp only [execTpInactiveEdge, h, done]

end

/-! ### The calibration of the Hairline (R238) -/

section
variable {s : State} {taps : List (BitVec 13)}

/-- The key of the table entry of tap i, counted output by output. -/
def hairKey (i : Nat) : Nat := tpKey (i / 40) (16 + i % 40)

theorem hairKey_ne {i j : Nat} (h : i ≠ j) : hairKey i ≠ hairKey j := by
  unfold hairKey tpKey pg
  omega

/-- The header words of the page lie below the tables. -/
theorem hairKey_ne_header (i : Nat) {k : Nat} (hk : k < 16) : hairKey i ≠ pg 17 k := by
  unfold hairKey tpKey pg
  omega

/-- The entry of tap i takes its measured delay, if one is brought. -/
def State.putTap (taps : List (BitVec 13)) (t : State) (i : Nat) : State :=
  match taps[i]? with
  | some d => t.setReg (hairKey i) (wordOf (min 7999 d.toNat))
  | none => t

theorem State.putTap_of_lt {i : Nat} (h : i < taps.length) (t : State) :
    t.putTap taps i = t.setReg (hairKey i) (wordOf (min 7999 (taps.getD i 0).toNat)) := by
  simp [State.putTap, h]

theorem State.noteTab_eq (s : State) (n : Nat) : s.noteTab n = { s with tps := (s.noteTab n).tps } := by
  simp only [State.noteTab, State.setTp]
  split <;> rfl

/-- Notes of the tables before a write change the outputs' hidden state alone. -/
theorem State.noteTabs_eq (s : State) (l : List Nat) : l.foldl State.noteTab s = { s with tps := (l.foldl State.noteTab s).tps } := by
  refine List.foldlRecOn (motive := fun u : State => u = { s with tps := u.tps }) _ _ rfl fun u hu n _ => ?_
  rw [State.noteTab_eq, hu]

/-- The first n delays stand in the tables, and neither memory nor time has changed. -/
structure State.TapsPut (taps : List (BitVec 13)) (n : Nat) (s t : State) : Prop where
  wf : Store.wf t.regs = true
  word : ∀ i, i < n → t.reg (hairKey i) = wordOf (min 7999 (taps.getD i 0).toNat)
  mem : t.mem = s.mem
  time : t.time = s.time

theorem State.tapsPut (hwf : Store.wf s.regs = true) {n : Nat} (hn : n ≤ taps.length) :
    s.TapsPut taps n ((List.range n).foldl (State.putTap taps) s) := by
  induction n with
  | zero => exact ⟨hwf, by simp, rfl, rfl⟩
  | succ n ih =>
    obtain ⟨hwf', hword, hmem, htime⟩ := ih (Nat.le_of_succ_le hn)
    rw [List.range_succ, List.foldl_append, List.foldl_cons, List.foldl_nil, State.putTap_of_lt hn]
    refine ⟨State.wf_setReg _ _ _ hwf', fun i hi => ?_, hmem, htime⟩
    by_cases heq : i = n
    · rw [heq, State.reg_setReg_self _ _ _ hwf']
    · rw [State.reg_setReg_ne _ _ (hairKey_ne heq), hword i (by omega)]

theorem exec_hairlineCalDone_idle (h : s.bit (pg 17 3) 8 = false) : exec (.hairlineCalDone taps) s = .next (settle s s) := by
  change execHairlineCalDone taps s = _
  rw [execHairlineCalDone, h, if_neg (by decide), done]

theorem exec_hairlineCalDone_busy (h : s.bit (pg 17 3) 8 = true) : exec (.hairlineCalDone taps) s
    = .next (settle s ((((List.range 160).foldl (State.putTap taps) ((List.range 4).foldl State.noteTab s)).setB
      (pg 17 3) 8 false).raise 17 11)) := by
  change execHairlineCalDone taps s = _
  rw [execHairlineCalDone, if_pos h, done]
  rfl

end

/-- Settles O26: the checks of TP.CTRL and its effects, each event by whether something waits for it, the branches of an active edge, and
by induction the tables that a calibration fills. -/
theorem timePulseCommandsRun : Obligations.TimePulseCommandsRun := by
  refine fun s w v n => ⟨?accepted, ?refused, exec_tpApplyTakeEffect_idle, exec_tpActiveEdge_stopped, exec_tpActiveEdge_none,
    exec_tpInactiveEdge_idle, fun taps => exec_hairlineCalDone_idle, ?applies, ?active, ?inactive, ?calibrated⟩
  case accepted =>
    intro u f t hc hopen hnamed hcal hf ht
    have hidle : ¬ s.tpPending u := by
      rintro (⟨k, hk, hbit, hpending⟩ | ⟨hbit, hpending⟩)
      · simp [(hnamed k hk hbit).1] at hpending
      · simp [hcal hbit] at hpending
    have heffect := done_guarded_clear hc (tpCtrl_state_idle (w := w) hopen hidle) rfl
      (tpCtrl_extra_allowed fun k hk hbit => (hnamed k hk hbit).2)
    rw [tpCtrl_result hf ht] at heffect
    refine ⟨?_, ?_⟩ <;> rintro rfl
    · rw [exec_tpApply, heffect]
    · rw [exec_hairlineCalibrate, heffect, if_pos (bitOf_forceBit_self v (by decide))]
  case refused =>
    intro u r hc hopen h
    have hrefuse : done s (guarded w 17 2 u (tpCtrl w u s) s) = .next (settle s (s.recordRefusal w (some 17) 2 r (pageAddr 17 2))) := by
      rcases h with ⟨hpending, rfl⟩ | ⟨hfree, hcal, ⟨k, hk, hbit, hbad⟩, rfl⟩
      · exact done_guarded_state hc (tpCtrl_state_pending hopen hpending) (by decide)
      · refine done_guarded_extra hc (tpCtrl_state_idle hopen ?_) rfl (tpCtrl_extra_refused hk hbit hbad) (by decide)
        rintro (⟨j, hj, hbit, hpending⟩ | ⟨hbit, hpending⟩)
        · simp [hfree j hj hbit] at hpending
        · simp [hcal hbit] at hpending
    refine ⟨?_, ?_⟩ <;> rintro rfl
    · rw [exec_tpApply, hrefuse]
    · rw [exec_hairlineCalibrate, hrefuse]
  case applies =>
    rintro happly hon t rfl
    rw [exec_tpApplyTakeEffect_pending happly hon, State.tpTakes]
  case active =>
    intro b t g e x close hmode hon hb hbmode hg he ht hx hclose
    have hedge : b.EdgeAt n.val g e t x := ⟨he, ht, hx⟩
    obtain rfl : close = x.tooClose e.2.1 := hclose
    rw [exec_tpActiveEdge_grid hmode hon hb hbmode hg]
    exact ⟨fun h3 hsv => by rw [State.activeEdge_suppressed hedge h3 hsv],
      fun hlive hclose => by rw [State.activeEdge_skipped hedge hlive hclose],
      fun y hlive hclose hy => by rw [State.activeEdge_begins hedge hlive hclose hy]⟩
  case inactive => exact fun pol target dly e t hpulse he ht => exec_tpInactiveEdge_ends hpulse he ht
  case calibrated =>
    intro taps hlen hbusy hwf
    have hnote := s.noteTabs_eq (List.range 4)
    obtain ⟨hwf', hword, hmem, htime⟩ :=
      State.tapsPut (s := (List.range 4).foldl State.noteTab s) (taps := taps) (by rw [hnote]; exact hwf) hlen.ge
    refine ⟨_, exec_hairlineCalDone_busy hbusy, ?idle, ?raised, fun i hi => ?word, ?mem, ?time⟩
    case idle => rw [State.raise, State.bit_setB_ne _ _ _ _ (by decide), State.bit_setB_self _ _ _ _ hwf' (by decide)]
    case raised => exact State.bit_raise_self _ _ _ (State.wf_setF _ _ _ _ _ hwf') (by decide)
    case word =>
      change State.reg _ (hairKey i) = _
      rw [State.reg_raise_ne _ (hairKey_ne_header i (by decide)), State.reg_setB_ne _ _ _ (hairKey_ne_header i (by decide)), hword i hi]
    case mem => rw [State.raise_mem, State.setB_mem, hmem, hnote]
    case time => rw [State.raise_time, State.setB_time, htime, hnote]

end Sys2Proof.Machine
end

section
/-! SUPPORT. The record of a core in the state, and the fields of its SR (08 R264 to R266). -/

namespace Sys2Proof.Machine

/-! ### The record of a core -/

section
variable (s : State) (c : Fin 4) (x : Core)

@[simp] theorem State.core_setCore : (s.setCore c x).cores[c.val] = x := Vector.getElem_set_self ..

theorem State.cores_setCore_ne {k : Nat} (h : k ≠ c.val) : (s.setCore c x).cores[k]? = s.cores[k]? :=
  Vector.getElem?_set_ne c.isLt h.symm

@[simp] theorem State.setCore_regs : (s.setCore c x).regs = s.regs := rfl
@[simp] theorem State.setCore_mem : (s.setCore c x).mem = s.mem := rfl

theorem State.setCore_setCore (y : Core) : (s.setCore c x).setCore c y = s.setCore c y := by
  simp [State.setCore]

theorem State.setCore_self : s.setCore c s.cores[c.val] = s := by
  rw [State.setCore, Vector.set_getElem_self]

end

/-! ### A field above one that is replaced -/

section
variable (v : Word) {hi lo : Nat} (n : Nat)

/-- A word whose field is replaced keeps what stands above and below the field. -/
theorem withField_toNat_split (h : hi < 18) (hl : lo ≤ hi) : (withField v hi lo n).toNat
    = 2 ^ (hi + 1) * (v.toNat / 2 ^ (hi + 1)) + (v.toNat % 2 ^ lo + 2 ^ lo * (n % 2 ^ (hi - lo + 1))) := by
  have hlow : v.toNat % 2 ^ (hi + 1) = v.toNat % 2 ^ lo + 2 ^ lo * fieldOf v hi lo := by
    rw [show hi + 1 = lo + (hi - lo + 1) by omega, pow_add, Nat.mod_mul, fieldOf]
  have hsplit := Nat.div_add_mod v.toNat (2 ^ (hi + 1))
  rw [withField_toNat v hi lo n h hl, Nat.mul_comm (fieldOf v hi lo), Nat.mul_comm (n % _)]
  omega

theorem withField_div (h : hi < 18) (hl : lo ≤ hi) : (withField v hi lo n).toNat / 2 ^ (hi + 1) = v.toNat / 2 ^ (hi + 1) := by
  have hlow : v.toNat % 2 ^ lo + 2 ^ lo * (n % 2 ^ (hi - lo + 1)) < 2 ^ (hi + 1) := by
    rw [show hi + 1 = hi - lo + 1 + lo by omega, pow_add _ _ lo, Nat.add_comm]
    exact Nat.mul_add_lt_mul_of_lt_of_lt (Nat.mod_lt n (by positivity)) (Nat.mod_lt v.toNat (by positivity))
  rw [withField_toNat_split v n h hl, Nat.mul_add_div (by positivity), Nat.div_eq_of_lt hlow, Nat.add_zero]

theorem fieldOf_withField_above {i j : Nat} (h : hi < 18) (hl : lo ≤ hi) (hj : hi < j) :
    fieldOf (withField v hi lo n) i j = fieldOf v i j := by
  rw [fieldOf, fieldOf, ← Nat.add_sub_cancel' (Nat.succ_le_of_lt hj), pow_add, ← Nat.div_div_eq_div_mul, ← Nat.div_div_eq_div_mul,
    withField_div v n h hl]

end

end Sys2Proof.Machine
end

section
/-! SUPPORT. The CTRL, PC, RDAT and SWEV words of a CORE page, and a core's reset, breakpoint and wake (08 R288, R292, R298 to R304). -/

namespace Sys2Proof.Machine

/-! ### A write of CTRL (R298 to R300, R303) -/

section
variable {s : State} {w : Writer} {c : Fin 4} {v u : Word}

/-- The four commands of CTRL are writes of its word with one bit forced. -/
theorem exec_coreCtrl {o : Host.Outcome State Fault Refusal} (h : done s (guarded w (45 + c.val) 2 u (coreCtrl w c u s) s) = o) :
    (u = forceBit v 2 true → exec (.coreReset w c v) s = o) ∧ (u = forceBit v 0 true → exec (.coreRun w c v) s = o)
      ∧ (u = forceBit v 1 true → exec (.coreStep w c v) s = o) ∧ (u = forceBit v 0 false → exec (.coreHalt w c v) s = o) := by
  refine ⟨?_, ?_, ?_, ?_⟩ <;> rintro rfl <;> exact h

theorem coreCtrl_state : (coreCtrl w c u s).state = if s.lmode c = true ∨ (bitOf u 1 = true ∧ s.cores[c.val].mode ≠ .halted)
    ∨ (bitOf u 0 = true ∧ s.cores[c.val].mode = .dhalt) then eSTATE else 0 := rfl

theorem coreCtrl_state_allowed (hnative : s.lmode c = false) (hstep : bitOf u 1 = true → s.cores[c.val].mode = .halted)
    (hrun : bitOf u 0 = true → s.cores[c.val].mode ≠ .dhalt) : (coreCtrl w c u s).state = 0 := by
  refine if_neg ?_
  rintro (hl | ⟨h1, hmode⟩ | ⟨h0, hmode⟩)
  · simp [hnative] at hl
  · exact hmode (hstep h1)
  · exact hrun h0 hmode

theorem coreCtrl_result : (coreCtrl w c u s).result = if bitOf u 2 then (s.plain w (45 + c.val) 2 u).resetCore c
    else if bitOf u 0 then (s.plain w (45 + c.val) 2 u).wantRun c
    else if bitOf u 1 then
      (s.plain w (45 + c.val) 2 u).setCore c { s.cores[c.val] with mode := .running, stepping := true, noBreak := true }
    else (s.plain w (45 + c.val) 2 u).wantHalt w c := rfl

end

/-! ### A wish to run or to halt (R299) -/

section
variable {s : State} {w : Writer} {c : Fin 4} {x : Core} (hx : x = s.cores[c.val])
include hx

theorem State.wantRun_halted (h : x.mode = .halted) :
    s.wantRun c = s.setCore c { x with mode := .running, noBreak := true, stepping := false, haltReq := false } := by
  subst hx
  rw [State.wantRun, if_pos h]

theorem State.wantRun_gated (h : x.mode = .gated) (hfrom : x.gatedFrom = .halted) :
    s.wantRun c = s.setCore c { x with haltReq := false, gatedFrom := .running, noBreak := true } := by
  subst hx
  rw [State.wantRun, if_neg (by simp [h]), if_pos ⟨h, hfrom⟩]

theorem State.haltCore_eq (event : Nat) : s.haltCore c event = (s.setCore c
    { x.drain with mode := .halted, haltReq := false, stepping := false, inBlock := false }).raise (45 + c.val) event := by
  subst hx
  rfl

/-- A core that issues, or idles, halts at the boundary at hand when nothing of its own bundle is left and decode finds no trap. -/
theorem State.wantHalt_boundary (hmode : x.mode = .running ∧ s.decodeTrap c = none ∨ x.mode = .idle) (hw : w ≠ .core c)
    (hshadow : x.shadow = false) (htrap : x.trap = none) (hwod : x.wod = false) (hbegun : x.begun = false) :
    s.wantHalt w c = s.haltCore c 1 := by
  subst hx
  have hother : writerIs w c = false := by
    cases w with
    | core d => simpa [writerIs] using hw
    | _ => rfl
  rw [State.wantHalt, if_pos (hmode.imp_left And.left), if_neg (by simp [hother, hshadow, htrap, hwod, hbegun])]
  rcases hmode with ⟨hrun, hdecode⟩ | hidle
  · rw [if_neg (by simp [hrun]), hdecode]
  · rw [if_pos hidle]

/-- Otherwise the wish to halt is kept until the boundary is reached. -/
theorem State.wantHalt_kept (hmode : x.mode = .running ∨ x.mode = .idle)
    (h : w = .core c ∨ x.shadow = true ∨ x.trap ≠ none ∨ x.wod = true ∨ x.begun = true) :
    s.wantHalt w c = s.setCore c { x with haltReq := true } := by
  subst hx
  have hkept : writerIs w c = true ∨ s.cores[c.val].shadow = true ∨ s.cores[c.val].trap.isSome = true ∨ s.cores[c.val].wod = true
      ∨ s.cores[c.val].begun = true :=
    h.imp (by rintro rfl; simp [writerIs]) (.imp_right (.imp_left Option.isSome_iff_ne_none.mpr))
  rw [State.wantHalt, if_pos hmode, if_pos hkept, State.askHalt]

end

/-- With no trap pending, a STEP or a wish to halt ends here. -/
theorem State.endStep_untrapped {s : State} {c : Fin 4} (h : s.cores[c.val].trap = none) :
    s.endStep c = if s.cores[c.val].stepping || s.cores[c.val].haltReq then s.haltCore c 1 else s := by
  simp [State.endStep, h]

/-- Neither a STEP nor a wish to halt ends with the bundle. -/
theorem State.endStep_passes {s : State} {c : Fin 4} (hstep : s.cores[c.val].stepping = false) (hhalt : s.cores[c.val].haltReq = false) :
    s.endStep c = s := by
  simp [State.endStep, hstep, hhalt]

/-! ### Writes of RDAT, PC and SWEV (R302, R304) -/

section
variable {s : State} {w : Writer} {c : Fin 4} {v : Word}

theorem exec_coreRegisterWrite :
    exec (.coreRegisterWrite w c v) s = done s (guarded w (45 + c.val) 24 v (rdatHandler c v s) s) := rfl

theorem exec_corePcWrite :
    exec (.corePcWrite w c v) s = done s (guarded w (45 + c.val) 16 v (coreHandler w c 16 v s) s) := rfl

theorem exec_swevSet : exec (.swevSet w c) s = done s (guarded w (45 + c.val) 20 1 (coreHandler w c 20 1 s) s) := rfl

theorem rdatHandler_state_allowed (hnative : s.lmode c = false) (hmode : s.cores[c.val].mode = .halted ∨ s.cores[c.val].mode = .dhalt) :
    (rdatHandler c v s).state = 0 := by
  refine if_neg ?_
  rintro (hl | ⟨h1, h2⟩)
  · simp [hnative] at hl
  · exact hmode.elim h1 h2

theorem rdatHandler_state_refused (h : s.lmode c = true ∨ s.cores[c.val].mode ≠ .halted ∧ s.cores[c.val].mode ≠ .dhalt) :
    (rdatHandler c v s).state = eSTATE := if_pos h

theorem coreHandler_pc : coreHandler w c 16 v s = ⟨if s.lmode c = true ∨ s.cores[c.val].mode ≠ .halted then eSTATE else 0, true, 0,
    s.setCore c { s.cores[c.val] with pc := BitVec.ofNat 17 v.toNat, inBlock := false }⟩ := rfl

theorem coreHandler_swev : coreHandler w c 20 1 s = ⟨0, true, 0, s.raise (45 + c.val) 5⟩ := rfl

end

/-! ### A boundary of a core (R288, R292, R300) -/

section
variable {s : State} {c : Fin 4}

theorem State.atBoundary_iff : s.atBoundary c = true
    ↔ (s.cores[c.val].mode = .running ∨ s.cores[c.val].mode = .idle ∧ s.acceptable c = true) ∧ s.domOn (coreDom c) = true
      ∧ s.cores[c.val].trap = none ∧ s.cores[c.val].wod = false ∧ s.cores[c.val].begun = false := by
  simp [State.atBoundary, and_assoc]

theorem State.atBreak_iff : s.atBreak c = true ↔ s.bit (pg (45 + c.val) 2) 4 = true
    ∧ s.cores[c.val].pc.toNat = s.fld (pg (45 + c.val) 17) 16 0 ∧ s.cores[c.val].noBreak = false ∧ s.lmode c = false := by
  simp [State.atBreak, and_assoc]

/-! ### The end of a reset, a breakpoint, the wake from IDLE -/

theorem exec_coreResetDone_ends (hmode : s.cores[c.val].mode = .reset) (hon : s.domOn (coreDom c) = true)
    (hlegacy : s.pins.persona = .legacy → c.val = 0) : exec (.coreResetDone c) s = .next (settle s (s.setCore c { s.cores[c.val] with
      mode := if (if s.lmode c then s.bit (pg lwinPage 1) 0 else s.runBit c) then .running else .halted })) := by
  change execCoreResetDone c s = _
  rw [execCoreResetDone, if_pos ⟨hmode, hon, fun ⟨hl, hc⟩ => hc (hlegacy hl)⟩, done]

theorem exec_coreResetDone_idle (h : s.cores[c.val].mode ≠ .reset ∨ s.domOn (coreDom c) = false
    ∨ s.pins.persona = .legacy ∧ c.val ≠ 0) : exec (.coreResetDone c) s = .next (settle s s) := by
  change execCoreResetDone c s = _
  rw [execCoreResetDone, if_neg, done]
  rintro ⟨hmode, hon, hlegacy⟩
  rcases h with h | h | h
  · exact h hmode
  · simp [hon] at h
  · exact hlegacy h

/-- At the bundle of BRKPT its trap goes first, then the halt. -/
theorem exec_breakpointHalt_met (hb : s.atBoundary c = true) (hk : s.atBreak c = true) :
    exec (.breakpointHalt c) s = .next (settle s ((s.decodeTrap c).getD (s.haltCore c 2))) := by
  change execBreakpointHalt c s = _
  rw [execBreakpointHalt, if_pos ⟨hb, hk⟩, done]

theorem exec_breakpointHalt_idle (h : s.atBoundary c = false ∨ s.atBreak c = false) :
    exec (.breakpointHalt c) s = .next (settle s s) := by
  change execBreakpointHalt c s = _
  rw [execBreakpointHalt, if_neg (by rcases h with h | h <;> simp [h]), done]

theorem exec_idleWake_wakes (hmode : s.cores[c.val].mode = .idle) (hon : s.domOn (coreDom c) = true)
    (hie : bitOf s.cores[c.val].sr 17 = false) (hlevel : (s.eligible c).isSome = true) :
    exec (.idleWake c) s = .next (settle s (s.setCore c { s.cores[c.val] with mode := .running })) := by
  change execIdleWake c s = _
  rw [execIdleWake, if_pos ⟨hmode, hon, hie, hlevel⟩, done]

theorem exec_idleWake_idle (h : s.cores[c.val].mode ≠ .idle ∨ s.domOn (coreDom c) = false ∨ bitOf s.cores[c.val].sr 17 = true
    ∨ s.eligible c = none) : exec (.idleWake c) s = .next (settle s s) := by
  change execIdleWake c s = _
  rw [execIdleWake, if_neg, done]
  rintro ⟨hmode, hon, hie, hlevel⟩
  rcases h with h | h | h | h
  · exact h hmode
  · simp [hon] at h
  · simp [hie] at h
  · simp [h] at hlevel

/-! ### Entries and issues that find nothing to do -/

theorem exec_trapEntry_idle (h : s.cores[c.val].trap = none ∨ s.domOn (coreDom c) = false
    ∨ s.cores[c.val].mode ≠ .running ∧ s.cores[c.val].mode ≠ .idle) : exec (.trapEntry c) s = .next (settle s s) := by
  change execTrapEntry c s = _
  rw [execTrapEntry]
  cases htrap : s.cores[c.val].trap with
  | none => rfl
  | some t => simp only [if_pos (h.resolve_left (by simp [htrap])), done]

theorem exec_interruptEntry_idle (h : s.atBoundary c = false ∨ s.cores[c.val].shadow = true ∨ s.cores[c.val].haltReq = true
    ∨ s.atBreak c = true ∨ s.acceptable c = false) : exec (.interruptEntry c) s = .next (settle s s) := by
  change execInterruptEntry c s = _
  rw [execInterruptEntry, if_neg (by rcases h with h | h | h | h | h <;> simp [h]), done]

theorem exec_bundleIssue_barred (h : s.mayIssue c = false) : exec (.bundleIssue c) s = .next (settle s s) := by
  change execBundleIssue c s = _
  rw [execBundleIssue, if_pos h, done]

end

/-- Settles O27: the checks of CTRL and its effects, the other words of a CORE page by the core's mode, each event by whether something
waits for it. -/
theorem coreCommandsRun : Obligations.CoreCommandsRun := by
  refine ⟨?ctrl, ?reset, ?words, ?refused, ?events, fun s c x hx => ?idle⟩
  case ctrl =>
    intro s w c v u t r x hc hnative ht hx hstep hrun hr
    have hxt : x = t.cores[c.val] := by rw [hx, ht, State.plain_cores]
    subst hx
    have heffect := done_guarded_clear hc (coreCtrl_state_allowed (w := w) hnative hstep hrun) rfl rfl
    rw [coreCtrl_result, ← ht, ← hr] at heffect
    obtain ⟨hcreset, hcrun, hcstep, hchalt⟩ := exec_coreCtrl (v := v) heffect
    exact ⟨hcreset, hcrun, hcstep, hchalt, State.wantRun_halted hxt, State.wantRun_gated hxt,
      fun hmode hw hshadow htrap hwod hbegun =>
        (State.wantHalt_boundary hxt hmode hw hshadow htrap hwod hbegun).trans (State.haltCore_eq hxt 1),
      State.wantHalt_kept hxt⟩
  case reset => exact fun s c => ⟨s.core_setCore c _, fun k _ hk => s.cores_setCore_ne c _ hk, rfl, rfl⟩
  case words =>
    refine fun s w c v hnative => ⟨fun hc hmode => ?_, fun hc hmode => ?_, fun hc => ?_⟩
    · rw [exec_coreRegisterWrite, done_guarded_clear hc (rdatHandler_state_allowed hnative hmode) rfl rfl]
      rfl
    · rw [exec_corePcWrite, coreHandler_pc, done_guarded_clear hc (if_neg (by simp [hnative, hmode])) rfl rfl]
    · rw [exec_swevSet, coreHandler_swev, done_guarded_clear hc rfl rfl rfl]
  case refused =>
    refine fun s w c v => ⟨?_, fun hc h => ?_, fun hc h => ?_⟩
    · rintro u hc h r rfl
      exact exec_coreCtrl (done_guarded_state hc (coreCtrl_state.trans (if_pos h)) (by decide))
    · rw [exec_corePcWrite, coreHandler_pc, done_guarded_state hc (if_pos h) (by decide)]
    · rw [exec_coreRegisterWrite, done_guarded_state hc (rdatHandler_state_refused h) (by decide)]
  case events =>
    refine fun s c hon => ⟨fun hmode hlegacy => exec_coreResetDone_ends hmode hon hlegacy, ?_,
      fun hmode hie hlevel => exec_idleWake_wakes hmode hon hie hlevel⟩
    intro hmode htrap hwod hbegun hbe hpc hnb hnative
    have hmet := exec_breakpointHalt_met (State.atBoundary_iff.mpr ⟨hmode, hon, htrap, hwod, hbegun⟩)
      (State.atBreak_iff.mpr ⟨hbe, hpc, hnb, hnative⟩)
    exact ⟨fun hnone => by rw [hmet, hnone, Option.getD_none, State.haltCore_eq rfl],
      fun t ht => by rw [hmet, ht, Option.getD_some]⟩
  case idle =>
    subst hx
    exact ⟨exec_coreResetDone_idle, exec_idleWake_idle, exec_trapEntry_idle, exec_breakpointHalt_idle, exec_interruptEntry_idle,
      exec_bundleIssue_barred⟩

end Sys2Proof.Machine
end

section
/-! SUPPORT. The issue of a bundle (08 R268, R270, R292, R299; 09 R326, R335; 11 R383; 14 R462, R463). -/

namespace Sys2Proof.Machine

section
variable {s : State} {c : Fin 4} {x : Core} {d : List Syl × List Nat × State} {off : Option Nat}

/-- A wish to halt is met at a boundary, not within a bundle that has stalled. -/
theorem exec_bundleIssue_halts (hmay : s.mayIssue c = true) (hhalt : s.cores[c.val].haltReq = true)
    (hbegun : s.cores[c.val].begun = false) : exec (.bundleIssue c) s = .next (settle s (s.haltCore c 1)) := by
  change execBundleIssue c s = _
  rw [execBundleIssue, if_neg (by simp [hmay]), if_pos (by simp [hhalt, hbegun]), done]

/-- The core takes up the bundle at PC: nothing goes first, and no wish to halt is met before it. -/
structure State.TakesUp (s : State) (c : Fin 4) (x : Core) (d : List Syl × List Nat × State) (off : Option Nat) : Prop where
  may : s.mayIssue c = true
  core : x = s.cores[c.val]
  stays : x.haltReq = false ∨ x.begun = true
  bundle : d = s.decodeBundle c
  accesses : off = (x.bundleAddrs d.1).findSome? (s.addrOff c)

/-- What comes of a bundle without a trap: its waits in their order, then its issue. -/
def State.issueOrWait (s : State) (c : Fin 4) (x : Core) (d : List Syl × List Nat × State) (off : Option Nat) : State :=
  if s.rubWaits c d.1 then s.endStep c
  else if off.isSome ∧ x.wodTmo = false then (s.wakeDom (off.getD 0)).setCore c { x with wod := true, begun := true }
  else (s.restoreFor (s.bundleKeys c d.1)).elim
    ((slotBody d.1 5).elim (d.2.2.issue c d.1) fun b => if isBlockOp (bf b 31 26) then d.2.2.blockStep c b else d.2.2.issue c d.1)
    fun t => t.setCore c { x with begun := true }

/-- A trap of the bundle goes before its waits. -/
theorem exec_bundleIssue_takesUp (h : s.TakesUp c x d off) :
    exec (.bundleIssue c) s = .next (settle s ((s.decodeTrap c).getD (s.issueOrWait c x d off))) := by
  obtain ⟨hmay, rfl, hstays, rfl, rfl⟩ := h
  have hhalt : (s.cores[c.val].haltReq && !s.cores[c.val].begun) = false := by rcases hstays with h | h <;> simp [h]
  change execBundleIssue c s = _
  rw [execBundleIssue, if_neg (by simp [hmay]), hhalt, if_neg (by decide), done]
  cases s.decodeTrap c with
  | some t => rfl
  | none =>
    dsimp only
    rw [Option.getD_none, State.issueOrWait]
    cases s.restoreFor (s.bundleKeys c (s.decodeBundle c).1) with
    | some t => rfl
    | none => cases slotBody (s.decodeBundle c).1 5 <;> rfl

theorem State.issueOrWait_rubric (h : s.rubWaits c d.1 = true) : s.issueOrWait c x d off = s.endStep c := if_pos h

theorem State.issueOrWait_domain {o : Nat} (hrub : s.rubWaits c d.1 = false) (hoff : off = some o) (htmo : x.wodTmo = false) :
    s.issueOrWait c x d off = (s.wakeDom o).setCore c { x with wod := true, begun := true } := by
  subst hoff
  simp [State.issueOrWait, hrub, htmo]

theorem State.issueOrWait_memory (hrub : s.rubWaits c d.1 = false) (hoff : off = none ∨ x.wodTmo = true) :
    s.issueOrWait c x d off = (s.restoreFor (s.bundleKeys c d.1)).elim
      ((slotBody d.1 5).elim (d.2.2.issue c d.1) fun b => if isBlockOp (bf b 31 26) then d.2.2.blockStep c b else d.2.2.issue c d.1)
      fun t => t.setCore c { x with begun := true } := by
  rw [State.issueOrWait, hrub, if_neg (by decide), if_neg (by rcases hoff with h | h <;> simp [h])]

end

/-- Settles O28, by what goes before the bundle, then by its waits in their order. -/
theorem bundleIssueRuns : Obligations.BundleIssueRuns := by
  intro s c x d off hmay hx hd hoff
  refine ⟨fun hhalt hbegun => exec_bundleIssue_halts hmay (hx ▸ hhalt) (hx ▸ hbegun), fun hstays => ?_⟩
  have hexec := exec_bundleIssue_takesUp ⟨hmay, hx, hstays, hd, hoff⟩
  refine ⟨fun t ht => by rw [hexec, ht, Option.getD_some], fun hnone hrub => ?_,
    fun o hnone hrub ho htmo => ?_, fun hnone hrub hon => ?_⟩
  all_goals rw [hnone, Option.getD_none] at hexec
  · rw [hexec, State.issueOrWait_rubric hrub]
  · rw [hexec, State.issueOrWait_domain hrub ho htmo]
  rw [State.issueOrWait_memory hrub hon] at hexec
  refine ⟨fun t ht => by rw [hexec, ht, Option.elim_some], fun hfree => ?_⟩
  rw [hfree, Option.elim_none] at hexec
  refine ⟨fun hb => by rw [hexec, hb, Option.elim_none], fun b hb hop => ?_, fun b hb hop => ?_⟩
  · rw [hexec, hb, Option.elim_some, hop, if_neg (by decide)]
  · rw [hexec, hb, Option.elim_some, if_pos hop]

end Sys2Proof.Machine
end

section
/-! SUPPORT. The entry of an interrupt and of a trap (08 R284, R285, R291 to R293, R295; 10 R348). -/

namespace Sys2Proof.Machine

/-! ### SR at the entry of an interrupt -/

/-- SR as an interrupt of level p leaves it: IE = 0, SM = 1, the level, LD = 0 (R285). -/
def srEntered (v : Word) (p : Nat) : Word := withField (withField (withField (withField v 17 17 0) 16 16 1) 15 13 p) 6 5 0

section
variable (v : Word) {p : Nat}

theorem bitOf_srEntered_ie : bitOf (srEntered v p) 17 = false := by
  rw [bitOf_eq_fieldOf, srEntered, fieldOf_withField_above _ _ (by decide) (by decide) (by decide),
    fieldOf_withField_above _ _ (by decide) (by decide) (by decide), fieldOf_withField_above _ _ (by decide) (by decide) (by decide),
    fieldOf_withField _ _ _ _ (by decide) (by decide)]
  rfl

theorem bitOf_srEntered_sm : bitOf (srEntered v p) 16 = true := by
  rw [bitOf_eq_fieldOf, srEntered, fieldOf_withField_above _ _ (by decide) (by decide) (by decide),
    fieldOf_withField_above _ _ (by decide) (by decide) (by decide), fieldOf_withField _ _ _ _ (by decide) (by decide)]
  rfl

theorem fieldOf_srEntered_level (hp : p < 8) : fieldOf (srEntered v p) 15 13 = p := by
  rw [srEntered, fieldOf_withField_above _ _ (by decide) (by decide) (by decide), fieldOf_withField _ _ _ _ (by decide) (by decide)]
  exact Nat.mod_eq_of_lt hp

theorem fieldOf_srEntered_ld : fieldOf (srEntered v p) 6 5 = 0 := fieldOf_withField _ _ _ _ (by decide) (by decide)

end

/-! ### INTERRUPT_ENTRY -/

section
variable {s : State} {c : Fin 4} {p : Nat}

theorem State.eligible_lt (h : s.eligible c = some p) : p < 8 := by
  simpa using List.mem_of_find?_eq_some h

/-- No level is eligible once the core has drained. -/
theorem State.vectorIn_none (h : (s.setCore c s.cores[c.val].drain).eligible c = none) :
    s.vectorIn c = s.setCore c s.cores[c.val].drain := by
  simp only [State.vectorIn, h]

/-- The core at the handler of level p: what it held when it had drained is saved. -/
def Core.entered (y : Core) (lmode : Bool) (p : Nat) : Core :=
  { y with mode := .running, ira := y.pc, isr := y.sr, sr := srEntered y.sr p, resv := none
           pc := BitVec.ofNat 17 (if lmode then (if p = 6 then 2 else 4) else (8 + p) * 16), inBlock := false, noBreak := false }

section
variable (y : Core) (lmode : Bool) (p : Nat)

@[simp] theorem Core.entered_mode : (y.entered lmode p).mode = .running := rfl
@[simp] theorem Core.entered_ira : (y.entered lmode p).ira = y.pc := rfl
@[simp] theorem Core.entered_isr : (y.entered lmode p).isr = y.sr := rfl
@[simp] theorem Core.entered_sr : (y.entered lmode p).sr = srEntered y.sr p := rfl
@[simp] theorem Core.entered_resv : (y.entered lmode p).resv = none := rfl
@[simp] theorem Core.entered_pc :
    (y.entered lmode p).pc = BitVec.ofNat 17 (if lmode then (if p = 6 then 2 else 4) else (8 + p) * 16) := rfl

end

/-- The core enters the handler; besides, the pace of L-mode alone changes. -/
theorem State.vectorIn_some (h : (s.setCore c s.cores[c.val].drain).eligible c = some p) : ∃ g,
    s.vectorIn c = ({ s with leg := g } : State).setCore c (s.cores[c.val].drain.entered (s.lmode c) p) := by
  simp only [State.vectorIn, h, State.core_setCore]
  cases s.lmode c
  · exact ⟨s.leg, by simp [State.setCore, Core.entered, srEntered]⟩
  · exact ⟨{ s.leg with pace := 0 }, by simp [State.setCore, Core.entered, srEntered]⟩

/-- At a boundary where neither a load shadow, a wish to halt nor a breakpoint goes first, the trap of the bundle does, then the entry. -/
theorem exec_interruptEntry_taken (hb : s.atBoundary c = true) (hshadow : s.cores[c.val].shadow = false)
    (hhalt : s.cores[c.val].haltReq = false) (hk : s.atBreak c = false) (ha : s.acceptable c = true) :
    exec (.interruptEntry c) s = .next (settle s ((s.decodeTrap c).getD (s.vectorIn c))) := by
  change execInterruptEntry c s = _
  rw [execInterruptEntry, if_pos ⟨hb, hshadow, hhalt, hk, ha⟩, done]

end

/-- Settles O32, by the trap that goes first and the level that is eligible after the drain. -/
theorem interruptEntryRuns : Obligations.InterruptEntryRuns := by
  rintro s c x rfl hmode hon htrap hwod hbegun hshadow hhalt hk ha
  have hb := State.atBoundary_iff.mpr ⟨hmode.imp_right (⟨·, ha⟩), hon, htrap, hwod, hbegun⟩
  rw [exec_interruptEntry_taken hb hshadow hhalt hk ha]
  refine ⟨fun t ht => by rw [ht, Option.getD_some], fun hnone hlevel => ?_, fun p hnone hlevel => ?_⟩
  all_goals rw [hnone, Option.getD_none]
  · rw [State.vectorIn_none hlevel]
  · obtain ⟨g, hentry⟩ := State.vectorIn_some hlevel
    refine ⟨_, rfl, ?_⟩
    rw [hentry, State.core_setCore, Core.entered_sr]
    exact ⟨rfl, rfl, Core.entered_ira .., Core.entered_isr .., Core.entered_pc .., Core.entered_mode .., Core.entered_resv ..,
      bitOf_srEntered_ie _, bitOf_srEntered_sm _,
      fieldOf_srEntered_level _ (State.eligible_lt hlevel), fieldOf_srEntered_ld _, fun k _ hne => State.cores_setCore_ne _ c _ hne⟩

/-! ### TRAP_ENTRY -/

section
variable {s : State} {c : Fin 4} {tcs : Nat} {a bundle : BitVec 17}

/-- A pending trap is entered, or stops the core that runs a trap handler. -/
theorem exec_trapEntry_taken (htrap : s.cores[c.val].trap = some (tcs, a, bundle)) (hon : s.domOn (coreDom c) = true)
    (hmode : s.cores[c.val].mode = .running ∨ s.cores[c.val].mode = .idle) : exec (.trapEntry c) s
      = .next (settle s (if bitOf s.cores[c.val].drain.sr 4 then s.doubleTrap c a else s.trapIn c tcs a bundle)) := by
  change execTrapEntry c s = _
  have hruns : ¬ (s.domOn (coreDom c) = false ∨ (s.cores[c.val].mode ≠ .running ∧ s.cores[c.val].mode ≠ .idle)) := by
    rcases hmode with h | h <;> simp [hon, h]
  simp only [execTrapEntry, htrap, if_neg hruns, done]

end

/-- Settles O33, by whether a trap handler runs when the core has drained. -/
theorem trapEntryRuns : Obligations.TrapEntryRuns := by
  intro s c y tcs a bundle hy htrap hon hmode
  rw [exec_trapEntry_taken htrap hon hmode, ← hy]
  refine ⟨fun t hfree ht => ?_, fun hheld => ?_⟩
  · have hentry : s.trapIn c tcs a bundle = t.endStep c := by rw [ht, hy, State.trapIn]
    have hcore : t.cores[c.val].trap = none ∧ t.cores[c.val].stepping = y.stepping ∧ t.cores[c.val].haltReq = y.haltReq := by
      rw [ht, State.raise_cores, State.setReg_cores, State.setReg_cores, State.core_setCore]
      exact ⟨rfl, rfl, rfl⟩
    obtain ⟨hnone, hstep, hhalt⟩ := hcore
    rw [hfree, if_neg (by decide), hentry, State.endStep_untrapped hnone, hstep, hhalt]
  · rw [hheld, if_pos rfl, State.doubleTrap, ← hy]

end Sys2Proof.Machine
end

section
/-! SUPPORT. A bundle that one syllable of the X slot makes up (08 R268, R276; 09 R307, R318). -/

namespace Sys2Proof.Machine

/-! ### Registers after a result has landed -/

section
variable (x : Core) {cid n m : Nat} (v : Nat)

theorem Core.get_d (h : n < 16) : x.get cid n = (x.d.toList.getD n 0).toNat := if_pos h

theorem Core.put_d (h : n < 16) : x.put n v = { x with d := x.d.setIfInBounds n (wordOf v) } := if_pos h

theorem Core.get_put_d_self (h : n < 16) : (x.put n v).get cid n = v % 2 ^ 18 := by
  rw [Core.put_d x v h, Core.get_d _ h]
  simp [wordOf, h]

theorem Core.get_put_d_ne (hn : n < 16) (hm : m < 16) (h : m ≠ n) : (x.put n v).get cid m = x.get cid m := by
  rw [Core.put_d x v hn, Core.get_d _ hm, Core.get_d _ hm]
  simp [List.getD_eq_getElem?_getD, List.getElem?_set_ne h.symm]

theorem Core.put_flags : x.put rFlags v = { x with sr := withField x.sr 3 0 v } := rfl

theorem Core.get_put_flags (h : n < 16) : (x.put rFlags v).get cid n = x.get cid n := by
  rw [Core.put_flags, Core.get_d _ h, Core.get_d _ h]

end

theorem flagsOf_lt (r : Nat) (c v : Bool) : flagsOf r c v < 16 := by
  have hb : ∀ b, b2n b ≤ 1 := by decide
  have hn := hb (r.testBit 17)
  have hz := hb (r % w18 == 0)
  have hc := hb c
  have hv := hb v
  unfold flagsOf
  omega

/-- A result with its flags, alone in flight and due, lands: first the register, then the flags. -/
theorem Core.land_flagResult (x : Core) {n : Nat} (r : AluRes) (h : n < 16) (hx : x.inflight = flagResult n r) :
    x.land = (({ x with inflight := [], rubLeft := x.rubLeft - 1 } : Core).put n r.1).put rFlags r.2 := by
  have hn : (n != rSticky) = true := by simp [rSticky]; omega
  have hf : (rFlags != rSticky) = true := by decide
  have hs : (n == rSticky) = false := by simpa using hn
  have hfs : (rFlags == rSticky) = false := by decide
  simp [Core.land, hx, flagResult, hn, hf, hs, hfs]

/-- Outside every hardware loop a bundle goes on as its flow says. -/
theorem Core.loopBack_outside (x : Core) (start next n : Nat) (h : fieldOf x.sr 6 5 = 0) : x.loopBack start next n = (next, x) := by
  cases n with
  | zero => rfl
  | succ n => simp [Core.loopBack, h]

/-- The count of bundles alone changes when a bundle issues again. -/
theorem State.countBundle_eq (s : State) (c : Fin 4) : ∃ n, s.countBundle c = s.setCore c { s.cores[c.val] with bcnt := n } := by
  simp only [State.countBundle]
  split
  · exact ⟨s.cores[c.val].bcnt, (s.setCore_self c).symm⟩
  · exact ⟨_, rfl⟩

/-- A bundle of one X syllable, outside every loop: its results are all that it leaves in flight. -/
theorem State.issue_x {s : State} {c : Fin 4} {b : Nat} {x : Core} (hx : x = s.cores[c.val]) (hcx : bf b 31 26 ≠ 0o70)
    (hdz : (x.runX c.val b).2 = false) (hmode : x.mode ≠ .reset) (hld : fieldOf x.sr 6 5 = 0) :
    s.issue c [⟨4, b, true⟩] = ((s.countBundle c).endBundle c (x.runX c.val b).1 (x.pc.toNat + 1)).endStep c := by
  subst hx
  obtain ⟨n, hcount⟩ := s.countBundle_eq c
  have hgone : (s.countBundle c).coreGone c = false := by simp [State.coreGone, hcount, hmode]
  have hloop : ∀ next, (s.countBundle c).cores[c.val].loopBack s.cores[c.val].pc.toNat next 4 = (next, (s.countBundle c).cores[c.val]) :=
    fun next => Core.loopBack_outside _ _ _ _ (by rw [hcount, State.core_setCore]; exact hld)
  simp [State.issue, slotBody, hcx, hdz, hgone, hloop, State.setCore_self]

/-- At the end of a bundle with one result in flight, due with its flags, both land. -/
theorem State.endBundle_flagResult (s : State) (c : Fin 4) {n : Nat} (r : AluRes) (next : Nat) (hn : n < 16)
    (h : s.cores[c.val].inflight = []) : ∃ y : Core, y.d = s.cores[c.val].d ∧ y.pc = BitVec.ofNat 17 next
      ∧ y.stepping = s.cores[c.val].stepping ∧ y.haltReq = s.cores[c.val].haltReq
      ∧ s.endBundle c (flagResult n r) next = s.setCore c ((y.put n r.1).put rFlags r.2) := by
  simp only [State.endBundle, h, List.nil_append]
  refine ⟨_, ?_, ?_, ?_, ?_, congrArg (s.setCore c) (Core.land_flagResult _ r hn rfl)⟩ <;> rfl

/-- The sum of an ADD and its flags land, and PC moves on; nothing but the core changes. -/
theorem State.issue_add {s : State} {c : Fin 4} {b : Nat} {x : Core} {r : AluRes} (hx : x = s.cores[c.val]) (hadd : bf b 31 26 = 1)
    (hr : r = aluAdd (x.dv (bf b 21 18)) (x.dv (bf b 17 14)) 0) (hmode : x.mode ≠ .reset) (hflight : x.inflight = [])
    (hld : fieldOf x.sr 6 5 = 0) (hstep : x.stepping = false) (hhalt : x.haltReq = false) :
    ∃ y : Core, y.d = x.d ∧ y.pc = x.pc + 1
      ∧ s.issue c [⟨4, b, true⟩] = s.setCore c ((y.put (bf b 25 22) r.1).put rFlags r.2) := by
  have hrun : x.runX c.val b = (flagResult (bf b 25 22) r, false) := by simp [Core.runX, hadd, hr]
  have hn : bf b 25 22 < 16 := Nat.mod_lt _ (by decide)
  have hpc : BitVec.ofNat 17 (x.pc.toNat + 1) = x.pc + 1 := by simp [BitVec.ofNat_add]
  obtain ⟨k, hcount⟩ := s.countBundle_eq c
  rw [← hx] at hcount
  obtain ⟨y, hd, hy, hys, hyh, hend⟩ := (s.countBundle c).endBundle_flagResult c r (x.pc.toNat + 1) hn
    (by rw [hcount, State.core_setCore]; exact hflight)
  rw [hcount, State.core_setCore] at hd hys hyh
  rw [hcount, State.setCore_setCore, ← hcount] at hend
  refine ⟨y, hd, hy.trans hpc, ?_⟩
  rw [State.issue_x hx (by simp [hadd]) (by rw [hrun]) hmode hld, hrun, hend, State.endStep_passes]
  · rw [State.core_setCore, Core.put_flags, Core.put_d _ _ hn]
    exact hys.trans hstep
  · rw [State.core_setCore, Core.put_flags, Core.put_d _ _ hn]
    exact hyh.trans hhalt

/-- Settles O29, from the core that the bundle leaves, register by register. -/
theorem addBundleWritesItsSum : Obligations.AddBundleWritesItsSum := by
  intro s c b x hx hmode hadd hflight hld hstep hhalt _ t ht
  have hn : bf b 25 22 < 16 := Nat.mod_lt _ (by decide)
  obtain ⟨y, hd, hpc, hissue⟩ := State.issue_add hx hadd rfl (by simp [hmode]) hflight hld hstep hhalt
  have hsame : ∀ m, m < 16 → y.get c.val m = x.get c.val m := fun m hm => by rw [Core.get_d _ hm, Core.get_d _ hm, hd]
  rw [ht, hissue, State.core_setCore]
  refine ⟨?_, ?_, ?_, State.setCore_regs .., State.setCore_mem .., fun m hm hne => ?_⟩
  · rw [Core.get_put_flags _ _ hn, Core.get_put_d_self _ _ hn]
    simp [aluAdd, w18]
  · rw [Core.put_flags, fieldOf_withField _ _ _ _ (by decide) (by decide)]
    exact Nat.mod_eq_of_lt (flagsOf_lt ..)
  · rw [Core.put_flags, Core.put_d _ _ hn]
    exact hpc
  · rw [Core.get_put_flags _ _ hm, Core.get_put_d_ne _ _ hn hm hne, hsame m hm]

end Sys2Proof.Machine
end

section
/-! SUPPORT. Writes of the RUBR page: microwords, entries and the quiescing of a core (09 R334, R335; 11 R388). -/

namespace Sys2Proof.Machine

section
variable {s : State} {w : Writer} {v u : Word} {c : Fin 4} {e : Fin 16} {k start len r : Nat}

/-! ### A microword (R334, R388) -/

theorem exec_rubricMicrowordWrite : exec (.rubricMicrowordWrite w v) s = done s (guarded w 49 19 v (udlHandler w v s) s) := rfl

theorem udlHandler_state : (udlHandler w v s).state = if s.rubrRefusal s.usel false ≠ 0 then s.rubrRefusal s.usel false
    else if s.lost (rubrKey s.usel.val (s.fld (pg 49 17) 8 0)) then eLOST else 0 := rfl

theorem udlHandler_state_allowed (hopen : s.rubrRefusal s.usel false = 0)
    (hkept : s.lost (rubrKey s.usel.val (s.fld (pg 49 17) 8 0)) = false) : (udlHandler w v s).state = 0 := by
  simp [udlHandler_state, hopen, hkept]

theorem udlHandler_state_refused (h : r = s.rubrRefusal s.usel false ∧ r ≠ 0
    ∨ s.rubrRefusal s.usel false = 0 ∧ s.lost (rubrKey s.usel.val (s.fld (pg 49 17) 8 0)) = true ∧ r = eLOST) :
    (udlHandler w v s).state = r ∧ r ≠ 0 := by
  rcases h with ⟨rfl, hclosed⟩ | ⟨hopen, hlost, rfl⟩
  · exact ⟨if_pos hclosed, hclosed⟩
  · exact ⟨by simp [udlHandler_state, hopen, hlost], by decide⟩

theorem udlHandler_range {hi : Word} (hhi : hi = (s.udh.get? (writerNo w)).getD 0) (huop : fieldOf hi 16 13 ≠ 15) :
    (udlHandler w v s).range = true := by
  subst hhi
  exact bne_iff_ne.mpr huop

/-- The two words are stored at UADR, which advances. -/
theorem udlHandler_result {hi : Word} (hk : k = rubrKey s.usel.val (s.fld (pg 49 17) 8 0)) (hhi : hi = (s.udh.get? (writerNo w)).getD 0) :
    (udlHandler w v s).result = ((s.wrMem k hi).wrMem (k + 1) v).setF (pg 49 17) 8 0 (s.fld (pg 49 17) 8 0 + 1) := by
  subst hk hhi
  rfl

/-! ### An entry of a decode table (R334) -/

theorem exec_rubricEntryWrite : exec (.rubricEntryWrite w c e v) s
    = done s (guarded w 49 (32 + 16 * c.val + e.val) v (dentHandler w c e.val v s) s) := rfl

theorem dentHandler_state : (dentHandler w c e.val v s).state = s.rubrRefusal c false := rfl

theorem dentHandler_extra : (dentHandler w c e.val v s).extra
    = if bitOf v 17 = true ∧ s.entryOk c.val (fieldOf v 8 0) (fieldOf v 16 15 + 1) = false then eCONFIG else 0 := rfl

/-- An entry that is switched off is taken as it is written. -/
theorem dentHandler_result_off (hk : k = 32 + 16 * c.val + e.val) (hoff : bitOf v 17 = false) :
    (dentHandler w c e.val v s).result = s.plain w 49 k v := by
  subst hk
  simp [dentHandler, hoff]

/-- An entry that is switched on has its microwords read, and WR set as they write. -/
theorem dentHandler_result_on (hk : k = 32 + 16 * c.val + e.val) (hon : bitOf v 17 = true) (hstart : start = fieldOf v 8 0)
    (hlen : len = fieldOf v 16 15 + 1) : (dentHandler w c e.val v s).result
      = ((s.plain w 49 k v).memReadN (rubrKey c.val start) (2 * len)).2.2.setB (pg 49 k) 14 (s.entryWrites c.val start len) := by
  subst hk hstart hlen
  simp [dentHandler, hon]

theorem exec_rubricEntryWrite_refused (hk : k = 32 + 16 * c.val + e.val) (hc : s.Clear w 49 k v)
    (h : r = s.rubrRefusal c false ∧ r ≠ 0 ∨ s.rubrRefusal c false = 0 ∧ bitOf v 17 = true
      ∧ s.entryOk c.val (fieldOf v 8 0) (fieldOf v 16 15 + 1) = false ∧ r = eCONFIG) :
    exec (.rubricEntryWrite w c e v) s = .next (settle s (s.recordRefusal w (some 49) k r (pageAddr 49 k))) := by
  subst hk
  rw [exec_rubricEntryWrite]
  rcases h with ⟨rfl, hclosed⟩ | ⟨hopen, hon, hends, rfl⟩
  · exact done_guarded_state hc dentHandler_state hclosed
  · exact done_guarded_extra hc (dentHandler_state.trans hopen) rfl (dentHandler_extra.trans (if_pos ⟨hon, hends⟩)) (by decide)

/-! ### Quiescing (R335) -/

/-- A request and its release are writes of CTRL with the bit of the core forced. -/
theorem exec_rubrCtrl {o : Host.Outcome State Fault Refusal} (h : done s (guarded w 49 2 u (rubrCtrl w u s) s) = o) :
    (u = forceBit v c.val true → exec (.quiesceRequest w c v) s = o)
      ∧ (u = forceBit v c.val false → exec (.quiesceRelease w c v) s = o) := by
  refine ⟨?_, ?_⟩ <;> rintro rfl <;> exact h

/-- A write of CTRL takes the requests, then ends the quiescence of each core in turn that has none. -/
theorem rubrCtrl_result {f : State → Nat → State} (hf : f = fun t k => if bitOf u k then t else t.setB (pg 49 3) k false) :
    (rubrCtrl w u s).result = f (f (f (f (s.plain w 49 2 u) 0) 1) 2) 3 := by
  subst hf
  rfl

theorem exec_quiesceDone_asked (hreq : s.bit (pg 49 2) c.val = true) (hbusy : s.bit (pg 49 3) c.val = false) :
    exec (.quiesceDone c) s = .next (settle s
      (((s.setB (pg 49 3) c.val true).raise 49 c.val).setCore c { s.cores[c.val] with rubLeft := 0 })) := by
  change execQuiesceDone c s = _
  rw [execQuiesceDone, if_pos ⟨hreq, hbusy⟩, done]

theorem exec_quiesceDone_idle (h : s.bit (pg 49 2) c.val = false ∨ s.bit (pg 49 3) c.val = true) :
    exec (.quiesceDone c) s = .next (settle s s) := by
  change execQuiesceDone c s = _
  rw [execQuiesceDone, if_neg (by rcases h with h | h <;> simp [h]), done]

end

/-- Settles O34: microwords, entries and CTRL by the check that fails or the effect of the write, QUIESCE_DONE by whether a request
waits for it. -/
theorem rubricCommandsRun : Obligations.RubricCommandsRun := by
  refine fun s w v => ⟨?microword, ?entry, ?ctrl, fun c => exec_quiesceDone_asked, fun c => exec_quiesceDone_idle, ?microwordRefused,
    fun c e k r hk hc => exec_rubricEntryWrite_refused hk hc⟩
  case microword =>
    intro hi k hc hopen hk hkept hhi huop
    rw [exec_rubricMicrowordWrite, done_guarded_clear hc (udlHandler_state_allowed hopen (hk ▸ hkept)) (udlHandler_range hhi huop) rfl,
      udlHandler_result hk hhi]
  case entry =>
    intro c e k start len t hk hc hopen hstart hlen ht
    have heffect : bitOf v 17 = false ∨ s.entryOk c.val start len = true →
        exec (.rubricEntryWrite w c e v) s = .next (settle s (dentHandler w c e.val v s).result) := by
      intro h
      rw [hstart, hlen] at h
      rw [exec_rubricEntryWrite, ← hk]
      exact done_guarded_clear hc (dentHandler_state.trans hopen) rfl
        (dentHandler_extra.trans (if_neg (by rcases h with h | h <;> simp [h])))
    exact ⟨fun hoff => by rw [heffect (.inl hoff), dentHandler_result_off hk hoff, ht],
      fun hon hends => by rw [heffect (.inr hends), dentHandler_result_on hk hon hstart hlen, ht]⟩
  case ctrl =>
    intro c u f hc hf
    rw [← rubrCtrl_result hf]
    exact exec_rubrCtrl (done_guarded_clear hc rfl rfl rfl)
  case microwordRefused =>
    intro r hc h
    obtain ⟨hstate, hne⟩ := udlHandler_state_refused h
    rw [exec_rubricMicrowordWrite, done_guarded_state hc hstate hne]

end Sys2Proof.Machine
end

section
/-! SUPPORT. Sums, differences, rotations and divisions of 18-bit words, with their flags (09 R307, R320, R322). -/

namespace Sys2Proof.Machine

/-! ### The numbers of the arithmetic as words (00 R9) -/

theorem s18_toNat (a : Word) : s18 a.toNat = a.toInt := by
  have ha := a.isLt
  rw [s18, signedOf, BitVec.toInt_eq_toNat_cond, Nat.mod_eq_of_lt ha]
  split <;> split <;> omega

/-- A number lies outside the signed range when the code of 18 bits does not read back as the number. -/
theorem out18_eq_bmod_ne (x : Int) : out18 x = decide (x.bmod (2 ^ 18) ≠ x) := by
  rw [out18, ← Bool.decide_or, decide_eq_decide]
  rw [Int.bmod_def]
  split <;> omega

/-- N and Z of a result that is a word. -/
theorem flagsOf_toNat (r : Word) (c v : Bool) : flagsOf r.toNat c v = 8 * b2n r.msb + 4 * b2n (r == 0) + 2 * b2n c + b2n v := by
  have hzero : (r.toNat % w18 == 0) = (r == 0) := by
    rw [w18, Nat.mod_eq_of_lt r.isLt, Bool.eq_iff_iff, beq_iff_eq, beq_iff_eq]
    exact BitVec.toNat_inj (y := 0)
  rw [flagsOf, BitVec.testBit_toNat, ← BitVec.msb_eq_getLsbD_last, hzero]

/-! ### ADD and SUB (R307) -/

section
variable (a b : Word)

theorem aluAdd_toNat : aluAdd a.toNat b.toNat 0 = ((a + b).toNat, flagsOf (a + b).toNat (decide (2 ^ 18 ≤ a.toNat + b.toNat))
    (decide ((a + b).toInt ≠ a.toInt + b.toInt))) := by
  simp [aluAdd, s18_toNat, out18_eq_bmod_ne, BitVec.toInt_add, w18]

theorem aluSub_toNat : aluSub a.toNat b.toNat 0 = ((a - b).toNat, flagsOf (a - b).toNat (decide (a.toNat < b.toNat))
    (decide ((a - b).toInt ≠ a.toInt - b.toInt))) := by
  have hcode : codeOf 18 ((a.toNat : Int) - b.toNat) = (a - b).toNat := by
    rw [codeOf, BitVec.toNat_sub]
    omega
  simp [aluSub, s18_toNat, out18_eq_bmod_ne, BitVec.toInt_sub, hcode]

end

/-! ### Division by zero (R322) -/

theorem aluDiv_zero (signed : Bool) (a : Nat) : aluDiv signed a 0
    = (if signed then (if a.testBit 17 then 0o400001 else 0o377777) else 0o777777, a,
        flagsOf (if signed then (if a.testBit 17 then 0o400001 else 0o377777) else 0o777777) false false, true) := if_pos rfl

/-- Settles O30, from the sum and the difference as words, the flags of a word, and the row of the divisor 0. -/
theorem arithmeticFollowsTheTables : Obligations.ArithmeticFollowsTheTables := by
  refine ⟨fun a b => ?_, fun a => ?_⟩
  · rw [aluAdd_toNat, aluSub_toNat]
    exact ⟨rfl, flagsOf_toNat .., rfl, flagsOf_toNat ..⟩
  · rw [aluDiv_zero, aluDiv_zero]
    exact ⟨rfl, rfl, rfl, rfl, rfl, rfl⟩

/-! ### Rotation by full turns (R320) -/

/-- A rotation by full turns moves nothing: the value stays, and no bit goes to C. -/
theorem aluRol_full_turns {a : Nat} (n : Nat) (ha : a < 262144) : aluRol a (18 * n) = aluPlain a := by
  have hturn : 18 * n % 18 = 0 := Nat.mul_mod_right 18 n
  have hsame : (a * 2 ^ 0 + a / 2 ^ (18 - 0)) % w18 = a := by
    rw [w18]
    omega
  simp only [aluRol, hturn, hsame]
  rfl

theorem aluPlain_carry (r : Nat) : (aluPlain r).2.testBit 1 = false := by
  have hflags : (aluPlain r).2 = 4 * (2 * b2n (r.testBit 17) + b2n (r % w18 == 0)) := by
    simp only [aluPlain, flagsOf, b2n, Bool.false_eq_true, if_false]
    omega
  rw [hflags, Nat.testBit_eq_decide_div_mod_eq]
  exact decide_eq_false (by omega)

/-- Settles O31: such a rotation leaves the value with C = V = 0. -/
theorem rotateByFullTurns : Obligations.RotateByFullTurns := by
  intro a n ha
  rw [aluRol_full_turns n ha]
  exact ⟨rfl, aluPlain_carry a⟩

end Sys2Proof.Machine
end

section
/-! SUPPORT. The fetch and the issue of an L-mode instruction (10 R342, R345 to R348; 11 R383; 14 R461). -/

namespace Sys2Proof.Machine

/-! ### The fetch (R342, R346) -/

/-- A read of program memory leaves the cores as they stand. -/
theorem State.memRead_cores_of_code (s : State) {a : Nat} (ha : a ≤ 65536) : (s.memRead (coreBase + a)).2.2.cores = s.cores := by
  rw [State.memRead_eq s (memOf_lt (by simp only [coreBase]; omega))]

theorem State.lFetch_cores (s : State) : s.lFetch.state.cores = s.cores := by
  simp only [State.lFetch]
  split
  · rfl
  next ha =>
    have hfirst := s.memRead_cores_of_code (show s.cores[0].pc.toNat ≤ 65536 by omega)
    have hsecond : ((s.memRead (coreBase + s.cores[0].pc.toNat)).2.2.memRead (coreBase + s.cores[0].pc.toNat + 1)).2.2.cores = s.cores :=
      (State.memRead_cores_of_code _ (show s.cores[0].pc.toNat + 1 ≤ 65536 by omega)).trans hfirst
    repeat' split
    all_goals simp only [hfirst, hsecond]

/-! ### The issue (R345, R347, R348) -/

theorem State.lReady_running {s : State} (h : s.lReady = true) : s.cores[0].mode = .running := by
  simp only [State.lReady, Bool.and_eq_true, beq_iff_eq] at h
  obtain ⟨⟨⟨⟨_, hmode⟩, _⟩, _⟩, _⟩ := h
  exact hmode

/-- What comes of a fetched instruction with effect e: while a word that it needs is restored from a borrow it has begun and waits,
otherwise it ends. -/
def State.lRestoreOrEnd (s : State) (op : LOp) (a : Option BankWord) (e : LEffect) : State :=
  ((s.restoreFor (s.lKeys op a)).map fun t => t.setCore 0 { s.cores[0] with begun := true }).getD (s.lFetch.state.lEnd op e)

theorem State.lRestoreOrEnd_ends {s : State} {op : LOp} {a : Option BankWord} (h : s.restoreFor (s.lKeys op a) = none) (e : LEffect) :
    s.lRestoreOrEnd op a e = s.lFetch.state.lEnd op e := by
  rw [State.lRestoreOrEnd, h, Option.map_none, Option.getD_none]

section
variable {s : State} {op : LOp} (hready : s.lReady = true) (hop : s.lFetch.op = .ok op)
include hready hop

/-- The instruction that VC0 has fetched waits for the domain of its data address, unless it has timed out; then for its words. -/
theorem State.lIssue_fetched (addr : State → Nat → Nat → Option BankWord) (run : State → Nat → Nat → Nat → LEffect) :
    s.lIssue op addr run
      = if ((addr s s.lFetch.w s.lFetch.w2).bind s.bankOff2).isSome ∧ s.cores[0].wodTmo = false then
          (s.wakeDom (((addr s s.lFetch.w s.lFetch.w2).bind s.bankOff2).getD 0)).setCore 0 { s.cores[0] with wod := true, begun := true }
        else s.lRestoreOrEnd op (addr s s.lFetch.w s.lFetch.w2)
          (run s.lFetch.state s.lFetch.w s.lFetch.w2 (s.cores[0].pc.toNat + if op.two then 2 else 1)) := by
  simp only [State.lIssue, hready, hop, State.lRestoreOrEnd, Bool.true_eq_false, if_false, ne_eq, not_true_eq_false]
  cases s.restoreFor (s.lKeys op (addr s s.lFetch.w s.lFetch.w2)) <;> rfl

/-- An instruction without a data address waits for no domain. -/
theorem done_lIssue_noAddress (run : State → Nat → Nat → Nat → LEffect) :
    done s (s.lIssue op (fun _ _ _ => none) run) = .next (settle s (s.lRestoreOrEnd op none
      (run s.lFetch.state s.lFetch.w s.lFetch.w2 (s.cores[0].pc.toNat + if op.two then 2 else 1)))) := by
  rw [State.lIssue_fetched hready hop, Option.bind_none, if_neg (by simp), done]

/-- An instruction that only computes leaves its results to land at its end. -/
theorem done_lCompute (run : Core → Nat → Nat → Nat → List Result) :
    done s (s.lCompute op run) = .next (settle s (s.lRestoreOrEnd op none ⟨s.lFetch.state,
      lSoon (run s.lFetch.state.cores[0] s.lFetch.w s.lFetch.w2 (s.cores[0].pc.toNat + if op.two then 2 else 1)),
      s.cores[0].pc.toNat + if op.two then 2 else 1, false⟩)) :=
  done_lIssue_noAddress hready hop _

end

end Sys2Proof.Machine
end

section
/-! SUPPORT. The L-mode instructions that compute (10 R345, R347; 09 R308 to R311, R318). -/

namespace Sys2Proof.Machine

/-! ### The fields of an instruction, and of the native syllable that it stands for (R345) -/

theorem bf_lt (b hi lo : Nat) : bf b hi lo < 2 ^ (hi - lo + 1) := Nat.mod_lt _ (by positivity)

theorem lImm_lt (w : Nat) : lImm w < 2 ^ 18 := by
  rw [lImm, codeOf]
  omega

section
variable {o d a imm acc acb sh m md : Nat}

theorem bf_x2Body (ho : o < 64) (hd : d < 16) (ha : a < 16) (himm : imm < 2 ^ 18) :
    bf (x2Body o d a imm) 31 26 = o ∧ bf (x2Body o d a imm) 25 22 = d ∧ bf (x2Body o d a imm) 21 18 = a
      ∧ bf (x2Body o d a imm) 17 0 = imm := by
  simp only [bf, x2Body]
  omega

theorem bf_m3Body (ho : o < 64) (hacc : acc < 8) (hacb : acb < 8) (hd : d < 16) (hsh : sh < 64) :
    bf (m3Body o acc acb d sh) 31 26 = o ∧ bf (m3Body o acc acb d sh) 25 23 = acc ∧ bf (m3Body o acc acb d sh) 22 20 = acb
      ∧ bf (m3Body o acc acb d sh) 19 16 = d ∧ bf (m3Body o acc acb d sh) 15 10 = sh := by
  simp only [bf, m3Body]
  omega

end

/-! ### The operations in the D registers (R345; 09 R318) -/

section
variable (x : Core) {d imm : Nat} (hd : d < 16) (himm : imm < 2 ^ 18)
include hd himm

theorem Core.runX_addi : (x.runX 0 (x2Body 0o41 d d imm)).1 = flagResult d (aluAdd (x.dv d) imm 0) := by
  obtain ⟨hop, hdst, hsrc, hval⟩ := bf_x2Body (o := 0o41) (by decide) hd hd himm
  simp [Core.runX, hop, hdst, hsrc, hval]

theorem Core.runX_ldi : (x.runX 0 (x2Body 0o57 d 0 imm)).1 = [(d, imm, 1)] := by
  obtain ⟨hop, hdst, _, hval⟩ := bf_x2Body (o := 0o57) (by decide) hd (show 0 < 16 by decide) himm
  simp [Core.runX, hop, hdst, hval, plainResult]

theorem Core.runX_cmpi : (x.runX 0 (x2Body 0o45 0 d imm)).1 = [(rFlags, (aluSub (x.dv d) imm 0).2, 1)] := by
  obtain ⟨hop, _, hsrc, hval⟩ := bf_x2Body (o := 0o45) (by decide) (show 0 < 16 by decide) hd himm
  simp [Core.runX, hop, hsrc, hval]

end

section
variable (x : Core) {d count : Nat} (hd : d < 16) (hcount : count < 64)
include hd hcount

theorem Core.runX_shli : (x.runX 0 (x2Body 0o60 d d count)).1 = flagResult d (aluShl (x.dv d) count) := by
  obtain ⟨hop, hdst, hsrc, hval⟩ := bf_x2Body (o := 0o60) (by decide) hd hd (hcount.trans (by decide))
  simp [Core.runX, hop, hdst, hsrc, hval, Nat.mod_eq_of_lt hcount]

theorem Core.runX_shri : (x.runX 0 (x2Body 0o61 d d count)).1 = flagResult d (aluShr (x.dv d) count) := by
  obtain ⟨hop, hdst, hsrc, hval⟩ := bf_x2Body (o := 0o61) (by decide) hd hd (hcount.trans (by decide))
  simp [Core.runX, hop, hdst, hsrc, hval, Nat.mod_eq_of_lt hcount]

theorem Core.runX_asri : (x.runX 0 (x2Body 0o62 d d count)).1 = flagResult d (aluAsr (x.dv d) count) := by
  obtain ⟨hop, hdst, hsrc, hval⟩ := bf_x2Body (o := 0o62) (by decide) hd hd (hcount.trans (by decide))
  simp [Core.runX, hop, hdst, hsrc, hval, Nat.mod_eq_of_lt hcount]

end

/-! ### The operations on the accumulators (R345; 09 R308 to R311) -/

/-- The body of an M1 syllable (09 R308). -/
def m1Body (o acc a b md : Nat) : Nat := o * 2 ^ 26 + acc * 2 ^ 23 + a * 2 ^ 19 + b * 2 ^ 15 + md * 2 ^ 12

theorem bf_m1Body {o acc a b md : Nat} (ho : o < 64) (hacc : acc < 8) (ha : a < 16) (hb : b < 16) (hmd : md < 8) :
    bf (m1Body o acc a b md) 31 26 = o ∧ bf (m1Body o acc a b md) 25 23 = acc ∧ bf (m1Body o acc a b md) 22 19 = a
      ∧ bf (m1Body o acc a b md) 18 15 = b ∧ bf (m1Body o acc a b md) 14 12 = md := by
  simp only [bf, m1Body]
  omega

/-- The body that a multiply of L-mode stands for. -/
def lMulBody (o w : Nat) : Nat := m1Body o (bf w 13 13) (bf w 12 10) (bf w 9 7) (bf w 4 4)

theorem lMul_eq (o : Nat) (x : Core) (w : Nat) : lMul o x w = x.runM (lMulBody o w) := rfl

theorem bf_lMulBody {o : Nat} (ho : o < 64) (w : Nat) : bf (lMulBody o w) 31 26 = o ∧ bf (lMulBody o w) 25 23 = bf w 13 13
    ∧ bf (lMulBody o w) 22 19 = bf w 12 10 ∧ bf (lMulBody o w) 18 15 = bf w 9 7 ∧ bf (lMulBody o w) 14 12 = bf w 4 4 :=
  bf_m1Body ho ((bf_lt w 13 13).trans (by decide)) ((bf_lt w 12 10).trans (by decide)) ((bf_lt w 9 7).trans (by decide))
    ((bf_lt w 4 4).trans (by decide))

section
variable (x : Core) (w : Nat)

theorem lMul_mpy : lMul 1 x w = accWrite (bitOf x.sr 12) (bf w 13 13) (macProduct (bf w 4 4) (x.dv (bf w 12 10)) (x.dv (bf w 9 7))) := by
  obtain ⟨hop, hacc, ha, hb, hmod⟩ := bf_lMulBody (o := 1) (by decide) w
  simp [lMul_eq, Core.runM, hop, hacc, ha, hb, hmod]

theorem lMul_mac : lMul 2 x w = accWrite (bitOf x.sr 12) (bf w 13 13)
    (s44 (x.accInput (bf w 13 13)) + macProduct (bf w 4 4) (x.dv (bf w 12 10)) (x.dv (bf w 9 7))) := by
  obtain ⟨hop, hacc, ha, hb, hmod⟩ := bf_lMulBody (o := 2) (by decide) w
  simp [lMul_eq, Core.runM, hop, hacc, ha, hb, hmod]

theorem lMul_msu : lMul 3 x w = accWrite (bitOf x.sr 12) (bf w 13 13)
    (s44 (x.accInput (bf w 13 13)) - macProduct (bf w 4 4) (x.dv (bf w 12 10)) (x.dv (bf w 9 7))) := by
  obtain ⟨hop, hacc, ha, hb, hmod⟩ := bf_lMulBody (o := 3) (by decide) w
  simp [lMul_eq, Core.runM, hop, hacc, ha, hb, hmod]

end

section
variable (x : Core) {n other d sh : Nat}

theorem Core.runM_ext (hn : n < 8) (hd : d < 16) (hsh : sh < 64) : x.runM (m3Body 0o20 n 0 d sh)
    = [(d, accExtract (bitOf x.sr 12) (bitOf x.sr 11) (x.get 0 (0o20 + n)) (signedOf 6 sh), 3)] := by
  obtain ⟨hop, hacc, _, hdst, hcount⟩ := bf_m3Body (o := 0o20) (acb := 0) (by decide) hn (by decide) hd hsh
  simp [Core.runM, hop, hacc, hdst, hcount]

theorem Core.runM_exh (hn : n < 8) (hd : d < 16) : x.runM (m3Body 0o22 n 0 d 0) = [(d, x.get 0 (0o20 + n) / 2 ^ 18 % w18, 3)] := by
  obtain ⟨hop, hacc, _, hdst, _⟩ := bf_m3Body (o := 0o22) (acb := 0) (sh := 0) (by decide) hn (by decide) hd (by decide)
  simp [Core.runM, hop, hacc, hdst]

theorem Core.runM_ldh (hn : n < 8) (hd : d < 16) : x.runM (m3Body 0o24 n 0 d 0) = accWrite (bitOf x.sr 12) n (s18 (x.dv d) * 262144) := by
  obtain ⟨hop, hacc, _, hdst, _⟩ := bf_m3Body (o := 0o24) (acb := 0) (sh := 0) (by decide) hn (by decide) hd (by decide)
  simp [Core.runM, hop, hacc, hdst]

theorem Core.runM_clra (hn : n < 8) : x.runM (m3Body 0o35 n 0 0 0) = accWrite (bitOf x.sr 12) n 0 := by
  obtain ⟨hop, hacc, _⟩ := bf_m3Body (o := 0o35) (acb := 0) (d := 0) (sh := 0) (by decide) hn (by decide) (by decide) (by decide)
  simp [Core.runM, hop, hacc]

variable (hn : n < 8) (hother : other < 8)
include hn hother

theorem Core.runM_mova : x.runM (m3Body 0o30 n other 0 0) = accWrite (bitOf x.sr 12) n (s44 (x.get 0 (0o20 + other))) := by
  obtain ⟨hop, hacc, hsrc, _⟩ := bf_m3Body (o := 0o30) (d := 0) (sh := 0) (by decide) hn hother (by decide) (by decide)
  simp [Core.runM, hop, hacc, hsrc]

theorem Core.runM_adda : x.runM (m3Body 0o31 n other 0 0)
    = accWrite (bitOf x.sr 12) n (s44 (x.accInput n) + s44 (x.get 0 (0o20 + other))) := by
  obtain ⟨hop, hacc, hsrc, _⟩ := bf_m3Body (o := 0o31) (d := 0) (sh := 0) (by decide) hn hother (by decide) (by decide)
  simp [Core.runM, hop, hacc, hsrc]

theorem Core.runM_nega : x.runM (m3Body 0o33 n other 0 0) = accWrite (bitOf x.sr 12) n (-(s44 (x.get 0 (0o20 + other)))) := by
  obtain ⟨hop, hacc, hsrc, _⟩ := bf_m3Body (o := 0o33) (d := 0) (sh := 0) (by decide) hn hother (by decide) (by decide)
  simp [Core.runM, hop, hacc, hsrc]

end

/-- Settles O35: each instruction leaves the results of the native operation that it stands for, to land at its end. -/
theorem lModeComputingRuns : Obligations.LModeComputingRuns := by
  refine ⟨?registers, ?accumulators⟩
  case registers =>
    rintro s f x n rfl hready rfl fin hfin rfl
    have hrun : ∀ op run res, s.lFetch.op = .ok op →
        lSoon (run s.lFetch.state.cores[0] s.lFetch.w s.lFetch.w2 (s.cores[0].pc.toNat + if op.two then 2 else 1)) = res →
        done s (s.lCompute op run) = .next (fin op (s.cores[0].pc.toNat + if op.two then 2 else 1) res) := by
      rintro op run _ hop rfl
      rw [hfin]
      exact done_lCompute hready hop run
    have hd : bf s.lFetch.w 13 11 < 16 := (bf_lt _ 13 11).trans (by decide)
    have himm := lImm_lt s.lFetch.w
    have hcount : bf s.lFetch.w 5 0 < 64 := bf_lt _ 5 0
    exact ⟨fun h => hrun _ _ _ h rfl, fun h => hrun _ _ _ h rfl, fun h => hrun _ _ _ h (congrArg lSoon (Core.runX_addi _ hd himm)),
      fun h => hrun _ _ _ h (congrArg lSoon (Core.runX_ldi _ hd himm)), fun h => hrun _ _ _ h (congrArg lSoon (Core.runX_cmpi _ hd himm)),
      fun h => hrun _ _ _ h (congrArg lSoon (Core.runX_shli _ hd hcount)),
      fun h => hrun _ _ _ h (congrArg lSoon (Core.runX_shri _ hd hcount)),
      fun h => hrun _ _ _ h (congrArg lSoon (Core.runX_asri _ hd hcount)), fun h => hrun _ _ _ h rfl, fun h => hrun _ _ _ h rfl,
      fun h => hrun _ _ _ h rfl, fun h => hrun _ _ _ h rfl⟩
  case accumulators =>
    rintro s f x n a b sat rfl hready rfl fin hfin rfl rfl rfl rfl
    have hrun : ∀ op run res, s.lFetch.op = .ok op → op.two = false →
        run s.lFetch.state.cores[0] s.lFetch.w s.lFetch.w2 (s.cores[0].pc.toNat + 1) = res →
        done s (s.lCompute op run) = .next (fin op res) := by
      rintro op run _ hop hone rfl
      rw [hfin, done_lCompute hready hop, hone]
      rfl
    have hacc : bf s.lFetch.w 13 13 < 8 := (bf_lt _ 13 13).trans (by decide)
    have hother : 1 - bf s.lFetch.w 13 13 < 8 := by omega
    have hd : bf s.lFetch.w 12 10 < 16 := (bf_lt _ 12 10).trans (by decide)
    have hsh : bf s.lFetch.w 9 4 < 64 := bf_lt _ 9 4
    exact ⟨fun h => hrun _ _ _ h rfl (lMul_mpy ..), fun h => hrun _ _ _ h rfl (lMul_mac ..), fun h => hrun _ _ _ h rfl (lMul_msu ..),
      fun h => hrun _ _ _ h rfl (Core.runM_ext _ hacc hd hsh), fun h => hrun _ _ _ h rfl (Core.runM_exh _ hacc hd),
      fun h => hrun _ _ _ h rfl (Core.runM_ldh _ hacc hd), fun h => hrun _ _ _ h rfl (Core.runM_clra _ hacc),
      fun h => hrun _ _ _ h rfl (Core.runM_mova _ hacc hother), fun h => hrun _ _ _ h rfl (Core.runM_adda _ hacc hother),
      fun h => hrun _ _ _ h rfl (Core.runM_nega _ hacc hacc)⟩

/-! ### The end of an instruction (R347) -/

/-- VC0 at the end of an instruction with effect e, before the results that are due land. -/
def Core.lNext (x : Core) (e : LEffect) : Core :=
  { x with inflight := x.inflight ++ e.res, pc := BitVec.ofNat 17 e.next, bcnt := (x.bcnt + 1) % 2 ^ 36
           wodTmo := false, begun := false, noBreak := false }

theorem Core.lNext_inflight (x : Core) (e : LEffect) : (x.lNext e).inflight = x.inflight ++ e.res := rfl

theorem State.lEnd_eq (s : State) (op : LOp) (e : LEffect) (t : State)
    (ht : t = (e.state.setCore 0 { (e.state.cores[0].lNext e).land with shadow := op == .ldw || op == .ldp }).lPace (op.cycles e.taken)) :
    s.lEnd op e = if e.state.coreGone 0 then e.state
      else if e.state.cores[0].haltReq && !(op == .ldw || op == .ldp) then t.haltCore 0 1 else t := by
  subst ht
  rfl

theorem State.vc0_setCore (s : State) (x : Core) : (s.setCore 0 x).cores[0] = x := s.core_setCore 0 x

section
variable (s : State) (op : LOp) {e : LEffect} (hkept : e.state.cores[0].mode ≠ .reset) (hhalt : e.state.cores[0].haltReq = false)
include hkept hhalt

/-- With no wish to halt, an instruction that does not reset the core ends with what is due landed. -/
theorem State.lEnd_lands : s.lEnd op e
    = (e.state.setCore 0 { (e.state.cores[0].lNext e).land with shadow := op == .ldw || op == .ldp }).lPace (op.cycles e.taken) := by
  rw [State.lEnd_eq s op e _ rfl, if_neg (by simpa [State.coreGone] using hkept), if_neg (by simp [hhalt])]

theorem State.lEnd_core :
    (s.lEnd op e).cores[0] = { (e.state.cores[0].lNext e).land with shadow := op == .ldw || op == .ldp } := by
  simp only [State.lEnd_lands s op hkept hhalt, State.lPace]
  exact State.vc0_setCore ..

theorem State.lEnd_d : (s.lEnd op e).cores[0].d = (e.state.cores[0].lNext e).land.d := by rw [State.lEnd_core s op hkept hhalt]

theorem State.lEnd_sr : (s.lEnd op e).cores[0].sr = (e.state.cores[0].lNext e).land.sr := by rw [State.lEnd_core s op hkept hhalt]

theorem State.lEnd_pc : (s.lEnd op e).cores[0].pc = (e.state.cores[0].lNext e).land.pc := by rw [State.lEnd_core s op hkept hhalt]

theorem State.lEnd_regs : (s.lEnd op e).regs = e.state.regs := by rw [State.lEnd_lands s op hkept hhalt]; rfl

theorem State.lEnd_mem : (s.lEnd op e).mem = e.state.mem := by rw [State.lEnd_lands s op hkept hhalt]; rfl

end

/-- A D register by the register file alone. -/
theorem Core.get_congr_d {x y : Core} (h : x.d = y.d) (cid : Nat) {n : Nat} (hn : n < 16) : x.get cid n = y.get cid n := by
  rw [Core.get_d _ hn, Core.get_d _ hn, h]

section
variable {x : Core} {e : LEffect} {n : Nat} {r : AluRes} (hn : n < 16) (hflight : x.inflight = []) (hres : e.res = flagResult n r)
include hn hflight hres

/-- With nothing else in flight, a result lands with its flags. -/
theorem Core.land_lNext : ∃ y : Core, y.d = x.d ∧ y.pc = BitVec.ofNat 17 e.next ∧ (x.lNext e).land = (y.put n r.1).put rFlags r.2 :=
  ⟨{ x.lNext e with inflight := [], rubLeft := (x.lNext e).rubLeft - 1 }, rfl, rfl,
    Core.land_flagResult (x.lNext e) r hn (by rw [Core.lNext_inflight, hflight, hres, List.nil_append])⟩

end

/-- Settles O37, from the core that the instruction leaves, register by register. -/
theorem lModeAddLandsAtOnce : Obligations.LModeAddLandsAtOnce := by
  rintro s f x a rfl hready hop rfl hfree hflight hhalt ha
  have hd : bf s.lFetch.w 13 11 < 16 := (bf_lt _ 13 11).trans (by decide)
  obtain ⟨e, he⟩ : ∃ e : LEffect, e = ⟨s.lFetch.state, flagResult (bf s.lFetch.w 13 11) a, s.cores[0].pc.toNat + 1, false⟩ :=
    ⟨_, rfl⟩
  have hexec : exec .lAddi s = .next (settle s (s.lFetch.state.lEnd .addi e)) := by
    refine (done_lCompute hready hop _).trans ?_
    rw [State.lRestoreOrEnd_ends hfree, Core.runX_addi _ hd (lImm_lt _), he, ha]
    rfl
  have hstate : e.state = s.lFetch.state := by rw [he]
  have hkept : e.state.cores[0].mode ≠ .reset := by simp [hstate, State.lFetch_cores, State.lReady_running hready]
  have hstays : e.state.cores[0].haltReq = false := by simp only [hstate, hhalt]
  obtain ⟨y, hyd, hypc, hland⟩ := Core.land_lNext (x := e.state.cores[0]) (e := e) (r := a) hd
    (by simp only [hstate, hflight]) (by rw [he])
  have hget : ∀ m, m < 16 → (s.lFetch.state.lEnd .addi e).cores[0].get 0 m = (y.put (bf s.lFetch.w 13 11) a.1).get 0 m := fun m hm => by
    rw [Core.get_congr_d (State.lEnd_d _ _ hkept hstays) 0 hm, hland, Core.get_put_flags _ _ hm]
  refine ⟨_, hexec, ?sum, ?flags, ?pc, ?regs, ?mem, ?others⟩
  case sum =>
    rw [hget _ hd, Core.get_put_d_self _ _ hd, ha]
    exact Nat.mod_mod _ _
  case flags =>
    rw [State.lEnd_sr _ _ hkept hstays, hland, Core.put_flags, fieldOf_withField _ _ _ _ (by decide) (by decide), ha]
    exact Nat.mod_eq_of_lt (flagsOf_lt ..)
  case pc =>
    rw [State.lEnd_pc _ _ hkept hstays, hland, Core.put_flags, Core.put_d _ _ hd]
    exact hypc.trans (by rw [he])
  case regs => rw [State.lEnd_regs _ _ hkept hstays, hstate]
  case mem => rw [State.lEnd_mem _ _ hkept hstays, hstate]
  case others =>
    intro m hm hne
    rw [hget m hm, Core.get_put_d_ne _ _ hd hm hne, Core.get_congr_d hyd 0 hm, hstate]

end Sys2Proof.Machine
end

section
/-! SUPPORT. The L-mode instructions of program flow, of register moves and of memory (10 R345, R346, R348, R350). -/

namespace Sys2Proof.Machine

section
variable {s : State} (hready : s.lReady = true)
include hready

/-- An instruction that VC0 cannot issue halts it (R346). -/
theorem exec_lIllegalHalt {tcs : Nat} (herr : s.lFetch.op = .error tcs) :
    exec .lIllegalHalt s = .next (settle s (s.lFetch.state.lHalt tcs)) := by
  change execLIllegalHalt s = _
  rw [execLIllegalHalt, if_pos hready, done]
  simp only [herr]

/-- An instruction with a data address waits for the domain of the address, unless it has timed out; then for its words. -/
theorem done_lIssue_address {op : LOp} (hop : s.lFetch.op = .ok op) (addr : State → Nat → Nat → Option BankWord)
    (run : State → Nat → Nat → Nat → LEffect) {a : BankWord} (ha : addr s s.lFetch.w s.lFetch.w2 = some a) :
    done s (s.lIssue op addr run) = .next (settle s (
      if (s.bankOff2 a).isSome ∧ s.cores[0].wodTmo = false then
        (s.wakeDom ((s.bankOff2 a).getD 0)).setCore 0 { s.cores[0] with wod := true, begun := true }
      else s.lRestoreOrEnd op (some a)
        (run s.lFetch.state s.lFetch.w s.lFetch.w2 (s.cores[0].pc.toNat + if op.two then 2 else 1)))) := by
  rw [State.lIssue_fetched hready hop, ha, Option.bind_some, done]

end

theorem lSoon_of_latency_one {r : Result} (h : r.2.2 = 1) : lSoon [r] = [r] := by
  rw [lSoon, List.map_singleton, ← h]

/-- Settles O36: an instruction of flow or of register moves by its effect, an access by its data address and its effect. -/
theorem lModeFlowAndMemoryRun : Obligations.LModeFlowAndMemoryRun := by
  refine ⟨?flow, ?memory⟩
  case flow =>
    rintro s f x n rfl hready rfl closeIt fin hclose hfin rfl
    have hrun : ∀ op run e, s.lFetch.op = .ok op →
        run s.lFetch.state s.lFetch.w s.lFetch.w2 (s.cores[0].pc.toNat + if op.two then 2 else 1) = e →
        done s (s.lIssue op (fun _ _ _ => none) run) = .next (closeIt op e) := by
      rintro op run _ hop rfl
      rw [hclose]
      exact done_lIssue_noAddress hready hop run
    simp only [hfin]
    exact ⟨fun h => hrun _ _ _ h rfl, fun h => hrun _ _ _ h rfl, fun h => hrun _ _ _ h rfl, fun h hc => hrun _ _ _ h (if_pos hc),
      fun h hc => hrun _ _ _ h (if_neg (by simp [hc])), fun h => hrun _ _ _ h rfl, fun h => hrun _ _ _ h rfl,
      fun r hr h => hrun _ _ _ h (by rw [hr]; rfl),
      fun r v hr hv h => hrun _ _ _ h (by
        rw [hr, hv]
        exact congrArg (LEffect.mk _ · _ _) (lSoon_of_latency_one (by split_ifs <;> rfl))),
      fun tcs h => exec_lIllegalHalt hready h⟩
  case memory =>
    rintro s f t d n rfl hready rfl rfl rfl out hout
    have hrun : ∀ op addr run a, s.lFetch.op = .ok op → addr s s.lFetch.w s.lFetch.w2 = some a →
        done s (s.lIssue op addr run) = .next (out a op
          (run s.lFetch.state s.lFetch.w s.lFetch.w2 (s.cores[0].pc.toNat + if op.two then 2 else 1))) := by
      intro op addr run a hop ha
      rw [hout]
      exact done_lIssue_address hready hop addr run ha
    exact ⟨fun h => hrun _ _ _ _ h rfl, fun h => hrun _ _ _ _ h rfl, fun h => hrun _ _ _ _ h rfl, fun h => hrun _ _ _ _ h rfl⟩

end Sys2Proof.Machine
end

section
/-! SUPPORT. The checks of a write and of a read of a word of the legacy window (10 R340, R341, R353, R367; 14 R462). -/

namespace Sys2Proof.Machine

/-! ### A write (R340, R353, R367) -/

section
variable {s : State} {w : Writer} {k c : Nat} {v : Word}

/-- Once a write has reached its word, the word's own checks refuse it in their order, or it takes effect. -/
theorem State.lwApply_refused_state (hc : (lwHandler w k v s).state ≠ 0) :
    s.lwApply w k v = s.lwRefuse w (lwHandler w k v s).state k := if_pos hc

theorem State.lwApply_refused_range (h1 : (lwHandler w k v s).state = 0)
    (h2 : inRange .lwin k v = false ∨ (lwHandler w k v s).range = false) : s.lwApply w k v = s.lwRefuse w eRANGE k := by
  rw [State.lwApply, if_neg (not_not.mpr h1), if_pos h2]

theorem State.lwApply_refused_extra (h1 : (lwHandler w k v s).state = 0) (hin : inRange .lwin k v = true)
    (h2 : (lwHandler w k v s).range = true) (h3 : (lwHandler w k v s).extra ≠ 0) :
    s.lwApply w k v = s.lwRefuse w (lwHandler w k v s).extra k := by
  rw [State.lwApply, if_neg (not_not.mpr h1), if_neg (by simp [hin, h2]), if_pos h3]

theorem State.lwApply_accepted (hin : inRange .lwin k v = true) (h1 : (lwHandler w k v s).state = 0)
    (h2 : (lwHandler w k v s).range = true) (h3 : (lwHandler w k v s).extra = 0) : s.lwApply w k v = (lwHandler w k v s).result := by
  rw [State.lwApply, if_neg (not_not.mpr h1), if_neg (by simp [hin, h2]), if_neg (not_not.mpr h3)]

theorem State.lwRow_dead (hdead : s.writerLive w = false) : s.lwRow w k v = s := by
  simp [State.lwRow, State.lwWrite.eq_def, hdead]

theorem State.lwRow_native {q : Fin 8} (hnative : s.legacyDual = false) (hlive : s.writerLive (.ses q) = true) :
    s.lwRow (.ses q) k v = s.sesErr q.val eUNMAPPED k := by
  simp [State.lwRow, hnative, hlive]

theorem State.lwRow_legacyDual (hdual : s.legacyDual = true) : s.lwRow w k v = s.lwWrite w k v := if_pos hdual

theorem State.lwWrite_unreached (hlive : s.writerLive w = true) (hno : s.lwPermits w = false) :
    s.lwWrite w k v = s.lwRefuse w ePERM k := by
  rw [State.lwWrite.eq_def, if_neg (by simp [hlive]), if_pos hno]

/-- A session's write to a domain that is off waits in SLEEP, and is refused otherwise. -/
theorem State.lwWrite_session_off {q : Fin 8} {d : Nat} (hlive : s.writerLive (.ses q) = true) (hper : s.lwPermits (.ses q) = true)
    (hoff : s.lwOff k = some d) : s.lwWrite (.ses q) k v
      = if s.asleep then (s.lwArrive (.ses q)).lwPost q k v else (s.lwArrive (.ses q)).lwRefuse (.ses q) eSTATE k := by
  simp [State.lwWrite, hlive, hper, hoff]

theorem State.lwWrite_core_off {r : Fin 4} {d : Nat} (hlive : s.writerLive (.core r) = true) (hper : s.lwPermits (.core r) = true)
    (hoff : s.lwOff k = some d) : s.lwWrite (.core r) k v = s.stallMem r (lwMark k) d v := by
  simp [State.lwWrite, hlive, hper, hoff]

/-- Where the word's domains are on, a write that arrives meets the word's own checks. -/
theorem State.lwWrite_on (hlive : s.writerLive w = true) (hper : s.lwPermits w = true) (hon : s.lwOff k = none) :
    s.lwWrite w k v = (s.lwArrive w).lwApply w k v := by
  rw [State.lwWrite.eq_def, if_neg (by simp [hlive]), if_neg (by simp [hper])]
  cases w with
  | ses q => simp [hon]
  | core r => simp [hon, State.lwArrive]
  | tap => exact absurd hper (by simp [State.lwPermits])

/-- A write that passes every check has the effect that its word gives it. -/
theorem done_lwWrite_accepted (hc : s.LwClear w k v) {h : Handler} (hh : lwHandler w k v (s.lwArrive w) = h) (h1 : h.state = 0)
    (h2 : h.range = true) (h3 : h.extra = 0) : done s (s.lwWrite w k v) = .next (settle s h.result) := by
  subst hh
  rw [State.lwWrite_on hc.live hc.permits hc.on, State.lwApply_accepted hc.range h1 h2 h3, done]

theorem done_lwRow_accepted (hc : s.LwClear w k v) {h : Handler} (hh : lwHandler w k v (s.lwArrive w) = h) (h1 : h.state = 0)
    (h2 : h.range = true) (h3 : h.extra = 0) : done s (s.lwRow w k v) = .next (settle s h.result) := by
  rw [State.lwRow_legacyDual hc.dual, done_lwWrite_accepted hc hh h1 h2 h3]

/-- A write whose word's own state refuses it. -/
theorem done_lwRow_refused (hc : s.LwClear w k v) {h : Handler} (hh : lwHandler w k v (s.lwArrive w) = h) (h1 : h.state = c)
    (h0 : c ≠ 0) : done s (s.lwRow w k v) = .next (settle s ((s.lwArrive w).lwRefuse w c k)) := by
  subst hh h1
  rw [State.lwRow_legacyDual hc.dual, State.lwWrite_on hc.live hc.permits hc.on, State.lwApply_refused_state h0, done]

/-- A command of a list whose commands all stand for the window writes beside them. -/
theorem exec_of_windowWrites {l : List (Instr × Nat × Word)} {row : Instr} (hmem : (row, k, v) ∈ l)
    (hall : ∀ e ∈ l, exec e.1 s = done s (s.lwRow w e.2.1 e.2.2)) : exec row s = done s (s.lwRow w k v) := hall _ hmem

end

/-! ### A read by a session (R340, R341, R354) -/

section
variable {s : State} {q : Fin 8} {k : Nat}

theorem State.lwReadRow_dead (hdead : s.writerLive (.ses q) = false) : s.lwReadRow q k = s := by
  simp [State.lwReadRow, hdead]

theorem State.lwReadRow_native (hlive : s.writerLive (.ses q) = true) (hnative : s.legacyDual = false) :
    s.lwReadRow q k = (s.sesErr q.val eUNMAPPED k).driveBus q 0 2 := by
  simp [State.lwReadRow, hlive, hnative]

theorem State.lwReadRow_legacyDual (hlive : s.writerLive (.ses q) = true) (hdual : s.legacyDual = true) :
    s.lwReadRow q k = (s.lwHostRead q k).2.2.driveBus q (s.lwHostRead q k).1 (s.lwHostRead q k).2.1 := if_pos ⟨hdual, hlive⟩

theorem State.lwHostRead_unreached (hno : s.lwPermits (.ses q) = false) : s.lwHostRead q k = (0, 2, s.sesErr q.val ePERM k) := if_pos hno

theorem State.lwHostRead_stale (hper : s.lwPermits (.ses q) = true) (hstale : s.lwFresh k = false) :
    s.lwHostRead q k = (s.lwPeek k, 1, s) := by
  simp [State.lwHostRead, hper, hstale]

/-- A fresh read gives the word, with what the read of the word does. -/
theorem done_lwReadRow_fresh (h : s.LwReads q k) :
    done s (s.lwReadRow q k) = .next (settle s ((s.lwRead (.ses q) k).2.driveBus q (s.lwRead (.ses q) k).1 0)) := by
  simp [State.lwReadRow_legacyDual h.live h.dual, State.lwHostRead, h.permits, h.fresh, done]

end

end Sys2Proof.Machine
end

section
/-! SUPPORT. The words of the window that control VC0, the dump FIFO, the latch, power, the mailboxes, the UARTs and TP0 (10 R353, R358,
R359, R361 to R363). -/

namespace Sys2Proof.Machine

/-! ### What a write of each word does -/

section
variable {s : State} {w : Writer} {v : Word}

/-- LCTL: CLR first, then RESET, then RUN (R353, R358). -/
theorem lwHandler_control {y : State}
    (hy : y = if bitOf v 2 then (s.setReg (lwKey 1) (v &&& 1)).dumpClear else s.setReg (lwKey 1) (v &&& 1)) :
    lwHandler w 1 v s = ⟨0, true, 0,
      if bitOf v 1 then (if s.domOn 11 then (y.setB (lwKey 2) 3 false).resetCore 0 else y)
      else if bitOf v 0 = true ∧ s.bit (lwKey 1) 0 = false then (y.setB (lwKey 2) 3 false).wantRun 0
      else if bitOf v 0 = false ∧ s.bit (lwKey 1) 0 = true then y.wantHalt w 0 else y⟩ := by
  subst hy
  rfl

theorem lwHandler_power : lwHandler w 7 v s
    = ⟨if bitOf v 0 = true ∧ s.phase ≠ 0 then eBUSY else 0, true, 0, if bitOf v 0 then s.beginEntryLw w else s⟩ := rfl

theorem lwHandler_snap : lwHandler w 8 v s = ⟨0, true, 0, if bitOf v 0 then s.legacySnap else s⟩ := rfl

theorem lwHandler_mailbox_host {q : Fin 8} :
    lwHandler (.ses q) 16 v s = ⟨0, true, 0, ((s.lwPlain 16 v).setB (lwKey 2) 1 true).setB (lwKey 3) 6 true⟩ := rfl

theorem lwHandler_mailbox_dsp {c : Fin 4} :
    lwHandler (.core c) 17 v s = ⟨0, true, 0, ((s.lwPlain 17 v).setB (lwKey 2) 2 true).setB (lwKey 3) 7 true⟩ := rfl

theorem lwHandler_uart_data (u : Fin 2) : lwHandler w (448 + 4 * u.val) v s = ⟨if (s.ser u.val).txHold.isSome then eBUSY else 0, true, 0,
    s.setSer u.val { s.ser u.val with txHold := some (BitVec.ofNat 9 (fieldOf v 8 0)) }⟩ := by
  fin_cases u <;> rfl

theorem lwHandler_tp : lwHandler w 456 v s
    = ⟨if s.bit (pg 17 3) 4 then eBUSY else 0, State.legacyTpOk (s.legacyTp v), 0, s.legacyTpApply v⟩ := rfl

theorem lwHandler_offset {x : Nat} (hx : x = s.fld (lwKey 459) 9 0 * 262144 + v.toNat) : lwHandler w 460 v s
    = ⟨0, decide (25 * x < (s.legacyTp 0).period), 0, { s.lwPlain 460 v with leg := { s.leg with ofs := x } }⟩ := by
  subst hx
  rfl

end

/-! ### SNAP (R359; 07 R224, R250) -/

section
variable {s y : State}

theorem State.legacySnap_barred (h : s.latchBarred = true) : s.legacySnap = s.skipLatch := if_pos h

/-- An epoch of the same cycle counts first; then a latch starts, the one in progress is joined, or the last one is given again. -/
theorem State.legacySnap_taken (h : s.latchBarred = false) (hy : y = if s.epochNow = true ∧ s.time.on = true then s.takeEpoch else s) :
    s.legacySnap = if y.latchFree y.rxt then y.startLatch 3 0 y.rxt
      else if y.meas.cur.isSome then { y with meas := { y.meas with legWant := true } } else y.legacyLatch := by
  subst hy
  rw [State.legacySnap, if_neg (by simp [h])]

end

/-! ### What a fresh read of each word does -/

section
variable {s : State} {w : Writer}

theorem State.lwRead_mailbox_host {c : Fin 4} : s.lwRead (.core c) 16 = (s.lwPeek 16, s.setB (lwKey 2) 1 false) := rfl

theorem State.lwRead_mailbox_dsp {q : Fin 8} : s.lwRead (.ses q) 17 = (s.reg (lwKey 17), s.setB (lwKey 2) 2 false) := rfl

theorem State.lwRead_uart_data (u : Fin 2) : s.lwRead w (448 + 4 * u.val) = (s.lwPeek (448 + 4 * u.val), s.takeRxd u.val) := by
  fin_cases u <;> rfl

end

/-- Settles O38: the rows by the check that refuses them, then each word by its own checks and its effect. -/
theorem legacyControlCommandsRun : Obligations.LegacyControlCommandsRun := by
  refine ⟨?writes, ?reads, ?control, ?uartsAndPulse⟩
  case writes =>
    rintro s t w row k x v c u hmem rfl
    have hrow : exec row s = done s (s.lwRow w k v) := by
      refine exec_of_windowWrites hmem ?_
      simp only [List.forall_mem_cons, List.not_mem_nil, false_imp_iff, implies_true, and_true]
      and_intros <;> rfl
    rw [hrow]
    refine ⟨fun hdead => ?_, ?_, fun hdual hlive => ⟨fun hno => ?_, fun hper => ⟨?_, ?_, fun hon => ?_⟩⟩⟩
    · rw [State.lwRow_dead hdead, done]
    · rintro q rfl hnative hlive
      rw [State.lwRow_native hnative hlive, done]
    all_goals rw [State.lwRow_legacyDual hdual]
    · rw [State.lwWrite_unreached hlive hno, done]
    · rintro q d rfl hoff
      rw [State.lwWrite_session_off hlive hper hoff, done]
    · rintro r d rfl hoff
      rw [State.lwWrite_core_off hlive hper hoff, done]
    · rw [State.lwWrite_on hlive hper hon]
      refine ⟨fun h => ?_, fun h1 h2 => ?_, fun h1 hin h2 h3 => ?_⟩
      · rw [State.lwApply_refused_state h, done]
      · rw [State.lwApply_refused_range h1 h2, done]
      · rw [State.lwApply_refused_extra h1 hin h2 h3, done]
  case reads =>
    intro s q u row k hmem
    have hrow : exec row s = done s (s.lwReadRow q k) := by
      simp only [List.mem_cons, Prod.mk.injEq, List.not_mem_nil, or_false] at hmem
      rcases hmem with ⟨rfl, rfl⟩ | ⟨rfl, rfl⟩ | ⟨rfl, rfl⟩ | ⟨rfl, rfl⟩ <;> rfl
    rw [hrow]
    refine ⟨fun hdead => ?_, fun hlive hnative => ?_, fun hlive hdual hno => ?_, fun hlive hdual hper hstale => ?_⟩
    · rw [State.lwReadRow_dead hdead, done]
    · rw [State.lwReadRow_native hlive hnative, done]
    · rw [State.lwReadRow_legacyDual hlive hdual, State.lwHostRead_unreached hno, done]
    · rw [State.lwReadRow_legacyDual hlive hdual, State.lwHostRead_stale hper hstale, done]
  case control =>
    rintro s t w v rfl
    refine ⟨?lctl, fun hc hphase => ?power, fun hc => ?snap, ?mailboxHost, fun hlive => ?mailboxDspRead, fun hc hlive => ?mailboxDspWrite,
      fun hdead => ?dead, fun q h => ?mailboxHostRead⟩
    case lctl =>
      intro row u y hmem hc hy
      have hrow : exec row s = done s (s.lwRow w 1 u) := by
        simp only [List.mem_cons, Prod.mk.injEq, List.not_mem_nil, or_false] at hmem
        rcases hmem with ⟨rfl, rfl⟩ | ⟨rfl, rfl⟩ | ⟨rfl, rfl⟩ <;> rfl
      rw [hrow, done_lwRow_accepted hc (lwHandler_control hy) rfl rfl rfl]
      refine ⟨fun h1 hon => ?_, fun h1 hoff => ?_, fun h1 h0 hwas => ?_, fun h1 h0 hwas => ?_, fun h1 hsame => ?_⟩
      · simp [h1, hon]
      · simp [h1, hoff]
      · simp [h1, h0, hwas]
      · simp [h1, h0, hwas]
      · simp [h1, hsame]
    case power =>
      refine (done_lwRow_accepted hc lwHandler_power ?_ rfl rfl).trans ?_
      · exact if_neg (by simp [hphase])
      · rw [bitOf_forceBit_self v (by decide), if_pos rfl]
    case snap =>
      have hsnap : exec (.legacySnap w v) s = .next (settle s (s.lwArrive w).legacySnap) := by
        refine (done_lwRow_accepted hc lwHandler_snap rfl rfl rfl).trans ?_
        rw [bitOf_forceBit_self v (by decide), if_pos rfl]
      rw [hsnap]
      refine ⟨fun hbar => by rw [State.legacySnap_barred hbar], fun y hopen hy => ?_⟩
      rw [State.legacySnap_taken hopen hy]
      exact ⟨fun hfree => by rw [if_pos hfree], fun hbusy hcur => by rw [if_neg (by simp [hbusy]), if_pos hcur],
        fun hbusy hnone => by rw [if_neg (by simp [hbusy]), if_neg (by simp [hnone])]⟩
    case mailboxHost =>
      rintro q rfl hc
      exact done_lwRow_accepted hc lwHandler_mailbox_host rfl rfl rfl
    case mailboxDspRead =>
      change done s (if s.dspLive then (s.lwRead (.core 0) 16).2 else s) = _
      rw [if_pos hlive, State.lwRead_mailbox_host, done]
    case mailboxDspWrite =>
      change done s (if s.dspLive then s.lwWrite (.core 0) 17 v else s) = _
      rw [if_pos hlive]
      exact done_lwWrite_accepted hc lwHandler_mailbox_dsp rfl rfl rfl
    case dead =>
      change done s (if s.dspLive then _ else s) = _ ∧ done s (if s.dspLive then _ else s) = _
      simp [hdead, done]
    case mailboxHostRead =>
      refine (done_lwReadRow_fresh h).trans ?_
      rw [State.lwRead_mailbox_dsp]
  case uartsAndPulse =>
    rintro s t w v rfl
    refine ⟨fun u hc hfree => ?_, fun q u h => ?_, fun hc hidle hok => ?_, fun x hc hx hwithin => ?_⟩
    · exact done_lwRow_accepted hc (lwHandler_uart_data u) (by simp [hfree]) rfl rfl
    · refine (done_lwReadRow_fresh h).trans ?_
      rw [State.lwRead_uart_data, State.takeRxd]
    · exact done_lwRow_accepted hc lwHandler_tp (by simp [hidle]) hok rfl
    · exact done_lwRow_accepted hc (lwHandler_offset hx) rfl (decide_eq_true hwithin) rfl

end Sys2Proof.Machine
end

section
/-! SUPPORT. The memory port and the dump FIFO of the window (10 R354, R358; 11 R371, R388). -/

namespace Sys2Proof.Machine

/-! ### The port (R354) -/

section
variable {s : State} {w : Writer} {v : Word} {k key : Nat}

/-- An address word takes the written value, and what was read ahead is no longer the word at the address. -/
theorem lwHandler_address (hk : k = 18 ∨ k = 19) : lwHandler w k v s
    = ⟨0, true, 0, { s.lwPlain k v with leg := { s.leg with portValid := false } }⟩ := by
  rcases hk with rfl | rfl <;> rfl

theorem State.portFetch_mem (h : s.portWord = .mem key) : s.portFetch = ((s.hostMemRead 0 key 20).1, (s.hostMemRead 0 key 20).2.2) := by
  simp only [State.portFetch, h]

theorem State.portFetch_win (h : s.portWord = .win k) : s.portFetch = (s.lwPeek k, s) := by
  simp only [State.portFetch, h]

theorem State.portFetch_none (h : s.portWord = .none) : s.portFetch = (0, s) := by
  simp only [State.portFetch, h]

/-- The read-ahead is done while the home domains of its target are on. -/
theorem exec_legacyReadaheadComplete (hdual : s.legacyDual = true) (hvalid : s.leg.portValid = false)
    (hon : s.portHomes.all s.domOn = true) {d : Word} {y : State} (hfetch : s.portFetch = (d, y)) : exec .legacyReadaheadComplete s
      = .next (settle s { y with leg := { y.leg with port := d, portValid := true } }) := by
  change execLegacyReadaheadComplete s = _
  rw [execLegacyReadaheadComplete, if_pos ⟨hdual, hvalid, hon⟩, hfetch, done]

theorem exec_legacyReadaheadComplete_idle (h : s.legacyDual = false ∨ s.leg.portValid = true ∨ s.portHomes.all s.domOn = false) :
    exec .legacyReadaheadComplete s = .next (settle s s) := by
  change execLegacyReadaheadComplete s = _
  rw [execLegacyReadaheadComplete, if_neg (by rcases h with h | h | h <;> simp [h]), done]

theorem State.lwRead_port (hvalid : s.leg.portValid = true) : s.lwRead w 20 = (s.leg.port, s.portNext) :=
  if_pos hvalid

/-- A fresh read of the port finds its word read ahead. -/
theorem State.portValid_of_lwReads {q : Fin 8} (h : s.LwReads q 20) : s.leg.portValid = true := by
  simpa [State.lwFresh] using (Bool.and_eq_true_iff.mp h.fresh).2

theorem lwHandler_port : lwHandler w 20 v s = lmdatHandler w v s := rfl

theorem lmdatHandler_none (h : s.portWord = .none) : lmdatHandler w v s = ⟨eUNMAPPED, true, 0, s⟩ := by
  simp only [lmdatHandler, h]

theorem lmdatHandler_mem (h : s.portWord = .mem key) : lmdatHandler w v s
    = ⟨if s.domOn (bankDomainOf key) = false then eSTATE else if s.lost key then eLOST else 0, true, 0, (s.wrMem key v).portNext⟩ := by
  simp only [lmdatHandler, h]

theorem lmdatHandler_self (h : s.portWord = .win 20) : lmdatHandler w v s
    = ⟨0, true, 0, { s with leg := { s.leg with port := v } }.portNext⟩ := by
  simp only [lmdatHandler, h, if_pos]

/-- A word of the window is stored as a write of that word is. -/
theorem lmdatHandler_win (h : s.portWord = .win k) (hk : k ≠ 20) : lmdatHandler w v s
    = ⟨if (lwHomes k).all s.domOn then (lwWord w k v s).state else eSTATE, (lwWord w k v s).range && inRange .lwin k v,
      (lwWord w k v s).extra, (lwWord w k v s).result.portNext⟩ := by
  simp only [lmdatHandler, h, if_neg hk]

/-! ### The dump FIFO (R358) -/

theorem State.lwRead_fifo : s.lwRead w 21
    = (s.dumpRead.1, if s.dumpRead.2.1 = 2 then s.dumpRead.2.2.writerErr w eECC 21 else s.dumpRead.2.2) := rfl

theorem State.dumpRead_empty (h : s.ldcnt = 0) : s.dumpRead = (0, 0, s.setB (lwKey 3) 8 true) := if_pos h

end

/-- Of a FIFO that holds a record the next word is given, and the record is taken with its last word. -/
theorem State.dumpRead_record {s : State} (h : s.ldcnt ≠ 0) {r : List Word × Nat × State}
    (hr : r = s.ringReadE dumpRing (s.reg (ringKey dumpRing 3)).toNat 16) : s.dumpRead = (s.dumpWord r.1 s.leg.ldPos, r.2.1,
      if s.leg.ldPos = 7 then { r.2.2.ringTake dumpRing 16 with leg := { r.2.2.leg with ldPos := 0 } }
      else { r.2.2 with leg := { r.2.2.leg with ldPos := s.leg.ldPos + 1 } }) := by
  subst hr
  exact if_neg h

theorem exec_legacyDumpFifoRead_empty {s : State} {q : Fin 8} (h : s.LwReads q 21) (hempty : s.ldcnt = 0) :
    exec (.legacyDumpFifoRead q) s = .next (settle s ((s.setB (lwKey 3) 8 true).driveBus q 0 0)) := by
  have hread := done_lwReadRow_fresh h
  rw [State.lwRead_fifo, State.dumpRead_empty hempty] at hread
  exact hread

/-- An uncorrectable error among the words of the record is recorded with the session (11 R371). -/
theorem exec_legacyDumpFifoRead_record {s : State} {q : Fin 8} (h : s.LwReads q 21) (hfull : s.ldcnt ≠ 0)
    {r : List Word × Nat × State} (hr : r = s.ringReadE dumpRing (s.reg (ringKey dumpRing 3)).toNat 16) {z : State}
    (hz : z = if s.leg.ldPos = 7 then { r.2.2.ringTake dumpRing 16 with leg := { r.2.2.leg with ldPos := 0 } }
      else { r.2.2 with leg := { r.2.2.leg with ldPos := s.leg.ldPos + 1 } }) :
    exec (.legacyDumpFifoRead q) s = .next (settle s
      ((if r.2.1 = 2 then z.writerErr (.ses q) eECC 21 else z).driveBus q (s.dumpWord r.1 s.leg.ldPos) 0)) := by
  have hread := done_lwReadRow_fresh h
  rw [State.lwRead_fifo, State.dumpRead_record hfull hr, ← hz] at hread
  exact hread

end Sys2Proof.Machine
end

section
/-! SUPPORT. The sample input and the channels of the window (10 R355 to R357, R360). -/

namespace Sys2Proof.Machine

section
variable {s : State} {w : Writer} {v : Word}

/-! ### LSCTL (R360) -/

theorem lwHandler_sample : lwHandler w 24 v s = lsctlHandler w v s := rfl

/-- EN = 1 is taken again with the rate in force. -/
theorem lsctlHandler_state_on (hen : bitOf v 17 = true)
    (hsame : s.bit (lwKey 24) 17 = true → fieldOf v 2 0 = s.fld (lwKey 24) 2 0) : (lsctlHandler w v s).state = 0 := by
  have hrate : ¬ (s.bit (lwKey 24) 17 = true ∧ fieldOf v 2 0 ≠ s.fld (lwKey 24) 2 0) := fun ⟨hon, hne⟩ => hne (hsame hon)
  simp only [lsctlHandler, if_neg hrate, hen, Bool.true_eq_false, false_and, and_false, if_false]

/-- EN = 1 after 0 needs a rate and a port that fit. -/
theorem lsctlHandler_extra_on (hfits : s.bit (lwKey 24) 17 = false → s.clockOk 0 7 (4092 * fieldOf v 2 0) = true
    ∧ (smapHandler w 0 0o400000 (s.legacyFeed (fieldOf v 2 0))).extra = 0) : (lsctlHandler w v s).extra = 0 := by
  refine if_neg ?_
  rintro ⟨hoff, _, hbad⟩
  obtain ⟨hclock, hport⟩ := hfits hoff
  exact hbad.elim (by simp [hclock]) (· hport)

theorem lsctlHandler_result_on (hen : bitOf v 17 = true) :
    (lsctlHandler w v s).result = (s.lwPlain 24 v).sampleOn w (fieldOf v 2 0) := if_pos hen

/-! ### The words of a channel (R355 to R357) -/

theorem lwHandler_channel {c j k : Nat} (hc : c < 48) (hj : j < 8) (hk : k = 64 + 8 * c + j) : lwHandler w k v s = lcHandler c j v s := by
  have hblock : (k - 64) / 8 = c := by omega
  have hword : (k - 64) % 8 = j := by omega
  have hno : ∀ n, n < 64 → (k = n) = False := fun n hn => eq_false (by omega)
  have hin : 64 ≤ k ∧ k < 448 := by omega
  simp [lwHandler, lwWord, hno, hin, hblock, hword]

theorem lwHandler_lcctl (c : Fin 48) : lwHandler w (64 + 8 * c.val) v s = lcctlHandler c.val v s :=
  lwHandler_channel c.isLt (show 0 < 8 by decide) (Nat.add_zero _).symm

/-- The carrier word of a channel is taken with its held high part (R357). -/
theorem lwHandler_carrier (c : Fin 48) {x : Nat} (hx : x = s.fld (lwKey (65 + 8 * c.val)) 13 0 * 262144 + v.toNat) {y : State}
    (hy : y = { s.lwPlain (66 + 8 * c.val) v with leg := { s.leg with w := s.leg.w.put c.val x } }) :
    lwHandler w (66 + 8 * c.val) v s = ⟨0, true, 0, y.legacyNco c.val 0⟩ := by
  have hk : 66 + 8 * c.val = 64 + 8 * c.val + 2 := by omega
  have hhi : 65 + 8 * c.val = 64 + 8 * c.val + 1 := by omega
  subst hx hy
  rw [lwHandler_channel c.isLt (show 2 < 8 by decide) hk, hk, hhi]
  rfl

/-- The code word of a channel is taken with its held high part, when it suits the channel (R357). -/
theorem lwHandler_code (c : Fin 48) {x : Nat} (hx : x = s.fld (lwKey (67 + 8 * c.val)) 13 0 * 262144 + v.toNat) {y : State}
    (hy : y = { s.lwPlain (68 + 8 * c.val) v with leg := { s.leg with v := s.leg.v.put c.val x } }) :
    lwHandler w (68 + 8 * c.val) v s = ⟨0, s.vOk (s.bit (lwKey (64 + 8 * c.val)) 16) x
        && (!correlates (s.chState c.val) || decide (16 * x ≤ (s.chan c.val).fklim)), 0, y.legacyNco c.val 1⟩ := by
  have hk : 68 + 8 * c.val = 64 + 8 * c.val + 4 := by omega
  have hhi : 67 + 8 * c.val = 64 + 8 * c.val + 3 := by omega
  subst hx hy
  rw [lwHandler_channel c.isLt (show 4 < 8 by decide) hk, hk, hhi]
  rfl

/-- LCSET does nothing while EN = 0, is kept for the admission, or arms a phase set (R356). -/
theorem lwHandler_codeSet (c : Fin 48) {y : State}
    (hy : y = { s with leg := { s.leg with lcset := s.leg.lcset.put c.val (fieldOf v 17 10 * 1024 + fieldOf v 9 0) } }) :
    lwHandler w (69 + 8 * c.val) v s = if s.bit (lwKey (64 + 8 * c.val)) 17 = false then ⟨0, true, 0, s⟩
      else if holdsSlots (s.chState c.val) then
        ⟨if s.bit (chKey c.val 3) 1 then eBUSY else 0, decide (fieldOf v 9 0 < s.primary c.val), 0, y.arm c.val (y.legacyPhase c.val)⟩
      else ⟨0, true, 0, y⟩ := by
  subst hy
  rw [lwHandler_channel c.isLt (show 5 < 8 by decide) (show _ = 64 + 8 * c.val + 5 by omega)]
  rfl

end

section
variable {s : State} {c : Nat} {v : Word}

/-- EN = 1 after 0 is an enable (R356). -/
theorem lcctlHandler_enable (hen : bitOf v 17 = true) (hoff : s.bit (lwKey (64 + 8 * c)) 17 = false) : lcctlHandler c v s
    = ⟨if s.chState c ≠ 0 ∨ s.bit (chKey c 3) 0 = true then eSTATE else if s.lost (ctxKey c 0) then eLOST else 0,
      s.vOk (bitOf v 16) (s.legV c), if s.bit (lwKey 24) 17 then 0 else eCONFIG, s.legacyEnable c v⟩ := by
  simp only [lcctlHandler, hen, hoff, Bool.false_eq_true, if_true, if_false]

/-- While EN is 1, the fields of CPROG, SPC and CINI stand. -/
def State.lcKeeps (s : State) (c : Nat) (v : Word) : Prop :=
  fieldOf v 16 14 = s.fld (lwKey (64 + 8 * c)) 16 14 ∧ fieldOf v 9 0 = s.fld (lwKey (64 + 8 * c)) 9 0

/-- EN = 1 again, with those fields as they stand, keeps the channel as it is. -/
theorem lcctlHandler_keep (hen : bitOf v 17 = true) (hon : s.bit (lwKey (64 + 8 * c)) 17 = true) (hkeeps : s.lcKeeps c v) :
    lcctlHandler c v s = ⟨0, true, 0, s.setReg (lwKey (64 + 8 * c)) v⟩ := by
  obtain ⟨hfields, hchip⟩ := hkeeps
  simp [lcctlHandler, hen, hon, hfields, hchip]

/-- EN = 0 after 1 is a disable, which a channel that is not OFF takes at its own time. -/
theorem lcctlHandler_disable (hdis : bitOf v 17 = false) (hon : s.bit (lwKey (64 + 8 * c)) 17 = true) (hkeeps : s.lcKeeps c v)
    {t y : State} (ht : t = s.setReg (lwKey (64 + 8 * c)) v)
    (hy : y = if s.chState c ≠ 0 then t.setChan c { s.chan c with disPend := true } else t) :
    lcctlHandler c v s = ⟨if s.bit (chKey c 3) 0 then eBUSY else 0, true, 0, y⟩ := by
  obtain ⟨hfields, hchip⟩ := hkeeps
  have hchan : t.chan c = s.chan c := by rw [ht]; rfl
  rw [hy, ← hchan, ht]
  simp [lcctlHandler, hdis, hon, hfields, hchip]

theorem lcctlHandler_disabled (hdis : bitOf v 17 = false) (hoff : s.bit (lwKey (64 + 8 * c)) 17 = false) :
    lcctlHandler c v s = ⟨0, true, 0, s.setReg (lwKey (64 + 8 * c)) v⟩ := by
  simp [lcctlHandler, hdis, hoff]

/-- A word of the NCOs waits for the next application while EN = 1, and is an update while the channel correlates (R357). -/
theorem State.legacyNco_eq (s : State) (c b : Nat) {sel : BitVec 2} (hsel : sel = (s.leg.stage.get? c).getD 0 ||| BitVec.ofNat 2 (2 ^ b))
    {y : State} (hy : y = { s with leg := { s.leg with stage := s.leg.stage.put c sel } }) {fc fk : Nat} (hfc : fc = legacyFc (s.legW c))
    (hfk : fk = 16 * s.legV c) : s.legacyNco c b
      = if s.bit (lwKey (64 + 8 * c)) 17 = true ∧ correlates (s.chState c) = true then
          y.commitUpdate c sel.toNat [wordOf (fc / 262144), wordOf fc, wordOf (fk / 262144), wordOf fk, 0, 0] none
        else if s.bit (lwKey (64 + 8 * c)) 17 then y else s := by
  subst hsel hy hfc hfk
  rfl

end

/-- Settles O39: the port and the FIFO by what stands at the address or waits to be read, each word of a channel by its own checks and its
effect. -/
theorem legacyPortAndChannelCommandsRun : Obligations.LegacyPortAndChannelCommandsRun := by
  refine ⟨?port, ?channels⟩
  case port =>
    rintro s t w q v rfl
    refine ⟨fun hc => ?high, fun hc => ?low, fun hdual hvalid hon => ⟨?fetchMem, ?fetchWin, ?fetchNone⟩,
      exec_legacyReadaheadComplete_idle, fun h => ?read, fun hc => ?write, fun h => ?fifo⟩
    case high => exact done_lwRow_accepted hc (lwHandler_address (.inl rfl)) rfl rfl rfl
    case low => exact done_lwRow_accepted hc (lwHandler_address (.inr rfl)) rfl rfl rfl
    case fetchMem =>
      rintro key y hword rfl
      exact exec_legacyReadaheadComplete hdual hvalid hon (State.portFetch_mem hword)
    case fetchWin => exact fun k hword => exec_legacyReadaheadComplete hdual hvalid hon (State.portFetch_win hword)
    case fetchNone => exact fun hword => exec_legacyReadaheadComplete hdual hvalid hon (State.portFetch_none hword)
    case read =>
      refine (done_lwReadRow_fresh h).trans ?_
      rw [State.lwRead_port (State.portValid_of_lwReads h)]
    case write =>
      have hport {h : Handler} (hh : lmdatHandler w v (s.lwArrive w) = h) := lwHandler_port.trans hh
      refine ⟨fun key hword hon hkept => ?_, fun key hword hoff => ?_, fun key hword hon hlost => ?_, fun hword => ?_, fun hword => ?_,
        fun k hword hk hon hin h1 h2 h3 => ?_⟩
      · exact done_lwRow_accepted hc (hport (lmdatHandler_mem hword)) (by simp [hon, hkept]) rfl rfl
      · exact done_lwRow_refused hc (hport (lmdatHandler_mem hword)) (if_pos hoff) (by decide)
      · exact done_lwRow_refused hc (hport (lmdatHandler_mem hword)) (by simp [hon, hlost]) (by decide)
      · exact done_lwRow_refused hc (hport (lmdatHandler_none hword)) rfl (by decide)
      · exact done_lwRow_accepted hc (hport (lmdatHandler_self hword)) rfl rfl rfl
      · exact done_lwRow_accepted hc (hport (lmdatHandler_win hword hk)) (by simp [hon, h1]) (by simp [hin, h2]) h3
    case fifo =>
      refine ⟨exec_legacyDumpFifoRead_empty h, fun hfull y d bad hbad hy hd z hz => ?_⟩
      rw [hbad, hd, exec_legacyDumpFifoRead_record h hfull rfl (hy ▸ hz)]
      simp only [beq_iff_eq]
  case channels =>
    rintro s t w v rfl
    refine ⟨?sample, ?enable, ?disable, ?carrier, ?code, ?nco, ?codeSet⟩
    case sample =>
      rintro u rfl hc hsame hfits
      have hen := bitOf_forceBit_self v (show 17 < 18 by decide)
      exact (done_lwRow_accepted hc lwHandler_sample (lsctlHandler_state_on hen hsame) rfl (lsctlHandler_extra_on hfits)).trans
        (by rw [lsctlHandler_result_on hen])
    case enable =>
      rintro c u k rfl rfl hc
      have hen := bitOf_forceBit_self v (show 17 < 18 by decide)
      refine ⟨fun hoff hidle hfree hkept hfits hfed => ?_, fun hon hfield hchip => ?_⟩
      · refine done_lwRow_accepted hc ((lwHandler_lcctl c).trans (lcctlHandler_enable hen hoff)) ?_ hfits (if_pos hfed)
        simp [hidle, hfree, hkept]
      · exact done_lwRow_accepted hc ((lwHandler_lcctl c).trans (lcctlHandler_keep hen hon ⟨hfield, hchip⟩)) rfl rfl rfl
    case disable =>
      rintro c u k rfl rfl hc
      have hdis : bitOf (forceBit v 17 false) 17 = false := bitOf_forceBit v 17 false (by decide)
      refine ⟨fun hon hfield hchip hfree => ?_, fun hoff => ?_⟩
      · have hexec {y : State} := fun hy => done_lwRow_accepted hc
          ((lwHandler_lcctl c).trans (lcctlHandler_disable (y := y) hdis hon ⟨hfield, hchip⟩ rfl hy)) (if_neg (by simp [hfree])) rfl rfl
        exact ⟨fun hstate => hexec (if_pos hstate).symm, fun hstate => hexec (if_neg (not_not.mpr hstate)).symm⟩
      · exact done_lwRow_accepted hc ((lwHandler_lcctl c).trans (lcctlHandler_disabled hdis hoff)) rfl rfl rfl
    case carrier =>
      intro c x y hc hx hy
      exact done_lwRow_accepted hc (lwHandler_carrier c hx hy) rfl rfl rfl
    case code =>
      intro c x y hc hx hv hk hy
      refine done_lwRow_accepted hc (lwHandler_code c hx hy) rfl ?_ rfl
      cases hrun : correlates ((s.lwArrive w).chState c.val) with
      | true => simp [hv, hk hrun]
      | false => simp [hv]
    case nco =>
      intro c b fc fk sel y hsel hy hfc hfk
      rw [State.legacyNco_eq _ c b hsel hy hfc hfk]
      exact ⟨fun hoff => by simp [hoff], fun hon hno => by simp [hon, hno], fun hon hyes => if_pos ⟨hon, hyes⟩⟩
    case codeSet =>
      intro c y hc hy
      have hword := lwHandler_codeSet (s := s.lwArrive w) (w := w) (v := v) c hy
      refine ⟨fun hoff => ?_, fun hon hno => ?_, fun hon hholds hfree hchip => ?_⟩
      · exact done_lwRow_accepted hc (hword.trans (if_pos hoff)) rfl rfl rfl
      · exact done_lwRow_accepted hc (hword.trans ((if_neg (by simp [hon])).trans (if_neg (by simp [hno])))) rfl rfl rfl
      · exact done_lwRow_accepted hc (hword.trans ((if_neg (by simp [hon])).trans (if_pos hholds))) (by simp [hfree])
          (decide_eq_true hchip) rfl

end Sys2Proof.Machine
end

section
/-! SUPPORT. The state at reset, the fuses and the end of every command (14 R459; 15 R517; 12 R424). -/

namespace Sys2Proof.Machine

/-! ### Reset -/

theorem State.reset_ses (q : Nat) : State.reset.ses q = Ses.reset := by
  change ((List.replicate 8 Ses.reset)[q]?).getD Ses.reset = Ses.reset
  rw [List.getElem?_replicate]
  split <;> rfl

theorem State.reset_ringOn {r : Nat} (hr : r < 64) : State.reset.ringOn r = false := by
  have hkey : ∀ r < 64, bitOf (resetWord (ringKey r 0)) 17 = false := by decide
  exact hkey r hr

/-- Settles O3, by evaluation: every table is empty. -/
theorem resetState : Obligations.ResetState := by
  refine ⟨rfl, ⟨rfl, rfl⟩, fun _ => rfl, fun _ => rfl, by decide, rfl, by decide, fun c => ?_, rfl, fun q _ => ?_, fun r => State.reset_ringOn⟩
  · simp [State.reset, Core.reset]
  · rw [State.reset_ses]; rfl

/-! ### Fuses (15 R517) -/

/-- Every fuse that is blown in s is blown in t. -/
def State.KeepsBlown (s t : State) : Prop := ∀ r i, (s.otpRow r).getLsbD i = true → (t.otpRow r).getLsbD i = true

theorem State.KeepsBlown.trans {s t u : State} (h : s.KeepsBlown t) (h' : t.KeepsBlown u) : s.KeepsBlown u :=
  fun r i hi => h' r i (h r i hi)

theorem State.keepsBlown_of_otp {s t : State} (h : t.upd.otp = s.upd.otp) : s.KeepsBlown t := by
  intro r i hi
  rwa [State.otpRow, h]

theorem State.keepsBlown_of_fixed {s t : State} (h : t.fixed = s.fixed) : s.KeepsBlown t :=
  State.keepsBlown_of_otp (State.fixed_eq_iff.mp h).2.2

theorem State.otpRow_blow (s : State) (r x : Nat) (bits : BitVec 16) :
    (s.blow r bits).otpRow x = if x = r then s.otpRow r ||| bits else s.otpRow x := by
  split
  next h => rw [h, State.otpRow, State.blow, Store.get?_put_self]; rfl
  next h => rw [State.otpRow, State.blow, Store.get?_put_ne _ _ h]; rfl

theorem State.keepsBlown_blow (s : State) (r : Nat) (bits : BitVec 16) : s.KeepsBlown (s.blow r bits) := by
  intro x i hi
  rw [State.otpRow_blow]
  split
  next h => subst h; simp [hi]
  next => exact hi

/-- What follows the blowing of a row in a command that changes no fuse. -/
theorem State.keepsBlown_of_blow {s t : State} {r : Nat} {bits : BitVec 16} (h : t.fixed = (s.blow r bits).fixed) : s.KeepsBlown t :=
  (s.keepsBlown_blow r bits).trans (State.keepsBlown_of_fixed h)

theorem State.keepsBlown_breakOtp (s : State) : s.KeepsBlown s.breakOtp := by
  unfold State.breakOtp
  split
  · exact (State.keepsBlown_of_fixed (State.free_fixed s)).trans (State.keepsBlown_blow _ _ _)
  · exact State.keepsBlown_of_otp rfl

theorem State.keepsBlown_blowFuses (s : State) (n : Nat) : s.KeepsBlown (s.blowFuses n) := by
  refine List.foldlRecOn (motive := fun t : State => s.KeepsBlown t) _ _ (State.keepsBlown_of_otp rfl) fun t ht i _ => ?_
  split
  · exact ht.trans (State.keepsBlown_blow _ _ _)
  · exact ht

/-- A reset may blow what is left of a broken OTP operation, and clears nothing. -/
theorem State.keepsBlown_resetUnits (s : State) (k : Kept) : s.KeepsBlown (s.resetUnits k) := by
  cases hk : k.aon with
  | true => exact State.keepsBlown_of_fixed (State.resetUnits_fixed hk s)
  | false =>
    have hbreak := (State.keepsBlown_of_fixed (State.cutOp_fixed s)).trans (State.keepsBlown_breakOtp _)
    exact hbreak.trans (State.keepsBlown_of_fixed (State.resetUnits_fixed_of_aon_off hk s))

theorem State.keepsBlown_resetCause (s u : State) (k : Kept) (n : Nat) : s.KeepsBlown ((s.resetUnits k).resetCause u n) :=
  (s.keepsBlown_resetUnits k).trans (State.keepsBlown_of_fixed (State.resetCause_fixed ..))

theorem State.keepsBlown_rstReset (s : State) : s.KeepsBlown s.rstReset := by
  refine (s.keepsBlown_resetCause s ⟨false, true, s.domOn 1, false⟩ 1).trans (State.keepsBlown_of_fixed ?_)
  simp only [State.rstReset, ite_fixed, State.setReg_fixed, State.fixed_with, ite_self]

/-- A core's reset and the straps leave the queue and the fuses. -/
theorem State.sampleStraps_kept (s : State) (p b : BitVec 2) :
    (s.sampleStraps p b).pending = s.pending ∧ (s.sampleStraps p b).upd.otp = s.upd.otp :=
  (State.fixed_eq_iff.mp (foldl_fixed State.resetCore_fixed _ _)).2

theorem State.keepsBlown_sampleStraps (s : State) (p b : BitVec 2) : s.KeepsBlown (s.sampleStraps p b) :=
  State.keepsBlown_of_otp (s.sampleStraps_kept p b).2

/-- The outcome of a command met in state s: the end of a command that clears no fuse and leaves the queue. -/
def EndsBlown (s : State) (o : Host.Outcome State Fault Refusal) : Prop :=
  ∃ t, o = .next (settle s t) ∧ t.pending = s.pending ∧ s.KeepsBlown t

theorem EndsFixed.blown {s : State} {o : Host.Outcome State Fault Refusal} (h : EndsFixed s o) : EndsBlown s o := by
  obtain ⟨t, ho, ht⟩ := h
  exact ⟨t, ho, (State.fixed_eq_iff.mp ht).2.1, State.keepsBlown_of_fixed ht⟩

/-- A command whose end keeps the queue clears no fuse where its meaning clears none. -/
theorem EndsKept.blown {s t : State} (h : EndsKept s (done s t)) (ht : s.KeepsBlown t) : EndsBlown s (done s t) := by
  obtain ⟨u, hu, hk⟩ := h
  have hs : settle s t = settle s u := Host.Outcome.next.inj hu
  have hp : t.pending = u.pending := by rw [← settle_pending s t, hs, settle_pending]
  exact ⟨t, rfl, hp.trans (State.kept_eq_iff.mp hk).2, ht⟩

theorem execPowerOnReset_blown (s : State) : EndsBlown s (execPowerOnReset s) := by
  refine (execPowerOnReset_kept s).blown ((s.keepsBlown_resetCause s ⟨false, false, false, false⟩ 0).trans (State.keepsBlown_of_fixed ?_))
  simp only [State.fixed_with_pins, State.setReg_fixed, State.forgetBank_fixed, State.forgetCore_fixed]

theorem execBrownOut_blown (s : State) : EndsBlown s (execBrownOut s) := by
  unfold execBrownOut
  extract_lets p b t
  have hold : b.2.forgetAon.fixed = s.fixed := by simp only [b, p, State.forgetAon_fixed, State.free_fixed]
  have hreset := State.keepsBlown_resetCause b.2.forgetAon s ⟨false, false, false, false⟩ 2
  have ht : s.KeepsBlown t :=
    ((State.keepsBlown_of_fixed hold).trans hreset).trans (State.keepsBlown_of_fixed (State.setReg_fixed ..))
  have hq : t.pending = s.pending :=
    (State.kept_eq_iff.mp ((State.kept_of_fixed (State.setReg_fixed ..)).trans ((State.resetCause_kept ..).trans
      (State.kept_of_fixed hold)))).2
  refine ⟨_, rfl, ?_⟩
  split
  · exact ⟨(t.sampleStraps_kept ..).1.trans hq, ht.trans (t.keepsBlown_sampleStraps _ _)⟩
  · exact ⟨hq, ht⟩

theorem execSupplyFall_blown (s : State) : EndsBlown s (execSupplyFall s) := by
  refine (execSupplyFall_kept s).blown ?_
  split
  · exact State.keepsBlown_of_otp rfl
  · exact (State.keepsBlown_of_fixed (State.forgetCore_fixed s)).trans (State.keepsBlown_rstReset _)

theorem execOtpWriteDone_blown (s : State) : EndsBlown s (execOtpWriteDone s) := by
  refine (execOtpWriteDone_kept s).blown ?_
  split
  next r bits _ =>
    refine State.keepsBlown_of_blow (r := r) (bits := bits) ?_
    simp only [State.trialRestart_fixed, State.raise_fixed, State.endOtp_fixed]
  next => exact State.keepsBlown_of_otp rfl

theorem execLifecycleAdvanceDone_blown (s : State) : EndsBlown s (execLifecycleAdvanceDone s) := by
  refine (execLifecycleAdvanceDone_kept s).blown ?_
  split
  next r bits _ =>
    refine State.keepsBlown_of_blow (r := r) (bits := bits) ?_
    simp only [State.trialRestart_fixed, State.raise_fixed, State.endOtp_fixed]
  next => exact State.keepsBlown_of_otp rfl

theorem execReturnTokenDone_blown (s : State) : EndsBlown s (execReturnTokenDone s) := by
  refine (execReturnTokenDone_kept s).blown ?_
  split
  next r bits _ =>
    refine State.keepsBlown_of_blow (r := r) (bits := bits) ?_
    simp only [State.trialRestart_fixed, State.raise_fixed, State.endOtp_fixed]
  next =>
    refine State.keepsBlown_of_fixed ?_
    simp only [State.trialRestart_fixed, State.raise_fixed, State.endOtp_fixed, State.pageErr_fixed]
  next => exact State.keepsBlown_of_otp rfl

theorem execRollbackFuseProgram_blown (s : State) : EndsBlown s (execRollbackFuseProgram s) := by
  refine (execRollbackFuseProgram_kept s).blown ?_
  extract_lets t
  split
  · refine (s.keepsBlown_blowFuses _).trans (State.keepsBlown_of_fixed (t := _) (s := t) ?_)
    simp only [State.setB_fixed, State.setF_fixed]
  · exact State.keepsBlown_of_otp rfl

theorem execRstNRelease_blown (p b : BitVec 2) (s : State) : EndsBlown s (execRstNRelease p b s) := by
  refine ⟨_, rfl, ?_⟩
  split
  · exact ⟨rfl, State.keepsBlown_of_otp rfl⟩
  · exact ⟨(s.sampleStraps_kept p b).1, s.keepsBlown_sampleStraps p b⟩

/-- Every command ends with the queue as it is and with every blown fuse. -/
theorem exec_blown (i : Instr) (s : State) : EndsBlown s (exec i s) := by
  cases i with
  | resetAssert => exact (execResetAssert_kept s).blown (State.keepsBlown_rstReset s)
  | powerOnReset => exact execPowerOnReset_blown s
  | brownOut => exact execBrownOut_blown s
  | supplyFall => exact execSupplyFall_blown s
  | rollbackFuseProgram => exact execRollbackFuseProgram_blown s
  | otpWriteDone => exact execOtpWriteDone_blown s
  | lifecycleAdvanceDone => exact execLifecycleAdvanceDone_blown s
  | returnTokenDone => exact execReturnTokenDone_blown s
  | rstNRelease pins bootpins => exact execRstNRelease_blown pins bootpins s
  | _ => exact (exec_fixed _ s rfl).blown

/-- Settles O6: no command clears a fuse, and an idle nanosecond leaves them. -/
theorem otpBitsNeverClear : Obligations.OtpBitsNeverClear := by
  intro s t r i h
  revert r i
  suffices s.KeepsBlown t from this
  unfold step at h
  split at h
  next hq =>
    obtain rfl := Host.Outcome.next.inj h
    exact State.keepsBlown_of_fixed (State.idle_fixed s)
  next c l hq =>
    obtain ⟨u, hu, -, hb⟩ := exec_blown c { s with pending := l }
    obtain rfl := Host.Outcome.next.inj (h.symm.trans hu)
    exact fun r i hi => (State.keepsBlown_of_fixed (settle_fixed ..)) r i (hb r i hi)

/-! ### The end of every command (12 R424; 14 R462) -/

theorem State.wakeDom_reg_ne (s : State) {d k : Nat} (hk : k ≠ pg 1 (48 + d)) : (s.wakeDom d).reg k = s.reg k := by
  unfold State.wakeDom
  split
  · have hreg : (s.setB (pg 1 (48 + d)) 17 true).reg k = s.reg k := State.reg_setReg_ne s _ hk
    simpa only [State.reg] using hreg
  · rfl

theorem State.wakeDom_pstate_ne (s : State) {d e : Nat} (he : e ≠ d) : (s.wakeDom d).pstate e = s.pstate e := by
  unfold State.wakeDom
  split
  · simp [State.pstate, List.getD, Vector.toList_setIfInBounds, he.symm]
  · rfl

/-- What the power-up of cores changes at most: ON and the state of the domains of the cores. -/
theorem State.wakeLevels_frame (s t : State) :
    (∀ k, (∀ c, c < 4 → k ≠ pg 1 (59 + c)) → (s.wakeLevels t).reg k = t.reg k)
      ∧ ∀ d, d < 11 ∨ 15 ≤ d → (s.wakeLevels t).pstate d = t.pstate d := by
  unfold State.wakeLevels
  split
  · refine List.foldlRecOn (motive := fun u : State => (∀ k, (∀ c, c < 4 → k ≠ pg 1 (59 + c)) → u.reg k = t.reg k)
      ∧ ∀ d, d < 11 ∨ 15 ≤ d → u.pstate d = t.pstate d) _ _ ⟨fun _ _ => rfl, fun _ _ => rfl⟩ fun u ⟨hreg, hdom⟩ c hc => ?_
    have hc4 : c < 4 := List.mem_range.mp hc
    split
    · refine ⟨fun k hk => ?_, fun d hd => ?_⟩
      · rw [State.wakeDom_reg_ne u (by rw [show 48 + (11 + c) = 59 + c by omega]; exact hk c hc4), hreg k hk]
      · rw [State.wakeDom_pstate_ne u (by omega), hdom d hd]
    · exact ⟨hreg, hdom⟩
  · exact ⟨fun _ _ => rfl, fun _ _ => rfl⟩

/-- Settles O2: the queue by the ends of the commands, the rest by what `settle` changes. -/
theorem everyCommandCompletes : Obligations.EveryCommandCompletes := by
  refine ⟨fun i s => ?_, fun s t => ?_⟩
  · obtain ⟨t, ho, hq, -⟩ := exec_blown i s
    exact ⟨t, ho, hq⟩
  · obtain ⟨hreg, hdom⟩ := s.wakeLevels_frame t
    refine ⟨rfl, rfl, ?_, ?_, ?_, ?_, ?_, ?_, ?_, ?_, hreg, hdom⟩ <;> rw [settle_eq]

end Sys2Proof.Machine
end

section
/-! SUPPORT. The canonical form of the tables: the updates of a word and of a memory (11 R372). -/

namespace Sys2Proof.Machine

/-- Of two states at the choice, the one that is taken. -/
theorem State.tablesWf.ite {s t : State} {c : Prop} [Decidable c] (h : s.tablesWf) (h' : t.tablesWf) :
    (if c then s else t).tablesWf := by
  split
  · exact h
  · exact h'

theorem State.tablesWf.foldl {α : Type} {s : State} {f : State → α → State} {l : List α} (h : s.tablesWf)
    (hf : ∀ t a, t.tablesWf → (f t a).tablesWf) : (l.foldl f s).tablesWf :=
  List.foldlRecOn (motive := State.tablesWf) l f h fun t ht a _ => hf t a ht

/-- A choice of two handlers, as the effect of the one that is taken. -/
theorem State.tablesWf.iteResult {a b : Handler} {c : Prop} [Decidable c] (h : a.result.tablesWf) (h' : b.result.tablesWf) :
    (if c then a else b).result.tablesWf := by
  split
  · exact h
  · exact h'

theorem State.tablesWf.iteSnd {α : Type} {a b : α × State} {c : Prop} [Decidable c] (h : a.2.tablesWf) (h' : b.2.tablesWf) :
    (if c then a else b).2.tablesWf := by
  split
  · exact h
  · exact h'

theorem State.tablesWf.iteFst {α : Type} {a b : State × α} {c : Prop} [Decidable c] (h : a.1.tablesWf) (h' : b.1.tablesWf) :
    (if c then a else b).1.tablesWf := by
  split
  · exact h
  · exact h'

theorem State.tablesWf.iteSndSnd {α β : Type} {a b : α × β × State} {c : Prop} [Decidable c] (h : a.2.2.tablesWf)
    (h' : b.2.2.tablesWf) : (if c then a else b).2.2.tablesWf := by
  split
  · exact h
  · exact h'

theorem State.tablesWf.setReg {s : State} {key : Nat} {v : Word} (h : s.tablesWf) : (s.setReg key v).tablesWf :=
  ⟨State.regsWf_setReg s key v h.1, h.2⟩

/-- A part of the register words is dropped. -/
theorem State.tablesWf.filterRegs {s : State} (h : s.tablesWf) (p : Nat × Word → Bool) :
    ({ s with regs := s.regs.filter p } : State).tablesWf :=
  ⟨regsWf_filter p h.1, h.2⟩

/-- A part of the memory words is lost. -/
theorem State.tablesWf.filterMem {s : State} (h : s.tablesWf) (p : Nat × Word → Bool) :
    ({ s with mem := s.mem.filter p } : State).tablesWf :=
  ⟨h.1, Store.wf_filter p h.2⟩

theorem State.tablesWf.abortRange {s : State} {m lo hi : Nat} (h : s.tablesWf) : (s.abortRange m lo hi).tablesWf := by
  rw [State.abortRange_eq]
  exact h

theorem State.tablesWf.wrMem {s : State} {key : Nat} {v : Word} (h : s.tablesWf) : (s.wrMem key v).tablesWf :=
  ⟨by rw [State.wrMem_regs]; exact h.1, State.wf_wrMem s key v h.2⟩

theorem State.tablesWf.withPending {s : State} {l : List Instr} (h : s.tablesWf) : State.tablesWf { s with pending := l } := h

theorem State.tablesWf.withTime {s : State} {x : TimeSt} (h : s.tablesWf) : State.tablesWf { s with time := x } := h

theorem State.tablesWf.withMeas {s : State} {x : Meas} (h : s.tablesWf) : State.tablesWf { s with meas := x } := h

theorem State.tablesWf.withDuct {s : State} {x : Duct} (h : s.tablesWf) : State.tablesWf { s with duct := x } := h

theorem State.tablesWf.withLeg {s : State} {x : Leg} (h : s.tablesWf) : State.tablesWf { s with leg := x } := h

/-- The state that a bundle's slot leaves, of an empty slot the one before it. -/
theorem State.tablesWf.elimSnd {α β : Type} {o : Option β} {a : α × State} {f : β → α × State} (ha : a.2.tablesWf)
    (hf : ∀ b, (f b).2.tablesWf) : (o.elim a f).2.tablesWf := by
  cases o with
  | none => exact ha
  | some b => exact hf b

theorem State.tablesWf.elimSndSnd {α β γ : Type} {o : Option β} {a : α × γ × State} {f : β → α × γ × State} (ha : a.2.2.tablesWf)
    (hf : ∀ b, (f b).2.2.tablesWf) : (o.elim a f).2.2.tablesWf := by
  cases o with
  | none => exact ha
  | some b => exact hf b

theorem State.tablesWf.getD {o : Option State} {s : State} (ho : ∀ t, o = some t → t.tablesWf) (h : s.tablesWf) :
    (o.getD s).tablesWf := by
  cases o with
  | none => exact h
  | some t => exact ho t rfl

/-- A run over a list keeps the form, where the state is a part of what the run carries. -/
theorem State.tablesWf.foldlCarries {α β : Type} {f : β → α → β} {l : List α} {x : β} (g : β → State) (h : (g x).tablesWf)
    (hf : ∀ y a, (g y).tablesWf → (g (f y a)).tablesWf) : (g (l.foldl f x)).tablesWf :=
  List.foldlRecOn (motive := fun y => (g y).tablesWf) l f h fun y hy a _ => hf y a hy

theorem State.tablesWf.touch {s : State} {key : Nat} (h : s.tablesWf) : (s.touch key).tablesWf :=
  .abortRange h

theorem State.tablesWf.restoreFor {s t : State} {keys : List Nat} (h : s.tablesWf) (ht : s.restoreFor keys = some t) : t.tablesWf := by
  unfold State.restoreFor at ht
  split at ht
  · obtain rfl := Option.some.inj ht
    exact .foldl h fun _ _ ht => .touch ht
  · cases ht

theorem State.tablesWf.wrMemN {s : State} {key : Nat} {l : List Word} (h : s.tablesWf) : (s.wrMemN key l).tablesWf := by
  induction l generalizing s key with
  | nil => exact h
  | cons v l ih => exact ih h.wrMem

theorem State.tablesWf.freeWords {s : State} {n : Nat} (h : s.tablesWf) : (s.freeWords n).2.tablesWf := by
  induction n generalizing s with
  | zero => exact h
  | succ n ih => exact ih (s := s.free.2) h

theorem State.tablesWf.setRegs {s : State} {key : Nat} {l : List Word} (h : s.tablesWf) : (s.setRegs key l).tablesWf := by
  induction l generalizing s key with
  | nil => exact h
  | cons v l ih => exact ih h.setReg

theorem State.tablesWf.ringWrite {s : State} {r i : Nat} {l : List Word} (h : s.tablesWf) : (s.ringWrite r i l).tablesWf := by
  induction l generalizing s i with
  | nil => exact h
  | cons v l ih => exact ih h.wrMem

/-! ### Ops -/

theorem State.tablesWf.setF {s : State} {key hi lo n : Nat} (h : s.tablesWf) : (s.setF key hi lo n).tablesWf :=
  .setReg h

theorem State.tablesWf.setB {s : State} {key i : Nat} {b : Bool} (h : s.tablesWf) : (s.setB key i b).tablesWf :=
  .setF h

theorem State.tablesWf.setReg2 {s : State} {key n : Nat} (h : s.tablesWf) : (s.setReg2 key n).tablesWf :=
  .setReg (.setReg h)

theorem State.tablesWf.inc {s : State} {key : Nat} (h : s.tablesWf) : (s.inc key).tablesWf :=
  .setReg h

theorem State.tablesWf.addSat {s : State} {key n : Nat} (h : s.tablesWf) : (s.addSat key n).tablesWf :=
  .setReg h

theorem State.tablesWf.incSat {s : State} {key : Nat} (h : s.tablesWf) : (s.incSat key).tablesWf :=
  .addSat h

theorem State.tablesWf.raise {s : State} {p i : Nat} (h : s.tablesWf) : (s.raise p i).tablesWf :=
  .setB h

theorem State.tablesWf.abortBorrow {s : State} (h : s.tablesWf) : s.abortBorrow.tablesWf := by
  unfold State.abortBorrow
  split
  · exact h
  · exact h

theorem State.tablesWf.fresh {s : State} {p : Nat → Bool} (h : s.tablesWf) : (s.fresh p).tablesWf :=
  h

theorem State.tablesWf.free {s : State} (h : s.tablesWf) : s.free.2.tablesWf :=
  h

theorem State.tablesWf.ringPut {s : State} {r : Nat} {ws : List Word} (h : s.tablesWf) : (s.ringPut r ws).tablesWf :=
  .setReg (.ringWrite h)

theorem State.tablesWf.flowEval {s : State} {n : Nat} (h : s.tablesWf) : (s.flowEval n).tablesWf :=
  .ite h h

theorem State.tablesWf.flowRing {s : State} {r : Nat} (h : s.tablesWf) : (s.flowRing r).tablesWf :=
  .foldl h (fun _ _ ht => .ite (.flowEval ht) ht)

theorem State.tablesWf.ringTake {s : State} {r n : Nat} (h : s.tablesWf) : (s.ringTake r n).tablesWf :=
  .flowRing (.setReg h)

theorem State.tablesWf.wakeDom {s : State} {d : Nat} (h : s.tablesWf) : (s.wakeDom d).tablesWf := by
  unfold State.wakeDom
  extract_lets t _
  have ht : t.tablesWf := .setB h
  clear_value t
  exact .ite ht h

theorem State.tablesWf.wakeLevels {s t : State} (h' : t.tablesWf) : (s.wakeLevels t).tablesWf :=
  .ite (.foldl h' (fun _ _ ht => .ite (.wakeDom ht) ht)) h'

theorem State.tablesWf.settle {s t : State} (h' : t.tablesWf) : (settle s t).tablesWf := by
  unfold Machine.settle
  extract_lets u _
  have hu : u.tablesWf := .wakeLevels h'
  clear_value u
  exact hu

/-- The outcome of a command leaves the tables in their canonical form. -/
def Tidy (o : Host.Outcome State Fault Refusal) : Prop := ∀ t, o = .next t → t.tablesWf

theorem Tidy.done {s t : State} (h : t.tablesWf) : Tidy (done s t) := fun _ e =>
  Host.Outcome.next.inj e ▸ .settle h

theorem Tidy.ite {c : Prop} [Decidable c] {o o' : Host.Outcome State Fault Refusal} (h : Tidy o) (h' : Tidy o') :
    Tidy (if c then o else o') := by
  split
  · exact h
  · exact h'

theorem State.tablesWf.pageErr {s : State} {p code off : Nat} (h : s.tablesWf) : (s.pageErr p code off).tablesWf :=
  .ite (.setReg (.setReg h)) h

theorem State.tablesWf.unitFails {s : State} {p : Nat} (h : s.tablesWf) : (s.unitFails p).tablesWf :=
  .pageErr h

theorem State.tablesWf.sesErr {s : State} {q code a : Nat} (h : s.tablesWf) : (s.sesErr q code a).tablesWf := by
  unfold State.sesErr
  extract_lets t
  have ht : t.tablesWf := .incSat h
  exact .ite (.setReg (.setReg (.setF ht))) (.setB ht)

theorem State.tablesWf.coreErr {s : State} {c code : Nat} (h : s.tablesWf) : (s.coreErr c code).tablesWf :=
  .raise (.pageErr h)

theorem State.tablesWf.writerErr {s : State} {w : Writer} {code a : Nat} (h : s.tablesWf) : (s.writerErr w code a).tablesWf := by
  unfold State.writerErr
  split
  · exact .sesErr h
  · exact .coreErr h
  · exact h

theorem State.tablesWf.recordRefusal {s : State} {w : Writer} {page : Option Nat} {off code a : Nat} (h : s.tablesWf) :
    (s.recordRefusal w page off code a).tablesWf :=
  .writerErr (by
    split
    · exact .pageErr h
    · exact h)

/-! ### Guard -/

theorem State.tablesWf.plain {s : State} {w : Writer} {p wd : Nat} {v : Word} (h : s.tablesWf) : (s.plain w p wd v).tablesWf :=
  .setReg h

theorem State.tablesWf.handlerPlain {w : Writer} {p wd : Nat} {v : Word} {s : State} (h : s.tablesWf) :
    (Handler.plain w p wd v s).result.tablesWf :=
  .plain h

theorem State.tablesWf.handlerRefuse {code : Nat} {s : State} (h : s.tablesWf) : (Handler.refuse code s).result.tablesWf :=
  h

theorem State.tablesWf.stallWrite {s : State} {c : Fin 4} {p wd : Nat} {v : Word} (h : s.tablesWf) :
    (s.stallWrite c p wd v).tablesWf := by
  unfold State.stallWrite
  extract_lets t _
  have ht : t.tablesWf := .wakeDom h
  clear_value t
  exact ht

theorem State.tablesWf.guarded {s : State} {w : Writer} {p wd : Nat} {v : Word} {a : Handler} (ha : a.result.tablesWf)
    (h : s.tablesWf) : (guarded w p wd v a s).tablesWf := by
  rcases guarded_cases w p wd v a s with e | ⟨c, -, e⟩ | e | ⟨-, e⟩ <;> rw [e]
  · exact h
  · exact .stallWrite h
  · exact ha
  · exact .recordRefusal h

theorem State.tablesWf.hdrErr {p : Nat} {v : Word} {s : State} (h : s.tablesWf) : (hdrErr p v s).tablesWf := by
  unfold Machine.hdrErr
  extract_lets t
  have ht : t.tablesWf := .setReg h
  exact .ite (.setReg ht) ht

theorem State.tablesWf.lockHandler {w : Writer} {p : Nat} {v : Word} {s : State} (h : s.tablesWf) :
    (lockHandler w p v s).result.tablesWf := by
  unfold Machine.lockHandler
  split
  · exact .iteResult (.iteResult h (.setReg h)) (.iteResult h (.setReg h))
  · exact h

theorem State.tablesWf.headerHandler {w : Writer} {p wd : Nat} {v : Word} {s : State} (h : s.tablesWf) :
    (headerHandler w p wd v s).result.tablesWf :=
  .iteResult (.hdrErr h) (.iteResult (.lockHandler h) (.handlerPlain h))

/-! ### ChanBase -/

theorem State.tablesWf.setCtx {s : State} {c k : Nat} {v : Word} (h : s.tablesWf) : (s.setCtx c k v).tablesWf :=
  .wrMem h

theorem State.tablesWf.setCtxF {s : State} {c k hi lo n : Nat} (h : s.tablesWf) : (s.setCtxF c k hi lo n).tablesWf :=
  .setCtx h

theorem State.tablesWf.setCtx2 {s : State} {c k n : Nat} (h : s.tablesWf) : (s.setCtx2 c k n).tablesWf :=
  .setCtx (.setCtx h)

theorem State.tablesWf.setChan {s : State} {c : Nat} {x : Chan} (h : s.tablesWf) : (s.setChan c x).tablesWf :=
  h

/-! ### Mem -/

theorem State.tablesWf.setRetnBit {s : State} {w b : Nat} {v : Bool} (h : s.tablesWf) : (s.setRetnBit w b v).tablesWf :=
  .ite (.setB h) (.setB h)

theorem State.tablesWf.eccRecord {s : State} {m off : Nat} {unc : Bool} (h : s.tablesWf) : (s.eccRecord m off unc).tablesWf :=
  .ite h (.setReg (.setReg h))

theorem State.tablesWf.memRead {s : State} {key : Nat} (h : s.tablesWf) : (s.memRead key).2.2.tablesWf := by
  unfold State.memRead
  extract_lets t _ _ _ t1 u _
  have ht : t.tablesWf := .touch h
  have ht1 : t1.tablesWf := .ite (.free ht) ht
  have hu : u.tablesWf := .eccRecord (.raise (.incSat ht1))
  clear_value u
  exact .ite hu (.ite (.eccRecord (.raise (.incSat ht1))) ht1)

theorem State.tablesWf.memReadN {s : State} {key n : Nat} (h : s.tablesWf) : (s.memReadN key n).2.2.tablesWf := by
  induction n generalizing s key with
  | zero => exact h
  | succ n ih => exact ih (.memRead h)

theorem State.tablesWf.ringReadE {s : State} {r i n : Nat} (h : s.tablesWf) : (s.ringReadE r i n).2.2.tablesWf := by
  induction n generalizing s i with
  | zero => exact h
  | succ n ih => exact ih (.memRead h)

theorem State.tablesWf.coreMemLoad {s : State} {c key : Nat} (h : s.tablesWf) : (s.coreMemLoad c key).2.tablesWf :=
  .iteSnd (.coreErr h) (.ite (.coreErr (.memRead h)) (.memRead h))

theorem State.tablesWf.hostMemRead {s : State} {q key a : Nat} (h : s.tablesWf) : (s.hostMemRead q key a).2.2.tablesWf :=
  .iteSndSnd (.sesErr h) (.ite (.sesErr (.memRead h)) (.memRead h))

/-! ### Exemplar -/

theorem State.tablesWf.dropCache {s : State} (h : s.tablesWf) : s.dropCache.tablesWf :=
  h

theorem State.tablesWf.programHandler {w : Writer} {p k : Nat} {v : Word} {s : State} (h : s.tablesWf) :
    (programHandler w p k v s).result.tablesWf := by
  unfold Machine.programHandler
  extract_lets t _ _ _
  have ht : t.tablesWf := .plain h
  exact .iteResult (.ite ht (.dropCache ht)) ht

theorem State.tablesWf.regionHandler {w : Writer} {r k : Nat} {v : Word} {s : State} (h : s.tablesWf) :
    (regionHandler w r k v s).result.tablesWf := by
  unfold Machine.regionHandler
  extract_lets t _ _ _ _
  have ht : t.tablesWf := .plain h
  exact .iteResult (.ite ht (.dropCache ht)) ht

theorem State.tablesWf.retargetDone {s : State} (h : s.tablesWf) : s.retargetDone.tablesWf :=
  .ite (.raise (.setB h)) h

theorem State.tablesWf.countUse {s : State} {key : Nat} (h : s.tablesWf) : (s.countUse key).tablesWf := by
  unfold State.countUse
  extract_lets _ _ t
  have ht : t.tablesWf := .ite (.abortRange h) h
  exact .setReg ht

theorem State.tablesWf.takeCodes {s : State} {c : Nat} (h : s.tablesWf) : (s.takeCodes c).tablesWf :=
  .foldl h (fun _ _ ht => .countUse ht)

theorem State.tablesWf.dropCodes {s : State} {c : Nat} (h : s.tablesWf) : (s.dropCodes c).tablesWf :=
  .retargetDone (.foldl h (fun _ _ ht => .setReg ht))

theorem State.tablesWf.switchField {s : State} {key : Nat} (h : s.tablesWf) : (s.switchField key).tablesWf :=
  .ite (.countUse (.setReg (.wrMem h))) h

theorem State.tablesWf.switchChan {s : State} {c : Nat} (h : s.tablesWf) : (s.switchChan c).tablesWf :=
  .foldl h (fun _ _ ht => by
    extract_lets t1
    have ht1 : t1.tablesWf := .ite (.switchField ht) ht
    exact .ite (.switchField ht1) ht1)

theorem State.tablesWf.retargetNow {s : State} {c : Nat} (h : s.tablesWf) : (s.retargetNow c).tablesWf :=
  .ite (.retargetDone (.switchChan h)) h

theorem State.tablesWf.retargetHandler {w : Writer} {v : Word} {s : State} (h : s.tablesWf) :
    (retargetHandler w v s).result.tablesWf := by
  unfold Machine.retargetHandler
  extract_lets _ _ t t1 _ u
  have ht : t.tablesWf := .plain h
  have ht1 : t1.tablesWf := .setB ht
  clear_value t1
  have hu : u.tablesWf := ht1
  exact .ite (.retargetDone (.foldl hu (fun _ _ ht2 => .switchChan ht2))) ht

theorem State.tablesWf.exmpHandler {w : Writer} {wd : Nat} {v : Word} {s : State} (h : s.tablesWf) :
    (exmpHandler w wd v s).result.tablesWf := by
  unfold Machine.exmpHandler
  extract_lets t t1 _
  have ht : t.tablesWf := .hdrErr h
  have ht1 : t1.tablesWf := .plain h
  clear_value t1
  exact .iteResult (.retargetHandler h) (.iteResult (.ite (.setReg (.setReg ht)) ht) (.iteResult ht1 (.iteResult (.programHandler h)
      (.iteResult (.regionHandler h) (.headerHandler h)))))

theorem State.tablesWf.stallMem {s : State} {c : Fin 4} {a dom : Nat} {v : Word} (h : s.tablesWf) : (s.stallMem c a dom v).tablesWf := by
  unfold State.stallMem
  extract_lets t _
  have ht : t.tablesWf := .wakeDom h
  clear_value t
  exact ht

theorem State.tablesWf.exmpRefused {s : State} {w : Writer} {code o : Nat} (h : s.tablesWf) : (s.exmpRefused w code o).tablesWf :=
  .writerErr (.ite (.setReg (.setReg (.setReg h))) h)

theorem State.tablesWf.exmpWrite {s : State} {w : Writer} {o : Nat} {v : Word} (h : s.tablesWf) : (s.exmpWrite w o v).tablesWf := by
  unfold State.exmpWrite
  split
  · exact .stallMem h
  · exact .ite (.dropCache (.wrMem h)) (.ite (.raise (.exmpRefused h)) (.exmpRefused h))

theorem State.tablesWf.codeErr {s : State} {r o : Nat} (h : s.tablesWf) : (s.codeErr r o).tablesWf :=
  .raise (.incSat (.ite (.setReg (.setReg h)) h))

/-! ### Capture -/

theorem State.tablesWf.setCap {s : State} {e : Nat} {x : Capture} (h : s.tablesWf) : (s.setCap e x).tablesWf :=
  h

theorem State.tablesWf.captureSample {s : State} {e : Nat} {l : List Sample} (h : s.tablesWf) : (s.captureSample e l).tablesWf :=
  .ite (.setCap h) (.setCap (.wrMem h))

theorem State.tablesWf.captureTake {s : State} {e : Nat} {a : Sample} (h : s.tablesWf) : (s.captureTake e a).tablesWf :=
  .ite (.setCap h) (.captureSample h)

theorem State.tablesWf.captureRun {s : State} {e n : Nat} (h : s.tablesWf) : (s.captureRun e n).tablesWf := by
  induction n generalizing s with
  | zero => exact h
  | succ n ih => exact .ite (ih (.captureTake (.setCap (.memRead h)))) h

theorem State.tablesWf.captureZeros {s : State} {e n : Nat} (h : s.tablesWf) : (s.captureZeros e n).tablesWf := by
  induction n generalizing s with
  | zero => exact h
  | succ n ih => exact .ite (ih (.captureTake h)) h

theorem State.tablesWf.captureAll {s : State} (h : s.tablesWf) : s.captureAll.tablesWf := by
  unfold State.captureAll
  extract_lets _ t
  have ht : t.tablesWf := .captureRun h
  exact .captureRun ht

/-! ### Feed -/

theorem State.tablesWf.setFeed {s : State} {p : Fin 8} {x : Feed} (h : s.tablesWf) : (s.setFeed p x).tablesWf :=
  h

theorem State.tablesWf.setValid {s : State} {n : Nat} {b : Bool} (h : s.tablesWf) : (s.setValid n b).tablesWf :=
  .ite h (.raise (.setB h))

theorem State.tablesWf.zeroFill {s : State} {n : Nat} {boundary : Bool} (h : s.tablesWf) : (s.zeroFill n boundary).tablesWf :=
  .ite h (.ite h (.foldl h (fun _ _ ht => .ite (.captureZeros (.captureAll ht)) ht)))

theorem State.tablesWf.zeroPort {s : State} {p : Nat} (h : s.tablesWf) : (s.zeroPort p).tablesWf :=
  .foldl h (fun _ _ ht => .ite (.zeroFill ht) ht)

theorem State.tablesWf.setLane {s : State} {p : Fin 8} {st : Nat} (h : s.tablesWf) : (s.setLane p st).tablesWf := by
  unfold State.setLane
  extract_lets t
  have ht : t.tablesWf := .setF h
  exact .ite (.setF (.zeroPort h)) (.ite (.foldl ht (fun _ _ ht1 => .ite (by
      extract_lets _ t1
      have ht11 : t1.tablesWf := .setValid ht1
      clear_value t1
      exact ht11) ht1)) ht)

theorem State.tablesWf.laneFail {s : State} {p : Fin 8} {code : Nat} (h : s.tablesWf) : (s.laneFail p code).tablesWf := by
  unfold State.laneFail
  extract_lets _ t
  have ht : t.tablesWf := .setFeed (.setLane h)
  exact .raise (.ite ht (.pageErr ht))

theorem State.tablesWf.feedCtrl {w : Writer} {p : Fin 8} {v : Word} {s : State} (h : s.tablesWf) :
    (feedCtrl w p v s).result.tablesWf := by
  unfold Machine.feedCtrl
  extract_lets _ _ t _ t1 _ t2 _ t3
  have ht : t.tablesWf := .plain h
  have ht1 : t1.tablesWf := .ite ht (.setFeed (.setLane ht))
  have ht2 : t2.tablesWf := .ite (.setFeed ht1) ht1
  have ht3 : t3.tablesWf := .ite (.setFeed (.setLane ht2)) ht2
  exact ht3

theorem State.tablesWf.notchMode {s : State} {p k mode : Nat} (h : s.tablesWf) : (s.notchMode p k mode).tablesWf :=
  .ite h (.raise (.setB h))

theorem State.tablesWf.feedWord {w : Writer} {p : Fin 8} {wd : Nat} {v : Word} {s : State} (h : s.tablesWf) :
    (feedWord w p wd v s).result.tablesWf := by
  unfold Machine.feedWord
  extract_lets t _ _ _ _ _ _ _ _ _ _
  have ht : t.tablesWf := .plain h
  exact .iteResult ht (.iteResult ht (.iteResult ht (.iteResult ht (.iteResult (.setFeed ht) (.iteResult (.notchMode ht) (.iteResult ht
      (.iteResult ht (.iteResult ht (.iteResult (.handlerRefuse h) (.headerHandler h))))))))))

theorem State.tablesWf.feedHandler {w : Writer} {p : Fin 8} {wd : Nat} {v : Word} {s : State} (h : s.tablesWf) :
    (feedHandler w p wd v s).result.tablesWf :=
  .iteResult (.feedCtrl h) (.feedWord h)

theorem Tidy.execSweepDone {p : Fin 8} {ok : BitVec 64} {s : State} (h : s.tablesWf) : Tidy (execSweepDone p ok s) :=
  .done (.ite (by
    split
    · exact .laneFail h
    · exact .setFeed (.setLane (.setF h))) h)

theorem State.tablesWf.portDown {s : State} {p : Fin 8} (h : s.tablesWf) : (s.portDown p).tablesWf :=
  .ite (.raise (.setFeed (.setLane h))) h

theorem State.tablesWf.pushPath {s : State} {p q : Nat} {a : Sample} (h : s.tablesWf) : (s.pushPath p q a).tablesWf :=
  h

theorem State.tablesWf.intoPaths {s : State} {p : Fin 8} {y : (Rat × Rat) × Bool} (h : s.tablesWf) : (s.intoPaths p y).tablesWf := by
  unfold State.intoPaths
  extract_lets _ _ _ t t1
  have ht : t.tablesWf := .setFeed h
  have ht1 : t1.tablesWf := by
    unfold t1
    split
    · exact .pushPath ht
    · exact ht
  split
  · exact .pushPath ht1
  · exact ht1

theorem State.tablesWf.specTap {s : State} {p : Fin 8} {src : Bool} {z : Rat × Rat} (h : s.tablesWf) : (s.specTap p src z).tablesWf :=
  .ite (.setFeed h) h

theorem State.tablesWf.condition {s : State} {p : Fin 8} {real : Bool} {z : Rat × Rat} (h : s.tablesWf) :
    (s.condition p real z).tablesWf := by
  unfold State.condition
  extract_lets _ _ _ _ _ _ _ s1 _ _ _ _ _ _ t
  have hs1 : s1.tablesWf := .specTap h
  have ht : t.tablesWf := .setFeed hs1
  split
  · exact .intoPaths (.specTap ht)
  · exact ht

theorem State.tablesWf.portSample {s : State} {p : Fin 8} {a : Int × Int} (h : s.tablesWf) : (s.portSample p a).tablesWf := by
  unfold State.portSample
  extract_lets _ _ _ _ _ _ t
  have ht : t.tablesWf := .setFeed h
  exact .ite (.ite (.condition ht) ht) (.condition (.setFeed h))

theorem State.tablesWf.dataWord {s : State} {p : Fin 8} {b : BitVec 8} (h : s.tablesWf) : (s.dataWord p b).tablesWf :=
  .foldl (.ite (.raise (.incSat h)) h) (fun _ _ ht => .portSample ht)

theorem Tidy.execLaneWord {p : Fin 8} {b : BitVec 8} {s : State} (h : s.tablesWf) : Tidy (execLaneWord p b s) := by
  unfold Machine.execLaneWord
  extract_lets _ _ _ t
  have ht : t.tablesWf := .setFeed (.setLane h)
  exact .done (.captureAll (.ite (.ite (.setFeed (.setLane h)) (.setFeed h)) (.ite (.ite (.setFeed h) (.setFeed (.setLane h))) (.ite
      (.ite h (.ite (.ite (.dataWord ht) ht) (.laneFail h))) (.ite (.dataWord h) h)))))

theorem Tidy.execAgcUpdate {p : Fin 8} {s : State} (h : s.tablesWf) : Tidy (execAgcUpdate p s) := by
  unfold Machine.execAgcUpdate
  extract_lets _ _ _ _ _ _ _ _ _ _ _ _ t
  have ht : t.tablesWf := .setFeed (.setReg (.setReg h))
  exact .done (.ite (.ite ht (.raise ht)) h)

theorem State.tablesWf.notchFrame {s : State} {p : Fin 8} {k : Fin 4} (h : s.tablesWf) : (s.notchFrame p k).tablesWf := by
  unfold State.notchFrame
  extract_lets _ _ _ _ t
  have ht : t.tablesWf := .setFeed (.setF h)
  exact .ite h (.ite (.ite (.raise (.setB ht)) (.ite (.raise (.setB ht)) ht)) ht)

theorem State.tablesWf.feedFrame {s : State} {p : Fin 8} (h : s.tablesWf) : (s.feedFrame p).tablesWf := by
  unfold State.feedFrame
  extract_lets t _ _
  have ht : t.tablesWf := .notchFrame (.notchFrame (.notchFrame (.notchFrame h)))
  exact .setFeed (.setReg ht)

theorem State.tablesWf.streamFrame {s : State} {words : List (BitVec 64)} {n : Fin 16} (h : s.tablesWf) :
    (s.streamFrame words n).tablesWf := by
  unfold State.streamFrame
  extract_lets _ t _ t1 _ t2
  have ht : t.tablesWf := .zeroFill h
  have ht1 : t1.tablesWf := .setValid ht
  clear_value t1
  have ht2 : t2.tablesWf := .setValid ht
  clear_value t2
  exact .ite h (.ite ht1 ht2)

theorem State.tablesWf.smapHandler {w : Writer} {n : Fin 16} {v : Word} {s : State} (h : s.tablesWf) :
    (smapHandler w n v s).result.tablesWf := by
  unfold Machine.smapHandler
  extract_lets _ _ _ _ _ _ t t1 _ t2
  have ht : t.tablesWf := .plain h
  have ht1 : t1.tablesWf := .setReg ht
  clear_value t1
  have ht2 : t2.tablesWf := .setReg (.setValid ht)
  clear_value t2
  exact .ite ht1 (.ite ht2 ht)

theorem State.tablesWf.routeHandler {w : Writer} {wd : Nat} {v : Word} {s : State} (h : s.tablesWf) :
    (routeHandler w wd v s).result.tablesWf := by
  unfold Machine.routeHandler
  extract_lets t _ t1
  have ht : t.tablesWf := .plain h
  have ht1 : t1.tablesWf := .setB ht
  clear_value t1
  exact .iteResult (.ite ht1 ht) (by
      split
      · exact .smapHandler h
      · exact .iteResult ht (.headerHandler h))

theorem State.tablesWf.rfIdle {s : State} (h : s.tablesWf) : s.rfIdle.tablesWf :=
  h

theorem State.tablesWf.specHandler {w : Writer} {wd : Nat} {v : Word} {s : State} (h : s.tablesWf) :
    (specHandler w wd v s).result.tablesWf :=
  .iteResult (.setFeed (.plain h)) (.headerHandler h)

theorem Tidy.execSpectrumRecordTick {m : Fin 8} {blocksDone : Bool} {t0 : BitVec 16} {s : State} (h : s.tablesWf) :
    Tidy (execSpectrumRecordTick m blocksDone t0 s) := by
  unfold Machine.execSpectrumRecordTick
  extract_lets _ _ _ _ t
  have ht : t.tablesWf := .setFeed h
  exact .done (by
      split
      · exact .ite (.raise (.setReg (.ringPut ht))) (.raise (.incSat (.ite ht (.unitFails ht))))
      · exact h)

theorem State.tablesWf.pwmNano {s : State} (h : s.tablesWf) : s.pwmNano.tablesWf :=
  .ite h h

/-! ### Channel -/

theorem State.tablesWf.moveTo {s : State} {c st e : Nat} (h : s.tablesWf) : (s.moveTo c st e).tablesWf :=
  .raise (.setF h)

theorem State.tablesWf.discardPage {s : State} {c : Nat} (h : s.tablesWf) : (s.discardPage c).tablesWf :=
  .setChan (.setF (.setB h))

theorem State.tablesWf.discard {s : State} {c : Nat} (h : s.tablesWf) : (s.discard c).tablesWf :=
  .ite (.setCtxF (.discardPage h)) (.discardPage h)

theorem State.tablesWf.setExt {s : State} {c : Nat} {b : Bool} (h : s.tablesWf) : (s.setExt c b).tablesWf :=
  .ite (.setB h) h

theorem State.tablesWf.freeSlots {s : State} {c : Nat} (h : s.tablesWf) : (s.freeSlots c).tablesWf := by
  unfold State.freeSlots
  extract_lets t _
  have ht : t.tablesWf := .setReg h
  clear_value t
  exact ht

theorem State.tablesWf.chanOff {s : State} {c : Nat} (h : s.tablesWf) : (s.chanOff c).tablesWf := by
  unfold State.chanOff
  extract_lets t _
  have ht : t.tablesWf := .setExt (.dropCodes (.freeSlots (.discard h)))
  exact .moveTo (.setB (.setReg (.setChan ht)))

theorem State.tablesWf.chanFault {s : State} {c cause : Nat} (h : s.tablesWf) : (s.chanFault c cause).tablesWf := by
  unfold State.chanFault
  extract_lets _ t t1 _ t2 _ t3 t4 t5
  have ht : t.tablesWf := .ite (.discardPage h) (.discard h)
  have ht1 : t1.tablesWf := .setReg (.setReg ht)
  have ht2 : t2.tablesWf := .setChan (.setB ht1)
  clear_value t2
  have ht3 : t3.tablesWf := ht2
  have ht4 : t4.tablesWf := .pageErr (.moveTo ht3)
  have ht5 : t5.tablesWf := .ite ht4 (.retargetNow ht4)
  exact .ite (.ite (.setB ht5) ht5) h

theorem State.tablesWf.quireWrite {s : State} {w : Writer} {o : Nat} {v : Word} (h : s.tablesWf) : (s.quireWrite w o v).tablesWf := by
  unfold State.quireWrite
  split
  · exact .stallMem h
  · exact .ite (.wrMem h) (.recordRefusal h)

theorem State.tablesWf.request {s : State} {c : Nat} {by_ : Option Writer} (h : s.tablesWf) : (s.request c by_).tablesWf := by
  unfold State.request
  extract_lets _ t _
  have ht : t.tablesWf := .setChan (.setB h)
  clear_value t
  exact ht

theorem State.tablesWf.ctrlHandler {w : Writer} {c : Nat} {v : Word} {s : State} (h : s.tablesWf) :
    (ctrlHandler w c v s).result.tablesWf :=
  .ite (.request h) (.ite (.setChan h) (.ite (.moveTo h) (.ite (.moveTo h) h)))

theorem State.tablesWf.arm {s : State} {c : Nat} {p : PhaseSet} (h : s.tablesWf) : (s.arm c p).tablesWf :=
  .setChan (.setB h)

theorem State.tablesWf.sctlHandler {w : Writer} {c : Nat} {v : Word} {s : State} (h : s.tablesWf) :
    (sctlHandler w c v s).result.tablesWf := by
  unfold Machine.sctlHandler
  extract_lets t
  have ht : t.tablesWf := .plain h
  exact .iteResult (.arm ht) ht

theorem State.tablesWf.commitUpdate {s : State} {c sel : Nat} {ws : List Word} {by_ : Option Writer} (h : s.tablesWf) :
    (s.commitUpdate c sel ws by_).tablesWf := by
  unfold State.commitUpdate
  extract_lets _ _ t t1 t2 _
  have ht : t.tablesWf := .setCtx (.wrMemN h)
  have ht1 : t1.tablesWf := .setB (.setB ht)
  have ht2 : t2.tablesWf := .ite (.setB ht1) ht1
  exact .setChan ht2

theorem State.tablesWf.uctlHandler {w : Writer} {c : Nat} {v : Word} {s : State} (h : s.tablesWf) :
    (uctlHandler w c v s).result.tablesWf :=
  .commitUpdate h

theorem State.tablesWf.chanHandler {w : Writer} {c wd : Nat} {v : Word} {s : State} (h : s.tablesWf) :
    (chanHandler w c wd v s).result.tablesWf :=
  .iteResult (.ctrlHandler h) (.iteResult (.uctlHandler h) (.iteResult (.sctlHandler h) (.iteResult (.plain h) (.iteResult (.setCtx h)
      (.headerHandler h)))))

/-! ### Ductus -/

theorem State.tablesWf.setRstate {s : State} {r st : Nat} (h : s.tablesWf) : (s.setRstate r st).tablesWf :=
  .setF h

theorem State.tablesWf.reportDecision {s : State} {c rank result d rt cl off : Nat} (h : s.tablesWf) :
    (s.reportDecision c rank result d rt cl off).tablesWf :=
  .setReg (.setReg (.setReg (.setReg (.setReg h))))

theorem State.tablesWf.refuseRequest {s : State} {c code : Nat} (h : s.tablesWf) : (s.refuseRequest c code).tablesWf := by
  unfold State.refuseRequest
  extract_lets t
  have ht : t.tablesWf := .raise (.pageErr (.raise h))
  split
  · exact .writerErr ht
  · exact ht

theorem State.tablesWf.takeSlots {s : State} {c rank off d : Nat} (h : s.tablesWf) : (s.takeSlots c rank off d).tablesWf := by
  unfold State.takeSlots
  extract_lets s1 t t1 _ t2 t3 t4 _
  have hs1 : s1.tablesWf := .abortRange h
  have ht : t.tablesWf := .ite (.setExt (.takeCodes hs1)) hs1
  have ht1 : t1.tablesWf := .setF (.setReg ht)
  have ht2 : t2.tablesWf := .setChan ht1
  have ht3 : t3.tablesWf := .ite (.arm ht2) ht2
  have ht4 : t4.tablesWf := .moveTo ht3
  clear_value t4
  exact ht4

theorem State.tablesWf.dequeue {s : State} {c : Nat} {q : List Nat} (h : s.tablesWf) : (s.dequeue c q).tablesWf := by
  unfold State.dequeue
  extract_lets t _
  have ht : t.tablesWf := .setB h
  clear_value t
  exact ht

theorem Tidy.execAdmissionDecision {s : State} (h : s.tablesWf) : Tidy (execAdmissionDecision s) :=
  .done (by
    split
    · exact h
    · extract_lets s0 _ _ _ _ _ _ _
      have hs0 : s0.tablesWf := .dequeue h
      exact .ite h (.ite (.refuseRequest (.reportDecision (.freeWords hs0))) (.ite (.ite (.takeSlots (.reportDecision hs0))
          (.refuseRequest (.reportDecision (.freeWords hs0)))) (.ite (.takeSlots (.reportDecision hs0)) (.refuseRequest
          (.reportDecision (.freeWords hs0)))))))

theorem State.tablesWf.winHandler {w : Writer} {v : Word} {s : State} (h : s.tablesWf) : (winHandler w v s).result.tablesWf :=
  .setB (.plain h)

theorem State.tablesWf.ductHandler {w : Writer} {wd : Nat} {v : Word} {s : State} (h : s.tablesWf) :
    (ductHandler w wd v s).result.tablesWf :=
  .iteResult (.winHandler h) (.iteResult (.plain h) (.headerHandler h))

theorem State.tablesWf.rankCtrl {w : Writer} {r : Nat} {v : Word} {s : State} (h : s.tablesWf) : (rankCtrl w r v s).result.tablesWf := by
  unfold Machine.rankCtrl
  extract_lets t _
  have ht : t.tablesWf := .plain h
  exact .iteResult (.ite (.setRstate ht) ht) (.ite (.setRstate ht) (.ite (.setRstate ht) ht))

theorem State.tablesWf.rankHandler {w : Writer} {r wd : Nat} {v : Word} {s : State} (h : s.tablesWf) :
    (rankHandler w r wd v s).result.tablesWf :=
  .iteResult (.rankCtrl h) (.headerHandler h)

theorem State.tablesWf.drainDomain {s : State} {d : Nat} (h : s.tablesWf) : (s.drainDomain d).tablesWf :=
  .foldl h (fun _ _ ht => .ite (.ite (.setRstate ht) (.ite (.setRstate ht) ht)) ht)

/-! ### Rank -/

theorem State.tablesWf.setCompState {s : State} {c k : Nat} {x : Nat × Nat × Nat} (h : s.tablesWf) : (s.setCompState c k x).tablesWf :=
  .wrMemN (.ite h (.wrMemN h))

theorem State.tablesWf.setNco {s : State} {c : Nat} {x : Nco} (h : s.tablesWf) : (s.setNco c x).tablesWf :=
  .foldl (.setCtxF (.wrMemN h)) (fun _ _ ht => .setCompState ht)

theorem State.tablesWf.startIntegration {s : State} {c : Nat} {partial_ : Bool} {upda : Nat} (h : s.tablesWf) :
    (s.startIntegration c partial_ upda).tablesWf := by
  unfold State.startIntegration
  extract_lets _ t _
  have ht : t.tablesWf := .setCtx (.setCtxF h)
  exact .setChan ht

theorem State.tablesWf.firstIntegration {s : State} {c upda : Nat} (h : s.tablesWf) : (s.firstIntegration c upda).tablesWf := by
  unfold State.firstIntegration
  extract_lets _ t t1 _
  have ht : t.tablesWf := .setCtxF h
  have ht1 : t1.tablesWf := .ite ht (.setCtxF ht)
  exact .setChan ht1

theorem State.tablesWf.applyUpdate {s : State} {c : Nat} (h : s.tablesWf) : (s.applyUpdate c).tablesWf := by
  unfold State.applyUpdate
  extract_lets sel late t t1 x x1 x2 t2 by_ _ t3 _ t4 t5
  have ht : t.tablesWf := .ite (.setCtx2 h) h
  have ht1 : t1.tablesWf := .ite (.setCtx2 ht) ht
  have ht2 : t2.tablesWf := .setF (.setCtxF (.setNco ht1))
  have ht4 : t4.tablesWf := .withLeg (.setChan ht2)
  have ht5 : t5.tablesWf := .incSat (.pageErr (.raise (.incSat ht4)))
  refine .ite (.ite (.raise ht5) ?_) ht4
  clear_value by_
  split
  · exact .sesErr ht5
  · exact ht5

theorem State.tablesWf.openWindow {s : State} {c : Nat} (h : s.tablesWf) : (s.openWindow c).tablesWf :=
  .ite h (.setChan h)

theorem State.tablesWf.boundary {s : State} {c : Nat} (h : s.tablesWf) : (s.boundary c).tablesWf := by
  unfold State.boundary
  extract_lets _ _ _ _ t t1 t2 t3 t4 _ t5 t6 t7 t8 _ _
  have ht : t.tablesWf := .setReg (.ringPut h)
  have ht1 : t1.tablesWf := .setCtxF ht
  have ht2 : t2.tablesWf := .ite (.raise ht1) ht1
  have ht3 : t3.tablesWf := .ite (.raise ht2) ht2
  have ht4 : t4.tablesWf := .ite (.raise ht3) ht3
  have ht5 : t5.tablesWf := .setChan ht4
  have ht6 : t6.tablesWf := .setCtxF (.raise (.incSat (.ite h (.unitFails h))))
  have ht7 : t7.tablesWf := .ite (.ite (.setB ht5) ht5) (.ite (.raise ht6) ht6)
  have ht8 : t8.tablesWf := .setCtx (.openWindow ht7)
  exact .startIntegration (.setChan ht8)

theorem State.tablesWf.dueUpdate {s : State} {c : Nat} (h : s.tablesWf) : (s.dueUpdate c).tablesWf :=
  .ite (.startIntegration (.applyUpdate h)) h

theorem State.tablesWf.countCode {s : State} {c : Nat} {seen : List Nat} {l : List (Nat × Nat)} (h : s.tablesWf) :
    (s.countCode c seen l).1.tablesWf := by
  induction l generalizing s seen with
  | nil => exact h
  | cons x l ih =>
    have ht : State.tablesWf (if s.codeBad x.2 then s.setCtxF c 31 10 10 1 else s) := .ite (.setCtxF h) h
    exact .iteFst (ih ht) (ih (.ite (.codeErr (.memRead ht)) (.memRead ht)))

theorem State.tablesWf.correlate {s : State} {c : Nat} {a : Sample} {within : Bool} {seen : List Nat} (h : s.tablesWf) :
    (s.correlate c a within seen).1.tablesWf := by
  unfold State.correlate
  extract_lets _ _ s1 s2 _ _ _ _ _ t t1
  have hs1 : s1.tablesWf := .setChan h
  have hs2 : s2.tablesWf := .ite hs1 (.setCtxF hs1)
  have ht : t.tablesWf := .setChan hs2
  have ht1 : t1.tablesWf := .ite (.setCtxF ht) ht
  exact .iteFst hs2 (.iteFst (.setChan (.setCtx hs2)) (.countCode ht1))

theorem State.tablesWf.advance {s : State} {c : Nat} (h : s.tablesWf) : (s.advance c).tablesWf := by
  unfold State.advance
  extract_lets _ _ _ _ _ _ _ t _ _ _ _ _ _ _ t1
  have ht : t.tablesWf := .ite (.retargetNow h) h
  have ht1 : t1.tablesWf := .setNco ht
  exact .ite (.setNco h) (.ite (.boundary ht1) (.ite (.startIntegration ht1) ht1))

theorem State.tablesWf.latchHook {s : State} {c n : Nat} {inv : Bool} (h : s.tablesWf) : (s.latchHook c n inv).tablesWf := by
  unfold State.latchHook
  split
  · exact h
  · split
    · exact h
    · exact .ite h h

theorem State.tablesWf.takeSample {s : State} {st n : Nat} (h : s.tablesWf) : (s.takeSample st n).2.tablesWf :=
  .memRead h

theorem State.tablesWf.loadRun {s : State} {c n : Nat} {p : Option PhaseSet} (h : s.tablesWf) : (s.loadRun c n p).tablesWf := by
  unfold State.loadRun
  extract_lets _ _ _ t _ t1 t2 _
  have ht : t.tablesWf := .ite (.applyUpdate h) h
  have ht1 : t1.tablesWf := by
    unfold t1
    split
    · extract_lets t3
      have ht3 : t3.tablesWf := by
        unfold t3
        split
        · exact .setCtx2 (.setCtx2 ht)
        · exact ht
      exact .setNco ht3
    · exact .setNco ht
  have ht2 : t2.tablesWf := .ite (.firstIntegration ht1) (.startIntegration ht1)
  exact .setChan ht2

theorem State.tablesWf.slotSample {s : State} {c st n : Nat} {within : Bool} {seen : List Nat} (h : s.tablesWf) :
    (s.slotSample c st n within seen).1.tablesWf := by
  unfold State.slotSample
  extract_lets s1 s2 _ _ t _ t1 _
  have hs1 : s1.tablesWf := by
    unfold s1
    split
    · exact .ite (.loadRun h) h
    · exact h
  have hs2 : s2.tablesWf := .dueUpdate hs1
  have ht : t.tablesWf := .latchHook (.takeSample hs2)
  have ht1 : t1.tablesWf := .advance (.correlate ht)
  exact .iteFst (.setChan ht1) hs1

theorem State.tablesWf.slotSamples {s : State} {c st n cap : Nat} {seen : List Nat} {k : Nat} (h : s.tablesWf) :
    (s.slotSamples c st n cap seen k).tablesWf := by
  induction k generalizing s n cap seen with
  | zero => exact h
  | succ k ih => exact ih (.slotSample h)

theorem State.tablesWf.overrun {s : State} {st : Nat} (h : s.tablesWf) : (s.overrun st).tablesWf := by
  unfold State.overrun
  extract_lets t t1 _
  have ht : t.tablesWf := .setB h
  have ht1 : t1.tablesWf := .raise (.incSat ht)
  clear_value t1
  exact .ite ht ht1

theorem State.tablesWf.loadContext {s : State} {c : Nat} (h : s.tablesWf) : (s.loadContext c).2.tablesWf :=
  .memReadN h

theorem State.tablesWf.loadTaps {s : State} {c : Nat} (h : s.tablesWf) : (s.loadTaps c).2.tablesWf :=
  .iteSnd (.memRead h) h

theorem State.tablesWf.serve {s : State} {x : TabRow} {i : Nat} (h : s.tablesWf) : (s.serve x i).tablesWf := by
  unfold State.serve
  extract_lets _ _ _ _ _
  exact .ite h (.ite (.chanFault h) (.ite (.chanFault (.loadContext h)) (by
      split
      · exact .ite (.chanFault (.loadTaps (.loadContext h))) (by
      extract_lets t
      have ht : t.tablesWf := .fresh (.slotSamples (.loadTaps (.loadContext h)))
      exact .ite (.overrun ht) ht)
      · exact .loadContext h)))

theorem Tidy.execRankSlot {r : Fin 8} {slot : Fin 3125} {s : State} (h : s.tablesWf) : Tidy (execRankSlot r slot s) :=
  .done (.ite (by
    split
    · split
      · exact .serve h
      · exact h
    · exact h) h)

/-! ### Inkwell -/

theorem State.tablesWf.setCst {s : State} {e st : Nat} (h : s.tablesWf) : (s.setCst e st).tablesWf :=
  .setF h

theorem State.tablesWf.regionWrite {s : State} {w : Writer} {group dom key : Nat} {busy : Bool} {v : Word} {after : State → State}
    (h : s.tablesWf) (ha : ∀ t, t.tablesWf → (after t).tablesWf) : (s.regionWrite w group dom key busy v after).tablesWf := by
  unfold State.regionWrite
  split
  · exact .stallMem h
  · exact .ite (ha _ h.wrMem) (.recordRefusal h)

theorem State.tablesWf.inkwWrite {s : State} {w : Writer} {o : Nat} {v : Word} (h : s.tablesWf) : (s.inkwWrite w o v).tablesWf :=
  .regionWrite h (fun _ ht => ht)

theorem State.tablesWf.armCapture {s : State} {e : Nat} (h : s.tablesWf) : (s.armCapture e).tablesWf := by
  unfold State.armCapture
  extract_lets t _
  have ht : t.tablesWf := .setB (.setCst (.abortRange h))
  exact .ite (.setB ht) ht

theorem State.tablesWf.stopCapture {s : State} {e : Nat} (h : s.tablesWf) : (s.stopCapture e).tablesWf :=
  .ite (.setB (.setCst h)) (.setCap h)

theorem State.tablesWf.inkwCtrl {w : Writer} {v : Word} {s : State} (h : s.tablesWf) : (inkwCtrl w v s).result.tablesWf := by
  unfold Machine.inkwCtrl
  extract_lets t _ _
  have ht : t.tablesWf := .plain h
  exact .foldl ht (fun _ _ ht1 => by
      extract_lets t1
      have ht11 : t1.tablesWf := .ite (.armCapture ht1) ht1
      exact .ite (.stopCapture ht11) ht11)

theorem State.tablesWf.inkwHandler {w : Writer} {wd : Nat} {v : Word} {s : State} (h : s.tablesWf) :
    (inkwHandler w wd v s).result.tablesWf :=
  .iteResult (.inkwCtrl h) (.iteResult (.plain h) (.headerHandler h))

theorem Tidy.execCaptureDone {e : Fin 2} {s : State} (h : s.tablesWf) : Tidy (execCaptureDone e s) := by
  unfold Machine.execCaptureDone
  extract_lets t _ _ u u1 u2 _
  have ht : t.tablesWf := .captureAll h
  have hu : u.tablesWf := .setCst ht
  have hu1 : u1.tablesWf := .setReg (.setReg2 hu)
  have hu2 : u2.tablesWf := .setReg (.setReg hu1)
  exact .done (.ite (.raise (.setCap hu2)) ht)

theorem State.tablesWf.startCapture {s : State} {e : Nat} (h : s.tablesWf) : (s.startCapture e).tablesWf :=
  .ite (by
    split
    · exact .raise (.setRegs (.setCap (.setCst h)))
    · exact h) h

/-! ### Scriptorium -/

theorem State.tablesWf.dChips {s : State} {d : List Word} (h : s.tablesWf) : (s.dChips d).2.2.tablesWf :=
  .iteSndSnd (.memReadN h) h

theorem State.tablesWf.inkRead {s : State} {key n : Nat} (h : s.tablesWf) : (s.inkRead key n).2.2.tablesWf := by
  induction n generalizing s key with
  | zero => exact h
  | succ n ih => exact ih (.memRead h)

theorem State.tablesWf.plainRecord {s : State} {j : Job} {outcome code : Nat} {eccf : Option Bool} (h : s.tablesWf) :
    (s.plainRecord j outcome code eccf).2.tablesWf :=
  .freeWords h

theorem State.tablesWf.completeRecord {s : State} {j : Job} {ws : List (Option Word)} {eccf : Bool} (h : s.tablesWf) :
    (s.completeRecord j ws eccf).2.tablesWf :=
  .free h

theorem State.tablesWf.setPair {s : State} {k : Option Nat} (h : s.tablesWf) : (s.setPair k).tablesWf := by
  unfold State.setPair
  extract_lets t _
  have ht : t.tablesWf := .setB h
  clear_value t
  exact ht

theorem State.tablesWf.forgetRam {s : State} (h : s.tablesWf) : s.forgetRam.tablesWf :=
  h.filterMem _

theorem State.tablesWf.useCache {s : State} {d : List Word} (h : s.tablesWf) : (s.useCache d).2.tablesWf := by
  have ht : (s.incSat (pg 40 17)).tablesWf := .incSat h
  have hc : ((s.incSat (pg 40 18)).dChips d).2.2.tablesWf := .dChips (.incSat h)
  unfold State.useCache
  extract_lets k rest
  split
  · exact ht
  · exact .iteSnd hc hc

theorem State.tablesWf.setPipes {s : State} {ps : List Nat} {b : Bool} (h : s.tablesWf) : (s.setPipes ps b).tablesWf :=
  .foldl h (fun _ _ ht => .setB ht)

theorem State.tablesWf.setJobs {s : State} {l : List Job} (h : s.tablesWf) : (s.setJobs l).tablesWf :=
  h

theorem State.tablesWf.putJob {s : State} {j : Job} {keep : Bool} (h : s.tablesWf) : (s.putJob j keep).tablesWf :=
  .ite (.setJobs h) (.setPipes (.setJobs h))

theorem State.tablesWf.countOutcome {s : State} {o : Nat} (h : s.tablesWf) : (s.countOutcome o).tablesWf :=
  .raise (.incSat h)

theorem State.tablesWf.commitJob {s : State} {j : Job} (h : s.tablesWf) : (s.commitJob j).tablesWf :=
  .ite (.putJob (.unitFails h)) (.ite (.putJob (.countOutcome (.ringPut h))) (.putJob h))

theorem Tidy.execJobStart {s : State} (h : s.tablesWf) : Tidy (execJobStart s) := by
  unfold Machine.execJobStart
  extract_lets _
  exact .done (by
      split
      · exact .ite h (.setPair h)
      · exact .ite h (.ite (.unitFails h) (.ite (.setPair h) (.ite h (by
      extract_lets _ _ _ t t1 _ t2 _ _ _ _ _ _ _ _ _ _
      have ht : t.tablesWf := .ite (.pageErr (.ringReadE h)) (.ringReadE h)
      have ht1 : t1.tablesWf := .setPipes (.setPair (.ringTake ht))
      clear_value t1
      have ht2 : t2.tablesWf := ht1
      exact .ite (.commitJob (.plainRecord ht2)) (.ite (.commitJob (.plainRecord ht2)) (.ite (.commitJob (.plainRecord (.unitFails
          ht2))) (by
      split
      · exact .commitJob (.plainRecord (.useCache ht2))
      · exact .putJob (.abortRange (.abortRange (.forgetRam (.useCache ht2))))))))))))

theorem Tidy.execJobExtractionDone {pipe : Fin 2} {s : State} (h : s.tablesWf) : Tidy (execJobExtractionDone pipe s) :=
  .done (by
    split
    · exact h
    · exact .ite (.ite (.putJob (.forgetRam (.plainRecord (.inkRead h)))) (.putJob (.forgetRam (.completeRecord (.inkRead h))))) h)

theorem Tidy.execJobCommit {pipe : Fin 2} {s : State} (h : s.tablesWf) : Tidy (execJobCommit pipe s) :=
  .done (by
    split
    · exact h
    · exact .ite h (.commitJob h))

theorem Tidy.execRecordRoomTimeout {pipe : Fin 2} {s : State} (h : s.tablesWf) : Tidy (execRecordRoomTimeout pipe s) :=
  .done (by
    split
    · exact h
    · exact .ite (.putJob (.countOutcome (.pageErr (.raise (.incSat h))))) h)

theorem Tidy.execJobAbortStop {pipe : Fin 2} {s : State} (h : s.tablesWf) : Tidy (execJobAbortStop pipe s) :=
  .done (by
    split
    · exact h
    · exact .ite (.commitJob (.forgetRam (.iteSnd (.plainRecord h) h))) h)

theorem State.tablesWf.ringEcc {e : List Word × Nat × State} (h : e.2.2.tablesWf) : (State.ringEcc e).tablesWf :=
  .ite (.pageErr h) h

theorem State.tablesWf.cancelQueued {s : State} {ring : Nat} {hit : Word → Bool} {i n : Nat} (h : s.tablesWf) :
    (s.cancelQueued ring hit i n).1.tablesWf := by
  induction n generalizing s i with
  | zero => exact h
  | succ n ih => exact ih (.ite (.wrMem (.ringEcc (.ringReadE h))) (.ringEcc (.ringReadE h)))

theorem State.tablesWf.abortJob {s : State} {j : Job} (h : s.tablesWf) : (s.abortJob j).tablesWf :=
  .ite (.putJob h) (.putJob h)

theorem State.tablesWf.startAbort {s : State} {w : Writer} (h : s.tablesWf) : (s.startAbort w).tablesWf := by
  unfold State.startAbort
  extract_lets _ _ _ _ _ t t1 _
  have ht : t.tablesWf := .foldl (.cancelQueued h) (fun _ _ ht => .abortJob ht)
  have ht1 : t1.tablesWf := .setB ht
  clear_value t1
  exact ht1

theorem Tidy.execAbortScanDone {s : State} (h : s.tablesWf) : Tidy (execAbortScanDone s) := by
  unfold Machine.execAbortScanDone
  extract_lets _ t u
  have ht : t.tablesWf := .setB h
  have hu : u.tablesWf := .raise (.pageErr (.setReg ht))
  exact .done (.ite h (.ite (.setReg ht) (by
      split
      · exact .sesErr hu
      · exact hu)))

theorem State.tablesWf.hoReport {s : State} (h : s.tablesWf) : s.hoReport.tablesWf := by
  unfold State.hoReport
  extract_lets _ _ t
  have ht : t.tablesWf := .ringEcc (.ringReadE h)
  exact .ite (.ringEcc (.ringReadE ht)) ht

theorem State.tablesWf.scrpCtrl {w : Writer} {v : Word} {s : State} (h : s.tablesWf) : (scrpCtrl w v s).result.tablesWf := by
  unfold Machine.scrpCtrl
  extract_lets t _ _ t1
  have ht : t.tablesWf := .plain h
  have ht1 : t1.tablesWf := .ite (.arm ht) ht
  exact .ite (.startAbort ht1) ht1

theorem State.tablesWf.jrHandler {w : Writer} {k : Nat} {v : Word} {s : State} (h : s.tablesWf) : (jrHandler w k v s).result.tablesWf :=
  .plain h

theorem State.tablesWf.cacheHandler {w : Writer} {v : Word} {s : State} (h : s.tablesWf) : (cacheHandler w v s).result.tablesWf :=
  .dropCache (.plain h)

theorem State.tablesWf.scrpHandler {w : Writer} {wd : Nat} {v : Word} {s : State} (h : s.tablesWf) :
    (scrpHandler w wd v s).result.tablesWf :=
  .iteResult (.scrpCtrl h) (.iteResult (.cacheHandler h) (.iteResult (.jrHandler h) (.headerHandler h)))

theorem State.tablesWf.scrpGuarded {w : Writer} {wd : Nat} {v : Word} {s : State} (h : s.tablesWf) : (scrpGuarded w wd v s).tablesWf := by
  unfold Machine.scrpGuarded
  extract_lets _ t
  have ht : t.tablesWf := .guarded (.scrpHandler h) h
  exact .ite (.hoReport ht) ht

theorem State.tablesWf.ramWrite {s : State} {w : Writer} {o : Nat} {v : Word} (h : s.tablesWf) : (s.ramWrite w o v).tablesWf :=
  .regionWrite h (fun _ ht => .dropCache ht)

/-! ### Time -/

theorem State.tablesWf.wrapped {s : State} (h : s.tablesWf) : s.wrapped.tablesWf :=
  .raise (.inc h)

theorem State.tablesWf.setNs {s : State} {n : Nat} (h : s.tablesWf) : (s.setNs n).tablesWf :=
  h

theorem State.tablesWf.settlePols {s : State} (h : s.tablesWf) : s.settlePols.tablesWf :=
  h

theorem State.tablesWf.reach {s : State} {t : Nat} (h : s.tablesWf) : (s.reach t).tablesWf :=
  .ite h (.ite (.settlePols (.setNs h)) (.settlePols (.wrapped (.setNs h))))

theorem State.tablesWf.reachX {s : State} {t : Nat} (h : s.tablesWf) : (s.reachX t).tablesWf :=
  .ite (.reach h) h

theorem State.tablesWf.timeCtrl {w : Writer} {v : Word} {s : State} (h : s.tablesWf) : (timeCtrl w v s).result.tablesWf := by
  unfold Machine.timeCtrl
  extract_lets t t1 t2 b _ t3 t4
  have ht1 : t1.tablesWf := .ite (.setRegs (.plain h)) (.plain h)
  have ht2 : t2.tablesWf := .ite (.setB ht1) ht1
  have ht3 : t3.tablesWf := .ite (.withTime (.setB ht2)) ht2
  have ht4 : t4.tablesWf := .ite (.setB ht3) ht3
  exact .ite (.setB ht4) ht4

theorem State.tablesWf.timeHandler {w : Writer} {wd : Nat} {v : Word} {s : State} (h : s.tablesWf) :
    (timeHandler w wd v s).result.tablesWf := by
  unfold Machine.timeHandler
  extract_lets t _ _ _
  have ht : t.tablesWf := .plain h
  clear_value t
  exact .iteResult (.timeCtrl h) (.iteResult ht (.iteResult ht (.iteResult ht (.headerHandler h))))

theorem State.tablesWf.applyMap {s : State} (h : s.tablesWf) : s.applyMap.tablesWf := by
  unfold State.applyMap
  extract_lets _ _ _ t t1 t2 _
  have ht : t.tablesWf := .setReg (.setRegs h)
  have ht1 : t1.tablesWf := .setRegs (.setReg ht)
  have ht2 : t2.tablesWf := .raise (.setB (.setB ht1))
  clear_value t2
  exact ht2

theorem Tidy.execRxtRebuild {s : State} (h : s.tablesWf) : Tidy (execRxtRebuild s) := by
  unfold Machine.execRxtRebuild
  extract_lets _ _ t t1 t2 _
  have ht : t.tablesWf := .setReg2 (.setReg h)
  have ht1 : t1.tablesWf := .setReg2 (.setReg2 ht)
  have ht2 : t2.tablesWf := .raise (.setB (.setB (.setB ht1)))
  clear_value t2
  exact .done (.ite ht2 h)

/-! ### Measure -/

theorem State.tablesWf.startLatch {s : State} {src evin t : Nat} (h : s.tablesWf) : (s.startLatch src evin t).tablesWf := by
  unfold State.startLatch
  extract_lets _ _ t1 _
  have ht1 : t1.tablesWf := .setB (.setB (.fresh h))
  clear_value t1
  exact ht1

theorem State.tablesWf.skipLatch {s : State} (h : s.tablesWf) : s.skipLatch.tablesWf :=
  .raise (.incSat h)

theorem State.tablesWf.trigger {s : State} {src evin t : Nat} (h : s.tablesWf) : (s.trigger src evin t).tablesWf :=
  .ite (.startLatch h) (.skipLatch h)

theorem State.tablesWf.measCtrl {w : Writer} {v : Word} {s : State} (h : s.tablesWf) : (measCtrl w v s).result.tablesWf := by
  unfold Machine.measCtrl
  extract_lets t _ t1
  have ht : t.tablesWf := .plain h
  clear_value t
  have ht1 : t1.tablesWf := .ite ht ht
  exact .ite (.trigger ht1) ht1

theorem State.tablesWf.measHandler {w : Writer} {wd : Nat} {v : Word} {s : State} (h : s.tablesWf) :
    (measHandler w wd v s).result.tablesWf :=
  .iteResult (.measCtrl h) (.iteResult (.plain h) (.headerHandler h))

theorem State.tablesWf.takeEpoch {s : State} (h : s.tablesWf) : s.takeEpoch.tablesWf :=
  .trigger (.withMeas (.reachX h))

theorem State.tablesWf.legacyLatch {s : State} (h : s.tablesWf) : s.legacyLatch.tablesWf :=
  .setB (.inc (.setRegs (.foldl h (fun _ _ ht => .setReg (.setReg ht)))))

theorem Tidy.execLatchCommit {s : State} (h : s.tablesWf) : Tidy (execLatchCommit s) := by
  unfold Machine.execLatchCommit
  extract_lets _ _
  exact .done (by
      split
      · exact h
      · extract_lets _ t t1 t2
        have ht : t.tablesWf := .setB (.setReg (.memReadN h))
        clear_value t
        have ht1 : t1.tablesWf := ht
        have ht2 : t2.tablesWf := .ite (.raise (.setRegs ht1)) (.ite (.raise (.setRegs (.ringPut ht1))) (.raise (.incSat (.ite ht1
            (.unitFails ht1)))))
        exact .ite (.legacyLatch ht2) ht2)

/-! ### Pulse -/

theorem State.tablesWf.setTp {s : State} {n : Nat} {x : TpSt} (h : s.tablesWf) : (s.setTp n x).tablesWf :=
  h

theorem State.tablesWf.applyTp {s : State} {n : Nat} {x : TpSet} (h : s.tablesWf) : (s.applyTp n x).tablesWf :=
  .setTp (.setB h)

theorem State.tablesWf.noteTab {s : State} {n : Nat} (h : s.tablesWf) : (s.noteTab n).tablesWf :=
  .ite h (.setTp h)

theorem State.tablesWf.tpCtrl {w : Writer} {v : Word} {s : State} (h : s.tablesWf) : (tpCtrl w v s).result.tablesWf :=
  .ite (.setB (.foldl (.plain h) fun _ _ ht => .applyTp ht)) (.foldl (.plain h) fun _ _ ht => .applyTp ht)

theorem State.tablesWf.tpHandler {w : Writer} {wd : Nat} {v : Word} {s : State} (h : s.tablesWf) : (tpHandler w wd v s).result.tablesWf :=
  .iteResult (.tpCtrl h) (.iteResult (.plain (.ite (.noteTab h) h)) (.headerHandler h))

theorem State.tablesWf.takeTp {s : State} {n : Nat} {c : TpSet} (h : s.tablesWf) : (s.takeTp n c).tablesWf :=
  .ite (.setTp h) (by
    split
    · exact .ite (.setTp h) (.setTp h)
    · exact .setTp h)

theorem State.tablesWf.tpTakes {s : State} {n : Nat} (h : s.tablesWf) : (s.tpTakes n).tablesWf := by
  unfold State.tpTakes
  extract_lets t
  have ht : t.tablesWf := .setB (.reachX h)
  exact .takeTp ht

theorem State.tablesWf.reachExt {s : State} {tick : Int} (h : s.tablesWf) : (s.reachExt tick).tablesWf :=
  .reachX h

theorem State.tablesWf.beforeEdge {s : State} {n fuel : Nat} (h : s.tablesWf) : (s.beforeEdge n fuel).tablesWf := by
  induction fuel generalizing s with
  | zero => exact h
  | succ fuel ih =>
    refine .ite h ?_
    split
    · exact h
    · exact .ite (ih (.applyMap (.reachX h))) (.ite (ih (.tpTakes h)) h)

theorem State.tablesWf.activeEdge {s : State} {n : Nat} {g : Rat} (h : s.tablesWf) : (s.activeEdge n g).tablesWf := by
  unfold State.activeEdge
  extract_lets _ _ t _ _ _ t1
  have ht : t.tablesWf := .reachExt h
  have ht1 : t1.tablesWf := .ite (.setB ht) ht
  exact .ite (.setTp ht) (.ite (.raise (.incSat (.setTp ht))) (.raise (.setRegs (.setB (.setTp ht1)))))

theorem Tidy.execTpActiveEdge {n : Fin 4} {s : State} (h : s.tablesWf) : Tidy (execTpActiveEdge n s) := by
  unfold Machine.execTpActiveEdge
  extract_lets s1
  have hs1 : s1.tablesWf := .beforeEdge h
  exact .done (.ite h (.ite hs1 (by
      split
      · exact hs1
      · exact .activeEdge hs1)))

theorem Tidy.execTpInactiveEdge {n : Fin 4} {s : State} (h : s.tablesWf) : Tidy (execTpInactiveEdge n s) :=
  .done (by
    split
    · exact h
    · extract_lets _ t _
      have ht : t.tablesWf := .reachExt h
      exact .setB (.setTp ht))

theorem Tidy.execHairlineCalDone {taps : List (BitVec 13)} {s : State} (h : s.tablesWf) : Tidy (execHairlineCalDone taps s) :=
  .done (.ite (.raise (.setB (.foldl (.foldl h (fun _ _ ht => .noteTab ht)) (fun _ _ ht => by
    split
    · exact .setReg ht
    · exact ht)))) h)

theorem State.tablesWf.evtHandler {w : Writer} {wd : Nat} {v : Word} {s : State} (h : s.tablesWf) :
    (evtHandler w wd v s).result.tablesWf :=
  .iteResult (.plain h) (.headerHandler h)

theorem State.tablesWf.setFifo {s : State} {l : List EvEntry} {lost : Bool} (h : s.tablesWf) : (s.setFifo l lost).tablesWf := by
  unfold State.setFifo
  extract_lets t _
  have ht : t.tablesWf := .setReg h
  clear_value t
  exact ht

theorem Tidy.execEventEdge {n : Fin 8} {rising : Bool} {tap : Fin 40} {s : State} (h : s.tablesWf) :
    Tidy (execEventEdge n rising tap s) := by
  unfold Machine.execEventEdge
  extract_lets _ _ _ u u1
  have hu : u.tablesWf := .raise (.setRegs (.setReg h))
  have hu1 : u1.tablesWf := .ite (.setFifo (.raise (.incSat hu))) (.setFifo hu)
  exact .done (.ite (.ite (.trigger hu1) hu1) h)

theorem Tidy.execEventFifoMove {s : State} (h : s.tablesWf) : Tidy (execEventFifoMove s) :=
  .done (by
    split
    · exact h
    · exact .ite (.ite (.setFifo (.ringPut h)) (.unitFails h)) h)

/-! ### Blotter -/

theorem Tidy.execEccWriteback {s : State} (h : s.tablesWf) : Tidy (execEccWriteback s) := by
  unfold Machine.execEccWriteback
  extract_lets _
  exact .done (by
      split
      · exact h
      · extract_lets t
        have ht : t.tablesWf := h
        exact .ite (.incSat ht) ht)

theorem State.tablesWf.quireTimedOut {s : State} {q : QReq} {o : Nat} (h : s.tablesWf) : (s.quireTimedOut q o).tablesWf := by
  unfold State.quireTimedOut
  split
  · exact .chanFault h
  · exact .coreErr h
  · exact .sesErr (by
      split
      · exact .ite h h
      · exact h)
  · exact h

theorem Tidy.execQuireAccessTimeout {q : QReq} {o : BitVec 15} {s : State} (h : s.tablesWf) : Tidy (execQuireAccessTimeout q o s) := by
  unfold Machine.execQuireAccessTimeout
  extract_lets t t1
  have ht : t.tablesWf := .raise (.incSat h)
  have ht1 : t1.tablesWf := .ite ht (.setReg (.setReg ht))
  exact .done (.quireTimedOut ht1)

theorem State.tablesWf.quireHandler {w : Writer} {wd : Nat} {v : Word} {s : State} (h : s.tablesWf) :
    (quireHandler w wd v s).result.tablesWf :=
  .iteResult (.ite (.setReg (.setReg h)) h) (.headerHandler h)

theorem State.tablesWf.newSweep {s : State} (h : s.tablesWf) : s.newSweep.tablesWf :=
  h

theorem State.tablesWf.endSweep {s : State} (h : s.tablesWf) : s.endSweep.tablesWf := by
  unfold State.endSweep
  split
  · exact h
  · exact .newSweep (.raise (.inc h))

theorem Tidy.execBlotterBorrow {s : State} (h : s.tablesWf) : Tidy (execBlotterBorrow s) :=
  .done (.ite h (by
    split
    · exact .endSweep h
    · extract_lets _ t t1 _ _ _
      have ht : t.tablesWf := .memReadN h
      have ht1 : t1.tablesWf := .setB (.setReg2 (.setReg ht))
      clear_value t1
      exact ht1))

theorem State.tablesWf.restoreRegion {s : State} {m r : Nat} (h : s.tablesWf) : (s.restoreRegion m r).tablesWf := by
  unfold State.restoreRegion
  extract_lets _ _ t _
  have ht : t.tablesWf := .setB h
  clear_value t
  exact ht

theorem State.tablesWf.failingCell {s : State} {key : Nat} (h : s.tablesWf) : (s.failingCell key).tablesWf :=
  .ite h (.ite h ⟨h.1, Store.wf_put key _ h.2⟩)

theorem State.tablesWf.marchFail {s : State} {m r : Nat} {f : MarchFail} (h : s.tablesWf) : (s.marchFail m r f).tablesWf := by
  unfold State.marchFail
  extract_lets _ t
  have ht : t.tablesWf := .raise (.failingCell h)
  exact .ite ht (.setReg (.setReg (.setReg2 (.setReg ht))))

theorem Tidy.execBlotterBorrowDone {fail : Option MarchFail} {s : State} (h : s.tablesWf) : Tidy (execBlotterBorrowDone fail s) :=
  .done (by
    split
    · exact h
    · exact .ite h (by
    extract_lets t
    have ht : t.tablesWf := .restoreRegion h
    exact .endSweep (by
    split
    · exact .marchFail ht
    · exact ht)))

theorem Tidy.execBlotterRestoreDone {s : State} (h : s.tablesWf) : Tidy (execBlotterRestoreDone s) :=
  .done (by
    split
    · exact h
    · exact .ite h (by
    extract_lets t
    have ht : t.tablesWf := .raise (.incSat (.restoreRegion h))
    exact .ite (.endSweep (.incSat ht)) ht))

theorem State.tablesWf.blotCtrl {w : Writer} {v : Word} {s : State} (h : s.tablesWf) : (blotCtrl w v s).result.tablesWf := by
  unfold Machine.blotCtrl
  extract_lets t
  have ht : t.tablesWf := .plain h
  exact .ite (.newSweep (.abortBorrow ht)) (.ite ht (.abortBorrow ht))

theorem State.tablesWf.xctlHandler {w : Writer} {v : Word} {s : State} (h : s.tablesWf) : (xctlHandler w v s).result.tablesWf := by
  unfold Machine.xctlHandler
  extract_lets _ _ _ _ t _
  have ht : t.tablesWf := .plain h
  clear_value t
  exact .ite (.abortRange ht) ht

theorem State.tablesWf.zeroRegs {s : State} {key n : Nat} (h : s.tablesWf) : (s.zeroRegs key n).tablesWf :=
  .setRegs h

theorem State.tablesWf.blotHandler {w : Writer} {wd : Nat} {v : Word} {s : State} (h : s.tablesWf) :
    (blotHandler w wd v s).result.tablesWf :=
  .iteResult (.blotCtrl h) (.iteResult (.ite (.zeroRegs h) h) (.iteResult (.xctlHandler h) (.iteResult (.ite (.zeroRegs h) h)
      (.headerHandler h))))

theorem State.tablesWf.retnHandler {w : Writer} {wd : Nat} {v : Word} {s : State} (h : s.tablesWf) :
    (retnHandler w wd v s).result.tablesWf :=
  .headerHandler h

theorem State.tablesWf.forget {s : State} {key n : Nat} (h : s.tablesWf) : (s.forget key n).tablesWf :=
  h.filterMem _

theorem State.tablesWf.clearEntries {s : State} {c : Nat} (h : s.tablesWf) : (s.clearEntries c).tablesWf :=
  .zeroRegs h

theorem State.tablesWf.forgetBank {s : State} {b : Nat} (h : s.tablesWf) : (s.forgetBank b).tablesWf := by
  unfold State.forgetBank
  extract_lets t
  have ht : t.tablesWf := .forget h
  exact .ite (.clearEntries (.forget ht)) ht

theorem State.tablesWf.bankOff {s : State} {b : Nat} (h : s.tablesWf) : (s.bankOff b).tablesWf := by
  unfold State.bankOff
  extract_lets _ _ t _ t1
  have ht : t.tablesWf := .ite (.setReg2 h) h
  clear_value t
  have ht1 : t1.tablesWf := ht
  exact .ite ht1 (.forgetBank ht1)

theorem State.tablesWf.bankOn {s : State} {b : Nat} (h : s.tablesWf) : (s.bankOn b).tablesWf := by
  unfold State.bankOn
  extract_lets _ _ _ t t1 _
  have ht : t.tablesWf := .setRetnBit (.setRetnBit h)
  have ht1 : t1.tablesWf := .ite (.raise (.setRetnBit ht)) ht
  clear_value t1
  exact ht1

theorem State.tablesWf.memOff {s : State} {d : Nat} (h : s.tablesWf) : (s.memOff d).tablesWf := by
  unfold State.memOff
  extract_lets _ _ t t1 t2
  have ht : t.tablesWf := h
  have ht1 : t1.tablesWf := by
    unfold t1
    split
    · exact .ite (.incSat (.raise (.incSat (.restoreRegion (.abortBorrow ht))))) ht
    · exact ht
  have ht2 : t2.tablesWf := .foldl ht1 (fun _ _ ht2 => .bankOff ht2)
  exact .ite (.forget ht2) (.ite (.forget ht2) ht2)

theorem State.tablesWf.memOn {s : State} {d : Nat} (h : s.tablesWf) : (s.memOn d).tablesWf :=
  .foldl h (fun _ _ ht => .bankOn ht)

/-! ### Flash -/

theorem State.tablesWf.flashWrite {s : State} {a : Nat} {l : List Byte} (h : s.tablesWf) : (s.flashWrite a l).tablesWf := by
  induction l generalizing s a with
  | nil => exact h
  | cons b l ih => exact ih (s := { s with upd := { s.upd with flash := s.upd.flash.put a b } }) h

theorem State.tablesWf.freeBytes {s : State} {n : Nat} (h : s.tablesWf) : (s.freeBytes n).2.tablesWf := by
  induction n generalizing s with
  | zero => exact h
  | succ n ih => exact ih (s := s.free.2) h

theorem State.tablesWf.flashBroken {s : State} {a n : Nat} (h : s.tablesWf) : (s.flashBroken a n).tablesWf :=
  .flashWrite (.freeBytes h)

theorem State.tablesWf.showRec {s : State} (h : s.tablesWf) : s.showRec.tablesWf :=
  .setF (.setReg (.setReg h))

theorem State.tablesWf.writeRec {s : State} {r : Rec} (h : s.tablesWf) : (s.writeRec r).tablesWf :=
  .showRec (.flashWrite h)

theorem State.tablesWf.writeSet {s : State} {classN : Bool} {lver : Nat} {payload : List Byte} (h : s.tablesWf) :
    (s.writeSet classN lver payload).tablesWf :=
  .flashWrite h

theorem State.tablesWf.brokenCopy {s : State} {a n : Nat} {valid : State → Bool} (h : s.tablesWf) :
    (s.brokenCopy a n valid).tablesWf := by
  unfold State.brokenCopy
  extract_lets t
  have ht : t.tablesWf := .flashBroken h
  exact .ite (.flashWrite ht) ht

theorem State.tablesWf.failRec {s : State} (h : s.tablesWf) : s.failRec.tablesWf :=
  .pageErr (.brokenCopy h)

theorem State.tablesWf.tryRec {s : State} {ok : Bool} {r : Rec} (h : s.tablesWf) : (s.tryRec ok r).tablesWf :=
  .ite (.writeRec h) (.failRec h)

theorem State.tablesWf.trySet {s : State} {ok classN : Bool} {lver : Nat} {payload : List Byte} (h : s.tablesWf) :
    (s.trySet ok classN lver payload).tablesWf :=
  .ite (.writeSet h) (.pageErr (.brokenCopy h))

theorem State.tablesWf.breakOp {s : State} (h : s.tablesWf) : s.breakOp.tablesWf := by
  unfold State.breakOp
  split
  · exact .flashBroken h
  · exact .brokenCopy h
  · exact .brokenCopy h
  · exact .brokenCopy h
  · exact .brokenCopy h
  · exact h

theorem State.tablesWf.cutOp {s : State} (h : s.tablesWf) : s.cutOp.tablesWf :=
  .ite (.writeRec (.free h)) (.ite (.writeRec (.free h)) (.breakOp (.free h)))

theorem State.tablesWf.ramBytes {s : State} {key n : Nat} (h : s.tablesWf) : (s.ramBytes key n).2.tablesWf :=
  .memReadN h

theorem State.tablesWf.blow {s : State} {r : Nat} {bits : BitVec 16} (h : s.tablesWf) : (s.blow r bits).tablesWf :=
  h

theorem State.tablesWf.breakOtp {s : State} (h : s.tablesWf) : s.breakOtp.tablesWf := by
  unfold State.breakOtp
  split
  · exact .blow (.free h)
  · exact h

/-! ### Ring -/

theorem State.tablesWf.latchRing {s : State} {r : Nat} (h : s.tablesWf) : (s.latchRing r).tablesWf := by
  unfold State.latchRing
  split
  · exact .ite h h
  · exact h

theorem State.tablesWf.ringChanged {s : State} {r : Nat} (h : s.tablesWf) : (s.ringChanged r).tablesWf :=
  .foldl (.latchRing (.ite h (.foldl h (fun _ _ ht => .chanFault ht)))) (fun _ _ ht => .ite (.pageErr (.setB ht)) ht)

theorem State.tablesWf.rcfgHandler {w : Writer} {r : Nat} {v : Word} {s : State} (h : s.tablesWf) :
    (rcfgHandler w r v s).result.tablesWf := by
  unfold Machine.rcfgHandler
  extract_lets _ _ _ _ _ t
  have ht : t.tablesWf := .plain h
  exact .ringChanged (.ite (.setReg (.setReg ht)) ht)

theorem State.tablesWf.indexHandler {w : Writer} {r : Nat} {prod : Bool} {v : Word} {s : State} (h : s.tablesWf) :
    (indexHandler w r prod v s).result.tablesWf :=
  .flowRing (.setReg h)

theorem State.tablesWf.ringWordHandler {w : Writer} {r k : Nat} {v : Word} {s : State} (h : s.tablesWf) :
    (ringWordHandler w r k v s).result.tablesWf := by
  unfold Machine.ringWordHandler
  extract_lets t
  have ht : t.tablesWf := .plain h
  exact .iteResult (.rcfgHandler h) (.iteResult ht (.iteResult (.indexHandler h) (.iteResult (.indexHandler h) (.iteResult ht ht))))

theorem State.tablesWf.ringHandler {w : Writer} {i wd : Nat} {v : Word} {s : State} (h : s.tablesWf) :
    (ringHandler w i wd v s).result.tablesWf :=
  .iteResult (.ringWordHandler h) (.headerHandler h)

theorem State.tablesWf.ringGuarded {w : Writer} {i wd : Nat} {v : Word} {s : State} (h : s.tablesWf) :
    (ringGuarded w i wd v s).tablesWf := by
  unfold Machine.ringGuarded
  extract_lets _ t _
  have ht : t.tablesWf := .guarded (.ringHandler h) h
  exact .ite (.setB ht) ht

theorem State.tablesWf.loadTimer {s : State} {k : Nat} (h : s.tablesWf) : (s.loadTimer k).tablesWf :=
  h

theorem State.tablesWf.evcHandler {w : Writer} {wd : Nat} {v : Word} {s : State} (h : s.tablesWf) :
    (evcHandler w wd v s).result.tablesWf := by
  unfold Machine.evcHandler
  extract_lets t
  have ht : t.tablesWf := .plain h
  exact .iteResult (.setReg h) (.iteResult (.ite (.loadTimer ht) ht) (.iteResult ht (.headerHandler h)))

theorem Tidy.execTimerExpiry {k : Fin 6} {s : State} (h : s.tablesWf) : Tidy (execTimerExpiry k s) := by
  unfold Machine.execTimerExpiry
  extract_lets _ t
  have ht : t.tablesWf := .setB h
  exact .done (.ite (.ite (.loadTimer ht) (.setB ht)) h)

theorem State.tablesWf.setSes {s : State} {q : Nat} {x : Ses} (h : s.tablesWf) : (s.setSes q x).tablesWf :=
  h

theorem Tidy.execEventRecordWrite {s : State} (h : s.tablesWf) : Tidy (execEventRecordWrite s) := by
  unfold Machine.execEventRecordWrite
  extract_lets _
  exact .done (by
      split
      · exact h
      · extract_lets _ _ t s1 _
        have ht : t.tablesWf := .setReg h
        clear_value t
        have hs1 : s1.tablesWf := ht
        exact .ite (.setSes (.ringPut hs1)) (.setSes (.incSat hs1)))

theorem State.tablesWf.endSession {s : State} {q : Nat} (h : s.tablesWf) : (s.endSession q).tablesWf :=
  .raise (.setSes (by
    split
    · exact .sesErr h
    · exact h))

theorem State.tablesWf.sctlSesHandler {w : Writer} {q : Nat} {v : Word} {s : State} (h : s.tablesWf) :
    (sctlSesHandler w q v s).result.tablesWf := by
  unfold Machine.sctlSesHandler
  extract_lets _ t
  have ht : t.tablesWf := .plain h
  exact .iteResult (.plain h) (.ite (.endSession ht) ht)

theorem State.tablesWf.clearErrw {s : State} {q : Nat} {v : Word} (h : s.tablesWf) : (s.clearErrw q v).tablesWf :=
  .ite (.setReg (.setReg (.setReg h))) (.setReg h)

theorem State.tablesWf.sesBlockHandler {w : Writer} {q k : Nat} {v : Word} {s : State} (h : s.tablesWf) :
    (sesBlockHandler w q k v s).result.tablesWf := by
  unfold Machine.sesBlockHandler
  extract_lets t _ _
  have ht : t.tablesWf := .plain h
  exact .iteResult (.sctlSesHandler h) (.iteResult ht (.iteResult (.clearErrw h) (.iteResult (.setReg h) (.iteResult ht (.iteResult
      (.ite (.setSes ht) ht) (.iteResult h ht))))))

theorem State.tablesWf.sesHandler {w : Writer} {wd : Nat} {v : Word} {s : State} (h : s.tablesWf) :
    (sesHandler w wd v s).result.tablesWf :=
  .iteResult (.sesBlockHandler h) (.iteResult (.plain h) (.headerHandler h))

theorem State.tablesWf.offer {s : State} {rec : List Word} {q : Nat} (h : s.tablesWf) : (s.offer rec q).tablesWf := by
  unfold State.offer
  extract_lets _ _ t _ _
  have ht : t.tablesWf := .setSes h
  exact .ite h (.ite ht (.ite (.setSes (.ringPut ht)) (.setSes (.raise (.incSat ht)))))

/-! ### Serial -/

theorem State.tablesWf.setSer {s : State} {n : Nat} {x : Ser} (h : s.tablesWf) : (s.setSer n x).tablesWf :=
  .setB (.setB (.setB h))

theorem State.tablesWf.pendSetting {s : State} {n : Nat} (h : s.tablesWf) : (s.pendSetting n).tablesWf :=
  .setSer h

theorem State.tablesWf.sendResp {s : State} {n : Nat} (h : s.tablesWf) : (s.sendResp n).tablesWf :=
  .ite h (.setSes h)

theorem State.tablesWf.serCtrl {w : Writer} {n : Nat} {v : Word} {s : State} (h : s.tablesWf) : (serCtrl w n v s).result.tablesWf := by
  unfold Machine.serCtrl
  extract_lets t _ _ _ _ _ u
  have ht : t.tablesWf := .plain h
  have hu : u.tablesWf := .ite (.flowEval (.setSer ht)) (.setSer ht)
  exact .sendResp hu

theorem State.tablesWf.serCfg {w : Writer} {n : Nat} {v : Word} {s : State} (h : s.tablesWf) : (serCfg w n v s).result.tablesWf :=
  .pendSetting (.plain h)

theorem State.tablesWf.serBaudf {w : Writer} {n : Nat} {v : Word} {s : State} (h : s.tablesWf) : (serBaudf w n v s).result.tablesWf := by
  unfold Machine.serBaudf
  extract_lets _ t _
  have ht : t.tablesWf := .plain h
  exact .pendSetting (.setSer ht)

theorem State.tablesWf.serDrn {w : Writer} {n : Nat} {v : Word} {s : State} (h : s.tablesWf) : (serDrn w n v s).result.tablesWf :=
  .flowEval (.plain h)

theorem State.tablesWf.serFlow {w : Writer} {n : Nat} {v : Word} {s : State} (h : s.tablesWf) : (serFlow w n v s).result.tablesWf := by
  unfold Machine.serFlow
  extract_lets t t1 _
  have ht : t.tablesWf := .plain h
  have ht1 : t1.tablesWf := .ite ht (.sendResp (.setB ht))
  exact .ite (.flowEval ht1) (.ite (.setSer ht1) ht1)

theorem State.tablesWf.serWord {w : Writer} {n wd : Nat} {v : Word} {s : State} (h : s.tablesWf) :
    (serWord w n wd v s).result.tablesWf := by
  unfold Machine.serWord
  extract_lets t _ _ _
  have ht : t.tablesWf := .plain h
  exact .iteResult (.serCtrl h) (.iteResult (.serCfg h) (.iteResult (.serBaudf h) (.iteResult (.setSer h) (.iteResult (.serDrn h)
      (.iteResult (.serFlow h) (.iteResult (.flowEval ht) (.iteResult h (.iteResult ht (.headerHandler h)))))))))

theorem State.tablesWf.serHandler {w : Writer} {n wd : Nat} {v : Word} {s : State} (h : s.tablesWf) :
    (serHandler w n wd v s).result.tablesWf :=
  .iteResult (.serWord h) (.serWord h)

theorem State.tablesWf.takeRx {s : State} {n : Nat} (h : s.tablesWf) : (s.takeRx n).tablesWf :=
  .setSer h

theorem State.tablesWf.startRx {s : State} {n : Nat} (h : s.tablesWf) : (s.startRx n).tablesWf :=
  .ite h (.ite (.ite (.setSer (.free h)) (.takeRx (.free h))) (.takeRx h))

theorem State.tablesWf.fastTakes {s : State} {n : Nat} (h : s.tablesWf) : (s.fastTakes n).tablesWf :=
  .setSer h

theorem State.tablesWf.uartEvent {s : State} {n : Nat} (h : s.tablesWf) : (s.uartEvent n).tablesWf :=
  .ite (.setB h) h

theorem State.tablesWf.storeChar {s : State} {n : Nat} {h : Word} (hs : s.tablesWf) : (s.storeChar n h).tablesWf := by
  unfold State.storeChar
  extract_lets t t1 _ t2 t3
  have ht : t.tablesWf := .raise (.inc hs)
  have ht1 : t1.tablesWf := .ite (.raise (.incSat ht)) ht
  have ht2 : t2.tablesWf := .ite (.raise (.incSat ht1)) ht1
  have ht3 : t3.tablesWf := .setB (.setReg ht2)
  exact .ite ht1 (.ite ht3 (.uartEvent ht3))

theorem State.tablesWf.receive {s : State} {n : Nat} {h : Word} (hs : s.tablesWf) : (s.receive n h).tablesWf :=
  .ite (.setB hs) (.ite (.sendResp (.setB hs)) (.storeChar hs))

theorem State.tablesWf.rxChar {s : State} {n data : Nat} {par : Word → Bool} {stop : Bool} (h : s.tablesWf) :
    (s.rxChar n data par stop).tablesWf := by
  unfold State.rxChar
  extract_lets _ t _ _
  have ht : t.tablesWf := .startRx h
  exact .ite h (by
      split
      · exact .receive (.setB (.setSer h))
      · exact .ite h (.receive (.setB (.fastTakes ht))))

theorem Tidy.execSerBreak {n : Fin 4} {s : State} (h : s.tablesWf) : Tidy (execSerBreak n s) := by
  unfold Machine.execSerBreak
  extract_lets t _ u
  have ht : t.tablesWf := .startRx h
  have hu : u.tablesWf := .setB (.fastTakes ht)
  exact .done (.ite h (.storeChar (.raise (.incSat hu))))

theorem State.tablesWf.flowReceived {s : State} {n d : Nat} (h : s.tablesWf) : (s.flowReceived n d).tablesWf :=
  .rxChar h

theorem State.tablesWf.beginTx {s : State} {n : Nat} {x : Ser} {c : BitVec 9} (h : s.tablesWf) : (s.beginTx n x c).tablesWf :=
  .setSer h

theorem Tidy.execSerTxStart {n : Fin 4} {s : State} (h : s.tablesWf) : Tidy (execSerTxStart n s) :=
  .done (by
    split
    · exact .ite (.uartEvent (.raise (.beginTx h))) h
    · exact h)

theorem Tidy.execSerTxCharacterDone {n : Fin 4} {s : State} (h : s.tablesWf) : Tidy (execSerTxCharacterDone n s) := by
  unfold Machine.execSerTxCharacterDone
  extract_lets _ _ t
  have ht : t.tablesWf := .setSer h
  exact .done (.ite (.ite (.raise ht) ht) h)

theorem Tidy.execSerFlowCharacterSend {n : Fin 4} {s : State} (h : s.tablesWf) : Tidy (execSerFlowCharacterSend n s) :=
  .done (by
    split
    · exact .ite (.flowEval (.setB (.beginTx h))) h
    · exact h)

theorem State.tablesWf.drainMove {s : State} {n : Nat} (h : s.tablesWf) : (s.drainMove n).tablesWf :=
  .ite (.ite (.unitFails h) (.ite (.flowRing (.setB (.setB (.setReg (.ringPut h))))) (.ite h (.raise (.setB h))))) h

theorem State.tablesWf.latchWake {s : State} {b : Nat} (h : s.tablesWf) : (s.latchWake b).tablesWf := by
  unfold State.latchWake
  extract_lets _ t t1 _ _
  have ht : t.tablesWf := .setB h
  have ht1 : t1.tablesWf := .ite (.setF ht) ht
  clear_value t1
  exact ht1

theorem State.tablesWf.handOver {s : State} {u : Nat} (h : s.tablesWf) : (s.handOver u).tablesWf := by
  unfold State.handOver
  extract_lets _ t _
  have ht : t.tablesWf := .ite (.raise (.incSat h)) h
  split
  · exact .raise (.setB (.setReg (.setSer ht)))
  · exact h

theorem State.tablesWf.slowKeep {s : State} {u : Nat} {h : Word} (hs : s.tablesWf) : (s.slowKeep u h).tablesWf := by
  unfold State.slowKeep
  extract_lets _ t
  have ht : t.tablesWf := .setSer hs
  exact .ite (.handOver ht) ht

theorem Tidy.execSlowRxCharacter {u : Fin 2} {data : BitVec 9} {par stop : Bool} {s : State} (h : s.tablesWf) :
    Tidy (execSlowRxCharacter u data par stop s) :=
  .done (.ite h (.ite (.slowKeep (.setF h)) (by
    split
    · exact .latchWake (.slowKeep (.setReg h))
    · exact h)))

theorem State.tablesWf.slowWoken {s : State} (h : s.tablesWf) : s.slowWoken.tablesWf :=
  .foldl h (fun _ _ ht => .ite ht (.setB ht))

/-! ### Frame -/

theorem State.tablesWf.park {s : State} {c : Nat} (h : s.tablesWf) : (s.park c).tablesWf := by
  unfold State.park
  extract_lets s1 t t1 _
  have hs1 : s1.tablesWf := by
    unfold s1
    split
    · exact .loadRun h
    · exact h
  have ht : t.tablesWf := .moveTo (.freeSlots (.discard hs1))
  have ht1 : t1.tablesWf := .ite ht (.setB ht)
  exact .retargetNow (.setChan ht1)

theorem State.tablesWf.drainRank {s : State} {r : Nat} (h : s.tablesWf) : (s.drainRank r).tablesWf :=
  .ite h (.raise (.raise (.setReg (.setReg (.setRstate (.foldl h (fun _ _ ht => .park ht)))))))

theorem State.tablesWf.drainRanks {s : State} (h : s.tablesWf) : s.drainRanks.tablesWf :=
  .foldl h (fun _ _ ht => .drainRank ht)

theorem State.tablesWf.disables {s : State} (h : s.tablesWf) : s.disables.tablesWf :=
  .foldl h (fun _ _ ht => .chanOff ht)

theorem State.tablesWf.releaseFaults {s : State} (h : s.tablesWf) : s.releaseFaults.tablesWf :=
  h

theorem State.tablesWf.switchTables {s : State} (h : s.tablesWf) : s.switchTables.tablesWf :=
  h

theorem State.tablesWf.beginRun {s : State} {c : Nat} {load : Nat × Option PhaseSet} (h : s.tablesWf) : (s.beginRun c load).tablesWf :=
  .moveTo (.setChan h)

theorem State.tablesWf.resumeChan {s : State} {c : Nat} (h : s.tablesWf) : (s.resumeChan c).tablesWf :=
  .ite h (.ite (.setChan (.pageErr (.setB h))) (.beginRun h))

theorem State.tablesWf.phaseBoundary {s : State} {c : Nat} (h : s.tablesWf) : (s.phaseBoundary c).tablesWf := by
  unfold State.phaseBoundary
  extract_lets _ u
  have hu : u.tablesWf := .setChan (.setB h)
  split
  · exact .ite h (.ite (.pageErr hu) (.beginRun (.setRegs (.setB hu))))
  · exact h

theorem State.tablesWf.startRuns {s : State} (h : s.tablesWf) : s.startRuns.tablesWf :=
  .foldl (.foldl h (fun _ _ ht => .resumeChan ht)) (fun _ _ ht => .phaseBoundary ht)

theorem State.tablesWf.switchWindow {s : State} (h : s.tablesWf) : s.switchWindow.tablesWf :=
  .ite (.setB (.setReg h)) h

theorem State.tablesWf.readmit {s : State} (h : s.tablesWf) : s.readmit.tablesWf :=
  .ite h (.foldl h (fun _ _ ht => .request ht))

theorem State.tablesWf.enableRank {s : State} {r : Nat} (h : s.tablesWf) : (s.enableRank r).tablesWf := by
  unfold State.enableRank
  extract_lets t
  have ht : t.tablesWf := .raise (.setRstate h)
  exact .ite (.ite (.readmit ht) ht) h

theorem State.tablesWf.enableRanks {s : State} (h : s.tablesWf) : s.enableRanks.tablesWf :=
  .foldl h (fun _ _ ht => .enableRank ht)

theorem State.tablesWf.frameOpen {s : State} {stamps : List (BitVec 64)} (h : s.tablesWf) : (s.frameOpen stamps).tablesWf := by
  unfold State.frameOpen
  extract_lets t t1 t2 t3 _
  have ht : t.tablesWf := .switchWindow (.setB (.inc h))
  have ht1 : t1.tablesWf := .foldl ht (fun _ _ ht1 => .feedFrame ht1)
  have ht2 : t2.tablesWf := .foldl ht1 (fun _ _ ht2 => .streamFrame ht2)
  have ht3 : t3.tablesWf := .captureAll ht2
  clear_value t3
  exact ht3

theorem State.tablesWf.frameClose {s : State} (h : s.tablesWf) : s.frameClose.tablesWf := by
  unfold State.frameClose
  extract_lets t t1
  have ht : t.tablesWf := .enableRanks (.startRuns (.switchTables (.releaseFaults (.disables h))))
  have ht1 : t1.tablesWf := .startCapture (.startCapture ht)
  exact .ite (.setB ht1) ht1

/-! ### CoreBase -/

theorem State.tablesWf.setCore {s : State} {c : Fin 4} {x : Core} (h : s.tablesWf) : (s.setCore c x).tablesWf :=
  h

/-! ### Fetch -/

theorem State.tablesWf.fetchSyl {s : State} {c : Fin 4} {a : Nat} (h : s.tablesWf) : (s.fetchSyl c a).2.2.tablesWf :=
  .memReadN h

theorem State.tablesWf.fetchBundle {s : State} {c : Fin 4} {a i prev n : Nat} (h : s.tablesWf) :
    (s.fetchBundle c a i prev n).2.2.tablesWf := by
  induction n generalizing s i prev with
  | zero => exact h
  | succ n ih =>
    exact .iteSndSnd h (.iteSndSnd (.fetchSyl h) (.iteSndSnd (.fetchSyl h) (.iteSndSnd (.fetchSyl h) (.iteSndSnd (.fetchSyl h)
      (ih (.fetchSyl h))))))

theorem State.tablesWf.pick {s : State} {l : List Nat} (h : s.tablesWf) : (s.pick l).2.tablesWf :=
  .iteSnd h (.free h)

theorem State.tablesWf.raiseTrap {s : State} {c : Fin 4} {tcs tra bundle : Nat} (h : s.tablesWf) :
    (s.raiseTrap c tcs tra bundle).tablesWf :=
  .setCore h

theorem State.tablesWf.decodeBundle {s : State} {c : Fin 4} (h : s.tablesWf) : (s.decodeBundle c).2.2.tablesWf :=
  .fetchBundle h

theorem State.tablesWf.decodeTrap {s t : State} {c : Fin 4} (h : s.tablesWf) (ht : s.decodeTrap c = some t) : t.tablesWf := by
  unfold State.decodeTrap at ht
  extract_lets d pc p at ht
  split at ht
  · cases ht
  · obtain rfl := Option.some.inj ht
    exact .raiseTrap (.pick (.decodeBundle h))

/-! ### CoreCtl -/

theorem State.tablesWf.resetCore {s : State} {c : Fin 4} (h : s.tablesWf) : (s.resetCore c).tablesWf :=
  .setCore h

theorem State.tablesWf.haltCore {s : State} {c : Fin 4} {event : Nat} (h : s.tablesWf) : (s.haltCore c event).tablesWf :=
  .raise (.setCore h)

theorem State.tablesWf.askHalt {s : State} {c : Fin 4} (h : s.tablesWf) : (s.askHalt c).tablesWf :=
  .setCore h

theorem State.tablesWf.wantHalt {s : State} {w : Writer} {c : Fin 4} (h : s.tablesWf) : (s.wantHalt w c).tablesWf :=
  .ite (.ite (.askHalt h) (.ite (.haltCore h) (by
    split
    · exact .askHalt (.decodeTrap h ‹_›)
    · exact .haltCore h))) (.ite (.askHalt h) h)

theorem State.tablesWf.wantRun {s : State} {c : Fin 4} (h : s.tablesWf) : (s.wantRun c).tablesWf :=
  .ite (.setCore h) (.ite (.setCore h) (.setCore h))

theorem State.tablesWf.coreCtrl {w : Writer} {c : Fin 4} {v : Word} {s : State} (h : s.tablesWf) :
    (coreCtrl w c v s).result.tablesWf := by
  unfold Machine.coreCtrl
  extract_lets _ t
  have ht : t.tablesWf := .plain h
  exact .ite (.resetCore ht) (.ite (.wantRun ht) (.ite (.setCore ht) (.wantHalt ht)))

theorem State.tablesWf.rdatHandler {c : Fin 4} {v : Word} {s : State} (h : s.tablesWf) : (rdatHandler c v s).result.tablesWf :=
  .setCore h

theorem State.tablesWf.coreHandler {w : Writer} {c : Fin 4} {wd : Nat} {v : Word} {s : State} (h : s.tablesWf) :
    (coreHandler w c wd v s).result.tablesWf :=
  .iteResult (.coreCtrl h) (.iteResult (.setCore h) (.iteResult (.ite (.raise h) h) (.iteResult (.plain h) (.iteResult (.plain h)
      (.iteResult (.rdatHandler h) (.headerHandler h))))))

theorem State.tablesWf.udlHandler {w : Writer} {v : Word} {s : State} (h : s.tablesWf) : (udlHandler w v s).result.tablesWf :=
  .setF (.wrMem (.wrMem h))

theorem State.tablesWf.dentHandler {w : Writer} {c : Fin 4} {e : Nat} {v : Word} {s : State} (h : s.tablesWf) :
    (dentHandler w c e v s).result.tablesWf := by
  unfold Machine.dentHandler
  extract_lets _ _ _ t
  have ht : t.tablesWf := .plain h
  exact .ite (.setB (.memReadN ht)) ht

theorem State.tablesWf.rubrCtrl {w : Writer} {v : Word} {s : State} (h : s.tablesWf) : (rubrCtrl w v s).result.tablesWf :=
  .foldl (.plain h) (fun _ _ ht => .ite ht (.setB ht))

theorem State.tablesWf.rubrHandler {w : Writer} {wd : Nat} {v : Word} {s : State} (h : s.tablesWf) :
    (rubrHandler w wd v s).result.tablesWf :=
  .iteResult (.rubrCtrl h) (.iteResult h (.iteResult (.udlHandler h) (.iteResult (.dentHandler h) (.headerHandler h))))

/-! ### Power -/

theorem State.tablesWf.startTime {s : State} (h : s.tablesWf) : s.startTime.tablesWf := by
  unfold State.startTime
  extract_lets t _ _
  have ht : t.tablesWf := .setB (.setReg h)
  clear_value t
  exact .ite h ht

theorem State.tablesWf.lockPll {s : State} {p : Nat} (h : s.tablesWf) : (s.lockPll p).tablesWf := by
  unfold State.lockPll
  extract_lets t
  have ht : t.tablesWf := .setB h
  exact .ite (.startTime (.setB ht)) ht

theorem State.tablesWf.stopPlls {s : State} (h : s.tablesWf) : s.stopPlls.tablesWf :=
  .foldl h (fun _ _ ht => .ite ht (by
    extract_lets u
    have hu : u.tablesWf := .setB ht
    exact .ite (.setB hu) hu))

theorem Tidy.execPllUnlock {k : Fin 4} {s : State} (h : s.tablesWf) : Tidy (execPllUnlock k s) := by
  unfold Machine.execPllUnlock
  extract_lets t
  have ht : t.tablesWf := .incSat (.raise (.setB h))
  exact .done (.ite (.ite (.raise (.setB (.setB (.setB ht)))) ht) h)

theorem Tidy.execPllRelock {k : Fin 4} {s : State} (h : s.tablesWf) : Tidy (execPllRelock k s) := by
  unfold Machine.execPllRelock
  extract_lets t
  have ht : t.tablesWf := .lockPll h
  exact .done (.ite (.ite (.raise ht) ht) h)

theorem State.tablesWf.setPstate {s : State} {d : Nat} {v : BitVec 2} (h : s.tablesWf) : (s.setPstate d v).tablesWf :=
  h

theorem State.tablesWf.feedsOff {s : State} {d : Nat} (h : s.tablesWf) : (s.feedsOff d).tablesWf :=
  .foldl h (fun _ _ ht => .ite (.setFeed (.setLane (.zeroPort ht))) ht)

theorem State.tablesWf.endSessions {s : State} {d : Nat} (h : s.tablesWf) : (s.endSessions d).tablesWf :=
  .foldl h (fun _ _ ht => .ite (.endSession ht) ht)

theorem State.tablesWf.timeOff {s : State} (h : s.tablesWf) : s.timeOff.tablesWf := by
  unfold State.timeOff
  extract_lets t _ t1 _ u u1 _
  have ht : t.tablesWf := .setF (.setB (.setB h))
  clear_value t
  have ht1 : t1.tablesWf := ht
  have hu : u.tablesWf := .setRegs (.free ht1)
  have hu1 : u1.tablesWf := .ite hu (.raise (.inc hu))
  clear_value u1
  exact .ite hu1 ht1

theorem State.tablesWf.domainDown {s : State} {d : Nat} (h : s.tablesWf) : (s.domainDown d).tablesWf := by
  unfold State.domainDown
  extract_lets t _ t1 _ t2 _
  have ht : t.tablesWf := .endSessions h
  clear_value t
  have ht1 : t1.tablesWf := .ite (.feedsOff h) (.ite ht (.ite (.endSessions h) (.ite (.dropCache h) (.ite (.timeOff h) (.ite h h)))))
  have ht2 : t2.tablesWf := .setPstate (.memOff ht1)
  clear_value t2
  exact .ite h (.stopPlls ht2)

theorem State.tablesWf.clearPage {s : State} {p lo n : Nat} (h : s.tablesWf) : (s.clearPage p lo n).tablesWf :=
  h.filterRegs _

theorem State.tablesWf.noCodes {s : State} (h : s.tablesWf) : s.noCodes.tablesWf :=
  .foldl (.foldl (.dropCache h) (fun _ _ ht => .setB ht)) (fun _ _ ht => .setB ht)

theorem State.tablesWf.quireUp {s : State} {kept : Bool} (h : s.tablesWf) : (s.quireUp kept).tablesWf := by
  unfold State.quireUp
  extract_lets _ _ t t1
  have ht : t.tablesWf := .withDuct (.clearPage h)
  have ht1 : t1.tablesWf := .clearPage (.noCodes ht)
  clear_value t t1
  exact .ite ht ⟨regsWf_filter _ ht1.1, ht1.2⟩

theorem State.tablesWf.coreUp {s : State} {c : Fin 4} (h : s.tablesWf) : (s.coreUp c).tablesWf := by
  unfold State.coreUp
  extract_lets _ t t1 _ t2
  have ht : t.tablesWf := .setB h
  have ht1 : t1.tablesWf := .ite (.setB ht) ht
  have ht2 : t2.tablesWf := .setCore ht1
  exact .resetCore ht2

theorem State.tablesWf.quireLost {s : State} (h : s.tablesWf) : s.quireLost.tablesWf :=
  .ite (.foldl h (fun _ _ ht => .chanFault ht)) h

theorem State.tablesWf.domainUp {s : State} {d : Nat} (h : s.tablesWf) : (s.domainUp d).tablesWf := by
  unfold State.domainUp
  extract_lets _ s1 t
  have hs1 : s1.tablesWf := .ite (.foldl h (fun _ _ ht => .ite (.zeroPort ht) ht)) h
  have ht : t.tablesWf := .setPstate (.memOn hs1)
  exact .ite (.quireLost (.quireUp ht)) (.ite (.newSweep (.clearPage ht)) (.ite (.handOver (.handOver ht)) (.ite (.setB ht) (by
      split
      · exact .ite ht (.coreUp ht)
      · exact ht))))

theorem State.tablesWf.switchOff {s : State} {d : Nat} (h : s.tablesWf) : (s.switchOff d).tablesWf := by
  unfold State.switchOff
  extract_lets t _
  have ht : t.tablesWf := .ite (.drainDomain h) h
  clear_value t
  exact .ite ht (.domainDown ht)

theorem State.tablesWf.dctlHandler {w : Writer} {d : Nat} {v : Word} {s : State} (h : s.tablesWf) :
    (dctlHandler w d v s).result.tablesWf := by
  unfold Machine.dctlHandler
  extract_lets t
  have ht : t.tablesWf := .plain h
  exact .iteResult (.ite ht (.wakeDom ht)) (.ite (.switchOff ht) ht)

theorem State.tablesWf.setPhase {s : State} {n : Nat} (h : s.tablesWf) : (s.setPhase n).tablesWf :=
  .setF h

theorem State.tablesWf.setDev {s : State} {d : DevState} (h : s.tablesWf) : (s.setDev d).tablesWf := by
  unfold State.setDev
  extract_lets t _
  have ht : t.tablesWf := .setF h
  clear_value t
  exact ht

theorem State.tablesWf.beginEntry {s : State} {d : DevState} {by_ : Option Writer} (h : s.tablesWf) : (s.beginEntry d by_).tablesWf := by
  unfold State.beginEntry
  extract_lets t _
  have ht : t.tablesWf := .setPhase h
  clear_value t
  exact ht

theorem State.tablesWf.beginEntryLw {s : State} {w : Writer} (h : s.tablesWf) : (s.beginEntryLw w).tablesWf := by
  unfold State.beginEntryLw
  extract_lets t _
  have ht : t.tablesWf := .beginEntry h
  clear_value t
  exact ht

theorem State.tablesWf.dropEntry {s : State} (h : s.tablesWf) : s.dropEntry.tablesWf := by
  unfold State.dropEntry
  extract_lets s1 _
  have hs1 : s1.tablesWf := .raise (.setPhase h)
  clear_value s1
  exact hs1

theorem State.tablesWf.ungate {s : State} {c : Fin 4} (h : s.tablesWf) : (s.ungate c).tablesWf := by
  unfold State.ungate
  extract_lets _ t
  have ht : t.tablesWf := .setCore h
  exact .ite (.ite (.haltCore ht) ht) h

theorem State.tablesWf.ungateAll {s : State} (h : s.tablesWf) : s.ungateAll.tablesWf :=
  .foldl h (fun _ _ ht => .ungate ht)

theorem State.tablesWf.endDoze {s : State} (h : s.tablesWf) : s.endDoze.tablesWf := by
  unfold State.endDoze
  extract_lets t t1 _
  have ht : t.tablesWf := .setF (.setDev (.ungateAll (.slowWoken h)))
  have ht1 : t1.tablesWf := .raise ht
  clear_value t1
  exact ht1

theorem State.tablesWf.pwrCtrl {w : Writer} {v : Word} {s : State} (h : s.tablesWf) : (pwrCtrl w v s).result.tablesWf := by
  unfold Machine.pwrCtrl
  extract_lets _ _ t
  have ht : t.tablesWf := .plain h
  exact .iteResult ht (.ite (.endDoze ht) (.beginEntry ht))

theorem Tidy.execDeviceIdleTimerExpiry {k : Fin 4} {s : State} (h : s.tablesWf) : Tidy (execDeviceIdleTimerExpiry k s) :=
  .done (by
    split
    · exact .ite h (.ite (.dropEntry h) (.beginEntry h))
    · exact h)

theorem State.tablesWf.refuseEntry {s : State} {w : Writer} (h : s.tablesWf) : (s.refuseEntry w).tablesWf :=
  .ite (.writerErr (.incSat (.raise h))) (.writerErr (.pageErr h))

theorem Tidy.execEntryWaitTimeout {s : State} (h : s.tablesWf) : Tidy (execEntryWaitTimeout s) :=
  .done (by
    split
    · exact .ite (.dropEntry (by
    split
    · exact .refuseEntry h
    · exact h)) h
    · exact h)

theorem State.tablesWf.unready {s : State} {d : DevState} (h : s.tablesWf) : (s.unready d).tablesWf :=
  .ite (.dropEntry h) h

theorem State.tablesWf.settleEntry {s : State} {d : DevState} (h : s.tablesWf) : (s.settleEntry d).tablesWf := by
  unfold State.settleEntry
  extract_lets t _ t1 t2 u _
  have ht : t.tablesWf := .setPhase (.setDev h)
  clear_value t
  have ht1 : t1.tablesWf := ht
  have ht2 : t2.tablesWf := .foldl ht1 (fun _ _ ht2 => .ite (.latchWake ht2) ht2)
  have hu : u.tablesWf := .setPhase (.setB ht2)
  clear_value u
  exact .ite ht2 hu

theorem State.tablesWf.entryDrain {s : State} {off : List Nat} (h : s.tablesWf) : (s.entryDrain off).tablesWf :=
  .switchTables (.releaseFaults (.disables (.drainRanks (.foldl h (fun _ _ ht => .ite (.drainDomain ht) ht)))))

theorem State.tablesWf.setLp {s : State} {lp : Bool} (h : s.tablesWf) : (s.setLp lp).tablesWf :=
  .setF (.setF h)

theorem State.tablesWf.powerDown {s : State} {off : List Nat} (h : s.tablesWf) : (s.powerDown off).tablesWf :=
  .foldl (.entryDrain (.setB (.abortBorrow (.setPhase h)))) (fun _ _ ht => .domainDown ht)

theorem Tidy.execSleepEntry {s : State} (h : s.tablesWf) : Tidy (execSleepEntry s) := by
  unfold Machine.execSleepEntry
  extract_lets _ t _ t1 t2
  have ht : t.tablesWf := .powerDown h
  clear_value t
  have ht1 : t1.tablesWf := ht
  clear_value t1
  have ht2 : t2.tablesWf := ht1
  exact .done (.ite (.settleEntry (.setLp ht2)) (.unready h))

theorem State.tablesWf.legacyTrain {s : State} {wasOff : Bool} (h : s.tablesWf) : (s.legacyTrain wasOff).tablesWf :=
  .ite (.setFeed (.setLane h)) h

theorem State.tablesWf.dropUpdateLock {s : State} (h : s.tablesWf) : s.dropUpdateLock.tablesWf :=
  .setReg h

theorem State.tablesWf.deepEntry {s : State} {d : DevState} (h : s.tablesWf) : (s.deepEntry d).tablesWf := by
  unfold State.deepEntry
  extract_lets s1 _ t t1 t2 t3 _ _ _
  have hs1 : s1.tablesWf := .setReg (.setReg h)
  have ht : t.tablesWf := .dropUpdateLock (.powerDown hs1)
  have ht1 : t1.tablesWf := .foldl ht (fun _ _ ht1 => .ite (.forgetBank ht1) ht1)
  have ht2 : t2.tablesWf := .foldl ht1 (fun _ _ ht2 => .ite ht2 (.setPstate ht2))
  have ht3 : t3.tablesWf := .setLp ht2
  clear_value t3
  exact ht3

theorem State.tablesWf.wakeEvent {s : State} {cause event : Nat} (h : s.tablesWf) : (s.wakeEvent cause event).tablesWf := by
  unfold State.wakeEvent
  extract_lets t
  have ht : t.tablesWf := .ite (.raise h) h
  exact .ite (.latchWake ht) ht

theorem State.tablesWf.pinEvent {s t : State} {n : Nat} (h' : t.tablesWf) : (s.pinEvent t n).tablesWf :=
  .ite (.wakeEvent h') h'

theorem Tidy.execWakePin {n : Fin 8} {level : Bool} {s : State} (h : s.tablesWf) : Tidy (execWakePin n level s) := by
  unfold Machine.execWakePin
  extract_lets _ _ t
  have ht : t.tablesWf := h
  exact .done (.ite (.wakeEvent ht) ht)

theorem State.tablesWf.rtcTicks {s : State} {k : Nat} (h : s.tablesWf) : (s.rtcTicks k).tablesWf :=
  h

theorem State.tablesWf.alm2Handler {w : Writer} {v : Word} {s : State} (h : s.tablesWf) : (alm2Handler w v s).result.tablesWf :=
  State.tablesWf.plain h (w := w) (p := 1) (wd := 31) (v := v)

theorem State.tablesWf.rtcWant {s : State} {rc : Bool} (h : s.tablesWf) : (s.rtcWant rc).tablesWf := by
  unfold State.rtcWant
  extract_lets t _
  have ht : t.tablesWf := .setB h
  clear_value t
  exact ht

theorem State.tablesWf.rtcctlHandler {w : Writer} {v : Word} {s : State} (h : s.tablesWf) : (rtcctlHandler w v s).result.tablesWf :=
  .rtcWant (.plain h)

theorem State.tablesWf.clkHandler {w : Writer} {wd : Nat} {v : Word} {s : State} (h : s.tablesWf) :
    (clkHandler w wd v s).result.tablesWf :=
  .iteResult (.plain h) (.iteResult (.rtcctlHandler h) (.headerHandler h))

theorem State.tablesWf.bkdHandler {v : Word} {s : State} (h : s.tablesWf) : (bkdHandler v s).result.tablesWf :=
  .setF (.wrMem h)

theorem State.tablesWf.pwrHandler {w : Writer} {wd : Nat} {v : Word} {s : State} (h : s.tablesWf) :
    (pwrHandler w wd v s).result.tablesWf :=
  .iteResult (.pwrCtrl h) (.iteResult (.alm2Handler h) (.iteResult (.bkdHandler h) (.iteResult (.dctlHandler h) (.iteResult (.pinEvent
      (.plain h)) (.headerHandler h)))))

theorem State.tablesWf.drainedOff {s : State} (h : s.tablesWf) : s.drainedOff.tablesWf :=
  .foldl h (fun _ _ ht => .ite (by
    extract_lets u
    have hu : u.tablesWf := .domainDown ht
    exact .ite (.wakeDom hu) hu) ht)

/-! ### Reset -/

theorem State.tablesWf.keepArun {t s : State} (h : t.tablesWf) : (t.keepArun s).tablesWf :=
  .foldl h (fun _ _ ht => .setB ht)

theorem State.tablesWf.resetUnits {s : State} {k : Kept} (h : s.tablesWf) : (s.resetUnits k).tablesWf := by
  unfold State.resetUnits
  extract_lets s1 _ _ _ _ _ _ t t1 t2
  have hs1 : s1.tablesWf := .ite (.cutOp h) (.breakOtp (.cutOp h))
  have ht : t.tablesWf := ⟨regsWf_filter _ hs1.1, hs1.2⟩
  have ht1 : t1.tablesWf := .ite (.keepArun ht) ht
  clear_value t1
  exact .foldl (.setB (.setB ht1)) fun _ _ ht => .resetCore ht

theorem State.tablesWf.resetCause {t s : State} {n : Nat} (h : t.tablesWf) : (t.resetCause s n).tablesWf :=
  .setReg (.setReg h)

theorem State.tablesWf.forgetCore {s : State} (h : s.tablesWf) : s.forgetCore.tablesWf :=
  .forget (.forget (.foldl h (fun _ _ ht => .ite ht (.forgetBank ht))))

theorem State.tablesWf.forgetAon {s : State} (h : s.tablesWf) : s.forgetAon.tablesWf :=
  .forgetBank (.foldl h (fun _ _ ht => .ite (.forgetBank ht) ht))

theorem State.tablesWf.rstReset {s : State} (h : s.tablesWf) : s.rstReset.tablesWf := by
  unfold State.rstReset
  extract_lets t _ t1
  have ht : t.tablesWf := .resetCause (.resetUnits h)
  clear_value t
  have ht1 : t1.tablesWf := ht
  exact .ite ht1 (.setReg ht1)

theorem Tidy.execResetAssert {s : State} (h : s.tablesWf) : Tidy (execResetAssert s) := by
  unfold Machine.execResetAssert
  extract_lets t _
  have ht : t.tablesWf := .rstReset h
  clear_value t
  exact .done ht

theorem State.tablesWf.sampleStraps {s : State} {pins bootpins : BitVec 2} (h : s.tablesWf) : (s.sampleStraps pins bootpins).tablesWf :=
  .foldl h (fun _ _ ht => .resetCore ht)

theorem Tidy.execPowerOnReset {s : State} (h : s.tablesWf) : Tidy (execPowerOnReset s) := by
  unfold Machine.execPowerOnReset
  extract_lets t t1 _
  have ht : t.tablesWf := .resetCause (.resetUnits h)
  have ht1 : t1.tablesWf := .setReg (.forgetBank (.forgetCore ht))
  clear_value t1
  exact .done ht1

theorem Tidy.execBrownOut {s : State} (h : s.tablesWf) : Tidy (execBrownOut s) := by
  unfold Machine.execBrownOut
  extract_lets _ _ t
  have ht : t.tablesWf := .setReg (.resetCause (.resetUnits (.forgetAon (.free (.free h)))))
  exact .done (.ite (.sampleStraps ht) ht)

theorem Tidy.execDormantEntry {s : State} (h : s.tablesWf) : Tidy (execDormantEntry s) := by
  unfold Machine.execDormantEntry
  extract_lets m t t1
  have ht1 : t1.tablesWf := .setPstate (.forgetBank (.setReg (.setReg (.deepEntry h))))
  exact .done (.ite (.settleEntry (ht1.filterRegs _)) (.unready h))

theorem State.tablesWf.allUp {s : State} (h : s.tablesWf) : s.allUp.tablesWf :=
  .foldl (.foldl h (fun _ _ ht => .setB (.setPstate ht))) (fun _ _ ht => .ite (.lockPll ht) ht)

theorem State.tablesWf.deepExit {s : State} (h : s.tablesWf) : s.deepExit.tablesWf := by
  unfold State.deepExit
  extract_lets _ t t1 t2 _
  have ht : t.tablesWf := .resetCause (.resetUnits (.slowWoken h))
  have ht1 : t1.tablesWf := .ite (.setReg ht) (.setReg ht)
  have ht2 : t2.tablesWf := .raise (.setF (.setF (.setF ht1)))
  clear_value t2
  exact .allUp ht2

theorem State.tablesWf.warmReset {s : State} (h : s.tablesWf) : s.warmReset.tablesWf := by
  unfold State.warmReset
  extract_lets t t1 t2 _ _
  have ht : t.tablesWf := .resetCause (.resetUnits h)
  have ht1 : t1.tablesWf := .inc ht
  have ht2 : t2.tablesWf := .setF ht1
  clear_value t2
  exact ht2

theorem State.tablesWf.rstCtrl {w : Writer} {v : Word} {s : State} (h : s.tablesWf) : (rstCtrl w v s).result.tablesWf :=
  .iteResult (.warmReset h) (.plain h)

theorem State.tablesWf.rstHandler {w : Writer} {wd : Nat} {v : Word} {s : State} (h : s.tablesWf) :
    (rstHandler w wd v s).result.tablesWf :=
  .iteResult (.rstCtrl h) (.headerHandler h)

/-! ### Update -/

theorem State.tablesWf.freeLock {s : State} (h : s.tablesWf) : s.freeLock.tablesWf :=
  .setReg (.setReg h)

theorem State.tablesWf.trialRestart {s : State} (h : s.tablesWf) : s.trialRestart.tablesWf :=
  .ite (.warmReset h) h

theorem State.tablesWf.beginFlash {s : State} {op : FlashOp} (h : s.tablesWf) : (s.beginFlash op).tablesWf := by
  unfold State.beginFlash
  extract_lets t _
  have ht : t.tablesWf := .setB h
  clear_value t
  exact ht

theorem State.tablesWf.endFlash {s : State} (h : s.tablesWf) : s.endFlash.tablesWf := by
  unfold State.endFlash
  extract_lets t _
  have ht : t.tablesWf := .setB h
  clear_value t
  exact ht

theorem State.tablesWf.beginBlock {s : State} (h : s.tablesWf) : s.beginBlock.tablesWf :=
  .ite (.beginFlash (.ramBytes h)) (.raise (.setF (.ramBytes h)))

theorem State.tablesWf.beginSettings {s : State} {classN : Bool} (h : s.tablesWf) : (s.beginSettings classN).tablesWf :=
  .beginFlash (.ramBytes (.memReadN h))

theorem State.tablesWf.confirm {s : State} (h : s.tablesWf) : s.confirm.tablesWf :=
  .beginFlash (.setReg h)

theorem State.tablesWf.updAct {s : State} {w : Writer} {b : Nat} (h : s.tablesWf) : (s.updAct w b).2.2.tablesWf :=
  .iteSndSnd (.beginBlock h) (.iteSndSnd (.beginFlash h) (.iteSndSnd (.confirm h) (.iteSndSnd (.beginSettings h) (.iteSndSnd
      (.beginSettings h) (.beginFlash h)))))

theorem State.tablesWf.updCtrl {w : Writer} {v : Word} {s : State} (h : s.tablesWf) : (updCtrl w v s).result.tablesWf := by
  unfold Machine.updCtrl
  split
  · exact h
  · exact .updAct h
  · exact h

theorem State.tablesWf.ulockHandler {w : Writer} {v : Word} {s : State} (h : s.tablesWf) : (ulockHandler w v s).result.tablesWf :=
  .iteResult (by
    split
    · exact .setReg (.setReg h)
    · exact h) (.iteResult h (.freeLock h))

theorem State.tablesWf.updHandler {w : Writer} {wd : Nat} {v : Word} {s : State} (h : s.tablesWf) :
    (updHandler w wd v s).result.tablesWf :=
  .iteResult (.updCtrl h) (.iteResult (.ulockHandler h) (.iteResult h (.headerHandler h)))

theorem State.tablesWf.updGuarded {w : Writer} {wd : Nat} {v : Word} {s : State} (h : s.tablesWf) : (updGuarded w wd v s).tablesWf := by
  unfold Machine.updGuarded
  extract_lets _ t
  have ht : t.tablesWf := .guarded (.updHandler h) h
  exact .ite (.recordRefusal h) (.ite (.setReg ht) ht)

theorem State.tablesWf.failFlash {s : State} (h : s.tablesWf) : s.failFlash.tablesWf :=
  .pageErr (.breakOp h)

theorem State.tablesWf.blockDone {s : State} {off : Nat} {bytes : List Byte} {ok : Bool} (h : s.tablesWf) :
    (s.blockDone off bytes ok).tablesWf :=
  .ite (.raise (.inc (.setF (.flashWrite h)))) (.raise (.setF (.failFlash h)))

theorem State.tablesWf.activateEnd {s : State} {ok : Bool} (h : s.tablesWf) : (s.activateEnd ok).tablesWf :=
  .ite (.raise (.freeLock (.writeRec h))) (.failFlash h)

theorem State.tablesWf.confirmEnd {s : State} {ok : Bool} (h : s.tablesWf) : (s.confirmEnd ok).tablesWf :=
  .ite (.raise (.setB (.writeRec h))) (.failFlash h)

theorem State.tablesWf.settingsEnd {s : State} {classN : Bool} {lver : Nat} {payload : List Byte} {ok : Bool} (h : s.tablesWf) :
    (s.settingsEnd classN lver payload ok).tablesWf :=
  .raise (.ite (.writeSet h) (.failFlash h))

theorem State.tablesWf.discardEnd {s : State} {ok : Bool} (h : s.tablesWf) : (s.discardEnd ok).tablesWf :=
  .ite (.raise (.setB (.writeSet h))) (.raise (.failFlash h))

theorem State.tablesWf.finishOp {s : State} {ok : Bool} (h : s.tablesWf) : (s.finishOp ok).tablesWf := by
  unfold State.finishOp
  split
  · exact .trialRestart (.endFlash (.blockDone h))
  · exact .trialRestart (.endFlash (.activateEnd h))
  · exact .trialRestart (.endFlash (.settingsEnd h))
  · exact .trialRestart (.endFlash (.discardEnd h))
  · exact .trialRestart (.endFlash (.confirmEnd h))
  · exact h

theorem Tidy.execBlockWriteDone {ok : Bool} {s : State} (h : s.tablesWf) : Tidy (execBlockWriteDone ok s) :=
  .done (by
    split
    · exact .finishOp h
    · exact h)

theorem Tidy.execSettingsWriteDone {ok : Bool} {s : State} (h : s.tablesWf) : Tidy (execSettingsWriteDone ok s) :=
  .done (by
    split
    · exact .finishOp h
    · exact .finishOp h
    · exact h)

theorem State.tablesWf.blowFuses {s : State} {n : Nat} (h : s.tablesWf) : (s.blowFuses n).tablesWf :=
  .foldl h (fun _ _ ht => .ite (.blow ht) ht)

theorem Tidy.execRollbackFuseProgram {s : State} (h : s.tablesWf) : Tidy (execRollbackFuseProgram s) := by
  unfold Machine.execRollbackFuseProgram
  extract_lets _ t
  have ht : t.tablesWf := .blowFuses h
  exact .done (.ite (.setB (.setF ht)) h)

theorem State.tablesWf.trialOver {s : State} (h : s.tablesWf) : s.trialOver.tablesWf := by
  unfold State.trialOver
  extract_lets t t1 _ _
  have ht : t.tablesWf := .setB (.setReg h)
  have ht1 : t1.tablesWf := .ite (.setPhase ht) ht
  clear_value t1
  exact .ite ht1 (.trialRestart ht)

theorem Tidy.execSleepExit {s : State} (h : s.tablesWf) : Tidy (execSleepExit s) := by
  unfold Machine.execSleepExit
  extract_lets _ _ t t1 t2 t3 t4 _ t5
  have ht : t.tablesWf := .setLp (.slowWoken h)
  have ht1 : t1.tablesWf := .foldl ht (fun _ _ ht1 => .domainUp ht1)
  have ht2 : t2.tablesWf := .foldl ht1 (fun _ _ ht2 => .ite (.lockPll ht2) ht2)
  have ht3 : t3.tablesWf := .setPhase (.setF (.setDev ht2))
  have ht4 : t4.tablesWf := .ungateAll (.raise ht3)
  clear_value t4
  have ht5 : t5.tablesWf := ht4
  exact .done (.ite (.trialRestart (.legacyTrain ht5)) h)

theorem State.tablesWf.beginOtp {s : State} {kind r : Nat} {bits : BitVec 16} (h : s.tablesWf) : (s.beginOtp kind r bits).tablesWf := by
  unfold State.beginOtp
  extract_lets t _
  have ht : t.tablesWf := .setB h
  clear_value t
  exact ht

theorem State.tablesWf.lcsAct {s : State} {b : Nat} (h : s.tablesWf) : (s.lcsAct b).result.tablesWf :=
  .iteResult (.beginOtp h) (.iteResult (.beginOtp h) (.ite (.beginOtp (.ramBytes h)) (.beginOtp (.ramBytes h))))

theorem State.tablesWf.lcsCtrl {v : Word} {s : State} (h : s.tablesWf) : (lcsCtrl v s).result.tablesWf := by
  unfold Machine.lcsCtrl
  split
  · exact h
  · exact .lcsAct h
  · exact h

theorem State.tablesWf.lcsHandler {w : Writer} {wd : Nat} {v : Word} {s : State} (h : s.tablesWf) :
    (lcsHandler w wd v s).result.tablesWf :=
  .iteResult (.lcsCtrl h) (.headerHandler h)

theorem State.tablesWf.endOtp {s : State} (h : s.tablesWf) : s.endOtp.tablesWf := by
  unfold State.endOtp
  extract_lets t _
  have ht : t.tablesWf := .setB h
  clear_value t
  exact ht

theorem Tidy.execOtpWriteDone {s : State} (h : s.tablesWf) : Tidy (execOtpWriteDone s) :=
  .done (by
    split
    · exact .trialRestart (.raise (.endOtp (.blow h)))
    · exact h)

theorem Tidy.execLifecycleAdvanceDone {s : State} (h : s.tablesWf) : Tidy (execLifecycleAdvanceDone s) :=
  .done (by
    split
    · exact .trialRestart (.raise (.endOtp (.blow h)))
    · exact h)

theorem Tidy.execReturnTokenDone {s : State} (h : s.tablesWf) : Tidy (execReturnTokenDone s) :=
  .done (by
    split
    · exact .trialRestart (.raise (.raise (.endOtp (.blow h))))
    · exact .trialRestart (.raise (.endOtp (.pageErr h)))
    · exact h)

/-! ### Legacy -/

theorem State.tablesWf.portNext {s : State} (h : s.tablesWf) : s.portNext.tablesWf := by
  unfold State.portNext
  extract_lets t _
  have ht : t.tablesWf := .setReg h
  clear_value t
  exact ht

theorem State.tablesWf.dumpClear {s : State} (h : s.tablesWf) : s.dumpClear.tablesWf := by
  unfold State.dumpClear
  extract_lets t _
  have ht : t.tablesWf := .setReg h
  clear_value t
  exact ht

theorem State.tablesWf.dumpRead {s : State} (h : s.tablesWf) : s.dumpRead.2.2.tablesWf := by
  unfold State.dumpRead
  extract_lets _ t _ t1 _
  have ht : t.tablesWf := .ringReadE h
  clear_value t
  have ht1 : t1.tablesWf := .ringTake ht
  clear_value t1
  exact .iteSndSnd (.setB h) (.ite ht1 ht)

theorem State.tablesWf.legacySnap {s : State} (h : s.tablesWf) : s.legacySnap.tablesWf := by
  unfold State.legacySnap
  extract_lets s1 _
  have hs1 : s1.tablesWf := .ite (.takeEpoch h) h
  clear_value s1
  exact .ite (.skipLatch h) (.ite (.startLatch hs1) (.ite hs1 (.legacyLatch hs1)))

theorem State.tablesWf.legacyTpApply {s : State} {v : Word} (h : s.tablesWf) : (s.legacyTpApply v).tablesWf :=
  .applyTp (.setReg2 (.setReg (.setReg2 (.setReg2 (.setF (.setReg h))))))

theorem State.tablesWf.legacyFeed {s : State} {rate : Nat} (h : s.tablesWf) : (s.legacyFeed rate).tablesWf := by
  unfold State.legacyFeed
  extract_lets t t1 t2 t3 _ _
  have ht : t.tablesWf := .setB (.setReg (.setF h))
  have ht1 : t1.tablesWf := .foldl ht (fun _ _ ht1 => .notchMode (.setF ht1))
  have ht2 : t2.tablesWf := .setB ht1
  have ht3 : t3.tablesWf := .foldl ht2 (fun _ _ ht3 => .setF (.setF (.setF (.setReg (.setReg ht3)))))
  exact .setFeed ht3

theorem State.tablesWf.sampleOn {s : State} {w : Writer} {rate : Nat} (h : s.tablesWf) : (s.sampleOn w rate).tablesWf := by
  unfold State.sampleOn
  extract_lets t t1 _
  have ht : t.tablesWf := .setB (.legacyFeed h)
  have ht1 : t1.tablesWf := .smapHandler ht
  exact .setFeed (.setLane ht1)

theorem State.tablesWf.sampleOff {s : State} {w : Writer} (h : s.tablesWf) : (s.sampleOff w).tablesWf := by
  unfold State.sampleOff
  extract_lets t _
  have ht : t.tablesWf := .smapHandler h
  exact .setFeed (.setLane (.setB ht))

theorem State.tablesWf.lsctlHandler {w : Writer} {v : Word} {s : State} (h : s.tablesWf) : (lsctlHandler w v s).result.tablesWf := by
  unfold Machine.lsctlHandler
  extract_lets _ _ t _
  have ht : t.tablesWf := .setReg h
  exact .ite (.sampleOn ht) (.ite (.sampleOff ht) ht)

theorem State.tablesWf.uartApply {s : State} {u : Nat} (h : s.tablesWf) : (s.uartApply u).tablesWf := by
  unfold State.uartApply
  extract_lets _ _ t t1 t2 _
  have ht : t.tablesWf := .setF h
  have ht1 : t1.tablesWf := .setReg ht
  have ht2 : t2.tablesWf := .setReg (.setReg ht1)
  exact .pendSetting (.setSer ht2)

theorem State.tablesWf.uartHandler {u j : Nat} {v : Word} {s : State} (h : s.tablesWf) : (uartHandler u j v s).result.tablesWf :=
  .iteResult (.setSer h) (.iteResult (.uartApply (.setReg h)) h)

theorem State.tablesWf.legacyEnable {s : State} {c : Nat} {v : Word} (h : s.tablesWf) : (s.legacyEnable c v).tablesWf := by
  unfold State.legacyEnable
  extract_lets t _ t1
  have ht : t.tablesWf := .setReg (.wrMemN h)
  clear_value t
  have ht1 : t1.tablesWf := ht
  exact .ite (.pageErr ht1) (.ite (.pageErr ht1) (.request ht1))

theorem State.tablesWf.lcctlHandler {c : Nat} {v : Word} {s : State} (h : s.tablesWf) : (lcctlHandler c v s).result.tablesWf := by
  unfold Machine.lcctlHandler
  extract_lets _ _ _ _ t _
  have ht : t.tablesWf := .setReg h
  exact .iteResult (.iteResult ht (.legacyEnable h)) (.ite (.setChan ht) ht)

theorem State.tablesWf.legacyNco {s : State} {c b : Nat} (h : s.tablesWf) : (s.legacyNco c b).tablesWf := by
  unfold State.legacyNco
  extract_lets _ _ t _ _
  have ht : t.tablesWf := h
  exact .ite (.commitUpdate ht) (.ite ht h)

theorem State.tablesWf.lcHandler {c j : Nat} {v : Word} {s : State} (h : s.tablesWf) : (lcHandler c j v s).result.tablesWf := by
  unfold Machine.lcHandler
  extract_lets _ t _ _ _ _ _ u
  have ht : t.tablesWf := .setReg h
  clear_value t
  have hu : u.tablesWf := h
  exact .iteResult (.lcctlHandler h) (.iteResult (.legacyNco ht) (.iteResult (.legacyNco ht) (.iteResult (.iteResult h (.iteResult
      (.arm hu) hu)) ht)))

theorem State.tablesWf.lctlHandler {w : Writer} {v : Word} {s : State} (h : s.tablesWf) : (lctlHandler w v s).result.tablesWf := by
  unfold Machine.lctlHandler
  extract_lets _ t t1
  have ht : t.tablesWf := .setReg h
  have ht1 : t1.tablesWf := .ite (.dumpClear ht) ht
  exact .ite (.ite (.resetCore (.setB ht1)) ht1) (.ite (.wantRun (.setB ht1)) (.ite (.wantHalt ht1) ht1))

theorem State.tablesWf.lwWord {w : Writer} {k : Nat} {v : Word} {s : State} (h : s.tablesWf) : (lwWord w k v s).result.tablesWf := by
  unfold Machine.lwWord
  extract_lets _ t _ _ _
  have ht : t.tablesWf := .setReg h
  clear_value t
  exact .iteResult (.lctlHandler h) (.iteResult (.ite (.beginEntryLw h) h) (.iteResult (.ite (.legacySnap h) h) (.iteResult (.ite ht
      (.setB (.setB ht))) (.iteResult (.ite (.setB (.setB ht)) ht) (.iteResult ht (.iteResult (.lsctlHandler h) (.iteResult (.setReg
      ht) (.iteResult (.lcHandler h) (.iteResult (.uartHandler h) (.iteResult (.legacyTpApply h) (.iteResult ht (.iteResult ht
      ht))))))))))))

theorem State.tablesWf.lmdatHandler {w : Writer} {v : Word} {s : State} (h : s.tablesWf) : (lmdatHandler w v s).result.tablesWf := by
  unfold Machine.lmdatHandler
  split
  · exact h
  · exact .portNext (.wrMem h)
  · exact .iteResult (.portNext h) (.portNext (.lwWord h))

theorem State.tablesWf.lwHandler {w : Writer} {k : Nat} {v : Word} {s : State} (h : s.tablesWf) : (lwHandler w k v s).result.tablesWf :=
  .iteResult (.lmdatHandler h) (.lwWord h)

theorem State.tablesWf.lwRefuse {s : State} {w : Writer} {code k : Nat} (h : s.tablesWf) : (s.lwRefuse w code k).tablesWf :=
  .writerErr (.incSat (.raise h))

theorem State.tablesWf.lwApply {s : State} {w : Writer} {k : Nat} {v : Word} (h : s.tablesWf) : (s.lwApply w k v).tablesWf :=
  .ite (.lwRefuse h) (.ite (.lwRefuse h) (.ite (.lwRefuse h) (.lwHandler h)))

theorem State.tablesWf.lwPost {s : State} {q : Fin 8} {k : Nat} {v : Word} (h : s.tablesWf) : (s.lwPost q k v).tablesWf :=
  .ite h (.lwRefuse h)

theorem State.tablesWf.lwArrive {s : State} {w : Writer} (h : s.tablesWf) : (s.lwArrive w).tablesWf := by
  unfold State.lwArrive
  split
  · exact .ite (.latchWake h) h
  · exact h

theorem State.tablesWf.lwWrite {s : State} {w : Writer} {k : Nat} {v : Word} (h : s.tablesWf) : (s.lwWrite w k v).tablesWf := by
  unfold State.lwWrite
  extract_lets t
  have ht : t.tablesWf := .lwArrive h
  exact .ite h (.ite (.lwRefuse h) (by
      split
      · exact .ite (.lwApply ht) (.ite (.lwPost ht) (.lwRefuse ht))
      · split
        · exact .stallMem h
        · exact .lwApply h
      · exact h))

theorem State.tablesWf.takeRxd {s : State} {n : Nat} (h : s.tablesWf) : (s.takeRxd n).tablesWf :=
  .setB (.setReg h)

theorem State.tablesWf.portFetch {s : State} (h : s.tablesWf) : s.portFetch.2.tablesWf := by
  unfold State.portFetch
  split
  · exact h
  · exact .hostMemRead h
  · exact h

theorem State.tablesWf.lwRead {s : State} {w : Writer} {k : Nat} (h : s.tablesWf) : (s.lwRead w k).2.tablesWf := by
  unfold State.lwRead
  extract_lets _ _ _ _ t _ _
  have ht : t.tablesWf := .portFetch h
  clear_value t
  exact .iteSnd h (.iteSnd (.ite (.setB h) h) (.iteSnd (.ite h (.setB h)) (.iteSnd (.iteSnd (.portNext h) (.portNext ht)) (.iteSnd
      (.ite (.writerErr (.dumpRead h)) (.dumpRead h)) (.iteSnd (.takeRxd h) h)))))

theorem State.tablesWf.lwHostRead {s : State} {q : Fin 8} {k : Nat} (h : s.tablesWf) : (s.lwHostRead q k).2.2.tablesWf :=
  .iteSndSnd (.sesErr h) (.iteSndSnd (.lwRead h) h)

theorem State.tablesWf.driveBus {s : State} {q : Fin 8} {v : Word} {tag : BitVec 2} (h : s.tablesWf) : (s.driveBus q v tag).tablesWf :=
  .ite h h

theorem State.tablesWf.lwReadRow {s : State} {q : Fin 8} {k : Nat} (h : s.tablesWf) : (s.lwReadRow q k).tablesWf :=
  .ite (.driveBus (.lwHostRead h)) (.ite (.driveBus (.sesErr h)) h)

theorem State.tablesWf.lwRow {s : State} {w : Writer} {k : Nat} {v : Word} (h : s.tablesWf) : (s.lwRow w k v).tablesWf :=
  .ite (.lwWrite h) (.ite (by
    split
    · exact .sesErr h
    · exact h) h)

theorem Tidy.execLegacyReadaheadComplete {s : State} (h : s.tablesWf) : Tidy (execLegacyReadaheadComplete s) := by
  unfold Machine.execLegacyReadaheadComplete
  extract_lets _ t _
  have ht : t.tablesWf := .portFetch h
  clear_value t
  exact .done (.ite ht h)

/-! ### Read -/

theorem State.tablesWf.clearRc {s : State} {p wd : Nat} (h : s.tablesWf) : (s.clearRc p wd).tablesWf :=
  .setReg h

theorem State.tablesWf.captureLow {s : State} {p wd : Nat} (h : s.tablesWf) : (s.captureLow p wd).tablesWf :=
  .ite h (.ite h (by
    split
    · exact h
    · exact h))

theorem State.tablesWf.readEffect {s : State} {p wd : Nat} (h : s.tablesWf) : (s.readEffect p wd).tablesWf :=
  .ite (.ite h (.takeRxd h)) (.ite (.free h) (.ite (.clearRc h) (.captureLow h)))

theorem State.tablesWf.nextBka {s : State} {p wd : Nat} (h : s.tablesWf) : (s.nextBka p wd).tablesWf :=
  .ite (.setF h) h

theorem State.tablesWf.loadMem {s : State} {c : Fin 4} {key : Nat} (h : s.tablesWf) : (s.loadMem c key).2.tablesWf :=
  .iteSnd (.setCore h) (.coreMemLoad h)

theorem State.tablesWf.coreLoad {s : State} {c : Fin 4} {a : Nat} (h : s.tablesWf) : (s.coreLoad c a).2.tablesWf := by
  unfold State.coreLoad
  extract_lets key p wd
  split
  · exact .coreErr h
  · refine .iteSnd ?_ (.loadMem h)
    split
    · exact .nextBka (.loadMem h)
    · exact .readEffect h

theorem State.tablesWf.startPrefetch {s : State} {q p : Nat} (h : s.tablesWf) : (s.startPrefetch q p).tablesWf := by
  unfold State.startPrefetch
  extract_lets t _
  have ht : t.tablesWf := .setReg h
  exact .setSes ht

theorem State.tablesWf.autoAdvance {s : State} {q : Nat} (h : s.tablesWf) : (s.autoAdvance q).tablesWf :=
  .ite h (.ite (.sesErr h) (.startPrefetch (.setReg (.setReg h))))

theorem State.tablesWf.windowRead {s : State} {q i : Nat} (h : s.tablesWf) : (s.windowRead q i).2.2.tablesWf :=
  .iteSndSnd h (.iteSndSnd (.sesErr h) (.iteSndSnd h (.ite (.autoAdvance h) h)))

theorem State.tablesWf.pageRead {s : State} {q : Fin 8} {p wd : Nat} (h : s.tablesWf) : (s.pageRead q p wd).2.2.tablesWf :=
  .iteSndSnd (.windowRead h) (.iteSndSnd h (by
    split
    · exact .iteSndSnd (.sesErr h) (.nextBka (.hostMemRead h))
    · exact .readEffect h))

theorem State.tablesWf.hostRead {s : State} {q : Fin 8} {a : Nat} (h : s.tablesWf) : (s.hostRead q a).2.2.tablesWf :=
  .iteSndSnd (.lwHostRead h) (by
    split
    · exact .sesErr h
    · exact .iteSndSnd (.iteSndSnd (.pageRead h) (.sesErr h)) (.iteSndSnd (.sesErr h) (.ite (.sesErr (.free h)) (.free h))))

theorem State.tablesWf.hostReadN {s : State} {q : Fin 8} {a n : Nat} (h : s.tablesWf) : (s.hostReadN q a n).2.tablesWf := by
  induction n generalizing s a with
  | zero => exact h
  | succ n ih => exact ih (.hostRead h)

/-! ### Write -/

theorem State.tablesWf.raplHandler {w : Writer} {q : Nat} {v : Word} {s : State} (h : s.tablesWf) :
    (raplHandler w q v s).result.tablesWf :=
  .startPrefetch (.plain h)

theorem State.tablesWf.hifHandler {w : Writer} {wd : Nat} {v : Word} {s : State} (h : s.tablesWf) :
    (hifHandler w wd v s).result.tablesWf :=
  .iteResult (by
    split
    · exact .iteResult (.raplHandler h) (.handlerPlain h)
    · exact .handlerRefuse h) (.headerHandler h)

theorem State.tablesWf.spiHandler {w : Writer} {wd : Nat} {v : Word} {s : State} (h : s.tablesWf) :
    (spiHandler w wd v s).result.tablesWf :=
  .iteResult (.handlerRefuse h) (.headerHandler h)

theorem State.tablesWf.legacyHandler {w : Writer} {wd : Nat} {v : Word} {s : State} (h : s.tablesWf) :
    (legacyHandler w wd v s).result.tablesWf :=
  .iteResult (.handlerRefuse h) (.headerHandler h)

theorem State.tablesWf.pageHandler {w : Writer} {p wd : Nat} {v : Word} {s : State} (h : s.tablesWf) :
    (pageHandler w p wd v s).result.tablesWf :=
  .iteResult (.pwrHandler h) (.iteResult (.clkHandler h) (.iteResult (.rstHandler h) (.iteResult (.evcHandler h) (.iteResult
      (.sesHandler h) (.iteResult (.ringHandler h) (.iteResult (.hifHandler h) (.iteResult (.spiHandler h) (.iteResult (.serHandler h)
      (.iteResult (.updHandler h) (.iteResult (.lcsHandler h) (.iteResult (.timeHandler h) (.iteResult (.tpHandler h) (.iteResult
      (.evtHandler h) (.iteResult (.measHandler h) (.iteResult (.feedHandler h) (.iteResult (.routeHandler h) (.iteResult (.specHandler
      h) (.iteResult (.ductHandler h) (.iteResult (.rankHandler h) (.iteResult (.exmpHandler h) (.iteResult (.scrpHandler h)
      (.iteResult (.inkwHandler h) (.iteResult (.quireHandler h) (.iteResult (.blotHandler h) (.iteResult (.retnHandler h) (.iteResult
      (.coreHandler h) (.iteResult (.rubrHandler h) (.iteResult (.legacyHandler h) (.iteResult (.chanHandler h) (.headerHandler
      h))))))))))))))))))))))))))))))

theorem State.tablesWf.endLate {s : State} {c : Fin 4} (h : s.tablesWf) : (s.endLate c).tablesWf :=
  .setCore h

theorem State.tablesWf.chanWrite {s : State} {w : Writer} {c wd : Nat} {v : Word} (h : s.tablesWf) : (s.chanWrite w c wd v).tablesWf := by
  unfold State.chanWrite
  split
  · exact .endLate h
  · exact .guarded (.chanHandler h) h

theorem State.tablesWf.pageWrite {s : State} {w : Writer} {p wd : Nat} {v : Word} (h : s.tablesWf) : (s.pageWrite w p wd v).tablesWf :=
  .ite (.ringGuarded h) (.ite (.updGuarded h) (.ite (.scrpGuarded h) (.ite (.chanWrite h) (.guarded (.pageHandler h) h))))

theorem State.tablesWf.memWrite {s : State} {w : Writer} {key : Nat} {v : Word} (h : s.tablesWf) : (s.memWrite w key v).tablesWf :=
  .ite (.regionWrite h (fun _ ht => ht)) (.ite (by
    split
    · exact .endLate h
    · exact .quireWrite h) (.ite (.exmpWrite h) (.ite (.ramWrite h) (.ite (.inkwWrite h) (.regionWrite h (fun _ ht => ht))))))

theorem State.tablesWf.writeAddr {s : State} {w : Writer} {a : Nat} {v : Word} (h : s.tablesWf) : (s.writeAddr w a v).tablesWf := by
  unfold State.writeAddr
  extract_lets key deaf
  refine .ite h ?_
  split
  · exact .lwWrite h
  · split
    · exact .recordRefusal h
    · exact .ite (.recordRefusal h) (.ite (.pageWrite h) (.memWrite h))

theorem State.tablesWf.readAddr {s : State} {w : Writer} {a : Nat} (h : s.tablesWf) : (s.readAddr w a).tablesWf := by
  unfold State.readAddr
  refine .ite h ?_
  split
  · exact .driveBus (.hostRead h)
  · split
    · exact .ite (.coreLoad h) (.wakeDom h)
    · exact .coreLoad h
  · extract_lets on p wd
    refine .ite h (.ite ?_ (.memRead h))
    split
    · exact .nextBka (.memRead h)
    · exact .readEffect h

theorem State.tablesWf.release {s : State} {c : Fin 4} (h : s.tablesWf) : (s.release c).tablesWf := by
  unfold State.release
  extract_lets _ t
  have ht : t.tablesWf := .setCore h
  exact .ite h (by
      split
      · exact .setCore h
      · exact .ite (.lwWrite ht) (.writeAddr ht))

/-! ### Boot -/

theorem State.tablesWf.bootWake {s : State} {d : Nat} (h : s.tablesWf) : (s.bootWake d).tablesWf :=
  .ite h (.setB (.domainUp h))

theorem State.tablesWf.bootWrite {s : State} {a : Nat} {v : Word} (h : s.tablesWf) : (s.bootWrite a v).2.tablesWf := by
  unfold State.bootWrite
  split
  · exact h
  · extract_lets t p wd
    have ht : t.tablesWf := .bootWake h
    clear_value t
    split
    · exact ht.pageWrite
    · change (t.memWrite .tap a v).tablesWf
      exact ht.memWrite

theorem State.tablesWf.listWrite {s : State} {kind a : Nat} {v : Word} (h : s.tablesWf) : (s.listWrite kind a v).2.tablesWf := by
  unfold State.listWrite
  extract_lets _ _ t
  have ht : t.tablesWf := .bootWrite h
  clear_value t
  exact .iteSnd h (.iteSnd ht (.bootWrite h))

theorem State.tablesWf.loaderNext {kind : Nat} {l : Loader} {v : Word} (h : l.s.tablesWf) : (Loader.next kind l v).s.tablesWf := by
  unfold Loader.next
  split
  · exact h
  · split
    · exact .listWrite h
    · split
      · split <;> exact h
      · exact h

theorem State.tablesWf.loadList {s : State} {kind : Nat} {ws : List Word} (h : s.tablesWf) : (s.loadList kind ws).2.tablesWf :=
  .foldlCarries Loader.s h fun _ _ hl => .loaderNext hl

theorem State.tablesWf.bootRun {s : State} {a : Nat} {ws : List Word} (h : s.tablesWf) : (s.bootRun a ws).2.tablesWf :=
  .foldlCarries (fun x : Nat × Nat × State => x.2.2) h fun _ _ hx => .iteSndSnd hx (.bootWrite hx)

theorem State.tablesWf.loadCore {s : State} {c : Nat} {ws : List Word} (h : s.tablesWf) : (s.loadCore c ws).2.tablesWf :=
  .iteSnd h (.iteSnd (.bootRun h) (.bootRun (.bootRun h)))

theorem State.tablesWf.loadMicro {s : State} {c u : Nat} {hi lo : Word} (h : s.tablesWf) : (s.loadMicro c u hi lo).2.tablesWf :=
  .iteSnd h (.wrMem (.wrMem h))

theorem State.tablesWf.loadRubric {s : State} {c version : Nat} {ws : List Word} (h : s.tablesWf) :
    (s.loadRubric c version ws).2.tablesWf := by
  unfold State.loadRubric
  refine .iteSnd h ?_
  extract_lets t keep r r1
  have hr : r.2.tablesWf :=
    .foldlCarries Prod.snd (.bootWake (.bootWake h)) fun _ _ hx => .iteSnd hx (.loadMicro hx)
  have hr1 : r1.2.tablesWf := .foldlCarries Prod.snd hr fun _ _ hx => .iteSnd hx (.bootWrite hx)
  exact .iteSnd hr1 (.setReg hr1)

theorem State.tablesWf.loadHairline {s : State} {ws : List Word} (h : s.tablesWf) : (s.loadHairline ws).2.tablesWf :=
  .iteSnd (.loadList h) (.foldl (.loadList h) (fun _ _ ht => .applyTp ht))

theorem State.tablesWf.loadBody {s : State} {c : Comp} {ws : List Word} (h : s.tablesWf) : (s.loadBody c ws).2.tablesWf :=
  .iteSnd (.loadCore h) (.iteSnd (.loadRubric h) (.iteSnd (.loadHairline h) (.iteSnd h (.loadList h))))

theorem State.tablesWf.loadComp {s : State} {f : Nat} {c : Comp} (h : s.tablesWf) : (s.loadComp f c).2.2.tablesWf :=
  .iteSndSnd h (.iteSndSnd h (.iteSndSnd (.loadBody h) (.iteSndSnd (.loadBody h) (.loadBody h))))

theorem State.tablesWf.loadFolio {s : State} {f : Nat} (h : s.tablesWf) : (s.loadFolio f).2.2.tablesWf :=
  .foldlCarries (fun x : Nat × Nat × State => x.2.2) (.noCodes h) fun _ _ hx => .iteSndSnd hx (.loadComp hx)

theorem State.tablesWf.putSettings {s : State} {classN : Bool} {c : SetCopy} (h : s.tablesWf) : (s.putSettings classN c).tablesWf :=
  .wrMemN h

theorem State.tablesWf.loadClassP {s : State} {f : Nat} {ok : Bool} (h : s.tablesWf) : (s.loadClassP f ok).tablesWf := by
  unfold State.loadClassP
  extract_lets put have_
  have hput : ∀ (t : State) (c : SetCopy), t.tablesWf → (put t c).tablesWf := fun _ _ ht => .setReg (.setB (.putSettings ht))
  have hold : State.tablesWf (match have_ with | some x => put s x | none => s) := by
    cases have_ with
    | none => exact h
    | some x => exact hput _ _ h
  split
  · exact .ite hold (.ite (.pageErr h) (.setB (hput _ _ (.trySet h))))
  · exact hold

theorem State.tablesWf.loadClassN {s : State} (h : s.tablesWf) : s.loadClassN.tablesWf := by
  unfold State.loadClassN
  split
  · exact .setReg (.setB (.putSettings h))
  · exact h

theorem State.tablesWf.bootFail {s : State} {f check code : Nat} (h : s.tablesWf) : (s.bootFail f check code).tablesWf := by
  unfold State.bootFail
  extract_lets t
  have ht : t.tablesWf := .setF (.setF (.setF h))
  exact .ite (.pageErr ht) ht

theorem State.tablesWf.enterRecovery {s : State} (h : s.tablesWf) : s.enterRecovery.tablesWf := by
  unfold State.enterRecovery
  extract_lets t t1 _
  have ht : t.tablesWf := .setB (.setB h)
  have ht1 : t1.tablesWf := .foldl ht (fun _ _ ht1 => .ite (.setB ht1) ht1)
  clear_value t1
  exact ht1

theorem State.tablesWf.bootCore {s : State} {run : Bool} {c : Fin 4} (h : s.tablesWf) : (s.bootCore run c).tablesWf := by
  unfold State.bootCore
  extract_lets t
  have ht : t.tablesWf := .setB (.setB h)
  exact .ite (.wantRun ht) ht

theorem State.tablesWf.setupDumpRing {s : State} (h : s.tablesWf) : s.setupDumpRing.tablesWf :=
  .ite (.setReg (.setReg (.setReg h))) h

theorem State.tablesWf.finishBoot {s : State} {f : Nat} {fresh fell : Bool} {ms : Word} {bad : BitVec 4} (h : s.tablesWf) :
    (s.finishBoot f fresh fell ms bad).tablesWf := by
  unfold State.finishBoot
  extract_lets _ t t1 t2 _ t3 t4 t5 t6 t7 t8 t9 t10 t11 _
  have ht : t.tablesWf := .setReg h
  have ht1 : t1.tablesWf := .loadClassN (.loadClassP ht)
  have ht2 : t2.tablesWf := .ite (.tryRec ht1) ht1
  have ht3 : t3.tablesWf := .ite (.setReg ht2) ht2
  have ht4 : t4.tablesWf := .setF ht3
  have ht5 : t5.tablesWf := .setupDumpRing ht4
  have ht6 : t6.tablesWf := .foldl ht5 (fun _ _ ht6 => .bootCore ht6)
  have ht7 : t7.tablesWf := .setReg (.setReg ht6)
  have ht8 : t8.tablesWf := .setReg ht7
  have ht9 : t9.tablesWf := .setB (.setB (.setB ht8))
  have ht10 : t10.tablesWf := .ite (.raise ht9) ht9
  have ht11 : t11.tablesWf := .setReg ht10
  clear_value t11
  exact ht11

theorem State.tablesWf.fallBack {s : State} {f : Nat} {ok : Bool} (h : s.tablesWf) : (s.fallBack f ok).tablesWf :=
  .setB (.tryRec h)

theorem State.tablesWf.bootOther {s : State} {f : Nat} {fresh : Bool} {ms : Word} {bad : BitVec 4} (h : s.tablesWf) :
    (s.bootOther f fresh ms bad).tablesWf := by
  unfold State.bootOther
  extract_lets _ t _ _
  have ht : t.tablesWf := .fallBack h
  exact .ite (.enterRecovery (.bootFail ht)) (.ite (.enterRecovery (.bootFail (.loadFolio ht))) (.finishBoot (.loadFolio ht)))

theorem State.tablesWf.bootActive {s : State} {ms : Word} {bad : BitVec 4} (h : s.tablesWf) : (s.bootActive ms bad).tablesWf :=
  .ite (.bootOther (.bootFail h)) (.ite (.bootOther h) (.ite (.bootOther (.bootFail (.loadFolio (.ite (.tryRec h) h)))) (.finishBoot
      (.loadFolio (.ite (.tryRec h) h)))))

theorem State.tablesWf.bootClock {s : State} {khz : Nat} (h : s.tablesWf) : (s.bootClock khz).tablesWf :=
  .ite h (.foldl (.setReg h) (fun _ _ ht => .ite (.lockPll ht) ht))

theorem State.tablesWf.muteErr {s : State} {parts : BitVec 10} (h : s.tablesWf) : (s.muteErr parts).tablesWf :=
  .ite (.pageErr h) h

theorem State.tablesWf.bootFlash {s : State} {ms : Word} {bad : BitVec 4} (h : s.tablesWf) : (s.bootFlash ms bad).tablesWf := by
  unfold State.bootFlash
  extract_lets t u
  have ht : t.tablesWf := .showRec (.muteErr h)
  have hu : u.tablesWf := .bootActive ht
  exact .ite (.enterRecovery ht) (.ite hu (.muteErr hu))

theorem Tidy.execBootSequence {run : BootRun} {s : State} (h : s.tablesWf) : Tidy (execBootSequence run s) :=
  .done (by
    split
    · extract_lets t _ u _
      have ht : t.tablesWf := .bootClock h
      clear_value t
      have hu : u.tablesWf := .bootFlash ht
      clear_value u
      exact hu
    · exact h)

/-! ### Vemel -/

theorem State.tablesWf.ldWord {s : State} {c : Fin 4} {a : Nat} (h : s.tablesWf) : (s.ldWord c a).2.tablesWf :=
  .iteSnd h (.coreLoad h)

theorem State.tablesWf.stWord {s : State} {c : Fin 4} {a v : Nat} (h : s.tablesWf) : (s.stWord c a v).tablesWf :=
  .ite h (.writeAddr h)

theorem State.tablesWf.sLoad {s : State} {c : Fin 4} {x : Core} {b : Nat} (h : s.tablesWf) : (s.sLoad c x b).2.2.tablesWf :=
  .iteSndSnd h (.iteSndSnd h (.iteSndSnd (.ldWord (.ldWord h)) (.iteSndSnd (.ldWord h) (.iteSndSnd h (.iteSndSnd h (.iteSndSnd (.ldWord
      h) h))))))

theorem State.tablesWf.sStore {s : State} {c : Fin 4} {x : Core} {b old : Nat} (h : s.tablesWf) : (s.sStore c x b old).2.tablesWf :=
  .iteSnd h (.iteSnd (.stWord (.stWord h)) (.iteSnd (.stWord h) (.iteSnd (.ite (.stWord h) h) (.iteSnd (.ite (.setCore h) h) (.iteSnd
      (.iteSnd (.setCore (.stWord h)) (.setCore h)) (.iteSnd (.stWord h) h))))))

theorem State.tablesWf.endBundle {s : State} {c : Fin 4} {res : List Result} {next : Nat} (h : s.tablesWf) :
    (s.endBundle c res next).tablesWf :=
  .setCore h

theorem State.tablesWf.endStep {s : State} {c : Fin 4} (h : s.tablesWf) : (s.endStep c).tablesWf :=
  .ite (.haltCore h) h

theorem State.tablesWf.countBundle {s : State} {c : Fin 4} (h : s.tablesWf) : (s.countBundle c).tablesWf :=
  .ite h (.setCore h)

theorem State.tablesWf.runsMicro {s : State} {c : Fin 4} {b : Nat} (h : s.tablesWf) : (s.runsMicro c b).tablesWf := by
  unfold State.runsMicro
  extract_lets t _
  have ht : t.tablesWf := .memReadN h
  exact .setCore ht

theorem State.tablesWf.issue {s : State} {c : Fin 4} {ys : List Syl} (h : s.tablesWf) : (s.issue c ys).tablesWf := by
  unfold State.issue
  extract_lets x start s1 body ma mb la lb ta tb cx xr f t t1 lbk t2 t3 _ t4 dz traps _ t5
  have hs1 : s1.tablesWf := .countBundle h
  have hla : la.2.2.tablesWf := .elimSndSnd hs1 fun _ => .sLoad hs1
  have hlb : lb.2.2.tablesWf := .elimSndSnd hla fun _ => .sLoad hla
  have hta : ta.2.tablesWf := .elimSnd hlb fun _ => .sStore hlb
  have htb : tb.2.tablesWf := .elimSnd hta fun _ => .sStore hta
  have ht1 : t1.tablesWf := .ite (.runsMicro htb) htb
  have ht2 : t2.tablesWf := .endBundle (.setCore ht1)
  have ht3 : t3.tablesWf := by
    unfold t3
    split
    · exact .setCore ht2
    · exact ht2
  have ht4 : t4.tablesWf := .ite (.setCore ht3) ht3
  have ht5 : t5.tablesWf := .ite ht4 (.raiseTrap (.pick ht4))
  exact .ite htb (.endStep ht5)

theorem State.tablesWf.blockEnd {s : State} {c : Fin 4} {flags : Option Nat} (h : s.tablesWf) : (s.blockEnd c flags).tablesWf :=
  .endStep (.endBundle (.setCore h))

theorem State.tablesWf.blockNext {s : State} {c : Fin 4} {ptrs : List Nat} {dc : Nat} {flags : Option Nat} (h : s.tablesWf) :
    (s.blockNext c ptrs dc flags).tablesWf := by
  unfold State.blockNext
  extract_lets _ _ _ _ t
  have ht : t.tablesWf := .setCore h
  exact .ite h (.ite (.blockEnd ht) (.endStep ht))

theorem State.tablesWf.blockStep {s : State} {c : Fin 4} {b : Nat} (h : s.tablesWf) : (s.blockStep c b).tablesWf := by
  unfold State.blockStep
  extract_lets _ s1 _ _ _ _ _ _ _ _ _
  have hs1 : s1.tablesWf := .countBundle h
  exact .ite (.blockEnd hs1) (.ite (.blockNext (.stWord (.ldWord hs1))) (.ite (.blockNext (.stWord hs1)) (.ite (.ite (.blockNext
      (.ldWord (.ldWord hs1))) (.blockEnd (.ldWord (.ldWord hs1)))) (.ite (.blockEnd (.ldWord hs1)) (.blockNext (.ldWord hs1))))))

theorem Tidy.execBundleIssue {c : Fin 4} {s : State} (h : s.tablesWf) : Tidy (execBundleIssue c s) :=
  .done (.ite h (.ite (.haltCore h) (by
    split
    · exact .decodeTrap h ‹_›
    · exact .ite (.endStep h) (.ite (.setCore (.wakeDom h)) (by
    split
    · exact .setCore (.restoreFor h ‹_›)
    · split
      · exact .ite (.blockStep (.decodeBundle h)) (.issue (.decodeBundle h))
      · exact .issue (.decodeBundle h))))))

theorem State.tablesWf.vectorIn {s : State} {c : Fin 4} (h : s.tablesWf) : (s.vectorIn c).tablesWf := by
  unfold State.vectorIn
  extract_lets t _ _ t1
  have ht : t.tablesWf := .setCore h
  clear_value t
  have ht1 : t1.tablesWf := .ite ht ht
  split
  · exact ht
  · exact .setCore ht1

theorem State.tablesWf.doubleTrap {s : State} {c : Fin 4} {a : BitVec 17} (h : s.tablesWf) : (s.doubleTrap c a).tablesWf :=
  .raise (.setReg (.setCore h))

theorem State.tablesWf.trapIn {s : State} {c : Fin 4} {tcs : Nat} {a bundle : BitVec 17} (h : s.tablesWf) :
    (s.trapIn c tcs a bundle).tablesWf :=
  .endStep (.raise (.setReg (.setReg (.setCore h))))

theorem Tidy.execTrapEntry {c : Fin 4} {s : State} (h : s.tablesWf) : Tidy (execTrapEntry c s) :=
  .done (by
    split
    · exact .ite h (.ite (.doubleTrap h) (.trapIn h))
    · exact h)

/-! ### LMode -/

theorem State.tablesWf.lFetch {s : State} (h : s.tablesWf) : s.lFetch.state.tablesWf := by
  have hr : (s.memRead (coreBase + s.cores[0].pc.toNat)).2.2.tablesWf := .memRead h
  unfold State.lFetch
  extract_lets a bad r w q
  split
  · exact h
  · split
    · exact hr
    · split
      · exact hr
      · split
        · exact hr
        · split
          · exact hr
          · split <;> exact .memRead hr

theorem State.tablesWf.lPlain {s : State} {next : Nat} {res : List Result} (h : s.tablesWf) : (lPlain s next res).state.tablesWf :=
  h

theorem State.tablesWf.lPace {s : State} {n : Nat} (h : s.tablesWf) : (s.lPace n).tablesWf :=
  h

theorem State.tablesWf.lEnd {s : State} {op : LOp} {e : LEffect} (h : e.state.tablesWf) : (s.lEnd op e).tablesWf := by
  unfold State.lEnd
  extract_lets x load y _ t
  have ht : t.tablesWf := .lPace (.setCore h)
  exact .ite h (.ite (.haltCore ht) ht)

theorem State.tablesWf.lIssue {s : State} {op : LOp} {addr : State → Nat → Nat → Option BankWord}
    {run : State → Nat → Nat → Nat → LEffect} (h : s.tablesWf) (hrun : ∀ t w w2 n, t.tablesWf → (run t w w2 n).state.tablesWf) :
    (s.lIssue op addr run).tablesWf := by
  unfold State.lIssue
  extract_lets f off x
  refine .ite h ?_
  split
  · exact h
  · refine .ite h (.ite (.setCore (.wakeDom h)) ?_)
    split
    · exact .setCore (.restoreFor h ‹_›)
    · exact .lEnd (hrun _ _ _ _ (.lFetch h))

theorem State.tablesWf.lCompute {s : State} {op : LOp} {run : Core → Nat → Nat → Nat → List Result} (h : s.tablesWf) :
    (s.lCompute op run).tablesWf :=
  .lIssue h (fun _ _ _ _ ht => .lPlain ht)

theorem State.tablesWf.lLoad {s : State} {t : BankWord} (h : s.tablesWf) : (s.lLoad t).2.tablesWf :=
  .iteSnd h (by
    split
    · exact .coreMemLoad h
    · exact .lwRead h
    · exact .coreErr h)

theorem State.tablesWf.lStore {s : State} {t : BankWord} {v : Nat} (h : s.tablesWf) : (s.lStore t v).tablesWf :=
  .ite h (by
    split
    · exact .writeAddr h
    · exact .lwWrite h
    · exact .recordRefusal h)

theorem State.tablesWf.lLoadTo {s : State} {t : Option BankWord} {d next : Nat} {res : List Result} (h : s.tablesWf) :
    (lLoadTo s t d next res).state.tablesWf :=
  .lLoad h

theorem State.tablesWf.lStoreFrom {s : State} {t : Option BankWord} {d next : Nat} {res : List Result} (h : s.tablesWf) :
    (lStoreFrom s t d next res).state.tablesWf :=
  .lStore h

theorem Tidy.execLB {s : State} (h : s.tablesWf) : Tidy (execLB s) :=
  .done (.lIssue h (fun _ _ _ _ ht => by
    split
    · exact ht
    · exact ht))

theorem State.tablesWf.lHalt {s : State} {tcs : Nat} (h : s.tablesWf) : (s.lHalt tcs).tablesWf :=
  .setB (.setB (.raise (.raise (.setReg (.setReg (.setCore h))))))

theorem Tidy.execLIllegalHalt {s : State} (h : s.tablesWf) : Tidy (execLIllegalHalt s) := by
  unfold Machine.execLIllegalHalt
  extract_lets f
  refine .done (.ite ?_ h)
  split
  · exact .lHalt (.lFetch h)
  · exact h

/-! ### Port -/

theorem State.tablesWf.busError {s : State} (h : s.tablesWf) : s.busError.tablesWf := by
  unfold State.busError
  extract_lets t _
  have ht : t.tablesWf := .raise (.incSat h)
  clear_value t
  exact ht

theorem State.tablesWf.busOff {s : State} (h : s.tablesWf) : s.busOff.tablesWf :=
  h

theorem State.tablesWf.post {s : State} {q : Nat} {a : BitVec 24} {v : Word} (h : s.tablesWf) : (s.post q a v).tablesWf := by
  unfold State.post
  extract_lets _ t
  have ht : t.tablesWf := .setSes h
  exact .ite (.raise (.incSat (.sesErr h))) (.ite (.latchWake ht) ht)

theorem State.tablesWf.windowCopy {s : State} {q a : Nat} {v : Word} (h : s.tablesWf) : (s.windowCopy q a v).tablesWf :=
  .ite (.setSes (.setReg h)) h

theorem Tidy.execPostedWritePerform {q : Fin 8} {s : State} (h : s.tablesWf) : Tidy (execPostedWritePerform q s) := by
  unfold Machine.execPostedWritePerform
  extract_lets _
  exact .done (by
      split
      · exact h
      · exact .ite h (by
      split
      · exact .restoreFor h ‹_›
      · extract_lets t u
        have ht : t.tablesWf := .setSes h
        have hu : u.tablesWf := .writeAddr ht
        exact .ite (.windowCopy hu) hu))

theorem State.tablesWf.fetchWord {s : State} {q i : Nat} (h : s.tablesWf) : (s.fetchWord q i).tablesWf := by
  unfold State.fetchWord
  extract_lets _ _ _ t
  have ht : t.tablesWf := .setReg (.memRead h)
  exact .ite (.setSes (.setReg h)) (.ite (.sesErr ht) ht)

theorem State.tablesWf.spiEnd {s : State} {n : Fin 2} {out : List Byte} {whole : Bool} (h : s.tablesWf) :
    (s.spiEnd n out whole).tablesWf := by
  unfold State.spiEnd
  extract_lets _ _ t
  have ht : t.tablesWf := .setSes h
  exact .ite (.inc ht) ht

theorem State.tablesWf.postN {s : State} {q a : Nat} {l : List Word} (h : s.tablesWf) : (s.postN q a l).tablesWf := by
  induction l generalizing s a with
  | nil => exact h
  | cons v l ih => exact ih (.post h)

theorem State.tablesWf.spiFrame {s : State} {n : Fin 2} {f : State → State} (h : s.tablesWf)
    (hf : ∀ t, t.tablesWf → (f t).tablesWf) : (s.spiFrame n f).tablesWf :=
  .setB (.ite (hf _ (.setB h)) h)

theorem State.tablesWf.spiPartial {s : State} {n : Fin 2} {write : Bool} {a : BitVec 24} {ws : List Word} (h : s.tablesWf) :
    (s.spiPartial n write a ws).tablesWf :=
  .raise (.incSat (.ite (.spiEnd (.ite h (.postN h))) (.spiEnd (.hostReadN h))))

theorem State.tablesWf.postUntil {s : State} {q a : Nat} {l : List Word} (h : s.tablesWf) : (s.postUntil q a l).1.tablesWf := by
  induction l generalizing s a with
  | nil => exact h
  | cons v l ih => exact .iteFst (.post h) (ih (.post h))

theorem State.tablesWf.iluhiRun {s : State} {q : Fin 8} {typ seq : Byte} {pl : List Byte} (h : s.tablesWf) :
    (s.iluhiRun q typ seq pl).2.tablesWf :=
  .iteSnd (.hostReadN h) (.iteSnd (.postUntil h) (.iteSnd h h))

theorem State.tablesWf.respond {s : State} {l : Fin 4} {frame : List Byte} (h : s.tablesWf) : (s.respond l frame).tablesWf :=
  .sendResp (.setSes h)

theorem State.tablesWf.iluhiRequest {s : State} {l : Fin 4} {typ seq : Byte} {pl : List Byte} (h : s.tablesWf) :
    (s.iluhiRequest l typ seq pl).tablesWf := by
  unfold State.iluhiRequest
  extract_lets _ t _ _ _
  have ht : t.tablesWf := .inc h
  exact .ite h (.ite (.incSat h) (.ite (.respond ht) (.respond (.setSes (.iluhiRun ht)))))

theorem State.tablesWf.iluhiDrop {s : State} {l : Fin 4} (h : s.tablesWf) : (s.iluhiDrop l).tablesWf :=
  .ite (.incSat h) h

theorem State.tablesWf.beginPush {s : State} {l : Fin 4} {event : Bool} {r : Nat} (h : s.tablesWf) :
    (s.beginPush l event r).tablesWf := by
  unfold State.beginPush
  extract_lets _ _ _ _ _ _ t _ t1
  have ht : t.tablesWf := .ite (.pageErr (.ringReadE h)) (.ringReadE h)
  have ht1 : t1.tablesWf := .setSes ht
  clear_value t1
  exact ht1

theorem Tidy.execIluhiPushSent {l : Fin 4} {s : State} (h : s.tablesWf) : Tidy (execIluhiPushSent l s) := by
  unfold Machine.execIluhiPushSent
  extract_lets _ _ t
  have ht : t.tablesWf := .setSes h
  exact .done (by
      split
      · exact .sendResp (.ite (.ringTake ht) ht)
      · exact h)

/-! ### Tick -/

theorem State.tablesWf.rxtTick {s : State} (h : s.tablesWf) : s.rxtTick.tablesWf := by
  unfold State.rxtTick
  extract_lets t
  have ht : t.tablesWf := .reach h
  exact .ite h (.ite (.setB ht) ht)

theorem State.tablesWf.rtcSecond {s : State} (h : s.tablesWf) : s.rtcSecond.tablesWf := by
  unfold State.rtcSecond
  extract_lets t
  have ht : t.tablesWf := .ite (.ite (.raise (.freeLock h)) (.inc h)) h
  exact .ite ht (.ite (.ite (.trialOver ht) (.setReg ht)) (.setReg ht))

theorem State.tablesWf.rtcTick {s : State} (h : s.tablesWf) : s.rtcTick.tablesWf := by
  unfold State.rtcTick
  extract_lets t t1
  have ht : t.tablesWf := .rtcTicks h
  have ht1 : t1.tablesWf := .ite (.wakeEvent ht) ht
  exact .ite (.rtcSecond ht1) ht1

theorem State.tablesWf.noteSwitch {s : State} (h : s.tablesWf) : s.noteSwitch.tablesWf :=
  h

theorem State.tablesWf.onSource {s : State} {b : Bool} (h : s.tablesWf) : (s.onSource b).tablesWf :=
  h

theorem Tidy.execRtcFallback {s : State} (h : s.tablesWf) : Tidy (execRtcFallback s) := by
  unfold Machine.execRtcFallback
  extract_lets t
  have ht : t.tablesWf := .raise (.rtcWant h)
  exact .done (.ite (.ite ht (.noteSwitch (.onSource (.rtcTick (.rtcTick (.rtcTick (.rtcTick (.onSource ht)))))))) h)

theorem Tidy.execRtcSourceChange {s : State} (h : s.tablesWf) : Tidy (execRtcSourceChange s) :=
  .done (by
    split
    · exact .rtcTick (.noteSwitch (.onSource h))
    · exact h)

theorem State.tablesWf.rtcNano {s : State} (h : s.tablesWf) : s.rtcNano.tablesWf :=
  .ite h (.ite (.rtcTick h) h)

theorem State.tablesWf.idle {s : State} (h : s.tablesWf) : s.idle.tablesWf :=
  .settle (.pwmNano (.rtcNano (.rxtTick h)))

/-! ### Every command and every step -/

/-- Every command keeps the canonical form of the tables. -/
theorem exec_tidy (i : Instr) {s : State} (h : s.tablesWf) : Tidy (exec i s) := by
  cases i with
  | registerWrite => exact .done (.writeAddr h)
  | pageLockTake => exact .done (.writeAddr h)
  | pageLockRelease => exact .done (.writeAddr h)
  | feedEnable => exact .done (.guarded (.feedCtrl h) h)
  | feedDisable => exact .done (.guarded (.feedCtrl h) h)
  | laneTrain => exact .done (.guarded (.feedCtrl h) h)
  | waitclkCountDone => exact .done (.ite (.ite (.setLane h) (.laneFail h)) h)
  | waitclkGap => exact .done (.ite (.setLane h) h)
  | sweepDone => exact .execSweepDone h
  | alignDone => exact .done (.ite (.setFeed (.setF h)) h)
  | trainConfirmDone => exact .done (.ite (.raise (.setFeed (.setLane h))) h)
  | trainTimeout => exact .done (.ite (.laneFail h) h)
  | laneGo => exact .done (.guarded (.feedCtrl h) h)
  | laneWord => exact .execLaneWord h
  | clockLoss => exact .done (.portDown (.portDown h))
  | notchAdapt => exact .done (.ite (.setFeed (.setReg h)) h)
  | blankerLimit => exact .done (.ite (.raise (.setB (.setFeed h))) h)
  | substreamFreqWrite => exact .done (.guarded (.feedWord h) h)
  | clockGateEnd => exact .done (.ite (.setReg2 h) h)
  | streamEnable => exact .done (.guarded (.smapHandler h) h)
  | streamDisable => exact .done (.guarded (.smapHandler h) h)
  | spectrumRecordTick => exact .execSpectrumRecordTick h
  | agcUpdate => exact .execAgcUpdate h
  | rfspiTransfer => exact .done (.guarded (.routeHandler h) h)
  | rfspiReady => exact .done (.ite h h)
  | rfspiReadyTimeout => exact .done (.ite (.pageErr (.raise (.setB (.rfIdle h)))) h)
  | rfspiDone => exact .done (.ite (.raise (.setB (.setRegs (.rfIdle h)))) h)
  | programValidate => exact .done (.guarded (.programHandler h) h)
  | programInvalidate => exact .done (.guarded (.programHandler h) h)
  | regionValidate => exact .done (.guarded (.regionHandler h) h)
  | regionInvalidate => exact .done (.guarded (.regionHandler h) h)
  | exemplarWrite => exact .done (.ite (.exmpWrite h) h)
  | retarget => exact .done (.guarded (.retargetHandler h) h)
  | tmblWrite => exact .done (.guarded (.exmpHandler h) h)
  | contextWrite => exact .done (.ite (.ite (.quireWrite h) h) (.guarded (.setCtx h) h))
  | channelAdmit => exact .done (.guarded (.ctrlHandler h) h)
  | admissionDecision => exact .execAdmissionDecision h
  | channelDisable => exact .done (.guarded (.ctrlHandler h) h)
  | channelTrack => exact .done (.guarded (.ctrlHandler h) h)
  | channelDrop => exact .done (.guarded (.ctrlHandler h) h)
  | phaseSetArm => exact .done (.guarded (.sctlHandler h) h)
  | updateCommit => exact .done (.guarded (.uctlHandler h) h)
  | frameBoundary => exact .done (.ite (.frameClose (.drainedOff (.drainRanks (.frameOpen h)))) h)
  | rankSlot => exact .execRankSlot h
  | windowWrite => exact .done (.guarded (.winHandler h) h)
  | rankDisable => exact .done (.guarded (.rankCtrl h) h)
  | rankEnable => exact .done (.guarded (.rankCtrl h) h)
  | inkwellWrite => exact .done (.ite (.inkwWrite h) h)
  | captureGo => exact .done (.guarded (.inkwCtrl h) h)
  | captureStop => exact .done (.guarded (.inkwCtrl h) h)
  | captureDone => exact .execCaptureDone h
  | jobRingConfig => exact .done (.guarded (.jrHandler h) h)
  | jobStart => exact .execJobStart h
  | jobExtractionDone => exact .execJobExtractionDone h
  | jobCommit => exact .execJobCommit h
  | recordRoomTimeout => exact .execRecordRoomTimeout h
  | jobAbort => exact .done (.scrpGuarded h)
  | abortScanDone => exact .execAbortScanDone h
  | jobAbortStop => exact .execJobAbortStop h
  | handoff => exact .done (.scrpGuarded h)
  | cacheWrite => exact .done (.guarded (.cacheHandler h) h)
  | workingRamWrite => exact .done (.ite (.ramWrite h) h)
  | rxtWrap => exact .done (.reach h)
  | rxtSecond => exact .done (.ite (.setB (.reach h)) h)
  | rxtCapture => exact .done (.guarded (.timeCtrl h) h)
  | tdiscClear => exact .done (.guarded (.timeCtrl h) h)
  | rebuiltClear => exact .done (.guarded (.timeCtrl h) h)
  | mapGo => exact .done (.guarded (.timeCtrl h) h)
  | mapApply => exact .done (.ite (.applyMap (.reachX h)) h)
  | periodicEnable => exact .done (.guarded (.measCtrl h) h)
  | periodicEpoch => exact .done (.ite (.takeEpoch h) h)
  | snap => exact .done (.guarded (.measCtrl h) h)
  | latchCommit => exact .execLatchCommit h
  | tpApply => exact .done (.guarded (.tpCtrl h) h)
  | tpApplyTakeEffect => exact .done (.ite (.tpTakes h) h)
  | tpActiveEdge => exact .execTpActiveEdge h
  | tpInactiveEdge => exact .execTpInactiveEdge h
  | hairlineCalibrate => exact .done (.guarded (.tpCtrl h) h)
  | hairlineCalDone => exact .execHairlineCalDone h
  | eventEdge => exact .execEventEdge h
  | eventFifoMove => exact .execEventFifoMove h
  | rtcCalGo => exact .done (.guarded (.timeCtrl h) h)
  | rtcCalDone => exact .done (.ite (.raise (.setB (.setRegs h))) h)
  | calplWrite => exact .done (.guarded (.timeHandler h) h)
  | rcplWrite => exact .done (.guarded (.timeHandler h) h)
  | rxtRebuild => exact .execRxtRebuild h
  | bundleIssue => exact .execBundleIssue h
  | interruptEntry => exact .done (.ite (.getD (fun _ ht => .decodeTrap h ht) (.vectorIn h)) h)
  | idleWake => exact .done (.ite (.setCore h) h)
  | trapEntry => exact .execTrapEntry h
  | coreReset => exact .done (.guarded (.coreCtrl h) h)
  | coreResetDone => exact .done (.ite (.setCore h) h)
  | coreRun => exact .done (.guarded (.coreCtrl h) h)
  | coreHalt => exact .done (.guarded (.coreCtrl h) h)
  | coreStep => exact .done (.guarded (.coreCtrl h) h)
  | breakpointHalt => exact .done (.ite (.getD (fun _ ht => .decodeTrap h ht) (.haltCore h)) h)
  | coreRegisterWrite => exact .done (.guarded (.rdatHandler h) h)
  | corePcWrite => exact .done (.guarded (.coreHandler h) h)
  | swevSet => exact .done (.guarded (.coreHandler h) h)
  | rubricMicrowordWrite => exact .done (.guarded (.udlHandler h) h)
  | rubricEntryWrite => exact .done (.guarded (.dentHandler h) h)
  | quiesceRequest => exact .done (.guarded (.rubrCtrl h) h)
  | quiesceDone => exact .done (.ite (.setCore (.raise (.setB h))) h)
  | quiesceRelease => exact .done (.guarded (.rubrCtrl h) h)
  | lNop => exact .done (.lCompute h)
  | lRet => exact .done (.lIssue h (fun _ _ _ _ ht => ht))
  | lRti => exact .done (.lIssue h (fun _ _ _ _ ht => ht))
  | lIdle => exact .done (.lIssue h (fun _ _ _ _ ht => .setCore ht))
  | lEi => exact .done (.lCompute h)
  | lDi => exact .done (.lCompute h)
  | lRegisterOperation => exact .done (.lCompute h)
  | lAddi => exact .done (.lCompute h)
  | lLdi => exact .done (.lCompute h)
  | lCmpi => exact .done (.lCompute h)
  | lShli => exact .done (.lCompute h)
  | lShri => exact .done (.lCompute h)
  | lAsri => exact .done (.lCompute h)
  | lLdw => exact .done (.lIssue h (fun _ _ _ _ ht => .lLoadTo ht))
  | lStw => exact .done (.lIssue h (fun _ _ _ _ ht => .lStoreFrom ht))
  | lLdp => exact .done (.lIssue h (fun _ _ _ _ ht => .lLoadTo ht))
  | lStp => exact .done (.lIssue h (fun _ _ _ _ ht => .lStoreFrom ht))
  | lLpi => exact .done (.lCompute h)
  | lLap => exact .done (.lCompute h)
  | lMpy => exact .done (.lCompute h)
  | lMac => exact .done (.lCompute h)
  | lMsu => exact .done (.lCompute h)
  | lExt => exact .done (.lCompute h)
  | lExh => exact .done (.lCompute h)
  | lLdh => exact .done (.lCompute h)
  | lClra => exact .done (.lCompute h)
  | lMova => exact .done (.lCompute h)
  | lAdda => exact .done (.lCompute h)
  | lNega => exact .done (.lCompute h)
  | lB => exact .execLB h
  | lJmp => exact .done (.lIssue h (fun _ _ _ _ ht => ht))
  | lCall => exact .done (.lIssue h (fun _ _ _ _ ht => ht))
  | lMfl => exact .done (.lCompute h)
  | lMtl => exact .done (.lCompute h)
  | lIllegalHalt => exact .execLIllegalHalt h
  | legacyDspRun => exact .done (.lwRow h)
  | legacyDspReset => exact .done (.lwRow h)
  | legacyFifoClear => exact .done (.lwRow h)
  | legacyPowerDown => exact .done (.lwRow h)
  | legacySnap => exact .done (.lwRow h)
  | legacyMailboxHostWrite => exact .done (.lwRow h)
  | legacyMailboxDspRead => exact .done (.ite (.lwRead h) h)
  | legacyMailboxDspWrite => exact .done (.ite (.lwWrite h) h)
  | legacyMailboxHostRead => exact .done (.lwReadRow h)
  | legacyMemoryAddressWrite => exact .done (.lwRow h)
  | legacyReadaheadComplete => exact .execLegacyReadaheadComplete h
  | legacyMemoryPortRead => exact .done (.lwReadRow h)
  | legacyMemoryPortWrite => exact .done (.lwRow h)
  | legacyDumpFifoRead => exact .done (.lwReadRow h)
  | legacySampleEnable => exact .done (.lwRow h)
  | legacyChannelEnable => exact .done (.lwRow h)
  | legacyChannelDisable => exact .done (.lwRow h)
  | legacyCarrierWrite => exact .done (.lwRow h)
  | legacyCodeWrite => exact .done (.lwRow h)
  | legacyCodeSet => exact .done (.lwRow h)
  | legacyUartWrite => exact .done (.lwRow h)
  | legacyUartRead => exact .done (.lwReadRow h)
  | legacyTpApply => exact .done (.lwRow h)
  | ltpoflWrite => exact .done (.lwRow h)
  | eccWriteback => exact .execEccWriteback h
  | quireAccessTimeout => exact .execQuireAccessTimeout h
  | blotterBorrow => exact .execBlotterBorrow h
  | blotterBorrowDone => exact .execBlotterBorrowDone h
  | blotterAbort => exact .done (.abortBorrow h)
  | blotterRestoreDone => exact .execBlotterRestoreDone h
  | blotterRestart => exact .done (.guarded (.blotCtrl h) h)
  | exclusionApply => exact .done (.guarded (.xctlHandler h) h)
  | lostAcknowledge => exact .done (.guarded (.retnHandler h) h)
  | hostBusRead => exact .done (.ite (.busOff h) (.ite (.busError h) (.ite (.busOff h) (.driveBus (.hostRead h)))))
  | hostBusWrite => exact .done (.ite (.busOff h) (.ite (.busError h) (.ite (.busOff h) (.post (.busOff h)))))
  | postedWritePerform => exact .execPostedWritePerform h
  | shadowRefill => exact .done (.ite h h)
  | readaheadPointerWrite => exact .done (.writeAddr h)
  | prefetchComplete => exact .done (.ite (.getD (fun _ ht => .restoreFor h ht) (.setReg (.foldl h (fun _ _ ht => .fetchWord ht)))) h)
  | prefetchTimeout => exact .done (.ite (.sesErr (.setReg (.foldl h (fun _ _ ht => .fetchWord ht)))) h)
  | spiReadFrame => exact .done (.spiFrame h (fun _ ht => .spiEnd (.hostReadN ht)))
  | spiWriteFrame => exact .done (.ite h (.spiFrame h (fun _ ht => .ite (.spiEnd (.raise (.incSat ht))) (.spiEnd (.postN ht)))))
  | spiStatusFrame => exact .done (.spiFrame h (fun _ ht => .spiEnd ht))
  | spiOpRefused => exact .done (.spiFrame h (fun _ ht => .spiEnd (.sesErr (.free ht))))
  | spiPartialFrame => exact .done (.spiFrame h (fun _ ht => .spiPartial ht))
  | spiClockIdleTimeout => exact .done (.ite (.sesErr (.spiPartial (.setB h))) h)
  | iluhiRead => exact .done (.iluhiRequest h)
  | iluhiWrite => exact .done (.iluhiRequest h)
  | iluhiPing => exact .done (.iluhiRequest h)
  | iluhiUnknownType => exact .done (.iluhiRequest h)
  | iluhiFrameDiscard => exact .done (.iluhiDrop h)
  | iluhiGapTimeout => exact .done (.iluhiDrop h)
  | iluhiPush => exact .done (.ite h (.ite (.unitFails h) (.ite (.beginPush (.free h)) (.ite (.beginPush h) (.ite (.beginPush h) h)))))
  | iluhiPushSent => exact .execIluhiPushSent h
  | sessionEnable => exact .done (.guarded (.sesHandler h) h)
  | permissionMaskWrite => exact .done (.guarded (.sesHandler h) h)
  | doorbellSet => exact .done (.guarded (.sesHandler h) h)
  | ringConfig => exact .done (.ringGuarded h)
  | ringIndexWrite => exact .done (.ringGuarded h)
  | swsetWrite => exact .done (.guarded (.evcHandler h) h)
  | timerLoad => exact .done (.guarded (.evcHandler h) h)
  | timerExpiry => exact .execTimerExpiry h
  | routeWrite => exact .done (.guarded (.evcHandler h) h)
  | eventRecordWrite => exact .execEventRecordWrite h
  | deliveryRecord => exact .done (.ite (.inc (.ringTake (.foldl (.ite (.pageErr (.ringReadE h)) (.ringReadE h)) (fun _ _ ht => .offer
      ht)))) h)
  | serRxCharacter => exact .done (.rxChar h)
  | serBreak => exact .execSerBreak h
  | serXoffReceived => exact .done (.flowReceived h)
  | serXonReceived => exact .done (.flowReceived h)
  | serRxdRead => exact .done (.readAddr h)
  | serTxdWrite => exact .done (.guarded (.serHandler h) h)
  | serTxStart => exact .execSerTxStart h
  | serTxCharacterDone => exact .execSerTxCharacterDone h
  | serConfigWrite => exact .done (.guarded (.serHandler h) h)
  | serBaudWrite => exact .done (.guarded (.serHandler h) h)
  | serSendBreak => exact .done (.guarded (.serHandler h) h)
  | serFlowWrite => exact .done (.guarded (.serHandler h) h)
  | serFlowCharacterSend => exact .execSerFlowCharacterSend h
  | serFlowTimeout => exact .done (.ite (.raise (.pageErr h)) h)
  | serDrainEnable => exact .done (.guarded (.serHandler h) h)
  | serDrainMove => exact .done (.ite (.drainMove h) h)
  | serFeedTake => exact .done (.ite (.ite (.unitFails h) (.ringTake (.setSer (.ite (.pageErr (.ringReadE h)) (.ringReadE h))))) h)
  | slowRxCharacter => exact .execSlowRxCharacter h
  | domainSwitchOff => exact .done (.guarded (.dctlHandler h) h)
  | domainIdleExpiry => exact .done (.ite (.switchOff (.setB h)) h)
  | domainPowerUp => exact .done (.guarded (.dctlHandler h) h)
  | domainOn => exact .done (.ite (.foldl (.foldl (.domainUp h) (fun _ _ ht => .ite (.lockPll ht) ht)) (fun _ _ ht => .release ht)) h)
  | wakeOnDemandTimeout => exact .done (.ite (.setCore (.raise (.coreErr h))) h)
  | deviceStateGo => exact .done (.guarded (.pwrCtrl h) h)
  | deviceIdleTimerExpiry => exact .execDeviceIdleTimerExpiry h
  | entryWaitTimeout => exact .execEntryWaitTimeout h
  | dozeEntry => exact .done (.ite (.setPhase (.settleEntry (.abortBorrow h))) h)
  | dozeExit => exact .done (.ite (.endDoze (.ite (.setB h) h)) h)
  | sleepEntry => exact .execSleepEntry h
  | sleepExit => exact .execSleepExit h
  | backupEntry => exact .done (.ite (.settleEntry (.setReg (.setReg (.deepEntry h)))) (.unready h))
  | dormantEntry => exact .execDormantEntry h
  | backupExit => exact .done (.ite (.deepExit h) h)
  | wakePin => exact .execWakePin h
  | rtcAlarm => exact .done (.ite (.wakeEvent (.rtcTicks h)) h)
  | alm2Write => exact .done (.guarded (.alm2Handler h) h)
  | rtcSourceWrite => exact .done (.guarded (.rtcctlHandler h) h)
  | rtcFallback => exact .execRtcFallback h
  | rtcSourceChange => exact .execRtcSourceChange h
  | xtalOk => exact .done (.setB h)
  | pllUnlock => exact .execPllUnlock h
  | pllRelock => exact .execPllRelock h
  | backupStoreRead => exact .done (.readAddr h)
  | backupStoreWrite => exact .done (.guarded (.bkdHandler h) h)
  | warmRestart => exact .done (.guarded (.rstCtrl h) h)
  | resetAssert => exact .execResetAssert h
  | powerOnReset => exact .execPowerOnReset h
  | brownOut => exact .execBrownOut h
  | supplyFall => exact .done (.ite h (.rstReset (.forgetCore h)))
  | pwrenRetry => exact .done (.ite h h)
  | bootSequence => exact .execBootSequence h
  | refclkMeasureTimeout => exact .done (.ite (.enterRecovery (.bootFail h)) h)
  | trialTimerExpiry => exact .done (.ite (.ite (.trialOver h) (.setReg h)) h)
  | healthConfirm => exact .done (.updGuarded h)
  | rollbackFuseProgram => exact .execRollbackFuseProgram h
  | updateLockTake => exact .done (.updGuarded h)
  | updateLockRelease => exact .done (.updGuarded h)
  | updateLockExpiry => exact .done (.ite (.raise (.freeLock h)) h)
  | blockWrite => exact .done (.updGuarded h)
  | blockWriteDone => exact .execBlockWriteDone h
  | activate => exact .done (.updGuarded h)
  | activateDone => exact .done (.ite (.finishOp h) h)
  | classPSettingsWrite => exact .done (.updGuarded h)
  | classNSettingsWrite => exact .done (.updGuarded h)
  | classNDiscard => exact .done (.updGuarded h)
  | settingsWriteDone => exact .execSettingsWriteDone h
  | flashTimeout => exact .done (.finishOp h)
  | otpWrite => exact .done (.guarded (.lcsCtrl h) h)
  | otpWriteDone => exact .execOtpWriteDone h
  | lifecycleAdvance => exact .done (.guarded (.lcsCtrl h) h)
  | lifecycleAdvanceDone => exact .execLifecycleAdvanceDone h
  | returnToken => exact .done (.guarded (.lcsCtrl h) h)
  | returnTokenDone => exact .execReturnTokenDone h
  | rstNRelease => exact .done (.ite h (.sampleStraps h))
  | crystalFailure => exact .done (.setB h)
  | retentionMonitorTrip => exact .done (.ite h h)
  | powerRailsInRange => exact .done (.ite h h)
  | tapDebugAccess => exact .done (.ite h (.ite (.writeAddr h) (.readAddr h)))

/-- Settles O4: a step is the next command of the queue or, with none there, the passing of a tick; the lemmas `State.tablesWf.f`
say, for each operation `f` of the model, that it keeps the form. -/
theorem stepKeepsTables : Obligations.StepKeepsTables := by
  unfold Obligations.StepKeepsTables
  intro s t h hst
  unfold step at hst
  split at hst
  · exact Host.Outcome.next.inj hst ▸ h.idle
  next c r _ => exact exec_tidy c (.withPending h) t hst

end Sys2Proof.Machine
end

section
/-! SUPPORT. Write-backs, Quire time-outs, LOST words and retention monitors (11 R370, R376, R387, R388, R391). -/

namespace Sys2Proof.Machine

section
variable {s : State}

/-! ### Write-backs (R370) -/

theorem exec_eccWriteback_next {k : Nat} {r : List Nat} (h : s.blot.wb = k :: r) :
    exec .eccWriteback s = .next (settle s (if (memOf k).1 = 9
      then State.incSat { s with blot := { s.blot with wb := r, eccBad := s.blot.eccBad.del k } } (pg 42 28)
      else { s with blot := { s.blot with wb := r, eccBad := s.blot.eccBad.del k } })) := by
  change execEccWriteback s = _
  rw [execEccWriteback, h, done]

theorem exec_eccWriteback_none (h : s.blot.wb = []) : exec .eccWriteback s = .next (settle s s) := by
  change execEccWriteback s = _
  rw [execEccWriteback, h, done]

/-! ### What a timeout of the Quire does to its requester (R376) -/

theorem State.quireTimedOut_core_store {c : Fin 4} {o : Nat} {a : BitVec 24} {v : Word} (hw : (s.cores[c.val]).stallW = some (a, v))
    (ha : quireWord a.toNat = some o) : s.quireTimedOut (.core c) o
      = (s.setCore c { s.cores[c.val] with stallW := none, wod := false }).coreErr c.val eTIMEOUT := by
  simp only [State.quireTimedOut, hw, ha, beq_self_eq_true, if_true]
  rfl

theorem State.quireTimedOut_core_load {c : Fin 4} {o : Nat}
    (hno : ∀ a v, (s.cores[c.val]).stallW = some (a, v) → quireWord a.toNat ≠ some o) : s.quireTimedOut (.core c) o
      = (s.setCore c { s.cores[c.val] with qTmo := some o }).coreErr c.val eTIMEOUT := by
  cases hw : (s.cores[c.val]).stallW with
  | none => simp [State.quireTimedOut, hw, State.setCore]
  | some e => simp [State.quireTimedOut, hw, State.setCore, hno e.1 e.2 hw]

theorem State.quireTimedOut_host_write {q : Fin 8} {o : Nat} {a : BitVec 24} {v : Word} {l : List (BitVec 24 × Word)}
    (hp : (s.sess[q.val]).post = (a, v) :: l) (ha : quireWord a.toNat = some o) : s.quireTimedOut (.host q) o
      = State.sesErr { s with sess := s.sess.set q.val { s.sess[q.val] with post := l } } q.val eTIMEOUT a.toNat := by
  simp only [State.quireTimedOut, hp, ha, if_true]

theorem State.quireTimedOut_host_read {q : Fin 8} {o : Nat}
    (hno : ∀ a v l, (s.sess[q.val]).post = (a, v) :: l → quireWord a.toNat ≠ some o) : s.quireTimedOut (.host q) o
      = s.sesErr q.val eTIMEOUT (quireBase + o) := by
  cases hp : (s.sess[q.val]).post with
  | nil => simp only [State.quireTimedOut, hp]
  | cons e l => simp only [State.quireTimedOut, hp, if_neg (hno e.1 e.2 l hp)]

/-! ### LOST words and monitors (R387, R388) -/

/-- A word is every writer's, the words of page 8 apart. -/
theorem keyFor_eq_pg (w : Writer) {p : Nat} (wd : Nat) (hp : p ≠ 8) : keyFor w p wd = pg p wd := by
  cases w <;> simp [keyFor, hp]

/-- A word whose bits in `n` clear when written with 1. -/
theorem State.plain_bit_w1c {w : Writer} {p wd n : Nat} {v : Word} (hwf : Store.wf s.regs = true) (hp : p ≠ 8)
    (hf : ∀ i < n, i < 18 ∧ (wordInfo (kindOf p) wd).rw.testBit i = false ∧ (wordInfo (kindOf p) wd).w1c.testBit i = true)
    {i : Nat} (hi : i < n) : (s.plain w p wd v).bit (pg p wd) i = (s.bit (pg p wd) i && !bitOf v i) := by
  obtain ⟨hlt, hrw, hw1c⟩ := hf i hi
  have h := (plainWritesFollowTheAccessCodes s w p wd v i _ hwf hlt rfl).2.1 hrw hw1c
  rwa [keyFor_eq_pg w wd hp] at h

theorem done_retnHandler {w : Writer} {wd : Nat} {v : Word} (hwd : wd = 20 ∨ wd = 21) (hc : s.Clear w 44 wd v) :
    done s (guarded w 44 wd v (retnHandler w wd v s) s) = .next (settle s (s.plain w 44 wd v)) := by
  have h : retnHandler w wd v s = Handler.plain w 44 wd v s := by rcases hwd with rfl | rfl <;> rfl
  rw [h]
  exact done_guarded_clear hc rfl rfl rfl

theorem exec_retentionMonitorTrip {b : Fin 26} : exec (.retentionMonitorTrip b) s
    = .next (settle s (if s.blot.held.getLsbD b.val = true ∧ s.domOn (bankDomain b.val) = false
      then { s with blot := { s.blot with mon := s.blot.mon ||| BitVec.ofNat 26 (2 ^ b.val) } } else s)) := rfl

end

/-- Settles O40, by the requester of a timeout and by the access codes of the LOST words. -/
theorem memoryEventsRun : Obligations.MemoryEventsRun := by
  refine ⟨fun s => ⟨fun k r t h ht => ?_, exec_eccWriteback_none, fun o t u rq ht hu => ?_⟩, fun s => ⟨?_, ?_, ?_, ?_, ?_, ?_⟩⟩
  · rw [exec_eccWriteback_next h, ht]
  · have e : exec (.quireAccessTimeout rq o) s = .next (settle s (u.quireTimedOut rq o.toNat)) := by rw [hu, ht]; rfl
    rw [e]
    refine ⟨fun r c h => by rw [h]; rfl, fun c x h hx => ?_, fun q h => ?_, fun h => by rw [h]; rfl⟩
    · subst h hx
      exact ⟨fun a v hw ha => by rw [State.quireTimedOut_core_store hw ha], fun hno => by rw [State.quireTimedOut_core_load hno]⟩
    · subst h
      exact ⟨fun a v l hp ha => by rw [State.quireTimedOut_host_write hp ha], fun hno => by rw [State.quireTimedOut_host_read hno]⟩
  · exact fun w v hc => done_retnHandler (.inl rfl) hc
  · exact fun w v hc => done_retnHandler (.inr rfl) hc
  · exact fun w v i hwf _ hi => State.plain_bit_w1c hwf (by decide) (n := 18) (by decide) hi
  · exact fun w v i hwf _ hi => State.plain_bit_w1c hwf (by decide) (n := 8) (by decide) hi
  · exact fun b hb hd => by rw [exec_retentionMonitorTrip, if_pos ⟨hb, hd⟩]
  · exact fun b h => by rw [exec_retentionMonitorTrip, if_neg (by rintro ⟨hb, hd⟩; rw [hb, hd] at h; simp at h)]

end Sys2Proof.Machine
end

section
/-! SUPPORT. Borrows, restores, sweeps and exclusions (11 R379 to R384). -/

namespace Sys2Proof.Machine

section
variable {s : State}

/-! ### The region that is borrowed (R379 to R381) -/

theorem State.endSweep_of_nextBorrow_none (h : s.nextBorrow = none) : s.endSweep = ((s.inc (pg 43 21)).raise 43 0).newSweep := by
  simp only [State.endSweep, h]

theorem State.abortBorrow_of_some {m r : Nat} {l : List Word} (h : s.blot.borrow = some (m, r, l)) : s.abortBorrow
    = { s with blot := { s.blot with restoring := true, skip := (m, r) :: s.blot.skip.filter (fun x => x != (m, r)) } } := by
  simp only [State.abortBorrow, h]

theorem State.abortBorrow_of_none (h : s.blot.borrow = none) : s.abortBorrow = s := by
  simp only [State.abortBorrow, h]

theorem exec_blotterBorrow_held (h : s.bit (pg 43 2) 0 = false ∨ s.domOn 2 = false ∨ s.blot.borrow.isSome = true) :
    exec .blotterBorrow s = .next (settle s s) := by
  change execBlotterBorrow s = _
  rw [execBlotterBorrow, if_pos h, done]

section
variable (hen : s.bit (pg 43 2) 0 = true) (hon : s.domOn 2 = true) (hb : s.blot.borrow = none)
include hen hon hb

theorem blotter_not_held : ¬ (s.bit (pg 43 2) 0 = false ∨ s.domOn 2 = false ∨ s.blot.borrow.isSome = true) := by
  simp [hen, hon, hb]

theorem exec_blotterBorrow_none (hn : s.nextBorrow = none) :
    exec .blotterBorrow s = .next (settle s ((s.inc (pg 43 21)).raise 43 0).newSweep) := by
  change execBlotterBorrow s = _
  rw [execBlotterBorrow, if_neg (blotter_not_held hen hon hb), hn, ← State.endSweep_of_nextBorrow_none hn, done]

theorem exec_blotterBorrow_region {m r g : Nat} {t : State} (hn : s.nextBorrow = some (m, r))
    (ht : t = (((s.memReadN (memKey m (64 * r)) 64).2.2.setReg (pg 43 18) (wordOf m)).setReg2 (pg 43 19) (64 * r)).setB (pg 43 3) 0 true)
    (hg : g = memKey m (64 * r) / 8) : exec .blotterBorrow s = .next (settle s { t with
        blot := { t.blot with borrow := some (m, r, (s.memReadN (memKey m (64 * r)) 64).1), restoring := false, next := (m, r + 1) }
        cores := t.cores.map fun c => (List.range 8).foldl (fun (c : Core) i => c.clearResv (g + i)) c }) := by
  subst ht hg
  change execBlotterBorrow s = _
  rw [execBlotterBorrow, if_neg (blotter_not_held hen hon hb), hn, done]

end

/-! ### Its end, its abort and its restore (R380, R382, R383) -/

section
variable {m r : Nat} {l : List Word} (h : s.blot.borrow = some (m, r, l)) (hr : s.blot.restoring = false)
include h hr

theorem exec_blotterBorrowDone_right : exec (.blotterBorrowDone none) s = .next (settle s (s.restoreRegion m r).endSweep) := by
  change execBlotterBorrowDone none s = _
  simp only [execBlotterBorrowDone, h, hr, done, Bool.false_eq_true, if_false]

theorem exec_blotterBorrowDone_wrong (f : MarchFail) :
    exec (.blotterBorrowDone (some f)) s = .next (settle s ((s.restoreRegion m r).marchFail m r f).endSweep) := by
  change execBlotterBorrowDone (some f) s = _
  simp only [execBlotterBorrowDone, h, hr, done, Bool.false_eq_true, if_false]

end

theorem exec_blotterBorrowDone_idle {f : Option MarchFail} (h : s.blot.borrow = none ∨ s.blot.restoring = true) :
    exec (.blotterBorrowDone f) s = .next (settle s s) := by
  change execBlotterBorrowDone f s = _
  rw [execBlotterBorrowDone, done]
  split
  · rfl
  next hb => rw [if_pos (h.resolve_left (by simp [hb]))]

theorem exec_blotterRestoreDone_region {m r : Nat} {l : List Word} (h : s.blot.borrow = some (m, r, l)) (hr : s.blot.restoring = true) :
    exec .blotterRestoreDone s = .next (settle s (if s.blot.skip.contains (m, r)
      then ((((s.restoreRegion m r).incSat (pg 43 22)).raise 43 1).incSat (pg 43 23)).endSweep
      else ((s.restoreRegion m r).incSat (pg 43 22)).raise 43 1)) := by
  change execBlotterRestoreDone s = _
  simp only [execBlotterRestoreDone, h, hr, done, Bool.true_eq_false, if_false]

theorem exec_blotterRestoreDone_idle (h : s.blot.borrow = none ∨ s.blot.restoring = false) :
    exec .blotterRestoreDone s = .next (settle s s) := by
  change execBlotterRestoreDone s = _
  rw [execBlotterRestoreDone, done]
  split
  · rfl
  next hb => rw [if_pos (h.resolve_left (by simp [hb]))]

/-! ### RESTART and XCTL (R379, R384) -/

theorem blotCtrl_restart {w : Writer} {u : Word} (h : bitOf u 1 = true) :
    (blotCtrl w u s).result = (s.plain w 43 2 u).abortBorrow.newSweep := by
  rw [blotCtrl, if_pos h]

section
variable {w : Writer} {v : Word} {m k lo hi : Nat} {t : State} (hm : m = s.fld (pg 43 32) 7 4) (hk : k = 8 * m + s.fld (pg 43 32) 2 0)
  (hlo : lo = s.reg2 (pg 43 34)) (hhi : hi = s.reg2 (pg 43 36)) (ht : t = s.plain w 43 33 v)
include hm hk hlo hhi ht

theorem xctlHandler_eq : xctlHandler w v s = ⟨0, decide (lo ≤ hi) && decide (hi < memSize m), 0,
    if bitOf v 17 then State.abortRange { t with blot := { t.blot with excl := t.blot.excl.put k (lo, hi) } } m lo (hi + 1)
    else { t with blot := { t.blot with excl := t.blot.excl.del k } }⟩ := by
  subst hm hk hlo hhi ht
  rfl

end

end

/-- Settles O41, by the event and by what stands of the borrow. -/
theorem blotterRuns : Obligations.BlotterRuns := by
  intro s
  have ex : ∀ w v, exec (.exclusionApply w v) s = done s (guarded w 43 33 v (xctlHandler w v s) s) := fun _ _ => rfl
  have er : ∀ w v, exec (.blotterRestart w v) s = done s (guarded w 43 2 (forceBit v 1 true) (blotCtrl w (forceBit v 1 true) s) s) :=
    fun _ _ => rfl
  refine ⟨fun m r t g hen hon hb hn ht hg => exec_blotterBorrow_region hen hon hb hn ht hg, exec_blotterBorrow_none,
    exec_blotterBorrow_held, fun m r l h hr => exec_blotterBorrowDone_right h hr,
    fun m r l f h hr => exec_blotterBorrowDone_wrong h hr f, fun f h => exec_blotterBorrowDone_idle h, fun m r l h => ?_,
    fun h => ?_, fun m r l t h hr ht => ?_, exec_blotterRestoreDone_idle, fun w v u hu hc => ?_,
    fun w v m k lo hi t hc hm hk hlo hhi ht => ?_⟩
  · rw [← State.abortBorrow_of_some h]; rfl
  · exact congrArg (done s) (State.abortBorrow_of_none h)
  · rw [exec_blotterRestoreDone_region h hr, ht]
  · subst hu
    have hb : bitOf (forceBit v 1 true) 1 = true := bitOf_forceBit v 1 true (by decide)
    rw [er, done_guarded_clear hc rfl rfl rfl, blotCtrl_restart hb]
  · rw [ex, xctlHandler_eq hm hk hlo hhi ht]
    refine ⟨fun h1 h2 hv => ?_, fun h1 h2 hv => ?_, fun h => ?_⟩
    · rw [done_guarded_clear hc rfl (by simp [h1, h2]) rfl, hv]; rfl
    · rw [done_guarded_clear hc rfl (by simp [h1, h2]) rfl, hv]; rfl
    · exact done_guarded_range hc rfl (by simp; omega)

end Sys2Proof.Machine
end

section
/-! SUPPORT. The configuration of a ring and the writes of its indices (12 R415 to R418). -/

namespace Sys2Proof.Machine

section
variable {s : State} {w : Writer} {r : Fin 64} {v : Word} {p wd : Nat}

/-! ### A write of a ring's word -/

theorem homeDomain_ringPage (hp : p = 6 + r.val / 32) : homeDomain p = 2 := by
  rw [homeDomain, if_neg (by omega), if_pos (by omega)]

/-- The words of ring `r` on its page are its own handler's. -/
theorem ringHandler_word {k : Nat} (hk : k < 8) :
    ringHandler w (r.val / 32) (32 + 8 * (r.val % 32) + k) v s = ringWordHandler w r.val k v s := by
  have hlo : 32 ≤ 32 + 8 * (r.val % 32) + k ∧ 32 + 8 * (r.val % 32) + k < 288 := by omega
  have hr : 32 * (r.val / 32) + (32 + 8 * (r.val % 32) + k - 32) / 8 = r.val := by omega
  have hw : (32 + 8 * (r.val % 32) + k - 32) % 8 = k := by omega
  rw [ringHandler, if_pos hlo, hr, hw]

/-- RCFG has no side effect beside its write. -/
theorem ringGuarded_config (hp : p = 6 + r.val / 32) (hwd : wd = 32 + 8 * (r.val % 32)) :
    ringGuarded w (r.val / 32) (32 + 8 * (r.val % 32)) v s = guarded w p wd v (rcfgHandler w r.val v s) s := by
  subst hp hwd
  have h := ringHandler_word (w := w) (r := r) (v := v) (s := s) (show 0 < 8 by decide)
  rw [Nat.add_zero] at h
  have hno : ¬ ((32 + 8 * (r.val % 32)) % 8 = 2 ∨ (32 + 8 * (r.val % 32)) % 8 = 3) := by omega
  simp only [ringGuarded, h, hno, false_and, and_false, if_false]
  rfl

/-- An index write that is refused with STATE or RANGE sets IXERR of its ring (R418). -/
theorem ringGuarded_index (prod : Bool) : ringGuarded w (r.val / 32) (32 + 8 * (r.val % 32) + (if prod then 2 else 3)) v s
    = if s.writerLive w = true ∧ s.domOn 2 = true
        ∧ (writeRefusal w (6 + r.val / 32) (32 + 8 * (r.val % 32) + (if prod then 2 else 3)) v (indexHandler w r.val prod v s) s = eSTATE
          ∨ writeRefusal w (6 + r.val / 32) (32 + 8 * (r.val % 32) + (if prod then 2 else 3)) v (indexHandler w r.val prod v s) s = eRANGE)
      then (guarded w (6 + r.val / 32) (32 + 8 * (r.val % 32) + (if prod then 2 else 3)) v (indexHandler w r.val prod v s) s).setB
        (ringKey r.val 7) 4 true
      else guarded w (6 + r.val / 32) (32 + 8 * (r.val % 32) + (if prod then 2 else 3)) v (indexHandler w r.val prod v s) s := by
  have hk : (if prod then 2 else 3) < 8 := by cases prod <;> decide
  have hh : ringHandler w (r.val / 32) (32 + 8 * (r.val % 32) + (if prod then 2 else 3)) v s = indexHandler w r.val prod v s := by
    rw [ringHandler_word hk]
    cases prod <;> rfl
  have hrange : 32 ≤ 32 + 8 * (r.val % 32) + (if prod then 2 else 3) ∧ 32 + 8 * (r.val % 32) + (if prod then 2 else 3) < 288 := by omega
  have hmod : (32 + 8 * (r.val % 32) + (if prod then 2 else 3)) % 8 = 2 ∨ (32 + 8 * (r.val % 32) + (if prod then 2 else 3)) % 8 = 3 := by
    cases prod <;> simp <;> omega
  have hkey : pg (6 + r.val / 32) ((32 + 8 * (r.val % 32) + (if prod then 2 else 3)) / 8 * 8 + 7) = ringKey r.val 7 := by
    rw [ringKey]
    congr 1
    omega
  simp only [ringGuarded, hh, hrange, hmod, hkey, true_and]

/-! ### The two sides of an index (R418) -/

/-- The word of the index that the producer or the consumer moves. -/
def indexWord (prod : Bool) : Nat := if prod then 2 else 3

/-- The unit moves this index. -/
def State.sideIs (s : State) (prod : Bool) (r u : Nat) : Bool := if prod then s.prodIs r u else s.consIs r u

/-- How far this index may move: over the room or over the fill. -/
def State.sideLimit (s : State) (prod : Bool) (r : Nat) : Nat := if prod then s.ringRoom r else s.ringFill r

theorem exec_ringIndexWrite (prod : Bool) (hp : p = 6 + r.val / 32) (hwd : wd = 32 + 8 * (r.val % 32) + indexWord prod) :
    exec (.ringIndexWrite w r prod v) s = done s (
      if s.writerLive w = true ∧ s.domOn 2 = true ∧ (writeRefusal w p wd v (indexHandler w r.val prod v s) s = eSTATE
          ∨ writeRefusal w p wd v (indexHandler w r.val prod v s) s = eRANGE)
      then (guarded w p wd v (indexHandler w r.val prod v s) s).setB (ringKey r.val 7) 4 true
      else guarded w p wd v (indexHandler w r.val prod v s) s) := by
  subst hp hwd
  exact congrArg (done s) (ringGuarded_index prod)

theorem indexHandler_state_mine {prod : Bool} {u : Nat} (hu : writerCode w = some u) (hm : s.sideIs prod r.val u = true) :
    (indexHandler w r.val prod v s).state = 0 := by
  simp only [indexHandler, hu]
  exact if_pos hm

theorem indexHandler_state_other {prod : Bool} (hm : ∀ u, writerCode w = some u → s.sideIs prod r.val u = false) :
    (indexHandler w r.val prod v s).state = eSTATE := by
  cases hu : writerCode w with
  | none => simp [indexHandler, hu]
  | some u =>
    simp only [indexHandler, hu]
    exact if_neg (by have h := hm u hu; rw [State.sideIs] at h; simp [h])

section
variable {prod : Bool} {u : Nat} (hp : p = 6 + r.val / 32) (hwd : wd = 32 + 8 * (r.val % 32) + indexWord prod) (hc : s.Clear w p wd v)
include hp hwd hc

/-- A refused index write: the record of the refusal, and IXERR. -/
theorem exec_ringIndexWrite_refused {c : Nat} (hcode : writeRefusal w p wd v (indexHandler w r.val prod v s) s = c)
    (hs : c = eSTATE ∨ c = eRANGE) : exec (.ringIndexWrite w r prod v) s
      = .next (settle s ((s.recordRefusal w (some p) wd c (pageAddr p wd)).setB (ringKey r.val 7) 4 true)) := by
  have h0 : c ≠ 0 := by rcases hs with rfl | rfl <;> decide
  have hon : s.domOn 2 = true := by
    have h := hc.on
    rwa [homeDomain_ringPage hp] at h
  rw [exec_ringIndexWrite prod hp hwd, if_pos ⟨hc.live, hon, by rwa [hcode]⟩, guarded_of_clear _ hc, hcode, if_pos h0, done]

theorem exec_ringIndexWrite_other (hm : ∀ u, writerCode w = some u → s.sideIs prod r.val u = false) : exec (.ringIndexWrite w r prod v) s
      = .next (settle s ((s.recordRefusal w (some p) wd eSTATE (pageAddr p wd)).setB (ringKey r.val 7) 4 true)) := by
  have hst := indexHandler_state_other (v := v) hm
  exact exec_ringIndexWrite_refused hp hwd hc (by rw [writeRefusal_of_clear _ hc, if_pos (by rw [hst]; decide), hst]) (.inl rfl)

variable (hu : writerCode w = some u) (hm : s.sideIs prod r.val u = true)
include hu hm

theorem exec_ringIndexWrite_beyond (hv : s.sideLimit prod r.val < (v - s.reg (ringKey r.val (indexWord prod))).toNat) :
    exec (.ringIndexWrite w r prod v) s
      = .next (settle s ((s.recordRefusal w (some p) wd eRANGE (pageAddr p wd)).setB (ringKey r.val 7) 4 true)) := by
  have hst := indexHandler_state_mine (v := v) hu hm
  have hrange : (indexHandler w r.val prod v s).range = false := decide_eq_false (by rw [← Nat.not_le] at hv; exact hv)
  refine exec_ringIndexWrite_refused hp hwd hc ?_ (.inr rfl)
  rw [writeRefusal_of_clear _ hc, if_neg (by simp [hst]), if_pos hrange]

theorem exec_ringIndexWrite_within (hv : (v - s.reg (ringKey r.val (indexWord prod))).toNat ≤ s.sideLimit prod r.val) :
    exec (.ringIndexWrite w r prod v) s = .next (settle s ((s.setReg (ringKey r.val (indexWord prod)) v).flowRing r.val)) := by
  have hst := indexHandler_state_mine (v := v) hu hm
  have hrange : (indexHandler w r.val prod v s).range = true := decide_eq_true hv
  have hcode : writeRefusal w p wd v (indexHandler w r.val prod v s) s = 0 := by
    rw [writeRefusal_of_clear _ hc, if_neg (by simp [hst]), if_neg (by simp [hrange])]
    rfl
  rw [exec_ringIndexWrite prod hp hwd, if_neg (by rw [hcode]; simp [eSTATE, eRANGE]), guarded_clear hc hst hrange rfl, done]
  rfl

end

/-! ### RCFG (R416, R417) -/

theorem rcfgHandler_state : (rcfgHandler w r.val v s).state
    = if (s.legacyDual = true ∧ r.val = 62) ∨ (s.ringOn r.val = true ∧ fieldOf v 16 13 ≠ s.fld (ringKey r.val 0) 16 13)
      then eSTATE else 0 := rfl

theorem rcfgHandler_extra {base : Nat} (hbase : base = s.fld (ringKey r.val 1) 12 0) : (rcfgHandler w r.val v s).extra
    = if bitOf v 17 = true ∧ s.ringOn r.val = false ∧ (8192 < base + 2 ^ fieldOf v 16 13 ∨ s.ringOverlaps r.val base (fieldOf v 16 13) = true)
      then eCONFIG else 0 := by
  subst hbase
  rfl

theorem rcfgHandler_result {t : State} (ht : t = s.plain w (6 + r.val / 32) (32 + 8 * (r.val % 32)) v) : (rcfgHandler w r.val v s).result
    = (if bitOf v 17 = true ∧ s.ringOn r.val = false then (t.setReg (ringKey r.val 2) 0).setReg (ringKey r.val 3) 0
      else t).ringChanged r.val := by
  subst ht
  rfl

end

/-- Settles O42, by the checks of RCFG in their order and by the side that writes an index. -/
theorem ringCommandsRun : Obligations.RingCommandsRun := by
  intro s w r v
  refine ⟨fun p wd base t refuse hp hwd hc hbase ht hrefuse => ?_, fun p wd u hp hwd hc hu hm hv => ?_, fun p wd u hp hwd hc hu hm hv => ?_,
    fun p wd u hp hwd hc hu hm hv => ?_, fun p wd u hp hwd hc hu hm hv => ?_, fun p wd prod hp hwd hc hm => ?_⟩
  · have e : exec (.ringConfig w r v) s = done s (guarded w p wd v (rcfgHandler w r.val v s) s) :=
      congrArg (done s) (ringGuarded_config hp hwd)
    rw [e]
    refine ⟨fun hst => ?_, fun h62 hsize => ?_⟩
    · rw [hrefuse, done_guarded_state hc (rcfgHandler_state.trans (if_pos hst)) (by decide)]
    have hst : (rcfgHandler w r.val v s).state = 0 :=
      rcfgHandler_state.trans (if_neg (by rintro (⟨hl, h⟩ | ⟨hon, h⟩); exacts [h62 hl h, h (hsize hon)]))
    refine ⟨fun hcode => ?_, fun hprod hcons => ?_⟩
    · rw [hrefuse, done_guarded_range hc hst (by rcases hcode with h | h <;> simp [rcfgHandler, h])]
    have hrange : (rcfgHandler w r.val v s).range = true := by simp [rcfgHandler, hprod, hcons]
    subst hp hwd
    have hx := rcfgHandler_extra (w := w) (v := v) hbase
    have hres := rcfgHandler_result ht
    refine ⟨fun hkeep => ?_, fun hoff hen => ⟨fun hbad => ?_, fun hfit hno => ?_⟩⟩
    · have hkeep' : ¬ (bitOf v 17 = true ∧ s.ringOn r.val = false) := by rcases hkeep with h | h <;> simp [h]
      rw [done_guarded_clear hc hst hrange (hx.trans (if_neg fun h => hkeep' ⟨h.1, h.2.1⟩)), hres, if_neg hkeep']
    · rw [hrefuse, done_guarded_extra hc hst hrange (hx.trans (if_pos ⟨hen, hoff, hbad⟩)) (by decide)]
    · have hgood : ¬ (8192 < base + 2 ^ fieldOf v 16 13 ∨ s.ringOverlaps r.val base (fieldOf v 16 13) = true) := by simp [hno]; omega
      rw [done_guarded_clear hc hst hrange (hx.trans (if_neg fun h => hgood h.2.2)), hres, if_pos ⟨hen, hoff⟩]
  · exact exec_ringIndexWrite_within (prod := true) hp (by rw [hwd, indexWord, if_pos rfl]; omega) hc hu hm hv
  · exact exec_ringIndexWrite_within (prod := false) hp (by rw [hwd, indexWord, if_neg (by decide)]; omega) hc hu hm hv
  · exact exec_ringIndexWrite_beyond (prod := true) hp (by rw [hwd, indexWord, if_pos rfl]; omega) hc hu hm hv
  · exact exec_ringIndexWrite_beyond (prod := false) hp (by rw [hwd, indexWord, if_neg (by decide)]; omega) hc hu hm hv
  · exact exec_ringIndexWrite_other hp (by rw [hwd, indexWord]; cases prod <;> simp <;> omega) hc hm

/-! ### What a step leaves of the words of the rings (R415) -/

/-- The words RCFG, RBAS, PIDX and CIDX of every ring stand as they were. -/
def RingsKept (s t : State) : Prop := ∀ k < 64, ∀ j < 4, t.reg (ringKey k j) = s.reg (ringKey k j)

theorem RingsKept.refl (s : State) : RingsKept s s := fun _ _ _ _ => rfl

theorem RingsKept.trans {s t u : State} (h : RingsKept s t) (h' : RingsKept t u) : RingsKept s u := fun k hk j hj =>
  (h' k hk j hj).trans (h k hk j hj)

/-- The words of the rings are words 32 to 287 of pages 6 and 7. -/
theorem ringKey_page {k j : Nat} (hk : k < 64) (hj : j < 8) :
    ∃ p wd, ringKey k j = pg p wd ∧ (p = 6 ∨ p = 7) ∧ 32 ≤ wd ∧ wd < 1024 ∧ wd % 8 = j :=
  ⟨6 + k / 32, 32 + 8 * (k % 32) + j, rfl, by omega, by omega, by omega, by omega⟩

theorem ringKey_ne_pg_page {k j p wd : Nat} (hk : k < 64) (hj : j < 8) (hp : p ≠ 6 ∧ p ≠ 7) (hwd : wd < 1024) : ringKey k j ≠ pg p wd := by
  obtain ⟨q, x, h, hq, -, hx, -⟩ := ringKey_page hk hj
  rw [h]
  exact pg_ne_of_page hx hwd (by omega)

theorem ringKey_ne_pg_header {k j p wd : Nat} (hk : k < 64) (hj : j < 8) (hwd : wd < 32) : ringKey k j ≠ pg p wd := by
  obtain ⟨q, x, h, -, hlo, hx, -⟩ := ringKey_page hk hj
  rw [h]
  exact pg_ne_of_word hx (by omega) (by omega)

theorem ringKey_inj {k j k' j' : Nat} (hj : j < 8) (hj' : j' < 8) (h : ringKey k j = ringKey k' j') : k = k' ∧ j = j' := by
  simp only [ringKey, pg] at h
  omega

theorem RingsKept.settle {s t : State} : RingsKept t (settle s t) := fun k hk j hj =>
  (s.wakeLevels_frame t).1 _ fun c hc => ringKey_ne_pg_page hk (by omega) (by decide) (by omega)

theorem RingsKept.setB_error {s : State} {r : Nat} {i : Nat} {b : Bool} : RingsKept s (s.setB (ringKey r 7) i b) := fun k hk j hj =>
  State.reg_setB_ne s i b fun h => by have := (ringKey_inj (by omega) (by decide) h).2; omega

theorem RingsKept.recordRefusal {s : State} {w : Writer} {p off code a : Nat} : RingsKept s (s.recordRefusal w (some p) off code a) :=
  fun k hk j hj => by
    refine State.reg_recordRefusal_ne s _ _ (.inr rfl) (ringKey_ne_pg_header hk (by omega) (by decide))
      (ringKey_ne_pg_header hk (by omega) (by decide)) ?_
    cases w with
    | ses q => exact fun i _ hi => ringKey_ne_pg_page hk (by omega) (by decide) (by omega)
    | core c => exact ⟨ringKey_ne_pg_header hk (by omega) (by decide), ringKey_ne_pg_header hk (by omega) (by decide),
        ringKey_ne_pg_header hk (by omega) (by decide)⟩
    | tap => trivial

theorem RingsKept.stallWrite {s : State} {c : Fin 4} {p wd : Nat} {v : Word} (hp : homeDomain p = 2) : RingsKept s (s.stallWrite c p wd v) := fun k hk j hj => by
  have hreg : (s.stallWrite c p wd v).reg (ringKey k j) = (s.wakeDom (homeDomain p)).reg (ringKey k j) := rfl
  exact hreg.trans (State.wakeDom_reg_ne s (ringKey_ne_pg_page hk (by omega) (by decide) (by rw [hp]; decide)))

/-- A refused or a stalled write of a word of the host's domain leaves the rings as they are. -/
theorem RingsKept.guarded_of_refusal {s : State} {w : Writer} {p wd : Nat} {v : Word} {h : Handler} (hp : homeDomain p = 2)
    (h0 : writeRefusal w p wd v h s ≠ 0) : RingsKept s (guarded w p wd v h s) := by
  unfold guarded
  split
  · exact .refl s
  · cases w with
    | core c =>
      simp only
      split
      · exact .stallWrite hp
      · exact .recordRefusal
    | ses q => simp only; exact .recordRefusal
    | tap => simp only; exact .recordRefusal

/-! ### The fill of a ring (R415, R418) -/

theorem RingsKept.fill {s t : State} (h : RingsKept s t) {k : Nat} (hk : k < 64) : t.ringFill k = s.ringFill k := by
  rw [State.ringFill, State.ringFill, h k hk 2 (by decide), h k hk 3 (by decide)]

theorem RingsKept.size {s t : State} (h : RingsKept s t) {k : Nat} (hk : k < 64) : t.ringSize k = s.ringSize k := by
  rw [State.ringSize, State.ringSize, State.fld, State.fld, h k hk 0 (by decide)]

theorem RingsKept.flowRing {s : State} {r : Nat} : RingsKept s (s.flowRing r) := by
  have heval : ∀ (t : State) n, (t.flowEval n).regs = t.regs := fun t n => by
    unfold State.flowEval
    extract_lets x
    split <;> rfl
  have h : (s.flowRing r).regs = s.regs := List.foldlRecOn (motive := fun t : State => t.regs = s.regs) _ _ rfl fun t ht n _ => by
    split
    · exact (heval t n).trans ht
    · exact ht
  exact fun k _ j _ => by rw [State.reg, State.reg, h]

/-- The fill of every ring is within its size. -/
def RingsWithin (s : State) : Prop := ∀ k < 64, s.ringFill k ≤ s.ringSize k

theorem RingsKept.within {s t : State} (h : RingsKept s t) (hs : RingsWithin s) : RingsWithin t := fun k hk => by
  rw [h.fill hk, h.size hk]
  exact hs k hk

section
variable {s : State} {r : Nat} {v : Word} (hwf : Store.wf s.regs = true) (hs : RingsWithin s) (hr : r < 64)
include hwf hs hr

/-- A move of PIDX over at most the free space. -/
theorem RingsWithin.setProd (hv : (v - s.reg (ringKey r 2)).toNat ≤ s.ringRoom r) : RingsWithin (s.setReg (ringKey r 2) v) := fun k hk => by
  have hsize : (s.setReg (ringKey r 2) v).ringSize k = s.ringSize k := by
    rw [State.ringSize, State.ringSize, State.fld, State.fld,
      State.reg_setReg_ne _ _ fun h => absurd (ringKey_inj (by decide) (by decide) h).2 (by decide)]
  have hcons : (s.setReg (ringKey r 2) v).reg (ringKey k 3) = s.reg (ringKey k 3) :=
    State.reg_setReg_ne _ _ fun h => absurd (ringKey_inj (by decide) (by decide) h).2 (by decide)
  rw [hsize, State.ringFill, hcons]
  have hfill := hs k hk
  by_cases hkr : k = r
  · subst hkr
    rw [State.reg_setReg_self _ _ _ hwf]
    rw [State.ringRoom] at hv
    rw [State.ringFill] at hv hfill
    bv_omega
  · rw [State.reg_setReg_ne _ _ fun h => hkr (ringKey_inj (by decide) (by decide) h).1]
    exact hfill

/-- A move of CIDX over at most the words that wait. -/
theorem RingsWithin.setCons (hv : (v - s.reg (ringKey r 3)).toNat ≤ s.ringFill r) : RingsWithin (s.setReg (ringKey r 3) v) := fun k hk => by
  have hsize : (s.setReg (ringKey r 3) v).ringSize k = s.ringSize k := by
    rw [State.ringSize, State.ringSize, State.fld, State.fld,
      State.reg_setReg_ne _ _ fun h => absurd (ringKey_inj (by decide) (by decide) h).2 (by decide)]
  have hprod : (s.setReg (ringKey r 3) v).reg (ringKey k 2) = s.reg (ringKey k 2) :=
    State.reg_setReg_ne _ _ fun h => absurd (ringKey_inj (by decide) (by decide) h).2 (by decide)
  rw [hsize, State.ringFill, hprod]
  have hfill := hs k hk
  by_cases hkr : k = r
  · subst hkr
    rw [State.reg_setReg_self _ _ _ hwf]
    rw [State.ringFill] at hv hfill
    bv_omega
  · rw [State.reg_setReg_ne _ _ fun h => hkr (ringKey_inj (by decide) (by decide) h).1]
    exact hfill

end

/-- A write that is not refused is in its block's range. -/
theorem range_of_writeRefusal_zero {s : State} {w : Writer} {p wd : Nat} {v : Word} {h : Handler} (h0 : writeRefusal w p wd v h s = 0) :
    h.range = true := by
  by_contra hno
  unfold writeRefusal at h0
  split_ifs at h0 <;> simp_all [ePERM, eLOCKED, eSTATE, eBUSY, eRANGE]

/-- The write of an index alone, without IXERR. -/
theorem RingsWithin.guarded_index {s : State} {w : Writer} {p wd : Nat} {r : Fin 64} {prod : Bool} {v : Word} (hp : p = 6 + r.val / 32)
    (hwf : Store.wf s.regs = true) (hs : RingsWithin s) : RingsWithin (guarded w p wd v (indexHandler w r.val prod v s) s) := by
  by_cases h0 : writeRefusal w p wd v (indexHandler w r.val prod v s) s = 0
  · have hv := of_decide_eq_true (range_of_writeRefusal_zero h0)
    rcases guarded_cases w p wd v (indexHandler w r.val prod v s) s with h | ⟨c, -, h⟩ | h | ⟨hne, -⟩
    · rwa [h]
    · rw [h]; exact (RingsKept.stallWrite (homeDomain_ringPage hp)).within hs
    · rw [h]
      refine RingsKept.flowRing.within ?_
      cases prod
      · exact hs.setCons hwf r.isLt hv
      · exact hs.setProd hwf r.isLt hv
    · exact absurd h0 hne
  · exact (RingsKept.guarded_of_refusal (homeDomain_ringPage hp) h0).within hs

/-- Settles O43: an index moves within the room or the fill, and nothing else that the command does touches the words of a ring. -/
theorem ringFillStaysWithinSize : Obligations.RingFillStaysWithinSize := by
  intro s t w r prod v hwf hs ht
  rw [exec_ringIndexWrite prod rfl rfl, done] at ht
  obtain rfl := Host.Outcome.next.inj ht
  refine RingsKept.settle.within ?_
  have hg := RingsWithin.guarded_index (w := w) (p := 6 + r.val / 32) (wd := 32 + 8 * (r.val % 32) + indexWord prod) (r := r) (prod := prod)
    (v := v) rfl hwf hs
  split
  · exact RingsKept.setB_error.within hg
  · exact hg

end Sys2Proof.Machine
end

section
/-! SUPPORT. Software events, timers, routes and event records (12 R420 to R424). -/

namespace Sys2Proof.Machine

section
variable {s : State} {w : Writer} {v : Word}

/-! ### Software sources and timers (R420, R421) -/

theorem evcHandler_sws (high : Bool) : evcHandler w (if high then 29 else 28) v s = ⟨0, true, 0,
    s.setReg (pg 4 (if high then 31 else 30)) (s.reg (pg 4 (if high then 31 else 30)) ||| v)⟩ := by
  cases high <;> rfl

theorem evcHandler_timer {k : Fin 6} {u : Word} (hu : bitOf u 17 = true) : evcHandler w (34 + 2 * k.val) u s
    = ⟨0, true, 0, (s.plain w 4 (34 + 2 * k.val) u).loadTimer k.val⟩ := by
  fin_cases k <;> simp [evcHandler, hu]

theorem exec_timerExpiry_runs {k : Fin 6} (hon : s.bit (pg 4 (34 + 2 * k.val)) 17 = true) (hd : s.domOn 2 = true) :
    exec (.timerExpiry k) s = .next (settle s (if s.bit (pg 4 (34 + 2 * k.val)) 16 = true
      then (s.setB (pg 4 33) k.val true).loadTimer k.val
      else (s.setB (pg 4 33) k.val true).setB (pg 4 (34 + 2 * k.val)) 17 false)) := by
  change execTimerExpiry k s = _
  rw [execTimerExpiry, if_pos ⟨hon, hd⟩, done]

theorem exec_timerExpiry_idle {k : Fin 6} (h : s.bit (pg 4 (34 + 2 * k.val)) 17 = false ∨ s.domOn 2 = false) :
    exec (.timerExpiry k) s = .next (settle s s) := by
  change execTimerExpiry k s = _
  rw [execTimerExpiry, if_neg (by rcases h with h | h <;> simp [h]), done]

/-! ### Routes (R422) -/

theorem evcHandler_route (k : Fin 192) : evcHandler w (64 + k.val) v s
    = { state := if (bitOf v 8 = true ∧ s.present (fieldOf v 7 5) = false)
          ∨ (bitOf v 11 = true ∧ fieldOf v 10 9 = 0 ∧ s.legacyDual = true) then eSTATE else 0
        range := true, extra := 0, result := s.plain w 4 (64 + k.val) v } := by
  rw [evcHandler, if_neg (by omega), if_neg (by omega), if_pos (by omega)]

/-! ### Event records (R423, R424) -/

theorem exec_eventRecordWrite_idle (h : s.domOn 2 = false ∨ s.ev.rises = []) : exec .eventRecordWrite s = .next (settle s s) := by
  change execEventRecordWrite s = _
  have hno : (if s.domOn 2 then s.ev.rises else []) = [] := by rcases h with h | h <;> simp [h]
  rw [execEventRecordWrite, hno, done]

theorem exec_eventRecordWrite_rise {src q n r : Nat} {tv : Bool} {l : List (Nat × Nat × Bool × Nat)} {x : State} (hd : s.domOn 2 = true)
    (hl : s.ev.rises = (src, q, tv, n) :: l) (hr : r = s.fld (sesKey q 8) 5 0)
    (hx : x = { s.setReg (sesKey q 9) (s.reg (sesKey q 9) + 1) with ev := { s.ev with rises := l } }) :
    exec .eventRecordWrite s = .next (settle s (
      if s.bit (sesKey q 8) 17 = true ∧ s.prodIs r 17 = true ∧ s.consIs r q = true ∧ 6 ≤ s.ringRoom r then
        (x.ringPut r ([wordOf (b2n (s.ses q).evOvr * 131072 + b2n tv * 65536 + src), s.reg (sesKey q 9) + 1] ++ rxtWords n)).setSes q
          { s.ses q with evOvr := false }
      else (x.incSat (sesKey q 10)).setSes q { s.ses q with evOvr := true })) := by
  subst hr hx
  change execEventRecordWrite s = _
  rw [execEventRecordWrite, if_pos hd, hl, done]

end

/-- Settles O44, by the word that is written and by the oldest rise. -/
theorem eventControllerRuns : Obligations.EventControllerRuns := by
  intro s w v
  refine ⟨fun high hc => ?_, fun k u hu hc => ?_, fun k t ht hon hd => ?_, fun k h => exec_timerExpiry_idle h, fun k hc => ?_,
    fun src q n tv l r x hd hl hr hx => ?_, exec_eventRecordWrite_idle⟩
  · have e : exec (.swsetWrite w high v) s = done s (guarded w 4 (if high then 29 else 28) v
        (evcHandler w (if high then 29 else 28) v s) s) := rfl
    rw [e, evcHandler_sws, done_guarded_clear hc rfl rfl rfl]
  · subst hu
    have hb : bitOf (forceBit v 17 true) 17 = true := bitOf_forceBit v 17 true (by decide)
    have e : exec (.timerLoad w k v) s = done s (guarded w 4 (34 + 2 * k.val) (forceBit v 17 true)
        (evcHandler w (34 + 2 * k.val) (forceBit v 17 true) s) s) := rfl
    rw [e, evcHandler_timer hb, done_guarded_clear hc rfl rfl rfl]
  · rw [exec_timerExpiry_runs hon hd, ht]
    exact ⟨fun h => by rw [if_neg (by simp [h])], fun h => by rw [if_pos h]⟩
  · have e : exec (.routeWrite w k v) s = done s (guarded w 4 (64 + k.val) v (evcHandler w (64 + k.val) v s) s) := rfl
    rw [e, evcHandler_route k]
    refine ⟨fun h1 h2 => ?_, fun h => done_guarded_state hc (if_pos h) (by decide)⟩
    have hno : ¬ ((bitOf v 8 = true ∧ s.present (fieldOf v 7 5) = false)
        ∨ (bitOf v 11 = true ∧ fieldOf v 10 9 = 0 ∧ s.legacyDual = true)) := by
      rintro (⟨h, h'⟩ | ⟨h, h', h''⟩)
      · simp [h1 h] at h'
      · simp [h2 h h'] at h''
    rw [done_guarded_clear hc (if_neg hno) rfl rfl]
  · rw [exec_eventRecordWrite_rise hd hl hr hx]
    refine ⟨fun h1 h2 h3 h4 => by rw [if_pos ⟨h1, h2, h3, h4⟩], fun h => ?_⟩
    rw [if_neg]
    rintro ⟨h1, h2, h3, h4⟩
    rcases h with h | h | h | h
    · simp [h1] at h
    · simp [h2] at h
    · simp [h3] at h
    · omega

end Sys2Proof.Machine
end

section
/-! SUPPORT. Sessions, masks, doorbells and delivery records (12 R395, R396, R399, R408, R425). -/

namespace Sys2Proof.Machine

section
variable {s : State} {w : Writer} {v : Word}

/-! ### A word of a session's block -/

theorem sesHandler_word (q : Fin 8) {k : Nat} (hk : k < 16) : sesHandler w (32 + k + 16 * q.val) v s = sesBlockHandler w q.val k v s := by
  have hr : 32 ≤ 32 + k + 16 * q.val ∧ 32 + k + 16 * q.val < 160 := by omega
  rw [sesHandler, if_pos hr, show (32 + k + 16 * q.val - 32) / 16 = q.val by omega, show (32 + k + 16 * q.val - 32) % 16 = k by omega]

theorem exec_sessionEnable (q : Fin 8) : exec (.sessionEnable w q v) s
    = done s (guarded w 5 (32 + 16 * q.val) v (sctlSesHandler w q.val v s) s) := by
  have h := sesHandler_word (w := w) (v := v) (s := s) q (show 0 < 16 by decide)
  change execSessionEnable w q v s = _
  rw [execSessionEnable, h]
  rfl

theorem exec_permissionMaskWrite (q : Fin 8) : exec (.permissionMaskWrite w q v) s
    = done s (guarded w 5 (33 + 16 * q.val) v (sesBlockHandler w q.val 1 v s) s) := by
  have h := sesHandler_word (w := w) (v := v) (s := s) q (show 1 < 16 by decide)
  change execPermissionMaskWrite w q v s = _
  rw [execPermissionMaskWrite, h]

/-- A mask is written by another session alone (R396). -/
theorem sesBlockHandler_mask_own {q : Fin 8} (hw : ∀ x : Fin 8, w = .ses x → x = q) : (sesBlockHandler w q.val 1 v s).state = eSTATE := by
  cases w with
  | ses x => exact if_pos (congrArg Fin.val (hw x rfl))
  | core c => rfl
  | tap => rfl

theorem sesBlockHandler_mask_other {q x : Fin 8} (hx : x ≠ q) : sesBlockHandler (.ses x) q.val 1 v s
    = ⟨0, true, 0, s.plain (.ses x) 5 (33 + 16 * q.val) v⟩ := by
  have e : sesBlockHandler (.ses x) q.val 1 v s
      = ⟨if x.val = q.val then eSTATE else 0, true, 0, s.plain (.ses x) 5 (32 + 16 * q.val + 1) v⟩ := rfl
  rw [e, if_neg fun h => hx (Fin.ext h), show 32 + 16 * q.val + 1 = 33 + 16 * q.val by omega]

theorem sesBlockHandler_doorbell (q : Fin 8) : sesBlockHandler w q.val 6 v s
    = ⟨0, true, 0, s.setReg (sesKey q.val 7) (s.reg (sesKey q.val 7) ||| v)⟩ := rfl

theorem exec_doorbellSet {q : Fin 8} (hc : s.Clear w 5 (38 + 16 * q.val) v) : exec (.doorbellSet w q v) s
    = .next (settle s (s.setReg (sesKey q.val 7) (s.reg (sesKey q.val 7) ||| v))) := by
  have h := sesHandler_word (w := w) (v := v) (s := s) q (show 6 < 16 by decide)
  change execDoorbellSet w q v s = _
  rw [execDoorbellSet, h, sesBlockHandler_doorbell, done_guarded_clear hc rfl rfl rfl]

/-! ### SCTL (R395, R408) -/

theorem sctlSesHandler_wired {q : Fin 8} (hq : q.val < 4) : sctlSesHandler w q.val v s
    = ⟨0, true, 0, s.plain w 5 (32 + 16 * q.val) (forceBit v 17 (s.bit (sesKey q.val 0) 17))⟩ := by
  rw [sctlSesHandler, if_pos hq]

theorem sctlSesHandler_iluhi {q : Fin 8} {t : State} (hq : 4 ≤ q.val) (ht : t = s.plain w 5 (32 + 16 * q.val) v) :
    sctlSesHandler w q.val v s
      = { state := if bitOf v 17 = true ∧ s.fld (serKey (q.val - 4) 21) 17 16 ≠ 0 then eBUSY else 0, range := true
          extra := if bitOf v 17 = true ∧ s.fld (serKey (q.val - 4) 16) 9 6 ≠ 8 then eCONFIG else 0
          result := if bitOf v 17 = false ∧ s.bit (sesKey q.val 0) 17 = true then t.endSession q.val else t } := by
  subst ht
  rw [sctlSesHandler, if_neg (by omega)]
  rfl

/-! ### The delivery ring (R425) -/

theorem exec_deliveryRecord {r n : Nat} {e : List Word × Nat × State} (hr : r = s.fld (pg 5 17) 5 0)
    (hn : n = 8 + s.fld (pg 5 17) 16 11 * fieldOf (s.rdMem (s.ringAddr r (s.reg (ringKey r 3)).toNat)) 15 6)
    (he : e = s.ringReadE r (s.reg (ringKey r 3)).toNat n) : exec .deliveryRecord s = .next (settle s (
      if s.bit (pg 5 17) 17 = true ∧ s.consIs r 18 = true ∧ s.domOn 2 = true ∧ 1 ≤ s.ringFill r ∧ n ≤ s.ringFill r then
        (((List.range 8).foldl (fun t q => t.offer e.1 q) (if e.2.1 = 2 then e.2.2.pageErr 5 eECC 2 else e.2.2)).ringTake r n).inc (pg 5 18)
      else s)) := by
  subst he hn hr
  rfl

theorem State.ringWrite_sess (l : List Word) (s : State) (r i : Nat) : (s.ringWrite r i l).sess = s.sess := by
  induction l generalizing s i with
  | nil => rfl
  | cons v l ih => rw [State.ringWrite, ih, State.wrMem_sess]

/-- A record that is put in a ring leaves the sessions. -/
theorem State.ringPut_ses (s : State) (r n : Nat) (l : List Word) : (s.ringPut r l).ses n = s.ses n := by
  rw [State.ses, State.ses, ← State.ringWrite_sess l s r (s.reg (ringKey r 2)).toNat]
  rfl

section
variable {l : List Word} {n r : Nat} {x : Ses} {t : State}

theorem State.offer_unasked (h : s.present n = false ∨ s.bit (sesKey n 11) 17 = false) : s.offer l n = s := if_pos h

variable (hx : x = s.ses n) (hr : r = s.fld (sesKey n 11) 5 0) (ht : t = s.setSes n { x with dlvCnt := x.dlvCnt + 1 })
  (hp : s.present n = true) (hon : s.bit (sesKey n 11) 17 = true)
include hx hr ht hp hon

/-- A session that takes records counts each that is offered, and asks for every n-th. -/
theorem State.offer_asked : s.offer l n = if x.dlvCnt % max 1 (s.fld (sesKey n 11) 16 9) ≠ 0 then t
    else if t.prodIs r 18 = true ∧ l.length ≤ t.ringRoom r then
      (t.ringPut r (forceBit (l.headD 0) 0 x.dlvDrop :: l.tail)).setSes n { t.ses n with dlvDrop := false }
    else ((t.incSat (sesKey n 12)).raise 5 1).setSes n { t.ses n with dlvDrop := true } := by
  subst hr ht hx
  have hno : ¬ (s.present n = false ∨ bitOf (s.reg (sesKey n 11)) 17 = false) := by
    rw [State.bit] at hon
    simp [hp, hon]
  rw [State.offer, if_neg hno]
  rfl

theorem State.offer_skipped (hc : x.dlvCnt % max 1 (s.fld (sesKey n 11) 16 9) ≠ 0) : s.offer l n = t := by
  rw [State.offer_asked hx hr ht hp hon, if_pos hc]

theorem State.offer_taken {y : State} (hc : x.dlvCnt % max 1 (s.fld (sesKey n 11) 16 9) = 0) (h18 : t.prodIs r 18 = true)
    (hroom : l.length ≤ t.ringRoom r) (hy : y = t.ringPut r (forceBit (l.headD 0) 0 x.dlvDrop :: l.tail)) :
    s.offer l n = y.setSes n { y.ses n with dlvDrop := false } := by
  rw [State.offer_asked hx hr ht hp hon, if_neg (not_not.mpr hc), if_pos ⟨h18, hroom⟩, hy, State.ringPut_ses]

theorem State.offer_lost {y : State} (hc : x.dlvCnt % max 1 (s.fld (sesKey n 11) 16 9) = 0)
    (hno : t.prodIs r 18 = false ∨ t.ringRoom r < l.length) (hy : y = (t.incSat (sesKey n 12)).raise 5 1) :
    s.offer l n = y.setSes n { y.ses n with dlvDrop := true } := by
  have hno' : ¬ (t.prodIs r 18 = true ∧ l.length ≤ t.ringRoom r) := by
    rintro ⟨h, h'⟩
    rcases hno with h'' | h''
    · simp [h] at h''
    · omega
  rw [State.offer_asked hx hr ht hp hon, if_neg (not_not.mpr hc), if_neg hno', hy]
  rfl

end

end

/-- Settles O45, by the word of the session's block, and for a record by the session that it is offered to. -/
theorem sessionCommandsRun : Obligations.SessionCommandsRun := by
  refine ⟨fun s w q v => ⟨fun t refuse hc ht hrefuse => ?_, fun hc => ?_, exec_doorbellSet, fun r n e hr hn he => ?_,
    fun l n r x t hx hr ht => ?_⟩, fun s w q v i hwf hc => ?_⟩
  · rw [exec_sessionEnable]
    refine ⟨fun hq => ?_, fun hq hen hfree => ?_, fun hq hen hfree h8 => ?_, fun hq hen hfree h8 => ?_, fun hq hoff hon => ?_,
      fun hq hoff hon => ?_⟩
    · rw [sctlSesHandler_wired hq, done_guarded_clear hc rfl rfl rfl]
    · rw [sctlSesHandler_iluhi hq ht, hrefuse]
      exact done_guarded_state hc (if_pos ⟨hen, hfree⟩) (by decide)
    · rw [sctlSesHandler_iluhi hq ht, hrefuse]
      exact done_guarded_extra hc (if_neg fun h => h.2 hfree) rfl (if_pos ⟨hen, h8⟩) (by decide)
    · rw [sctlSesHandler_iluhi hq ht, done_guarded_clear hc (if_neg fun h => h.2 hfree) rfl (if_neg fun h => h.2 h8)]
      simp [hen]
    · rw [sctlSesHandler_iluhi hq ht, done_guarded_clear hc (if_neg (by simp [hoff])) rfl (if_neg (by simp [hoff]))]
      simp [hoff, hon]
    · rw [sctlSesHandler_iluhi hq ht, done_guarded_clear hc (if_neg (by simp [hoff])) rfl (if_neg (by simp [hoff]))]
      simp [hon]
  · rw [exec_permissionMaskWrite]
    refine ⟨fun x hw hx => ?_, fun hw => done_guarded_state hc (sesBlockHandler_mask_own hw) (by decide)⟩
    subst hw
    rw [sesBlockHandler_mask_other hx, done_guarded_clear hc rfl rfl rfl]
  · rw [exec_deliveryRecord hr hn he]
    refine ⟨fun h1 h2 h3 h4 => by rw [if_pos ⟨h1, h2, h3, by omega, h4⟩], fun h => ?_⟩
    rw [if_neg]
    rintro ⟨h1, h2, h3, -, h4⟩
    rcases h with h | h | h | h
    · simp [h1] at h
    · simp [h2] at h
    · simp [h3] at h
    · omega
  · exact ⟨State.offer_unasked, fun hp hon => ⟨State.offer_skipped hx hr ht hp hon, fun hc =>
      ⟨fun h1 h2 y hy => State.offer_taken hx hr ht hp hon hc h1 h2 hy, fun h y hy => State.offer_lost hx hr ht hp hon hc h hy⟩⟩⟩
  · refine ⟨_, exec_doorbellSet hc, ?_, fun k hk => State.reg_setReg_ne _ _ hk, rfl⟩
    rw [State.bit, State.bit, State.reg_setReg_self _ _ _ hwf, bitOf_eq_getLsbD, BitVec.getLsbD_or]
    rfl

end Sys2Proof.Machine
end

section
/-! SUPPORT. Bus cycles, posted writes, shadows and the read-ahead window (12 R400 to R405; 10 R363; 11 R383). -/

namespace Sys2Proof.Machine

section
variable {s : State}

/-! ### A cycle of the parallel bus (R400, R405) -/

section
variable {cs0 cs1 other : Bool} {a : BitVec 24} {v : Word}

theorem exec_hostBus_dead (h : s.busLive = false) : exec (.hostBusRead cs0 cs1 other a) s = .next (settle s s.busOff)
    ∧ exec (.hostBusWrite cs0 cs1 other a v) s = .next (settle s s.busOff) := by
  change execHostBusRead cs0 cs1 other a s = _ ∧ execHostBusWrite cs0 cs1 other a v s = _
  rw [execHostBusRead, execHostBusWrite, if_pos h, if_pos h, done]
  exact ⟨rfl, rfl⟩

variable (hl : s.busLive = true)
include hl

theorem exec_hostBusRead_live : exec (.hostBusRead cs0 cs1 other a) s = done s (if ((cs0 && cs1) || other) = true then s.busError
    else if ((!cs0 && !cs1) || !s.writerLive (.ses (if cs0 then 0 else 1))) = true then s.busOff
    else (s.hostRead (if cs0 then 0 else 1) a.toNat).2.2.driveBus (if cs0 then 0 else 1) (s.hostRead (if cs0 then 0 else 1) a.toNat).1
      (s.hostRead (if cs0 then 0 else 1) a.toNat).2.1) := by
  change execHostBusRead cs0 cs1 other a s = _
  rw [execHostBusRead, if_neg (by simp [hl])]

theorem exec_hostBusWrite_live : exec (.hostBusWrite cs0 cs1 other a v) s = done s (if ((cs0 && cs1) || other) = true then s.busError
    else if ((!cs0 && !cs1) || !s.writerLive (.ses (if cs0 then 0 else 1))) = true then s.busOff
    else s.busOff.post (if cs0 then (0 : Fin 8) else 1).val a v) := by
  change execHostBusWrite cs0 cs1 other a v s = _
  rw [execHostBusWrite, if_neg (by simp [hl])]

theorem exec_hostBus_faulty (h : ((cs0 && cs1) || other) = true) :
    exec (.hostBusRead cs0 cs1 other a) s = .next (settle s ((s.incSat (pg 8 16)).raise 8 1).busOff)
      ∧ exec (.hostBusWrite cs0 cs1 other a v) s = .next (settle s ((s.incSat (pg 8 16)).raise 8 1).busOff) := by
  rw [exec_hostBusRead_live hl, exec_hostBusWrite_live hl, if_pos h, if_pos h, done]
  exact ⟨rfl, rfl⟩

theorem exec_hostBus_unselected : exec (.hostBusRead false false false a) s = .next (settle s s.busOff)
    ∧ exec (.hostBusWrite false false false a v) s = .next (settle s s.busOff) := by
  rw [exec_hostBusRead_live hl, exec_hostBusWrite_live hl]
  exact ⟨rfl, rfl⟩

variable {q : Fin 8} (hcs : cs0 = !cs1) (hq : q = if cs0 then 0 else 1)
include hcs hq

theorem exec_hostBus_absent (h : s.writerLive (.ses q) = false) : exec (.hostBusRead cs0 cs1 false a) s = .next (settle s s.busOff)
    ∧ exec (.hostBusWrite cs0 cs1 false a v) s = .next (settle s s.busOff) := by
  have hone : ¬ ((cs0 && cs1) || false) = true := by simp [hcs]
  have hno : ((!cs0 && !cs1) || !s.writerLive (.ses q)) = true := by simp [h]
  rw [exec_hostBusRead_live hl, exec_hostBusWrite_live hl, ← hq, if_neg hone, if_neg hone, if_pos hno, if_pos hno, done]
  exact ⟨rfl, rfl⟩

variable (hw : s.writerLive (.ses q) = true)
include hw

theorem exec_hostBusRead_selected {r : Word × BitVec 2 × State} (hr : r = s.hostRead q a.toNat) : exec (.hostBusRead cs0 cs1 false a) s
    = .next (settle s { r.2.2 with pins := { r.2.2.pins with busOut := some (r.1, r.2.1) } }) := by
  have hq2 : q.val < 2 := by subst hq; cases cs0 <;> decide
  rw [exec_hostBusRead_live hl, ← hq, if_neg (by simp [hcs]), if_neg (by simp [hcs, hw]), ← hr, State.driveBus, if_pos hq2, done]

theorem exec_hostBusWrite_selected : exec (.hostBusWrite cs0 cs1 false a v) s = .next (settle s (s.busOff.post q.val a v)) := by
  rw [exec_hostBusWrite_live hl, ← hq, if_neg (by simp [hcs]), if_neg (by simp [hcs, hw]), done]

end

/-! ### Posting buffers (R401, R405; 10 R363) -/

section
variable {q : Nat} {a : BitVec 24} {v : Word}

theorem State.busOff_post_full (h : 16 ≤ (s.ses q).post.length) :
    s.busOff.post q a v = ((s.busOff.sesErr q eBUSY a.toNat).incSat (pg 8 17)).raise 8 0 := if_pos h

theorem State.busOff_post_room {y : State} (h : (s.ses q).post.length < 16)
    (hy : y = s.busOff.setSes q { s.ses q with post := (s.ses q).post ++ [(a, v)] }) : s.busOff.post q a v
      = if wakesFrom s.wakeState 11 = true ∧ s.reachesWindow q = true ∧ a.toNat < 512 then y.latchWake 11 else y := by
  subst hy
  have e : s.busOff.post q a v = if 16 ≤ (s.ses q).post.length then ((s.busOff.sesErr q eBUSY a.toNat).incSat (pg 8 17)).raise 8 0
      else if (wakesFrom s.wakeState 11 && s.reachesWindow q && decide (a.toNat < 512)) = true
        then (s.busOff.setSes q { s.ses q with post := (s.ses q).post ++ [(a, v)] }).latchWake 11
        else s.busOff.setSes q { s.ses q with post := (s.ses q).post ++ [(a, v)] } := rfl
  rw [e, if_neg (by omega)]
  simp only [Bool.and_eq_true, decide_eq_true_eq, and_assoc]

end

/-- The next write of a buffer: it waits, or begins a restore, or is performed. -/
theorem exec_postedWritePerform_head {q : Fin 8} {a : BitVec 24} {v : Word} {l : List (BitVec 24 × Word)} {t : State}
    (hp : (s.ses q.val).post = (a, v) :: l) (ht : t = s.setSes q.val { s.ses q.val with post := l }) :
    exec (.postedWritePerform q) s = done s (if s.writerLive (.ses q) = false ∨ s.postWaits a.toNat = true then s
      else (s.restoreFor (s.reaches (.ses q) a.toNat).toList).getD (if t.memAccepts (.ses q) a.toNat v = true
        then (t.writeAddr (.ses q) a.toNat v).windowCopy q.val a.toNat v else t.writeAddr (.ses q) a.toNat v)) := by
  subst ht
  change execPostedWritePerform q s = _
  rw [execPostedWritePerform, hp]
  simp only
  cases s.restoreFor (s.reaches (.ses q) a.toNat).toList <;> rfl

theorem exec_postedWritePerform_empty {q : Fin 8} (hp : (s.ses q.val).post = []) : exec (.postedWritePerform q) s = .next (settle s s) := by
  change execPostedWritePerform q s = _
  rw [execPostedWritePerform, hp, done]

/-! ### Shadows and the window (R403, R404; 11 R383) -/

theorem exec_shadowRefill (d : Fin 16) : exec (.shadowRefill d) s = .next (settle s (if s.domOn d.val
    then { s with pwr := { s.pwr with refilled := s.pwr.refilled ||| BitVec.ofNat 16 (2 ^ d.val) } } else s)) := rfl

section
variable {q : Fin 8} {v : Word} {p : Nat} (hc : s.Clear (.ses q) 8 33 v) (hw : s.windowOnly q.val = false)
  (hp : p = s.fld (pg (ownPage q.val) 32) 5 0 * 262144 + v.toNat)
include hc hw hp

theorem exec_readaheadPointerWrite : exec (.readaheadPointerWrite q v) s = done s (guarded (.ses q) 8 33 v
    ⟨0, true, s.windowRefusal q.val p, (s.plain (.ses q) 8 33 v).startPrefetch q.val p⟩ s) := by
  subst hp
  change execReadaheadPointerWrite q v s = _
  rw [execReadaheadPointerWrite, writeAddr_page s (.ses q) v (.inl (by decide)) (by decide) hc.live (by rintro _ ⟨⟩; exact hw),
    State.pageWrite_ses _ _ _ _ (by decide) (by decide) (by decide) (by decide)]
  rfl

end

theorem exec_prefetchComplete (q : Fin 8) : exec (.prefetchComplete q) s = .next (settle s (
    if s.prefetching q.val = true ∧ s.windowOn q.val = true then
      (s.restoreFor ((List.range 64).map fun i => (s.ses q.val).win + i)).getD
        (((List.range 64).foldl (fun t i => t.fetchWord q.val i) s).setReg (pg (ownPage q.val) 35) 64)
    else s)) := rfl

/-- A prefetch that times out keeps the words that it has. -/
theorem exec_prefetchTimeout_runs {q : Fin 8} {got : Fin 64} (n : Nat) (t : State) (hp : s.prefetching q.val = true)
    (hn : n = if s.windowOn q.val then got.val else 0) (ht : t = (List.range n).foldl (fun t i => t.fetchWord q.val i) s) :
    exec (.prefetchTimeout q got) s
      = .next (settle s ((t.setReg (pg (ownPage q.val) 35) (wordOf (65536 + n))).sesErr q.val eTIMEOUT (s.ses q.val).win)) := by
  subst ht hn
  change execPrefetchTimeout q got s = _
  rw [execPrefetchTimeout, if_pos hp, done]

theorem exec_prefetchTimeout_idle {q : Fin 8} {got : Fin 64} (hp : s.prefetching q.val = false) :
    exec (.prefetchTimeout q got) s = .next (settle s s) := by
  change execPrefetchTimeout q got s = _
  rw [execPrefetchTimeout, if_neg (by simp [hp]), done]

end

/-- Settles O46, by the state of the bus and of the session, and for the window by what a prefetch meets. -/
theorem hostBusCommandsRun : Obligations.HostBusCommandsRun := by
  refine ⟨fun s a v => ⟨fun q cs0 cs1 hl hcs hq => ⟨fun hw => ⟨fun r hr => ?_, fun y hroom hy => ?_, fun hfull => ?_⟩, fun hw => ?_⟩,
    fun cs0 cs1 other hl h => exec_hostBus_faulty hl h, fun hl => exec_hostBus_unselected hl, fun cs0 cs1 other h => exec_hostBus_dead h,
    fun q l t hp ht => ⟨fun h => ?_, fun hw hgo => ⟨fun u hu => ?_, fun hfree => ⟨fun hm => ?_, fun hm => ?_⟩⟩⟩,
    fun q hp => exec_postedWritePerform_empty hp⟩, fun s q v => ⟨fun d h => ?_, fun d h => ?_, fun p hc hw hp => ?_,
    fun keys hk hp hon => ?_, fun h => ?_, fun got hp hoff => ?_, fun got t hp hon ht => ?_, fun got hp => exec_prefetchTimeout_idle hp⟩⟩
  · exact exec_hostBusRead_selected hl hcs hq hw hr
  · rw [exec_hostBusWrite_selected hl hcs hq hw, State.busOff_post_room hroom hy]
  · rw [exec_hostBusWrite_selected hl hcs hq hw, State.busOff_post_full hfull]
  · exact exec_hostBus_absent hl hcs hq hw
  · rw [exec_postedWritePerform_head hp ht, if_pos h, done]
  · rw [exec_postedWritePerform_head hp ht, if_neg (by simp [hw, hgo]), hu, Option.getD_some, done]
  · rw [exec_postedWritePerform_head hp ht, if_neg (by simp [hw, hgo]), hfree, Option.getD_none, if_neg (by simp [hm]), done]
  · rw [exec_postedWritePerform_head hp ht, if_neg (by simp [hw, hgo]), hfree, Option.getD_none, if_pos hm, done]
  · rw [exec_shadowRefill, if_pos h]
  · rw [exec_shadowRefill, if_neg (by simp [h])]
  · rw [exec_readaheadPointerWrite hc hw hp]
    exact ⟨fun h => done_guarded_clear hc rfl rfl h, fun h => done_guarded_extra hc rfl rfl rfl h⟩
  · rw [exec_prefetchComplete, if_pos ⟨hp, hon⟩, ← hk]
    exact ⟨fun u hu => by rw [hu, Option.getD_some], fun hfree => by rw [hfree, Option.getD_none]⟩
  · rw [exec_prefetchComplete, if_neg (by rcases h with h | h <;> simp [h])]
  · exact exec_prefetchTimeout_runs 0 s hp (by simp [hoff]) rfl
  · exact exec_prefetchTimeout_runs got.val t hp (by simp [hon]) ht

end Sys2Proof.Machine
end

section
/-! SUPPORT. The frames of an SPI port (12 R406, R407, R428). -/

namespace Sys2Proof.Machine

section
variable {s y : State} {n : Fin 2} {a : BitVec 24} {q : Fin 8}

/-! ### CSLO around a frame (R407, R428) -/

theorem State.spiFrame_live (h : s.spiLive n = true) (f : State → State) :
    s.spiFrame n f = (f (s.setB (pg 9 3) n.val true)).setB (pg 9 3) n.val false := by
  rw [State.spiFrame, if_pos h]

theorem State.spiFrame_dead (h : s.spiLive n = false) (f : State → State) : s.spiFrame n f = s.setB (pg 9 3) n.val false := by
  rw [State.spiFrame, if_neg (by simp [h])]

/-! ### What a frame does while CSLO is 1 -/

/-- A write frame: its words are posted, or with CRCEN = 1 and another CRC the error counts. -/
def State.spiWrite (y : State) (n : Fin 2) (a : BitVec 24) (ws : List (BitVec 24)) (crc : BitVec 16) : State :=
  if y.spiCrc n = true ∧ crc16 (spiWriteBytes a ws) ≠ crc then
    ((y.incSat (pg 9 (20 + 8 * n.val))).raise 9 (1 + 2 * n.val)).spiEnd n
      (y.statusByte (spiSession n).val :: List.replicate (3 + 3 * ws.length + (if y.spiCrc n then 2 else 0)) 0) false
  else (y.postN (spiSession n).val a.toNat (ws.map fun v => v.setWidth 18)).spiEnd n
    (y.statusByte (spiSession n).val :: List.replicate (3 + 3 * ws.length + (if y.spiCrc n then 2 else 0)) 0) true

theorem exec_spiWriteFrame {ws : List (BitVec 24)} {crc : BitVec 16} (h0 : ws ≠ []) (h64 : ws.length ≤ 64) :
    exec (.spiWriteFrame n a ws crc) s = done s (s.spiFrame n fun y => y.spiWrite n a ws crc) := by
  change execSpiWriteFrame n a ws crc s = _
  rw [execSpiWriteFrame, if_neg (by rintro (h | h); exacts [h0 h, by omega])]
  rfl

/-- A write of no word, or of more than 64, is no frame. -/
theorem exec_spiWriteFrame_none {ws : List (BitVec 24)} {crc : BitVec 16} (h : ws = [] ∨ 64 < ws.length) :
    exec (.spiWriteFrame n a ws crc) s = .next (settle s s) := by
  change execSpiWriteFrame n a ws crc s = _
  rw [execSpiWriteFrame, if_pos h, done]

section
variable {ws : List (BitVec 24)} {crc : BitVec 16} (hq : q = spiSession n)
include hq

theorem State.spiWrite_plain (h : y.spiCrc n = false) : y.spiWrite n a ws crc
    = (y.postN q.val a.toNat (ws.map fun v => v.setWidth 18)).spiEnd n
      (y.statusByte q.val :: List.replicate (3 + 3 * ws.length) 0) true := by
  subst hq
  simp [State.spiWrite, h]

theorem State.spiWrite_matching (h : y.spiCrc n = true) (hcrc : crc = crc16 (spiWriteBytes a ws)) : y.spiWrite n a ws crc
    = (y.postN q.val a.toNat (ws.map fun v => v.setWidth 18)).spiEnd n
      (y.statusByte q.val :: List.replicate (3 + 3 * ws.length + 2) 0) true := by
  subst hq hcrc
  rw [State.spiWrite, if_neg (by simp), if_pos h]

theorem State.spiWrite_wrong (h : y.spiCrc n = true) (hcrc : crc ≠ crc16 (spiWriteBytes a ws)) : y.spiWrite n a ws crc
    = ((y.incSat (pg 9 (20 + 8 * n.val))).raise 9 (1 + 2 * n.val)).spiEnd n
      (y.statusByte q.val :: List.replicate (3 + 3 * ws.length + 2) 0) false := by
  subst hq
  rw [State.spiWrite, if_pos ⟨h, hcrc.symm⟩, if_pos h]

/-- A frame that breaks off: a read has given its words, a write has posted them when CRCEN = 0. -/
theorem State.spiPartial_eq {wr : Bool} {ws : List Word} {r : List (Word × BitVec 2) × State} {u z : State}
    (hr : r = y.hostReadN q a.toNat ws.length)
    (hu : u = if wr then (if y.spiCrc n then y else y.postN q.val a.toNat ws).spiEnd n
        (y.statusByte q.val :: List.replicate (3 + 3 * ws.length) 0) false
      else r.2.spiEnd n (y.statusByte q.val :: 0 :: 0 :: 0 :: 0 :: r.1.flatMap spiWord) false)
    (hz : z = (u.incSat (pg 9 (19 + 8 * n.val))).raise 9 (2 * n.val)) : y.spiPartial n wr a ws = z := by
  subst hz hu hr hq
  rfl

end

theorem exec_spiClockIdleTimeout {wr : Bool} {ws : List Word} : exec (.spiClockIdleTimeout n wr a ws) s = .next (settle s (
    if s.spiLive n then ((s.setB (pg 9 3) n.val true).spiPartial n wr a ws).sesErr (spiSession n).val eTIMEOUT a.toNat else s)) := rfl

end

/-- Settles O47: each command is one frame, and the frame's kind says what it does while CSLO is 1. -/
theorem spiFramesRun : Obligations.SpiFramesRun := by
  intro s n a
  have eread : ∀ nw, exec (.spiReadFrame n a nw) s = execSpiReadFrame n a nw s := fun _ => rfl
  have estat : exec (.spiStatusFrame n) s = execSpiStatusFrame n s := rfl
  have eop : exec (.spiOpRefused n) s = execSpiOpRefused n s := rfl
  have epart : ∀ wr ws, exec (.spiPartialFrame n wr a ws) s = done s (s.spiFrame n fun y => y.spiPartial n wr a ws) := fun _ _ => rfl
  refine ⟨fun hl q y hq hy fin hfin => ⟨fun nw r body hr hb => ?_, fun ws crc h0 h64 => ?_, ?_, ?_, fun ws wr r u z hr hu hz => ?_⟩,
    fun hl nw ws wr t ht => ?_, fun ws crc h => exec_spiWriteFrame_none h⟩
  · subst hb hr hq hy
    rw [eread, execSpiReadFrame, State.spiFrame_live hl, hfin, done]
  · subst hy
    simp only [exec_spiWriteFrame h0 h64, State.spiFrame_live hl, hfin]
    exact ⟨fun h => by rw [State.spiWrite_plain hq h, done], fun h hc => by rw [State.spiWrite_matching hq h hc, done],
      fun h hc => by rw [State.spiWrite_wrong hq h hc, done]⟩
  · subst hq hy
    rw [estat, execSpiStatusFrame, State.spiFrame_live hl, hfin, done]
  · subst hq hy
    refine ⟨(s.setB (pg 9 3) n.val true).free.1 % 2 ^ 24, ?_⟩
    rw [eop, execSpiOpRefused, State.spiFrame_live hl, hfin, done]
  · have hp := State.spiPartial_eq hq hr hu hz
    subst hy
    refine ⟨by rw [epart, State.spiFrame_live hl, hp, hfin, done], ?_⟩
    rw [exec_spiClockIdleTimeout, if_pos hl, hp, hq]
  · subst ht
    refine ⟨?_, ?_, ?_, ?_, ?_, fun us crc h0 h64 => ?_⟩
    · rw [eread, execSpiReadFrame, State.spiFrame_dead hl, done]
    · rw [estat, execSpiStatusFrame, State.spiFrame_dead hl, done]
    · rw [eop, execSpiOpRefused, State.spiFrame_dead hl, done]
    · rw [epart, State.spiFrame_dead hl, done]
    · rw [exec_spiClockIdleTimeout, if_neg (by simp [hl])]
    · rw [exec_spiWriteFrame h0 h64, State.spiFrame_dead hl, done]

end Sys2Proof.Machine
end

section
/-! SUPPORT. The Iluhi frames of a link and its pushes (12 R408, R409, R411 to R414; 14 R462). -/

namespace Sys2Proof.Machine

section
variable {s t : State} {l : Fin 4} {q : Fin 8} {typ seq : Byte} {pl : List Byte}

/-! ### What a request answers (R411, R412) -/

theorem State.iluhiRun_read {r : List (Word × BitVec 2) × State} (hlen : pl.length = 4) (hn : (pl.getD 3 0).toNat ≤ 63)
    (hr : r = t.hostReadN q (leNum (pl.take 3)) ((pl.getD 3 0).toNat + 1)) :
    t.iluhiRun q 0x01 seq pl = (iluhiFrame 0x81 seq (r.1.flatMap iluhiWord), r.2) := by
  subst hr
  rw [State.iluhiRun, if_pos ⟨rfl, hlen, hn⟩]

theorem State.iluhiRun_write {n : Nat} {r : State × Nat} (hlen : pl.length = 3 + 3 * n) (h1 : 1 ≤ n) (h64 : n ≤ 64)
    (hr : r = t.postUntil q.val (leNum (pl.take 3)) (iluhiWords (pl.drop 3))) :
    t.iluhiRun q 0x02 seq pl = (iluhiFrame 0x82 seq [BitVec.ofNat 8 r.2], r.1) := by
  subst hr
  have hn : (pl.length - 3) / 3 = n := by omega
  rw [State.iluhiRun, if_neg (by simp), hn, if_pos ⟨rfl, hlen, h1, h64⟩]

theorem State.iluhiRun_ping : t.iluhiRun q 0x03 seq [] = (iluhiFrame 0x83 seq [BitVec.ofNat 8 q.val, t.statusByte q.val], t) := rfl

/-- An ill-formed request, and one of a type that is none. -/
theorem State.iluhiRun_error (h1 : typ = 0x01 → pl.length ≠ 4 ∨ 63 < (pl.getD 3 0).toNat)
    (h2 : typ = 0x02 → ∀ n, pl.length = 3 + 3 * n → ¬ (1 ≤ n ∧ n ≤ 64)) (h3 : typ = 0x03 → pl ≠ []) :
    t.iluhiRun q typ seq pl = (iluhiError seq eRANGE, t) := by
  have n1 : ¬ (typ = 0x01 ∧ pl.length = 4 ∧ (pl.getD 3 0).toNat ≤ 63) := fun ⟨ht, hl, hn⟩ => by
    rcases h1 ht with h | h
    · exact h hl
    · omega
  have n2 : ¬ (typ = 0x02 ∧ pl.length = 3 + 3 * ((pl.length - 3) / 3) ∧ 1 ≤ (pl.length - 3) / 3 ∧ (pl.length - 3) / 3 ≤ 64) :=
    fun ⟨ht, hl, h⟩ => h2 ht _ hl h
  rw [State.iluhiRun, if_neg n1, if_neg n2, if_neg fun ⟨ht, hp⟩ => h3 ht hp]

/-! ### A frame that arrives (R409, R413) -/

theorem State.iluhiRequest_off (h : s.linkOn l = false) : s.iluhiRequest l typ seq pl = s := if_pos h

section
variable (hon : s.linkOn l = true)
include hon

theorem State.iluhiRequest_long (hlong : 196 < pl.length) : s.iluhiRequest l typ seq pl = s.incSat (sesKey (linkSession l).val 14) := by
  rw [State.iluhiRequest, if_neg (by simp [hon]), if_pos hlong]

variable (hlen : pl.length ≤ 196) (ht : t = s.inc (sesKey (linkSession l).val 15))
include hlen ht

theorem State.iluhiRequest_repeat (h : (s.ses (linkSession l).val).lastReq = typ :: seq :: pl) :
    s.iluhiRequest l typ seq pl = t.respond l (s.ses (linkSession l).val).lastResp := by
  subst ht
  rw [State.iluhiRequest, if_neg (by simp [hon]), if_neg (by omega)]
  exact if_pos h

theorem State.iluhiRequest_new {r : List Byte × State} (h : (s.ses (linkSession l).val).lastReq ≠ typ :: seq :: pl)
    (hr : t.iluhiRun (linkSession l) typ seq pl = r) : s.iluhiRequest l typ seq pl
      = (r.2.setSes (linkSession l).val { r.2.ses (linkSession l).val with lastReq := typ :: seq :: pl, lastResp := r.1 }).respond l r.1 := by
  subst ht hr
  rw [State.iluhiRequest, if_neg (by simp [hon]), if_neg (by omega)]
  exact if_neg h

end

/-- The commands of a request differ in its type alone. -/
theorem exec_iluhiRequest {row : Instr} (hrow : row ∈ [Instr.iluhiRead l seq pl, .iluhiWrite l seq pl, .iluhiPing l seq pl,
      .iluhiUnknownType l typ seq pl]) : ∃ typ, exec row s = done s (s.iluhiRequest l typ seq pl) := by
  simp only [List.mem_cons, List.not_mem_nil, or_false] at hrow
  rcases hrow with rfl | rfl | rfl | rfl
  exacts [⟨_, rfl⟩, ⟨_, rfl⟩, ⟨_, rfl⟩, ⟨_, rfl⟩]

/-! ### Pushes (R414) -/

/-- The transmitter is idle and not paused, and no response waits. -/
def State.pushIdle (s : State) (l : Fin 4) : Prop :=
  s.writerLive (.ses (linkSession l)) = true ∧ (s.ses (linkSession l).val).push = none ∧ (s.ses (linkSession l).val).resp = []
    ∧ (s.ser l.val).txHold = none ∧ (s.ser l.val).txShift = none ∧ s.txReady l.val = true

theorem State.not_pushIdle_iff : ¬ s.pushIdle l ↔ s.writerLive (.ses (linkSession l)) = false
    ∨ (s.ses (linkSession l).val).push.isSome = true ∨ (s.ses (linkSession l).val).resp ≠ [] ∨ (s.ser l.val).txHold.isSome = true
    ∨ (s.ser l.val).txShift.isSome = true ∨ s.txReady l.val = false := by
  simp only [State.pushIdle, not_and_or, Bool.not_eq_true, Option.isSome_iff_ne_none, ne_eq]

section
variable {re rd : Nat}

theorem exec_iluhiPush_busy (h : ¬ s.pushIdle l) : exec (.iluhiPush l) s = .next (settle s s) := by
  change execIluhiPush l s = _
  rw [execIluhiPush, if_pos (State.not_pushIdle_iff.mp h), done]

variable (hre : re = s.fld (sesKey (linkSession l).val 8) 5 0) (hrd : rd = s.fld (sesKey (linkSession l).val 11) 5 0) (h : s.pushIdle l)
include hre hrd h

/-- An idle transmitter takes the ring that holds words; of two, a free one. -/
theorem exec_iluhiPush_idle : exec (.iluhiPush l) s = done s (
    if ((s.pushable (linkSession l).val 2 re || s.pushable (linkSession l).val 3 rd) && !s.domOn 2) = true then s.unitFails (10 + l.val)
    else if (s.pushable (linkSession l).val 2 re && s.pushable (linkSession l).val 3 rd) = true then
      s.free.2.beginPush l (s.free.1 % 2 == 0) (if s.free.1 % 2 = 0 then re else rd)
    else if s.pushable (linkSession l).val 2 re = true then s.beginPush l true re
    else if s.pushable (linkSession l).val 3 rd = true then s.beginPush l false rd else s) := by
  subst hre hrd
  change execIluhiPush l s = _
  rw [execIluhiPush, if_neg fun hn => State.not_pushIdle_iff.mpr hn h]

theorem exec_iluhiPush_event (hon : s.domOn 2 = true) (he : s.pushable (linkSession l).val 2 re = true)
    (hd : s.pushable (linkSession l).val 3 rd = false) : exec (.iluhiPush l) s = .next (settle s (s.beginPush l true re)) := by
  rw [exec_iluhiPush_idle hre hrd h, hon, he, hd]
  rfl

theorem exec_iluhiPush_delivery (hon : s.domOn 2 = true) (he : s.pushable (linkSession l).val 2 re = false)
    (hd : s.pushable (linkSession l).val 3 rd = true) : exec (.iluhiPush l) s = .next (settle s (s.beginPush l false rd)) := by
  rw [exec_iluhiPush_idle hre hrd h, hon, he, hd]
  rfl

theorem exec_iluhiPush_either (hon : s.domOn 2 = true) (he : s.pushable (linkSession l).val 2 re = true)
    (hd : s.pushable (linkSession l).val 3 rd = true) : exec (.iluhiPush l) s = .next (settle s (s.free.2.beginPush l true re))
      ∨ exec (.iluhiPush l) s = .next (settle s (s.free.2.beginPush l false rd)) := by
  rw [exec_iluhiPush_idle hre hrd h, hon, he, hd]
  by_cases hf : s.free.1 % 2 = 0
  · exact .inl (by simp [hf, done])
  · exact .inr (by simp [hf, beq_eq_false_iff_ne.mpr hf, done])

theorem exec_iluhiPush_dark (hoff : s.domOn 2 = false) (hp : s.pushable (linkSession l).val 2 re = true
      ∨ s.pushable (linkSession l).val 3 rd = true) : exec (.iluhiPush l) s = .next (settle s (s.pageErr (10 + l.val) eSTATE 2)) := by
  rw [exec_iluhiPush_idle hre hrd h, if_pos (by rcases hp with hp | hp <;> simp [hp, hoff])]
  rfl

theorem exec_iluhiPush_empty (he : s.pushable (linkSession l).val 2 re = false) (hd : s.pushable (linkSession l).val 3 rd = false) :
    exec (.iluhiPush l) s = .next (settle s s) := by
  rw [exec_iluhiPush_idle hre hrd h, he, hd]
  rfl

end

section
variable {r n : Nat}

theorem exec_iluhiPushSent_end (hp : (s.ses (linkSession l).val).push = some (r, n))
    (ht : t = s.setSes (linkSession l).val { s.ses (linkSession l).val with push := none }) : exec (.iluhiPushSent l) s
      = .next (settle s ((if (s.writerLive (.ses (linkSession l)) && s.consIs r (linkSession l).val) = true then t.ringTake r n
        else t).sendResp l.val)) := by
  subst ht
  change execIluhiPushSent l s = _
  rw [execIluhiPushSent, hp, done]

theorem exec_iluhiPushSent_none (hp : (s.ses (linkSession l).val).push = none) : exec (.iluhiPushSent l) s = .next (settle s s) := by
  change execIluhiPushSent l s = _
  rw [execIluhiPushSent, hp, done]

end

end

/-- Settles O48, by whether a request is new and by its form, and for a push by the rings that hold words. -/
theorem iluhiFramesRun : Obligations.IluhiFramesRun := by
  refine ⟨fun s l seq pl q t hq ht answer keep kept hanswer hkeep hkept => ?_, fun s l q re rd idle hq hre hrd hidle => ?_⟩
  · subst hq hkept
    have hnew : ∀ (typ : Byte) (row : Instr) (r : List Byte × State), exec row s = done s (s.iluhiRequest l typ seq pl) →
        s.linkOn l = true → pl.length ≤ 196 → (s.ses (linkSession l).val).lastReq ≠ typ :: seq :: pl →
        t.iluhiRun (linkSession l) typ seq pl = r → exec row s = keep typ r := fun typ row r e hon hlen h hr => by
      rw [e, State.iluhiRequest_new hon hlen ht h hr, hkeep, hanswer]
      rfl
    have hrep : ∀ (typ : Byte) (row : Instr), exec row s = done s (s.iluhiRequest l typ seq pl) → s.linkOn l = true →
        pl.length ≤ 196 → (s.ses (linkSession l).val).lastReq = typ :: seq :: pl →
        exec row s = answer t (s.ses (linkSession l).val).lastResp := fun typ row e hon hlen h => by
      rw [e, State.iluhiRequest_repeat hon hlen ht h, hanswer]
      rfl
    refine ⟨fun hon hlen => ⟨fun h => ⟨fun r h4 h63 hr => ?_, fun hbad => ?_⟩, fun h => ⟨fun n r hn h1 h64 hr => ?_, fun hbad => ?_⟩,
      fun h => ⟨fun hp => ?_, fun hp => ?_⟩, fun typ h h1 h2 h3 => ?_, fun typ h => ⟨?_, ?_, ?_, ?_⟩⟩, fun typ row hrow => ⟨fun hoff => ?_,
      fun hon hlong => ?_⟩, fun row hrow => ?_⟩
    · exact hnew 0x01 _ _ rfl hon hlen h (State.iluhiRun_read h4 h63 hr)
    · exact hnew 0x01 _ _ rfl hon hlen h (State.iluhiRun_error (fun _ => hbad) (by simp) (by simp))
    · exact hnew 0x02 _ _ rfl hon hlen h (State.iluhiRun_write hn h1 h64 hr)
    · exact hnew 0x02 _ _ rfl hon hlen h (State.iluhiRun_error (by simp) (fun _ => hbad) (by simp))
    · subst hp
      exact hnew 0x03 _ _ rfl hon hlen h State.iluhiRun_ping
    · exact hnew 0x03 _ _ rfl hon hlen h (State.iluhiRun_error (by simp) (by simp) fun _ => hp)
    · exact hnew typ _ _ rfl hon hlen h
        (State.iluhiRun_error (fun e => absurd e h1) (fun e => absurd e h2) fun e => absurd e h3)
    · exact hrep typ _ rfl hon hlen h
    · rintro rfl; exact hrep 0x01 _ rfl hon hlen h
    · rintro rfl; exact hrep 0x02 _ rfl hon hlen h
    · rintro rfl; exact hrep 0x03 _ rfl hon hlen h
    · obtain ⟨x, e⟩ := exec_iluhiRequest (s := s) hrow
      rw [e, State.iluhiRequest_off hoff, done]
    · obtain ⟨x, e⟩ := exec_iluhiRequest (s := s) hrow
      rw [e, State.iluhiRequest_long hon hlong, done]
    · simp only [List.mem_cons, List.not_mem_nil, or_false] at hrow
      rcases hrow with rfl | rfl
      exacts [rfl, rfl]
  · subst hq
    have hidle' : idle ↔ s.pushIdle l := hidle
    refine ⟨fun h hon => ⟨fun he hd => ?_, fun he hd => ?_, fun he hd => ?_⟩, fun h hoff hp => ?_, fun h => ?_, fun r n t hp ht => ?_,
      exec_iluhiPushSent_none⟩
    · exact exec_iluhiPush_event hre hrd (hidle'.mp h) hon he hd
    · exact exec_iluhiPush_delivery hre hrd (hidle'.mp h) hon he hd
    · exact exec_iluhiPush_either hre hrd (hidle'.mp h) hon he hd
    · exact exec_iluhiPush_dark hre hrd (hidle'.mp h) hoff hp
    · by_cases hi : s.pushIdle l
      · obtain ⟨he, hd⟩ := h.resolve_left (not_not.mpr (hidle'.mpr hi))
        exact exec_iluhiPush_empty hre hrd hi he hd
      · exact exec_iluhiPush_busy hi
    · rw [exec_iluhiPushSent_end hp ht]
      refine ⟨fun hw hc => by simp [hw, hc], fun h => ?_⟩
      rw [if_neg (by rcases h with h | h <;> simp [h])]

end Sys2Proof.Machine
end

section
/-! SUPPORT. The writes of a serial port (13 R433, R435, R437, R439, R443 to R445, R447, R450, R452, R457). -/

namespace Sys2Proof.Machine

section
variable {s : State} {w : Writer} {n : Fin 4} {v : Word} {wd : Nat}

/-- The six writes take the guarded path of their word. -/
theorem exec_serWrite {row : Instr} (hrow : (row, wd) ∈ [(Instr.serTxdWrite w n v, 20), (.serConfigWrite w n v, 16),
      (.serBaudWrite w n v, 18), (.serSendBreak w n v, 2), (.serFlowWrite w n v, 22), (.serDrainEnable w n v, 21)]) :
    exec row s = done s (guarded w (10 + n.val) wd v (serHandler w n.val wd v s) s) := by
  simp only [List.mem_cons, List.not_mem_nil, or_false, Prod.mk.injEq] at hrow
  rcases hrow with ⟨rfl, rfl⟩ | ⟨rfl, rfl⟩ | ⟨rfl, rfl⟩ | ⟨rfl, rfl⟩ | ⟨rfl, rfl⟩ | ⟨rfl, rfl⟩ <;> rfl

/-- A port that the personality holds refuses every write (R457). -/
theorem serHandler_closed_state (h : s.serClosed n.val = true) : (serHandler w n.val wd v s).state = eSTATE := by
  simp [serHandler, h]

section
variable (h : s.serClosed n.val = false)
include h

theorem serHandler_open : serHandler w n.val wd v s = serWord w n.val wd v s := by
  simp [serHandler, h]

theorem exec_serTxdWrite : exec (.serTxdWrite w n v) s = done s (guarded w (10 + n.val) 20 v
    { state := if (s.ser n.val).txHold.isSome = true ∨ s.fld (serKey n.val 21) 17 16 ≠ 0 ∨ s.serSes n.val = true then eBUSY else 0
      range := true, extra := 0
      result := s.setSer n.val { s.ser n.val with txHold := some (BitVec.ofNat 9 (fieldOf v 8 0)) } } s) := by
  rw [exec_serWrite (w := w) (n := n) (v := v) (wd := 20) (by simp), serHandler_open h]
  rfl

theorem exec_serConfigWrite : exec (.serConfigWrite w n v) s = done s (guarded w (10 + n.val) 16 v (serCfg w n.val v s) s) := by
  rw [exec_serWrite (w := w) (n := n) (v := v) (wd := 16) (by simp), serHandler_open h]
  rfl

theorem exec_serBaudWrite : exec (.serBaudWrite w n v) s = done s (guarded w (10 + n.val) 18 v (serBaudf w n.val v s) s) := by
  rw [exec_serWrite (w := w) (n := n) (v := v) (wd := 18) (by simp), serHandler_open h]
  rfl

theorem exec_serSendBreak (hc : s.Clear w (10 + n.val) 2 v) : exec (.serSendBreak w n v) s
    = .next (settle s (serCtrl w n.val v s).result) := by
  have e : serHandler w n.val 2 v s = serCtrl w n.val v s := serHandler_open h
  rw [exec_serWrite (w := w) (n := n) (v := v) (wd := 2) (by simp), e, done_guarded_clear hc rfl rfl rfl]

theorem exec_serFlowWrite : exec (.serFlowWrite w n v) s = done s (guarded w (10 + n.val) 22 v (serFlow w n.val v s) s) := by
  rw [exec_serWrite (w := w) (n := n) (v := v) (wd := 22) (by simp), serHandler_open h]
  rfl

theorem exec_serDrainEnable : exec (.serDrainEnable w n v) s = done s (guarded w (10 + n.val) 21 v (serDrn w n.val v s) s) := by
  rw [exec_serWrite (w := w) (n := n) (v := v) (wd := 21) (by simp), serHandler_open h]
  rfl

end

/-! ### CTRL: a break begins or ends (R443, R445) -/

section
variable {t : State} {low : Bool} {y : Ser} (ht : t = s.plain w (10 + n.val) 2 v)
  (hlow : low = (bitOf v 2 && bitOf v 1 && (t.ser n.val).txShift.isNone)) (hy : y = { t.ser n.val with lineLow := low, txLine := !low })
include ht hlow hy

theorem serCtrl_result_break (hb : bitOf v 2 = true ∨ s.bit (serKey n.val 2) 2 = false) :
    (serCtrl w n.val v s).result = (t.setSer n.val y).sendResp n.val := by
  subst hy hlow ht
  have hno : ¬ (bitOf v 2 = false ∧ s.bit (serKey n.val 2) 2 = true) := by rcases hb with hb | hb <;> simp [hb]
  rw [serCtrl]
  exact congrArg (State.sendResp · n.val) (if_neg hno)

/-- The end of a break leaves an XON due only if XOFF left the other side paused. -/
theorem serCtrl_result_break_ends (hb : bitOf v 2 = false) (hold : s.bit (serKey n.val 2) 2 = true) : (serCtrl w n.val v s).result
    = ((t.setSer n.val { y with flowDue :=
        if (t.ser n.val).flowDue = some true ∧ s.bit (serKey n.val 22) 17 = false ∧ s.bit (serKey n.val 3) 5 = true then some true
        else none }).flowEval n.val).sendResp n.val := by
  subst hy hlow ht
  rw [serCtrl]
  simp only [if_pos (And.intro hb hold), beq_iff_eq, Bool.and_eq_true, Bool.not_eq_true', and_assoc]

end

/-! ### FLOW (R444, R445) -/

section
variable {t u : State} (ht : t = s.plain w (10 + n.val) 22 v)
  (hu : u = if bitOf v 16 then t else (t.setB (serKey n.val 3) 4 false).sendResp n.val)
include ht hu

theorem serFlow_eq : serFlow w n.val v s = ⟨0, true,
    if (bitOf v 17 = true ∧ s.flowOk n.val (s.fld (serKey n.val 23) 16 0) (s.reg (serKey n.val 24)).toNat = false)
        ∨ (fieldOf v 17 16 ≠ 0 ∧ s.bit (serKey n.val 16) 17 = true) then eCONFIG else 0,
    if bitOf v 17 then u.flowEval n.val
    else if s.bit (serKey n.val 22) 17 then
      u.setSer n.val { u.ser n.val with flowDue := if s.bit (serKey n.val 3) 5 then some true else none }
    else u⟩ := by
  subst hu ht
  rfl

end

end

/-- Settles O49, by the word and by the first rule that a write breaks. -/
theorem serialWriteCommandsRun : Obligations.SerialWriteCommandsRun := by
  intro s w n v x refuse hx hrefuse
  subst hx
  refine ⟨fun row wd hrow hc hcl => ?_, fun hop => ⟨fun hc => ⟨fun h1 h2 h3 => ?_, fun hb => ?_⟩, fun busy bad hc hbusy hbad => ?_,
    fun t N ht hN hc => ?_, fun t low y ht hc hlow hy => ⟨fun hb => ?_, fun hb hold => ?_⟩, fun t u ht hc hu => ?_, fun hc => ?_⟩⟩
  · rw [exec_serWrite hrow, hrefuse, done_guarded_state hc (serHandler_closed_state hcl) (by decide)]
  · rw [exec_serTxdWrite hop, done_guarded_clear hc (if_neg (by simp [h1, h2, h3])) rfl rfl]
  · rw [exec_serTxdWrite hop, hrefuse, done_guarded_state hc (if_pos hb) (by decide)]
  · rw [exec_serConfigWrite hop]
    refine ⟨fun h => ?_, fun h h' => ?_, fun h h' => ?_⟩
    · rw [hrefuse, done_guarded_state hc (if_pos (hbusy.mp h)) (by decide)]
    · rw [hrefuse, done_guarded_extra hc (if_neg (mt hbusy.mpr h)) rfl (if_pos (hbad.mp h')) (by decide)]
    · rw [done_guarded_clear hc (if_neg (mt hbusy.mpr h)) rfl (if_neg (mt hbad.mpr h'))]
      rfl
  · subst hN ht
    rw [exec_serBaudWrite hop]
    refine ⟨fun hs h => ?_, fun h => ?_⟩
    · rw [hrefuse, done_guarded_extra hc rfl rfl (if_pos ⟨hs, h⟩) (by decide)]
    · have hno : ¬ (s.bit (serKey n.val 16) 17 = true ∧ (s.fld (serKey n.val 17) 15 0 < 4 ∨ fieldOf v 3 0 ≠ 0)) := by
        rintro ⟨hs, hbad⟩
        obtain ⟨h4, h0⟩ := h hs
        omega
      rw [done_guarded_clear hc rfl rfl (if_neg hno)]
      rfl
  · rw [exec_serSendBreak hop hc, serCtrl_result_break ht hlow hy hb]
  · rw [exec_serSendBreak hop hc, serCtrl_result_break_ends ht hlow hy hb hold]
  · rw [exec_serFlowWrite hop, serFlow_eq ht hu]
    refine ⟨fun h => ?_, fun h17 hsync => ?_⟩
    · rw [hrefuse, done_guarded_extra hc rfl rfl (if_pos h) (by decide)]
    · have hno : ¬ ((bitOf v 17 = true ∧ s.flowOk n.val (s.fld (serKey n.val 23) 16 0) (s.reg (serKey n.val 24)).toNat = false)
          ∨ (fieldOf v 17 16 ≠ 0 ∧ s.bit (serKey n.val 16) 17 = true)) := by
        rintro (⟨h, h'⟩ | ⟨h, h'⟩)
        · simp [h17 h] at h'
        · simp [hsync h] at h'
      rw [done_guarded_clear hc rfl rfl (if_neg hno)]
      exact ⟨fun h => by simp [h], fun h h' => by simp [h, h'], fun h h' => by simp [h, h']⟩
  · rw [exec_serDrainEnable hop]
    refine ⟨fun h h' => ?_, fun hfree => ⟨fun h => ?_, fun hd hf => ?_⟩⟩
    · rw [hrefuse, done_guarded_state hc (if_pos ⟨h, h'⟩) (by decide)]
    · have hst : (serDrn w n.val v s).state = 0 := if_neg fun ⟨h, h'⟩ => by simp [hfree h] at h'
      rw [hrefuse, done_guarded_extra hc hst rfl (if_pos h) (by decide)]
    · have hst : (serDrn w n.val v s).state = 0 := if_neg fun ⟨h, h'⟩ => by simp [hfree h] at h'
      have hno : ¬ ((bitOf v 17 = true ∧ s.prodIs (fieldOf v 5 0) (4 + n.val) = false)
          ∨ (bitOf v 16 = true ∧ s.consIs (fieldOf v 11 6) (4 + n.val) = false)) := by
        rintro (⟨h, h'⟩ | ⟨h, h'⟩)
        · simp [hd h] at h'
        · simp [hf h] at h'
      rw [done_guarded_clear hc hst rfl (if_neg hno)]
      rfl

end Sys2Proof.Machine
end

section
/-! SUPPORT. Characters, breaks and flow characters that arrive, in SLEEP too (13 R433, R434, R437, R438, R440 to R442, R444, R450,
R452 to R455, R458). -/

namespace Sys2Proof.Machine

section
variable {s : State}

/-! ### The setting of a character that arrives (R437) -/

section
variable {n : Nat} {x : Ser} (hx : x = s.ser n)
include hx

theorem State.startRx_settled (h : x.rxPend = false) : s.startRx n = s := by
  subst hx
  exact if_pos h

theorem State.startRx_new (h : x.rxPend = true) (hold : x.rxOld = false ∨ bitOf x.rx.cfg 17 = true) :
    s.startRx n = s.setSer n { x with rx := s.serSetting n, rxPend := false, rxOld := false } := by
  subst hx
  rw [State.startRx, if_neg (by simp [h]), if_neg (by rcases hold with h | h <;> simp [h])]
  rfl

/-- Whether the character began before the write is free. -/
theorem State.startRx_free (h : x.rxPend = true) (hold : x.rxOld = true) (hasync : bitOf x.rx.cfg 17 = false) :
    s.startRx n = s.free.2.setSer n { x with rxOld := false }
      ∨ s.startRx n = s.free.2.setSer n { x with rx := s.serSetting n, rxPend := false, rxOld := false } := by
  subst hx
  rw [State.startRx, if_neg (by simp [h]), if_pos ⟨hold, hasync⟩]
  simp only
  split
  · exact .inl rfl
  · exact .inr rfl

end

/-! ### A character, and a break (R433, R441, R442, R450) -/

section
variable {n D : Nat} {par : Word → Bool} {stop : Bool}

theorem State.rxChar_off (h : s.rxOn n = false) : s.rxChar n D par stop = s := if_pos h

variable (hon : s.rxOn n = true)
include hon

theorem State.rxChar_clocked {c : Word} {l : List Word} {d : Nat} (hcl : (s.ser n).clocked = c :: l) (hd : d = D % 2 ^ fieldOf c 9 6) :
    s.rxChar n D par stop = ((s.setSer n { s.ser n with clocked := l }).setB (serKey n 3) 6
      (if fieldOf c 12 10 = 0 then d.testBit (fieldOf c 9 6 - 1) else par c)).receive n
        (holdingWord c d false (parityError (fieldOf c 12 10) d (par c)) false) := by
  subst hd
  rw [State.rxChar, if_neg (by simp [hon]), hcl]

theorem State.rxChar_async {t : State} {c : Word} {d : Nat} (hcl : (s.ser n).clocked = []) (ht : t = s.startRx n)
    (hc : c = (t.ser n).rx.cfg) (hd : d = D % 2 ^ fieldOf c 9 6) : s.rxChar n D par stop = if bitOf c 17 = true then s
      else ((t.setSer n { t.ser n with slow := false }).setB (serKey n 3) 6 stop).receive n
        (holdingWord c d (!stop) (parityError (fieldOf c 12 10) d (par c)) false) := by
  subst hd hc ht
  rw [State.rxChar, if_neg (by simp [hon]), hcl]
  rfl

end

theorem exec_serBreak {n : Fin 4} {t : State} {c : Word} (ht : t = s.startRx n.val) (hc : c = (t.ser n.val).rx.cfg) :
    exec (.serBreak n) s = .next (settle s (if s.rxOn n.val = false ∨ (s.ser n.val).clocked ≠ [] ∨ bitOf c 17 = true then s
      else (((((t.setSer n.val { t.ser n.val with slow := false }).setB (serKey n.val 3) 6 false).incSat (serKey n.val 28)).raise
        (10 + n.val) 4).storeChar n.val (holdingWord c 0 true (parityError (fieldOf c 12 10) 0 false) true)))) := by
  subst hc ht
  rfl

/-- The rows of the characters that arrive are one event with their data, parity and stop bit. -/
theorem exec_serRx {n : Fin 4} {data : BitVec 9} {b st : Bool} {row : Instr} {D : Nat} {par : Word → Bool} {stop : Bool}
    (hrow : (row, D, par, stop) ∈ [(Instr.serRxCharacter n data b st, data.toNat, (fun _ => b), st),
      (.serXoffReceived n, 0o23, (fun c => parityBit (fieldOf c 12 10) 0o23), true),
      (.serXonReceived n, 0o21, (fun c => parityBit (fieldOf c 12 10) 0o21), true)]) :
    exec row s = .next (settle s (s.rxChar n.val D par stop)) := by
  simp only [List.mem_cons, List.not_mem_nil, or_false, Prod.mk.injEq] at hrow
  rcases hrow with ⟨rfl, rfl, rfl, rfl⟩ | ⟨rfl, rfl, rfl, rfl⟩ | ⟨rfl, rfl, rfl, rfl⟩ <;> rfl

/-! ### Flow characters, and RXD (R438, R440, R444) -/

/-- An untagged character without errors, at a port that obeys flow characters. -/
theorem flow_plain_iff {n : Nat} {h : Word} : (fieldOf h 16 14 == 0 && !bitOf h 12 && s.bit (serKey n 22) 16) = true
    ↔ fieldOf h 16 14 = 0 ∧ bitOf h 12 = false ∧ s.bit (serKey n 22) 16 = true := by
  simp only [Bool.and_eq_true, beq_iff_eq, Bool.not_eq_true', and_assoc]

section
variable {n : Nat} {h : Word}

theorem State.receive_xoff (hp : fieldOf h 16 14 = 0 ∧ bitOf h 12 = false ∧ s.bit (serKey n 22) 16 = true) (hd : fieldOf h 8 0 = 0o23) :
    s.receive n h = s.setB (serKey n 3) 4 true := if_pos ⟨flow_plain_iff.mpr hp, hd⟩

theorem State.receive_xon (hp : fieldOf h 16 14 = 0 ∧ bitOf h 12 = false ∧ s.bit (serKey n 22) 16 = true) (hd : fieldOf h 8 0 = 0o21) :
    s.receive n h = (s.setB (serKey n 3) 4 false).sendResp n := by
  rw [State.receive, if_neg fun h => absurd (hd.symm.trans h.2) (by decide)]
  exact if_pos ⟨flow_plain_iff.mpr hp, hd⟩

theorem State.receive_data (hno : fieldOf h 16 14 ≠ 0 ∨ bitOf h 12 = true ∨ s.bit (serKey n 22) 16 = false
      ∨ (fieldOf h 8 0 ≠ 0o23 ∧ fieldOf h 8 0 ≠ 0o21)) : s.receive n h = s.storeChar n h := by
  have hplain : ∀ d, d = 0o23 ∨ d = 0o21 →
      ¬ ((fieldOf h 16 14 == 0 && !bitOf h 12 && s.bit (serKey n 22) 16) = true ∧ fieldOf h 8 0 = d) := by
    rintro d hd ⟨hp, he⟩
    obtain ⟨h1, h2, h3⟩ := flow_plain_iff.mp hp
    rcases hno with h | h | h | ⟨h, h'⟩
    · exact h h1
    · simp [h2] at h
    · simp [h3] at h
    · rcases hd with rfl | rfl
      exacts [h he, h' he]
  rw [State.receive, if_neg (hplain _ (.inl rfl))]
  exact if_neg (hplain _ (.inr rfl))

variable {y z : State} (hy : y = (s.inc (serKey n 25)).raise (10 + n) 0)
  (hz : z = if bitOf h 16 = true ∨ bitOf h 15 = true then (y.incSat (serKey n 26)).raise (10 + n) 3 else y)
include hy hz

/-- A stored character counts, is the link's, or waits in RXD over one that was not read. -/
theorem State.storeChar_eq : s.storeChar n h = if s.serSes n = true then z
    else if s.reg (serKey n 19) = 0 then ((z.setReg (serKey n 19) (forceBit h 13 false)).setB (serKey n 3) 0 true).uartEvent n
    else (((z.incSat (serKey n 27)).raise (10 + n) 5).setReg (serKey n 19) (forceBit h 13 true)).setB (serKey n 3) 0 true := by
  subst hz hy
  by_cases h0 : s.reg (serKey n 19) = 0
  · simp only [State.storeChar, h0, Bool.or_eq_true, bne_self_eq_false, Bool.false_eq_true, if_false, if_true]
  · simp only [State.storeChar, bne_iff_ne.mpr h0, Bool.or_eq_true, h0, if_false, if_true]

end

/-! ### The slow receiver (R452 to R455) -/

section
variable {u : Fin 2} {data : BitVec 9} {par stop : Bool} {c h : Word} {d : Nat} {x : Ser} (hx : x = s.ser u.val) (hc : c = x.rx.cfg)
  (hd : d = data.toNat % 2 ^ fieldOf c 9 6)
  (hh : h = holdingWord c d (!stop) (parityError (fieldOf c 12 10) d par) (d == 0 && (fieldOf c 12 10 == 0 || !par) && !stop))

theorem exec_slowRxCharacter_off (hoff : s.slowOn u.val = false) : exec (.slowRxCharacter u data par stop) s = .next (settle s s) := by
  change execSlowRxCharacter u data par stop s = _
  rw [execSlowRxCharacter, if_pos hoff, done]

variable (hon : s.slowOn u.val = true)
include hx hc hd hh hon

theorem exec_slowRxCharacter_further (hs : x.slow = true) : exec (.slowRxCharacter u data par stop) s
    = .next (settle s ((s.setF (serKey u.val 32) 8 0 (fieldOf h 8 0)).slowKeep u.val h)) := by
  subst hh hd hc hx
  change execSlowRxCharacter u data par stop s = _
  rw [execSlowRxCharacter, if_neg (by simp [hon]), if_pos hs, done]
  rfl

theorem exec_slowRxCharacter_match {k : Nat} (hs : x.slow = false) (hk : s.slowMatch u.val h = some k) :
    exec (.slowRxCharacter u data par stop) s = .next (settle s
      (((s.setReg (serKey u.val 32) (wordOf (131072 + k * 65536 + fieldOf h 8 0))).slowKeep u.val h).latchWake (9 + u.val))) := by
  have e : s.slowHolding u.val data.toNat par stop = h := by subst hh hd hc hx; rfl
  subst hx
  change execSlowRxCharacter u data par stop s = _
  rw [execSlowRxCharacter, if_neg (by simp [hon]), if_neg (by simp [hs]), e, hk, done]

theorem exec_slowRxCharacter_other (hs : x.slow = false) (hk : s.slowMatch u.val h = none) :
    exec (.slowRxCharacter u data par stop) s = .next (settle s s) := by
  have e : s.slowHolding u.val data.toNat par stop = h := by subst hh hd hc hx; rfl
  subst hx
  change execSlowRxCharacter u data par stop s = _
  rw [execSlowRxCharacter, if_neg (by simp [hon]), if_neg (by simp [hs]), e, hk, done]

end

theorem State.handOver_kept {u : Nat} {g : Word} {full : Bool} {t : State} (hg : (s.ser u).sl = some g)
    (hf : full = (s.reg (serKey u 19) != 0)) (ht : t = if full then (s.incSat (serKey u 27)).raise (10 + u) 5 else s) : s.handOver u
      = (((t.setSer u { t.ser u with sl := none }).setReg (serKey u 19) (forceBit g 13 (full || bitOf g 13))).setB
        (serKey u 3) 0 true).raise (10 + u) 8 := by
  subst ht hf
  rw [State.handOver, hg]

end

/-- Settles O50, by the state of the receiver and of what it holds. -/
theorem serialReceptionRuns : Obligations.SerialReceptionRuns := by
  refine ⟨fun s n x hx => ⟨⟨State.startRx_settled hx, State.startRx_new hx, State.startRx_free hx⟩,
    fun data b st row D par stop hrow => ?_, fun t c ht hc => ?_, fun h => ⟨fun hp => ⟨State.receive_xoff hp, State.receive_xon hp⟩,
    State.receive_data⟩, fun h y z hy hz => ?_⟩, fun s u data par stop c d h x keep hx hc hd hh hkeep => ?_⟩
  · rw [exec_serRx hrow]
    refine ⟨fun hoff => by rw [State.rxChar_off hoff], fun hon => ⟨fun c l d hcl hd => ?_, fun t c d hcl ht hc hd => ?_⟩⟩
    · subst hx
      rw [State.rxChar_clocked hon hcl hd]
    · rw [State.rxChar_async hon (hx ▸ hcl) ht hc hd]
      exact ⟨fun h => by rw [if_pos h], fun h => by rw [if_neg (by simp [h])]⟩
  · subst hx
    rw [exec_serBreak ht hc]
    refine ⟨fun hon hcl hasync u hu => ?_, fun h => by rw [if_pos h]⟩
    rw [if_neg (by simp [hon, hcl, hasync]), hu]
  · rw [State.storeChar_eq hy hz]
    exact ⟨fun h => if_pos h, fun h h0 => by rw [if_neg (by simp [h]), if_pos h0], fun h h0 => by rw [if_neg (by simp [h]), if_neg h0]⟩
  · have hk : ∀ t : State, t.ser u.val = x → t.slowKeep u.val h = keep t := fun t ht => by
      rw [hkeep t _ rfl, State.slowKeep, ht]
      rfl
    refine ⟨fun hon => ⟨fun hs => ?_, fun hs => ⟨fun k hm => ?_, exec_slowRxCharacter_other hx hc hd hh hon hs⟩⟩,
      exec_slowRxCharacter_off, fun g full t hg hf ht => ?_⟩
    · rw [exec_slowRxCharacter_further hx hc hd hh hon hs, hk _ (hx ▸ rfl)]
    · rw [exec_slowRxCharacter_match hx hc hd hh hon hs hm, hk _ (hx ▸ rfl)]
    · subst hx
      exact State.handOver_kept hg hf ht

end Sys2Proof.Machine
end

section
/-! SUPPORT. A read of a word of a page by a session, a core or the test access port (12 R397, R402, R403; 14 R462). -/

namespace Sys2Proof.Machine

section
variable {p wd : Nat}

/-- The region of a page's words: the group and the domain of the page. -/
theorem regionOf_page_eq (hp : p ≤ 50) (hwd : wd < 1024) : regionOf (pageAddr p wd) = some (pageGroup p, homeDomain p) := by
  have e : pageAddr p wd = 14680064 + p * 1024 + wd := rfl
  have below : ∀ k, k ≤ 14680064 → ¬ pageAddr p wd < k := fun k hk => by omega
  have hin : pageAddr p wd < 0o70146000 := by omega
  have hpage : (pageAddr p wd - 0o70000000) / 1024 = p := by omega
  rw [regionOf]
  iterate 11 rw [if_neg (below _ (by decide))]
  rw [if_pos hin, hpage]

theorem isPageAddr_pageAddr : isPageAddr (pageAddr p wd) = true := by
  have e : pageAddr p wd = 14680064 + p * 1024 + wd := rfl
  simp [isPageAddr, e]
  omega

theorem pageAddr_page (hwd : wd < 1024) : (pageAddr p wd - 0o70000000) / 1024 = p := by
  have e : pageAddr p wd = 14680064 + p * 1024 + wd := rfl
  omega

theorem pageAddr_word (hwd : wd < 1024) : (pageAddr p wd - 0o70000000) % 1024 = wd := by
  have e : pageAddr p wd = 14680064 + p * 1024 + wd := rfl
  omega

variable {s : State} (hp : p ≤ 50) (hwd : wd < 1024)
include hp hwd

theorem State.hostRead_page (q : Fin 8) : s.hostRead q (pageAddr p wd)
    = if s.mayRead q.val p wd then s.pageRead q p wd else (0, 2, s.sesErr q.val ePERM (pageAddr p wd)) := by
  have e : pageAddr p wd = 14680064 + p * 1024 + wd := rfl
  rw [State.hostRead, if_neg (by omega), regionOf_page_eq hp hwd]
  simp only
  rw [if_pos isPageAddr_pageAddr, pageAddr_page hwd, pageAddr_word hwd]

section
variable {c : Fin 4} (hl : s.writerLive (.core c) = true)
include hl

/-- A core that loads a word of a page whose domain is off wakes the domain. -/
theorem State.readAddr_core_off (hd : s.domOn (homeDomain p) = false) : s.readAddr (.core c) (pageAddr p wd) = s.wakeDom (homeDomain p) := by
  rw [State.readAddr, if_neg (by simp [hl])]
  simp only [localKey_page, regionOf_page_eq hp hwd, hd, Bool.false_eq_true, if_false]

variable (hd : s.domOn (homeDomain p) = true)
include hd

theorem State.readAddr_core_on : s.readAddr (.core c) (pageAddr p wd) = (s.coreLoad c (pageAddr p wd)).2 := by
  rw [State.readAddr, if_neg (by simp [hl])]
  simp only [localKey_page, regionOf_page_eq hp hwd, hd, if_true]

theorem State.readAddr_core_word (hm : s.memBehind p wd = none) : s.readAddr (.core c) (pageAddr p wd) = s.readEffect p wd := by
  rw [State.readAddr_core_on hp hwd hl hd, State.coreLoad]
  simp only [localKey_page, regionOf_page_eq hp hwd, pageAddr_page hwd, pageAddr_word hwd, isPageAddr_pageAddr, if_true, hm]

theorem State.readAddr_core_mem {k : Nat} (hm : s.memBehind p wd = some k) :
    s.readAddr (.core c) (pageAddr p wd) = (s.loadMem c k).2.nextBka p wd := by
  rw [State.readAddr_core_on hp hwd hl hd, State.coreLoad]
  simp only [localKey_page, regionOf_page_eq hp hwd, pageAddr_page hwd, pageAddr_word hwd, isPageAddr_pageAddr, if_true, hm]

end

section
variable (hl : s.writerLive .tap = true)
include hl

theorem State.readAddr_tap_off (hd : s.domOn (homeDomain p) = false) : s.readAddr .tap (pageAddr p wd) = s := by
  rw [State.readAddr, if_neg (by simp [hl])]
  simp only [regionOf_page_eq hp hwd, hd, if_true]

variable (hd : s.domOn (homeDomain p) = true)
include hd

theorem State.readAddr_tap_word (hm : s.memBehind p wd = none) : s.readAddr .tap (pageAddr p wd) = s.readEffect p wd := by
  rw [State.readAddr, if_neg (by simp [hl])]
  simp only [regionOf_page_eq hp hwd, pageAddr_page hwd, pageAddr_word hwd, isPageAddr_pageAddr, hd, Bool.true_eq_false, if_false, if_true, hm]

theorem State.readAddr_tap_mem {k : Nat} (hm : s.memBehind p wd = some k) :
    s.readAddr .tap (pageAddr p wd) = (s.memRead k).2.2.nextBka p wd := by
  rw [State.readAddr, if_neg (by simp [hl])]
  simp only [regionOf_page_eq hp hwd, pageAddr_page hwd, pageAddr_word hwd, isPageAddr_pageAddr, hd, Bool.true_eq_false, if_false, if_true, hm]

end

theorem State.readAddr_ses_page {q : Fin 8} (hl : s.writerLive (.ses q) = true) : s.readAddr (.ses q) (pageAddr p wd)
    = if s.mayRead q.val p wd then (s.pageRead q p wd).2.2.driveBus q (s.pageRead q p wd).1 (s.pageRead q p wd).2.1
      else (s.sesErr q.val ePERM (pageAddr p wd)).driveBus q 0 2 := by
  rw [State.readAddr, if_neg (by simp [hl])]
  simp only [State.hostRead_page hp hwd]
  split <;> rfl

end

theorem State.readAddr_dead {s : State} {w : Writer} {a : Nat} (hl : s.writerLive w = false) : s.readAddr w a = s := if_pos hl

end Sys2Proof.Machine
end

section
/-! SUPPORT. Characters that are sent, drained, fed and read (13 R438 to R440, R443 to R445, R448 to R450; 11 R371; 12 R397, R402, R403;
14 R462). -/

namespace Sys2Proof.Machine

section
variable {s : State} {n : Fin 4} {x : Ser}

/-! ### The transmitter (R439, R443 to R445, R450) -/

theorem State.beginTx_eq {g : SerSet} {y z : Ser} {c : BitVec 9} (hg : g = if x.txPend then s.serSetting n.val else x.tx)
    (hz : z = { y with txShift := some c, tx := g, txPend := false, sent := lineBits g.cfg c }) (hp : y.txPend = x.txPend)
    (ht : y.tx = x.tx) : s.beginTx n.val y c
      = s.setSer n.val (if bitOf g.cfg 17 then { z with rx := g, rxPend := false, rxOld := false } else z) := by
  subst hz
  rw [← hp, ← ht] at hg
  subst hg
  rfl

/-- The transmitter may begin a character at this boundary. -/
def State.txBoundary (s : State) (n : Nat) : Prop :=
  s.serOn = true ∧ s.bit (serKey n 2) 1 = true ∧ s.bit (serKey n 2) 2 = false ∧ (s.ser n).txShift = none

section
variable (hx : x = s.ser n.val)
include hx

theorem exec_serTxStart_goes {c : BitVec 9} (hc : x.txHold = some c) (hb : s.txBoundary n.val) (hf : x.flowDue = none)
    (hp : s.bit (serKey n.val 3) 4 = false) : exec (.serTxStart n) s
      = .next (settle s (((s.beginTx n.val { x with txHold := none } c).raise (10 + n.val) 1).uartEvent n.val)) := by
  subst hx
  obtain ⟨h1, h2, h3, h4⟩ := hb
  change execSerTxStart n s = _
  rw [execSerTxStart]
  simp only [hc]
  rw [if_pos ⟨h1, h2, h3, h4, hf, hp⟩, done]

theorem exec_serTxStart_waits (h : x.txHold.isSome = true → ¬ s.txBoundary n.val ∨ x.flowDue.isSome = true ∨ s.bit (serKey n.val 3) 4 = true) :
    exec (.serTxStart n) s = .next (settle s s) := by
  subst hx
  change execSerTxStart n s = _
  rw [execSerTxStart]
  cases hc : (s.ser n.val).txHold with
  | none => rfl
  | some c =>
    simp only
    rw [if_neg, done]
    rintro ⟨h1, h2, h3, h4, hf, hp⟩
    rcases h (by simp [hc]) with h | h | h
    · exact h ⟨h1, h2, h3, h4⟩
    · simp [hf] at h
    · simp [hp] at h

theorem exec_serFlowCharacterSend_goes {xon : Bool} (hf : x.flowDue = some xon) (hb : s.txBoundary n.val) :
    exec (.serFlowCharacterSend n) s = .next (settle s (((s.beginTx n.val { x with flowDue := none }
      (if xon then 0o21 else 0o23)).setB (serKey n.val 3) 5 (!xon)).flowEval n.val)) := by
  subst hx
  obtain ⟨h1, h2, h3, h4⟩ := hb
  change execSerFlowCharacterSend n s = _
  rw [execSerFlowCharacterSend]
  simp only [hf]
  rw [if_pos ⟨h1, h2, h3, h4⟩, done]

theorem exec_serFlowCharacterSend_waits (h : x.flowDue.isSome = true → ¬ s.txBoundary n.val) :
    exec (.serFlowCharacterSend n) s = .next (settle s s) := by
  subst hx
  change execSerFlowCharacterSend n s = _
  rw [execSerFlowCharacterSend]
  cases hf : (s.ser n.val).flowDue with
  | none => rfl
  | some xon =>
    simp only
    rw [if_neg fun ⟨h1, h2, h3, h4⟩ => h (by simp [hf]) ⟨h1, h2, h3, h4⟩, done]

theorem exec_serTxCharacterDone_ends {low : Bool} {t : State} (hs : x.txShift.isSome = true) (hon : s.serOn = true)
    (hlow : low = (s.bit (serKey n.val 2) 2 && s.bit (serKey n.val 2) 1))
    (ht : t = s.setSer n.val { x with txShift := none, lineLow := low, txLine := !low, clocked :=
      (if bitOf x.tx.cfg 17 = true ∧ s.bit (serKey n.val 2) 0 = true then x.clocked ++ [x.tx.cfg] else x.clocked) }) :
    exec (.serTxCharacterDone n) s = .next (settle s (if x.txHold.isNone then t.raise (10 + n.val) 2 else t)) := by
  subst ht hlow hx
  change execSerTxCharacterDone n s = _
  rw [execSerTxCharacterDone, if_pos ⟨hs, hon⟩, done]
  simp only [Bool.and_eq_true]

theorem exec_serTxCharacterDone_idle (h : x.txShift = none ∨ s.serOn = false) : exec (.serTxCharacterDone n) s = .next (settle s s) := by
  subst hx
  change execSerTxCharacterDone n s = _
  rw [execSerTxCharacterDone, if_neg (by rcases h with h | h <;> simp [h]), done]

end

theorem exec_serFlowTimeout : exec (.serFlowTimeout n) s = .next (settle s (
    if s.serOn = true ∧ s.bit (serKey n.val 3) 4 = true then (s.pageErr (10 + n.val) eTIMEOUT 22).raise (10 + n.val) 7 else s)) := rfl

/-! ### The drain and the feed (R448, R449) -/

section
variable {r : Nat} {c : Word} (hr : r = s.fld (serKey n.val 21) 5 0) (hc : c = s.reg (serKey n.val 19))
include hr hc

theorem exec_serDrainMove_runs (hon : s.serOn = true) (hd : s.bit (serKey n.val 21) 17 = true) (hp : s.prodIs r (4 + n.val) = true)
    (h0 : c ≠ 0) : exec (.serDrainMove n) s = .next (settle s (
      if s.domOn 2 = false then s.pageErr (10 + n.val) eSTATE 2
      else if 1 ≤ s.ringRoom r then
        ((((s.ringPut r [c]).setReg (serKey n.val 19) 0).setB (serKey n.val 3) 0 false).setB (serKey n.val 3) 7 false).flowRing r
      else if s.bit (serKey n.val 3) 7 then s else (s.setB (serKey n.val 3) 7 true).raise (10 + n.val) 6)) := by
  subst hc hr
  change execSerDrainMove n s = _
  rw [execSerDrainMove, if_pos hon, State.drainMove, if_pos ⟨hd, hp, h0⟩, done]
  rfl

theorem exec_serDrainMove_idle (h : s.serOn = false ∨ s.bit (serKey n.val 21) 17 = false ∨ s.prodIs r (4 + n.val) = false ∨ c = 0) :
    exec (.serDrainMove n) s = .next (settle s s) := by
  subst hc hr
  change execSerDrainMove n s = _
  rw [execSerDrainMove, done]
  by_cases hon : s.serOn = true
  · rw [if_pos hon, State.drainMove, if_neg]
    rintro ⟨hd, hp, h0⟩
    rcases h with h | h | h | h
    · simp [hon] at h
    · simp [hd] at h
    · simp [hp] at h
    · exact h0 h
  · rw [if_neg hon]

end

section
variable {r : Nat} (hr : r = s.fld (serKey n.val 21) 11 6) (hx : x = s.ser n.val)
include hr hx

theorem exec_serFeedTake_runs {e : List Word × Nat × State} {t : State} (he : e = s.ringReadE r (s.reg (ringKey r 3)).toNat 1)
    (ht : t = if e.2.1 = 2 then e.2.2.pageErr (10 + n.val) eECC 2 else e.2.2) (hon : s.serOn = true)
    (hf : s.bit (serKey n.val 21) 16 = true) (hc : s.consIs r (4 + n.val) = true) (h0 : x.txHold = none) (h1 : 1 ≤ s.ringFill r) :
    exec (.serFeedTake n) s = .next (settle s (if s.domOn 2 = false then s.pageErr (10 + n.val) eSTATE 2
      else (t.setSer n.val { x with txHold := some (BitVec.ofNat 9 (fieldOf (e.1.headD 0) 8 0)) }).ringTake r 1)) := by
  subst ht he hx hr
  change execSerFeedTake n s = _
  rw [execSerFeedTake, if_pos ⟨hon, hf, hc, h0, h1⟩, done]
  rfl

theorem exec_serFeedTake_idle (h : s.serOn = false ∨ s.bit (serKey n.val 21) 16 = false ∨ s.consIs r (4 + n.val) = false
      ∨ x.txHold.isSome = true ∨ s.ringFill r = 0) : exec (.serFeedTake n) s = .next (settle s s) := by
  subst hx hr
  change execSerFeedTake n s = _
  rw [execSerFeedTake, if_neg, done]
  rintro ⟨hon, hf, hc, h0, h1⟩
  rcases h with h | h | h | h | h
  · simp [hon] at h
  · simp [hf] at h
  · simp [hc] at h
  · simp [h0] at h
  · omega

end

/-! ### The read of RXD (R438, R440) -/

theorem memBehind_rxd : s.memBehind (10 + n.val) 19 = none := by
  rw [State.memBehind, if_neg (by omega), if_neg (by omega), if_neg (by omega)]

/-- A read empties RXD, unless the drain or the session takes it. -/
theorem State.readEffect_rxd {t : State} (ht : t = if s.bit (serKey n.val 21) 17 = true ∨ s.serSes n.val = true then s
    else (s.setReg (serKey n.val 19) 0).setB (serKey n.val 3) 0 false) : s.readEffect (10 + n.val) 19 = t := by
  subst ht
  rw [State.readEffect, if_pos (by omega), Nat.add_sub_cancel_left]
  simp only [State.rxdTaken, Bool.or_eq_true]
  rfl

theorem State.pageRead_rxd {q : Fin 8} : s.pageRead q (10 + n.val) 19
    = if s.pageFresh (10 + n.val) 19 = false ∨ s.unperformed q.val (pageAddr (10 + n.val) 19) = true
      then (s.peekWord (.ses q) (10 + n.val) 19, 1, s)
      else (s.peekWord (.ses q) (10 + n.val) 19, 0, s.readEffect (10 + n.val) 19) := by
  have hshadow : s.shadowWord q (10 + n.val) 19 = s.peekWord (.ses q) (10 + n.val) 19 := by rw [State.shadowWord, if_neg (by omega)]
  rw [State.pageRead, if_neg (by omega), hshadow, memBehind_rxd]

end

/-- Settles O51, by the state of the transmitter and of the rings, and for a read by who reads. -/
theorem serialTransmissionRuns : Obligations.SerialTransmissionRuns := by
  refine ⟨fun s n x g hx hg => ⟨fun y c z hz hp ht => State.beginTx_eq hg hz hp ht, fun ready hready => ?_,
    fun low t hs hon hlow ht => exec_serTxCharacterDone_ends hx hs hon hlow ht, exec_serTxCharacterDone_idle hx, fun h h' => ?_, fun h => ?_⟩,
    fun s n => ⟨fun r c hr hc => ⟨fun hon hd hp h0 => ?_, exec_serDrainMove_idle hr hc⟩, fun r e t x hr he hx ht =>
    ⟨fun hon hf hc h0 h1 => ?_, exec_serFeedTake_idle hr hx⟩, fun w t ht => ⟨fun hl => ?_, fun hl => ?_⟩⟩⟩
  · have hb : ready ↔ s.txBoundary n.val := by
      subst hx
      exact hready
    refine ⟨fun c hc => ⟨fun h hf hp => ?_, fun h => ?_⟩, fun h => ?_, fun xon hf => ⟨fun h => ?_, fun h => ?_⟩, fun h => ?_⟩
    · exact exec_serTxStart_goes hx hc (hb.mp h) hf hp
    · exact exec_serTxStart_waits hx fun _ => h.imp_left (mt hb.mpr)
    · exact exec_serTxStart_waits hx (by simp [h])
    · exact exec_serFlowCharacterSend_goes hx hf (hb.mp h)
    · exact exec_serFlowCharacterSend_waits hx fun _ => mt hb.mpr h
    · exact exec_serFlowCharacterSend_waits hx (by simp [h])
  · rw [exec_serFlowTimeout, if_pos ⟨h, h'⟩]
  · rw [exec_serFlowTimeout, if_neg (by rcases h with h | h <;> simp [h])]
  · rw [exec_serDrainMove_runs hr hc hon hd hp h0]
    exact ⟨fun h => by rw [if_pos h], fun h h1 => by rw [if_neg (by simp [h]), if_pos h1],
      fun h h1 => by rw [if_neg (by simp [h]), if_neg (by omega)]⟩
  · rw [exec_serFeedTake_runs hr hx he ht hon hf hc h0 h1]
    exact ⟨fun h => by rw [if_neg (by simp [h])], fun h => by rw [if_pos h]⟩
  · exact congrArg (done s) (State.readAddr_dead hl)
  · have e : ∀ w, exec (.serRxdRead w n) s = done s (s.readAddr w (pageAddr (10 + n.val) 19)) := fun _ => rfl
    have hp : 10 + n.val ≤ 50 := by omega
    have hdom : homeDomain (10 + n.val) = 3 := by rw [homeDomain, if_neg (by omega), if_neg (by omega), if_pos (by omega)]
    have heff := State.readEffect_rxd ht
    refine ⟨fun q hw => ?_, fun c hw hd => ?_, fun c hw hd => ?_, fun hw hd => ?_, fun hw hd => ?_⟩ <;> subst hw <;> rw [e]
    · rw [State.readAddr_ses_page hp (by decide) hl, State.pageRead_rxd, heff]
      refine ⟨fun hm => by rw [if_neg (by simp [hm]), done], fun hm => ?_⟩
      rw [if_pos hm]
      exact ⟨fun h1 h2 => by rw [if_neg (by simp [h1, h2]), done], fun h => by rw [if_pos h, done]⟩
    · rw [State.readAddr_core_word hp (by decide) hl (by rw [hdom, hd]) memBehind_rxd, heff, done]
    · rw [State.readAddr_core_off hp (by decide) hl (by rw [hdom, hd]), hdom, done]
    · rw [State.readAddr_tap_word hp (by decide) hl (by rw [hdom, hd]) memBehind_rxd, heff, done]
    · rw [State.readAddr_tap_off hp (by decide) hl (by rw [hdom, hd]), done]

end Sys2Proof.Machine
end

section
/-! SUPPORT. Domains that are switched off and on (14 R459 to R463). -/

namespace Sys2Proof.Machine

theorem fixedDomain_iff (d : Nat) : fixedDomain d = true ↔ d = 0 ∨ d = 1 ∨ d = 2 ∨ d = 15 := by
  simp [fixedDomain, or_assoc]

section
variable {s : State}

/-! ### DCTL (R459, R460, R462) -/

section
variable {w : Writer} {d : Fin 16} {u : Word} {t : State}
  (ht : t = s.plain w 1 (48 + d.val) (if d.val = 0 ∨ d.val = 1 ∨ d.val = 2 ∨ d.val = 15 then forceBit u 16 false else u))
include ht

theorem dctlHandler_off (hu : bitOf u 17 = false) : dctlHandler w d.val u s
    = { state := if fixedDomain d.val then eSTATE else if s.offBusy d.val then eBUSY else 0
        range := true, extra := 0
        result := if s.domOn d.val then t.switchOff d.val else t } := by
  simp only [← fixedDomain_iff] at ht
  subst ht
  rw [dctlHandler, if_neg (by simp [hu])]

theorem dctlHandler_on (hu : bitOf u 17 = true) : dctlHandler w d.val u s
    = ⟨0, true, 0, if s.pwr.offPend.getLsbD d.val then t else t.wakeDom d.val⟩ := by
  simp only [← fixedDomain_iff] at ht
  subst ht
  rw [dctlHandler, if_pos hu]

end

/-- A domain without ranks powers down at once. -/
theorem State.switchOff_plain {d : Nat} (h6 : d ≠ 6) (h7 : d ≠ 7) : s.switchOff d = s.domainDown d := by
  rw [State.switchOff]
  simp only [h6, h7, or_false, and_false, if_false]

/-- A Nib domain powers down when its ranks have drained. -/
theorem State.switchOff_nib {d : Nat} {x : State} (h : d = 6 ∨ d = 7) (hx : x = s.drainDomain d) : s.switchOff d
    = if x.draining d then { x with pwr := { x.pwr with offPend := x.pwr.offPend ||| BitVec.ofNat 16 (2 ^ d) } } else x.domainDown d := by
  subst hx
  rw [State.switchOff]
  simp only [h, and_true, if_true]

/-! ### Power-ups and time-outs (R461 to R463) -/

theorem exec_domainIdleExpiry {d : Fin 16} : exec (.domainIdleExpiry d) s = .next (settle s (
    if fixedDomain d.val = false ∧ s.domOn d.val = true ∧ s.bit (pg 1 (48 + d.val)) 16 = true ∧ s.domainIdle d.val = true then
      (s.setB (pg 1 (48 + d.val)) 17 false).switchOff d.val
    else s)) := rfl

theorem exec_domainOn {d : Fin 16} : exec (.domainOn d) s = .next (settle s (if s.pstate d.val = 1 ∧ s.pllsRun d.val = true then
    (List.finRange 4).foldl State.release ((List.range 4).foldl (fun t p =>
      if (pllUsers p).contains d.val = true ∧ t.locked p = false then t.lockPll p else t) (s.domainUp d.val))
    else s)) := rfl

theorem exec_wakeOnDemandTimeout {c : Fin 4} {x : Core} (hx : x = s.cores[c.val]) : exec (.wakeOnDemandTimeout c) s
    = .next (settle s (if x.wod then ((s.coreErr c.val eTIMEOUT).raise 1 4).setCore c
      { x with wod := false, stallW := none, wodTmo := x.stallW.isNone } else s)) := by
  subst hx
  rfl

/-! ### A domain without retention that powers down (R459, R460) -/

theorem State.stopPlls_pstate (s : State) (d : Nat) : s.stopPlls.pstate d = s.pstate d :=
  List.foldlRecOn (motive := fun t : State => t.pstate d = s.pstate d) _ _ rfl fun t ht p _ => by
    split
    · exact ht
    · split <;> exact ht

theorem State.setPstate_pstate_self {d : Nat} (hd : d < 16) (v : BitVec 2) : (s.setPstate d v).pstate d = v := by
  simp [State.setPstate, State.pstate, List.getD, Vector.toList_setIfInBounds, hd]

theorem State.retains_none {d : Nat} (h : banksOf d = []) : s.retains d = false := by
  rw [State.retains, h, List.any_nil]

theorem State.domainDown_pstate {d : Nat} (hd : d < 16) (hb : banksOf d = []) (hon : s.domOn d = true) : (s.domainDown d).pstate d = 0 := by
  have h2 : s.pstate d = 2 := by simpa [State.domOn] using hon
  rw [State.domainDown, if_neg (by rw [h2]; decide)]
  extract_lets _ _ t keep t1
  have hk : keep = false := State.retains_none hb
  rw [State.stopPlls_pstate]
  have h1 : t1.pstate d = if keep = true then 3 else 0 := State.setPstate_pstate_self hd _
  rw [hk, if_neg (by decide)] at h1
  exact h1

end

/-- Settles O53, by the domain and its state. -/
theorem domainCommandsRun : Obligations.DomainCommandsRun := by
  refine ⟨fun s w d v => ⟨fun u t hu hc ht => ?_, fun u t hu hc ht => ?_, fun expires hx => ?_, fun t ht hp hr => ?_, fun h => ?_,
    fun c x hx => ?_⟩, fun s d hd hon => ?_⟩
  · have hb : bitOf u 17 = false := hu ▸ bitOf_forceBit v 17 false (by decide)
    have e : exec (.domainSwitchOff w d v) s = done s (guarded w 1 (48 + d.val) u (dctlHandler w d.val u s) s) := hu ▸ rfl
    rw [e, dctlHandler_off ht hb]
    simp only [← fixedDomain_iff]
    refine ⟨fun hf => ?_, fun hf hbusy => ?_, fun hf hfree => ⟨fun hoff => ?_, fun hon h6 h7 => ?_, fun hon hn x hx => ?_⟩⟩
    · exact done_guarded_state hc (if_pos hf) (by decide)
    · exact done_guarded_state hc ((if_neg hf).trans (if_pos hbusy)) (by decide)
    · rw [done_guarded_clear hc ((if_neg hf).trans (if_neg (by simp [hfree]))) rfl rfl, if_neg (show ¬ s.domOn d.val = true by simp [hoff])]
    · rw [done_guarded_clear hc ((if_neg hf).trans (if_neg (by simp [hfree]))) rfl rfl, if_pos hon, State.switchOff_plain h6 h7]
    · rw [done_guarded_clear hc ((if_neg hf).trans (if_neg (by simp [hfree]))) rfl rfl, if_pos hon, State.switchOff_nib hn hx]
  · have hb : bitOf u 17 = true := hu ▸ bitOf_forceBit v 17 true (by decide)
    have e : exec (.domainPowerUp w d v) s = done s (guarded w 1 (48 + d.val) u (dctlHandler w d.val u s) s) := hu ▸ rfl
    rw [e, dctlHandler_on ht hb, done_guarded_clear hc rfl rfl rfl]
    exact ⟨fun h => by rw [if_pos h], fun h => by rw [if_neg (by simpa using h)]⟩
  · rw [exec_domainIdleExpiry]
    exact ⟨fun h => by rw [if_pos (hx.mp h)], fun h => by rw [if_neg (mt hx.mpr h)]⟩
  · rw [exec_domainOn, if_pos ⟨hp, hr⟩, ht]
  · rw [exec_domainOn, if_neg (by rintro ⟨hp, hr⟩; rcases h with h | h; exacts [h hp, by simp [hr] at h])]
  · rw [exec_wakeOnDemandTimeout hx]
    exact ⟨fun h => by rw [if_pos h], fun h => by rw [if_neg (by simp [h])]⟩
  · have hp : (s.domainDown d).pstate d = 0 := by
      rcases hd with rfl | rfl
      · exact State.domainDown_pstate (by decide) rfl hon
      · exact State.domainDown_pstate (by decide) rfl hon
    exact ⟨by rw [State.domOn, hp]; rfl, hp⟩

end Sys2Proof.Machine
end

section
/-! SUPPORT. The device states: GO, the idle timers, DOZE, and the entries and exits of SLEEP, BACKUP and DORMANT (14 R464 to R472). -/

namespace Sys2Proof.Machine

section
variable {s : State}

/-! ### GO (R464, R466) -/

theorem DevState.code_eq_one_iff (e : DevState) : e.code = 1 ↔ e = .doze := by cases e <;> decide

section
variable {w : Writer} {u : Word} {n : Nat} (hn : n = fieldOf u 3 1) (hgo : bitOf u 0 = true)
include hn hgo

theorem pwrCtrl_go : pwrCtrl w u s
    = { state := if s.phase ≠ 0 then eBUSY
          else if ¬ (s.pwr.st.code < n ∨ (n = 0 ∧ s.pwr.st = .doze)) ∨ (s.pins.persona = .legacy ∧ 2 ≤ n) then eSTATE else 0
        range := true, extra := 0
        result := if n = 0 then (s.plain w 1 2 u).endDoze else (s.plain w 1 2 u).beginEntry (devState n) (some w) } := by
  subst hn
  rw [pwrCtrl, if_neg (by simp [hgo])]
  simp only [← Bool.not_eq_true, Bool.or_eq_true, Bool.and_eq_true, decide_eq_true_eq, beq_iff_eq, DevState.code_eq_one_iff]

end

/-! ### Idle timers and waiting entries (R465, R467) -/

theorem exec_deviceIdleTimerExpiry_runs {k : Fin 4} {e : DevState} (he : s.ditNext k.val = some e)
    (hon : s.bit (pg 1 (22 + k.val)) 17 = true) (hp : s.phase = 0) : exec (.deviceIdleTimerExpiry k) s
      = .next (settle s (if e ≠ .doze ∧ s.entryWaits e = true then s.dropEntry else s.beginEntry e none)) := by
  change execDeviceIdleTimerExpiry k s = _
  rw [execDeviceIdleTimerExpiry, he]
  simp only
  rw [if_neg (by simp [hon, hp]), done]

theorem exec_deviceIdleTimerExpiry_idle {k : Fin 4}
    (h : ∀ e, ¬ (s.ditNext k.val = some e ∧ s.bit (pg 1 (22 + k.val)) 17 = true ∧ s.phase = 0)) :
    exec (.deviceIdleTimerExpiry k) s = .next (settle s s) := by
  change execDeviceIdleTimerExpiry k s = _
  rw [execDeviceIdleTimerExpiry]
  cases he : s.ditNext k.val with
  | none => rfl
  | some e =>
    have hno : s.bit (pg 1 (22 + k.val)) 17 = false ∨ s.phase ≠ 0 := by
      by_contra hc
      simp only [not_or, Bool.not_eq_false, ne_eq, not_not] at hc
      exact h e ⟨he, hc.1, hc.2⟩
    simp only
    rw [if_pos hno, done]

/-- An entry that is at hand waits. -/
def State.entryHeld (s : State) (e : DevState) : Prop := s.pwr.target = some e ∧ e ≠ .doze ∧ s.phase = 1 ∧ s.entryWaits e = true

section
variable {e : DevState} (he : s.entryHeld e)
include he

theorem exec_entryWaitTimeout_commanded {w : Writer} (hw : s.pwr.cmdBy = some w) :
    exec .entryWaitTimeout s = .next (settle s (s.refuseEntry w).dropEntry) := by
  obtain ⟨ht, hd, hp, hx⟩ := he
  change execEntryWaitTimeout s = _
  rw [execEntryWaitTimeout, ht]
  simp only
  rw [if_pos ⟨hp, hd, hx⟩, hw, done]

theorem exec_entryWaitTimeout_timed (hw : s.pwr.cmdBy = none) : exec .entryWaitTimeout s = .next (settle s s.dropEntry) := by
  obtain ⟨ht, hd, hp, hx⟩ := he
  change execEntryWaitTimeout s = _
  rw [execEntryWaitTimeout, ht]
  simp only
  rw [if_pos ⟨hp, hd, hx⟩, hw, done]

end

theorem exec_entryWaitTimeout_idle (h : ∀ e, ¬ s.entryHeld e) : exec .entryWaitTimeout s = .next (settle s s) := by
  change execEntryWaitTimeout s = _
  rw [execEntryWaitTimeout]
  cases ht : s.pwr.target with
  | none => rfl
  | some e =>
    simp only
    rw [if_neg fun ⟨hp, hd, hx⟩ => h e ⟨ht, hd, hp, hx⟩, done]

/-! ### DOZE (R466) -/

theorem State.ready_doze_iff : s.ready .doze = true ↔ s.pwr.target = some .doze ∧ s.phase = 1 ∧ s.cores[0].shadow = false := by
  simp [State.ready, and_assoc]

theorem exec_dozeEntry : exec .dozeEntry s = .next (settle s (if s.ready .doze then
    (({ s with cores := s.cores.map Core.gate } : State).abortBorrow.settleEntry .doze).setPhase 0 else s)) := rfl

theorem exec_dozeExit : exec .dozeExit s = .next (settle s (
    if s.pwr.st = .doze ∧ s.pwr.target = none ∧ (s.pwr.wakes ≠ 0 ∨ s.coreLevel = true) then
      (if s.coreLevel then s.setB (pg 1 20) 12 true else s).endDoze else s)) := rfl

/-! ### Entries and exits (R468 to R472) -/

theorem exec_sleepEntry_ready {x y z : State} (hx : x = s.powerDown (s.offSet .sleep))
    (hy : y = { x with cores := x.cores.map Core.gate, pwr := { x.pwr with onAt := s.onMask } })
    (hz : z = { y with sers := y.sers.map fun x => { x with slow := false } }) (hr : s.ready .sleep = true) :
    exec .sleepEntry s = .next (settle s ((z.setLp (z.bit (pg 1 19) 1 && !z.anyDomain)).settleEntry .sleep)) := by
  subst hz hy hx
  change execSleepEntry s = _
  rw [execSleepEntry, if_pos hr, done]

theorem exec_backupEntry_ready (hr : s.ready .backup = true) : exec .backupEntry s = .next (settle s (State.settleEntry
    (((s.deepEntry .backup).setReg (pg 44 16) (s.reg (pg 44 16))).setReg (pg 44 17) (s.reg (pg 44 17))) .backup)) := by
  change execBackupEntry s = _
  rw [execBackupEntry, if_pos hr, done]

theorem exec_dormantEntry_ready {x y : State}
    (hx : x = ((s.deepEntry .dormant).setReg (pg 44 16) (s.reg (pg 44 16))).setReg (pg 44 17) (s.reg (pg 44 17)))
    (hy : y = (x.forgetBank 25).setPstate 1 0) (hr : s.ready .dormant = true) : exec .dormantEntry s = .next (settle s (State.settleEntry
      { y with regs := y.regs.filter (fun e => !inBkp e.1), time := TimeSt.reset } .dormant)) := by
  subst hy hx
  change execDormantEntry s = _
  rw [execDormantEntry, if_pos hr, done]

/-- An entry that is not ready, and is not of DOZE: one that a timer began and that has come to wait is dropped. -/
theorem State.unready_eq {e : DevState} (he : e ≠ .doze) : s.unready e
    = if s.pwr.target = some e ∧ s.phase = 1 ∧ s.pwr.cmdBy = none ∧ s.entryWaits e = true then s.dropEntry else s := by
  rw [State.unready]
  simp only [ne_eq, he, not_false_eq_true, true_and]

theorem exec_entry_unready {row : Instr} {e : DevState}
    (hrow : (row, e) ∈ [(Instr.sleepEntry, DevState.sleep), (.backupEntry, .backup), (.dormantEntry, .dormant)])
    (hr : s.ready e = false) : exec row s = .next (settle s (s.unready e)) := by
  simp only [List.mem_cons, List.not_mem_nil, or_false, Prod.mk.injEq] at hrow
  rcases hrow with ⟨rfl, rfl⟩ | ⟨rfl, rfl⟩ | ⟨rfl, rfl⟩
  · change execSleepEntry s = _
    rw [execSleepEntry, if_neg (by simp [hr]), done]
  · change execBackupEntry s = _
    rw [execBackupEntry, if_neg (by simp [hr]), done]
  · change execDormantEntry s = _
    rw [execDormantEntry, if_neg (by simp [hr]), done]

theorem exec_sleepExit_wakes {back : List Nat} {t u x y : State}
    (hb : back = [15, 2, 3, 10, 14, 13, 12, 11, 9, 8, 7, 6, 5, 4].filter (fun d => s.pwr.onAt.getLsbD d && !s.domOn d))
    (ht : t = back.foldl State.domainUp (s.slowWoken.setLp false))
    (hu : u = (List.range 4).foldl (fun t p => if t.pllRuns p && !t.locked p then t.lockPll p else t) t)
    (hx : x = ((((u.setDev .run).setF (pg 1 3) 8 6 2).setPhase 0).raise 1 0).ungateAll)
    (hy : y = { x with pwr := { x.pwr with prev := .sleep, wakes := 0, onAt := 0 } })
    (hs : s.pwr.st = .sleep) (hw : s.pwr.wakes ≠ 0) (hn : s.pwr.target = none) :
    exec .sleepExit s = .next (settle s (y.legacyTrain (!s.domOn 4 && back.contains 4)).trialRestart) := by
  have e : exec .sleepExit s = execSleepExit s := rfl
  rw [e, execSleepExit, if_pos ⟨hs, hw, hn⟩, hy, hx, hu, ht, hb]
  rfl

theorem exec_sleepExit_idle (h : s.pwr.st ≠ .sleep ∨ s.pwr.wakes = 0 ∨ s.pwr.target ≠ none) : exec .sleepExit s = .next (settle s s) := by
  change execSleepExit s = _
  rw [execSleepExit, if_neg, done]
  rintro ⟨hs, hw, hn⟩
  rcases h with h | h | h
  exacts [h hs, hw h, h hn]

theorem exec_backupExit : exec .backupExit s = .next (settle s (
    if (s.pwr.st = .backup ∨ s.pwr.st = .dormant) ∧ s.pwr.wakes ≠ 0 ∧ s.pwr.target = none ∧ s.pwr.rails = true ∧ s.pins.pwren = true
    then s.deepExit else s)) := rfl

end

/-- Settles O54, by the state that the device is in and the entry that is at hand. -/
theorem deviceStatesRun : Obligations.DeviceStatesRun := by
  refine ⟨fun s => ⟨fun w v u n turned hu hn hc hturned => ?_, fun k runs hruns => ⟨fun e he h => ?_, fun e he hd hx => ?_, fun h => ?_⟩,
    fun waits hwaits => ?_, fun enters henters => ?_, fun hs ht hw hl => ?_, fun hs ht hl => ?_, fun h => ?_⟩,
    fun s => ⟨fun x y z hx hy hz hr => exec_sleepEntry_ready hx hy hz hr, exec_backupEntry_ready,
    fun x y hx hy hr => exec_dormantEntry_ready hx hy hr, fun row e hrow hr => ?_,
    fun back t u x y hb ht hu hx hy hs hw hn => exec_sleepExit_wakes hb ht hu hx hy hs hw hn, exec_sleepExit_idle, fun wakes hwakes => ?_⟩⟩
  · have hb : bitOf u 0 = true := hu ▸ bitOf_forceBit v 0 true (by decide)
    have e : exec (.deviceStateGo w v) s = done s (guarded w 1 2 u (pwrCtrl w u s) s) := hu ▸ rfl
    rw [e, pwrCtrl_go hn hb]
    refine ⟨fun hp => ?_, fun hp hbad => ?_, fun hp hlt hleg => ?_, fun hp h0 hdoze => ?_⟩
    · rw [hturned, done_guarded_state hc (if_pos hp) (by decide)]
    · rw [hturned, done_guarded_state hc ((if_neg (not_not.mpr hp)).trans (if_pos hbad)) (by decide)]
    · have hok : ¬ (¬ (s.pwr.st.code < n ∨ (n = 0 ∧ s.pwr.st = .doze)) ∨ (s.pins.persona = .legacy ∧ 2 ≤ n)) := by
        rintro (h | ⟨h, h'⟩)
        · exact h (.inl hlt)
        · have := hleg h
          omega
      rw [done_guarded_clear hc ((if_neg (not_not.mpr hp)).trans (if_neg hok)) rfl rfl, if_neg (show ¬ n = 0 by omega)]
    · have hok : ¬ (¬ (s.pwr.st.code < n ∨ (n = 0 ∧ s.pwr.st = .doze)) ∨ (s.pins.persona = .legacy ∧ 2 ≤ n)) := by
        rintro (h | ⟨-, h'⟩)
        · exact h (.inr ⟨h0, hdoze⟩)
        · omega
      rw [done_guarded_clear hc ((if_neg (not_not.mpr hp)).trans (if_neg hok)) rfl rfl, if_pos h0]
  · obtain ⟨h1, h2, h3⟩ := (hruns e).mp he
    rw [exec_deviceIdleTimerExpiry_runs h1 h2 h3, if_neg (by rintro ⟨hd, hx⟩; rcases h with h | h; exacts [hd h, by simp [hx] at h])]
  · obtain ⟨h1, h2, h3⟩ := (hruns e).mp he
    rw [exec_deviceIdleTimerExpiry_runs h1 h2 h3, if_pos ⟨hd, hx⟩]
  · exact exec_deviceIdleTimerExpiry_idle fun e he => h e ((hruns e).mpr he)
  · have hheld : waits ↔ ∃ e, s.entryHeld e := hwaits
    refine ⟨fun h w hw hl => ?_, fun h w hw hl => ?_, fun h hw => ?_, fun h => exec_entryWaitTimeout_idle fun e he => h (hheld.mpr ⟨e, he⟩)⟩
    · obtain ⟨e, he⟩ := hheld.mp h
      rw [exec_entryWaitTimeout_commanded he hw, State.refuseEntry, if_neg (by simp [hl])]
    · obtain ⟨e, he⟩ := hheld.mp h
      rw [exec_entryWaitTimeout_commanded he hw, State.refuseEntry, if_pos hl]
    · obtain ⟨e, he⟩ := hheld.mp h
      exact exec_entryWaitTimeout_timed he hw
  · rw [← State.ready_doze_iff] at henters
    rw [exec_dozeEntry]
    exact ⟨fun h => by rw [if_pos (henters.mp h)], fun h => by rw [if_neg (mt henters.mpr h)]⟩
  · rw [exec_dozeExit, if_pos ⟨hs, ht, .inl hw⟩, if_neg (by simp [hl])]
  · rw [exec_dozeExit, if_pos ⟨hs, ht, .inr hl⟩, if_pos hl]
  · rw [exec_dozeExit, if_neg]
    rintro ⟨hs, ht, hw⟩
    rcases h with h | h | ⟨h0, hl⟩
    · exact h hs
    · exact h ht
    · simp [h0, hl] at hw
  · rw [exec_entry_unready hrow hr, State.unready_eq]
    rintro rfl
    simp at hrow
  · rw [exec_backupExit]
    exact ⟨fun h => by rw [if_pos (hwakes.mp h)], fun h => by rw [if_neg (mt hwakes.mpr h)]⟩

end Sys2Proof.Machine
end

section
/-! SUPPORT. Wake pins, the alarm, the backup store and the rails (14 R464, R469, R475, R476, R484; 11 R388; 16 R542). -/

namespace Sys2Proof.Machine

section
variable {s : State}

theorem exec_wakePin {n : Fin 8} {level : Bool} {b : BitVec 8} {t : State} (hb : b = BitVec.ofNat 8 (2 ^ n.val))
    (ht : t = { s with pins := { s.pins with wake := if level then s.pins.wake ||| b else s.pins.wake &&& ~~~ b } }) :
    exec (.wakePin n level) s = .next (settle s (if t.pinActive n.val then t.wakeEvent n.val 2 else t)) := by
  subst ht hb
  rfl

/-- The level that the pin has just taken is its level. -/
theorem pinActive_of_level {n : Fin 8} {level : Bool} {b : BitVec 8} {t : State} (hb : b = BitVec.ofNat 8 (2 ^ n.val))
    (ht : t = { s with pins := { s.pins with wake := if level then s.pins.wake ||| b else s.pins.wake &&& ~~~ b } }) :
    t.pinActive n.val = true ↔ t.bit (pg 1 (64 + n.val)) 17 = true ∧ level = t.bit (pg 1 (64 + n.val)) 16 := by
  have hw : t.pins.wake.getLsbD n.val = level := by
    subst ht hb
    have hbit : (BitVec.ofNat 8 (2 ^ n.val)).getLsbD n.val = true := by fin_cases n <;> rfl
    cases level with
    | false => simp only [Bool.false_eq_true, if_false, BitVec.getLsbD_and, BitVec.getLsbD_not, hbit, Bool.not_true, Bool.and_false]
    | true => simp only [if_true, BitVec.getLsbD_or, hbit, Bool.or_true]
  rw [State.pinActive, hw, Bool.and_eq_true, beq_iff_eq]

theorem exec_rtcAlarm : exec .rtcAlarm s = .next (settle s (if s.time.almOn = true ∧ s.domOn 1 = true then
    (s.rtcTicks ((s.time.alm + rxtMod - s.time.rtc) % rxtMod)).wakeEvent 8 3 else s)) := rfl

/-! ### The backup store (R475; 11 R388) -/

theorem bkdHandler_eq {v : Word} {a : Nat} (ha : a = s.fld (pg 1 32) 13 0) : bkdHandler v s
    = ⟨if s.lost (bkpKey a) then eLOST else 0, true, 0, (s.wrMem (bkpKey a) v).setF (pg 1 32) 13 0 (a + 1)⟩ := by
  subst ha
  rfl

/-- A core's load of the word at BKA. -/
theorem State.loadMem_bkd {a : Nat} {c : Fin 4} {r : Word × Nat × State} (hr : r = s.memRead (bkpKey a)) : (s.loadMem c (bkpKey a)).2
    = if s.lost (bkpKey a) then s.coreErr c.val eLOST else if r.2.1 = 2 then r.2.2.coreErr c.val eECC else r.2.2 := by
  subst hr
  have hno : ¬ (quireBase ≤ bkpKey a ∧ bkpKey a < exmpBase ∧ s.cores[c.val].qTmo = some (bkpKey a - quireBase)) := by
    rintro ⟨-, h, -⟩
    have : exmpBase ≤ bkpKey a := Nat.le_trans (by decide) (Nat.le_add_right 16777216 a)
    omega
  rw [State.loadMem, if_neg hno, State.coreMemLoad]
  split <;> rfl

section
variable {a : Nat} (ha : a = s.fld (pg 1 32) 13 0)
include ha

theorem memBehind_bkd : s.memBehind 1 33 = some (bkpKey a) := ha ▸ rfl

theorem State.pageRead_bkd {q : Fin 8} {r : Word × Nat × State} (hr : r = s.memRead (bkpKey a)) (hf : s.pageFresh 1 33 = true)
    (hu : s.unperformed q.val (pageAddr 1 33) = false) : s.pageRead q 1 33
      = if s.lost (bkpKey a) then (0, 2, s.sesErr q.val eLOST (pageAddr 1 33))
        else (r.1, 0, (if r.2.1 = 2 then r.2.2.sesErr q.val eECC (pageAddr 1 33) else r.2.2).nextBka 1 33) := by
  subst hr
  rw [State.pageRead, if_neg (by decide), if_neg (by simp [hf, hu]), memBehind_bkd ha]
  simp only
  split
  · rfl
  next h => rw [State.hostMemRead, if_neg h]

end

/-! ### The rails (R469, R484) -/

theorem State.railsAwaited_iff : s.railsAwaited = true
    ↔ s.pins.pwren = true ∧ s.pwr.rails = false ∧ (s.pwr.st = .backup ∨ s.pwr.st = .dormant) := by
  simp [State.railsAwaited, and_assoc]

theorem exec_powerRailsInRange : exec .powerRailsInRange s
    = .next (settle s (if s.railsAwaited then { s with pwr := { s.pwr with rails := true } } else s)) := rfl

/-- PWREN is 1 already while the rails are awaited. -/
theorem exec_pwrenRetry : exec .pwrenRetry s = .next (settle s s) := by
  change execPwrenRetry s = _
  rw [execPwrenRetry, done]
  split
  next h => rw [← (State.railsAwaited_iff.mp h).1]
  · rfl

end

/-- Settles O55, by the level of the pin, by whether the backup store is LOST, and by who reads it. -/
theorem wakeAndBackupCommandsRun : Obligations.WakeAndBackupCommandsRun := by
  intro s
  refine ⟨fun n level b t hb ht => ?_, fun h1 h2 => ?_, fun h => ?_, fun w v a ha hc => ?_, fun a r next ha hr hnext hrst hd => ?_,
    fun waits hwaits => ?_⟩
  · rw [exec_wakePin hb ht]
    simp only [pinActive_of_level hb ht]
  · rw [exec_rtcAlarm, if_pos ⟨h1, h2⟩]
  · rw [exec_rtcAlarm, if_neg (by rcases h with h | h <;> simp [h])]
  · have e : exec (.backupStoreWrite w v) s = done s (guarded w 1 33 v (bkdHandler v s) s) := rfl
    rw [e, bkdHandler_eq ha]
    exact ⟨fun h => done_guarded_state hc (if_pos h) (by decide),
      fun h => done_guarded_clear hc (if_neg (by simp [h])) rfl rfl⟩
  · have e : ∀ w, exec (.backupStoreRead w) s = done s (s.readAddr w (pageAddr 1 33)) := fun _ => rfl
    have hn : ∀ t : State, t.nextBka 1 33 = next t := fun t => (hnext t).symm
    refine ⟨fun c => ?_, ?_, fun q hl hm hf hu => ?_⟩
    · have hl : s.writerLive (.core c) = true := by simp [State.writerLive, hrst]
      rw [e, State.readAddr_core_mem (p := 1) (wd := 33) (by decide) (by decide) hl hd (memBehind_bkd ha), hn, State.loadMem_bkd hr, done]
    · have hl : s.writerLive .tap = true := by simp [State.writerLive, hrst]
      rw [e, State.readAddr_tap_mem (p := 1) (wd := 33) (by decide) (by decide) hl hd (memBehind_bkd ha), hn, hr, done]
    · rw [e, State.readAddr_ses_page (by decide) (by decide) hl, if_pos hm, State.pageRead_bkd ha hr hf hu, ← hn, done]
      split <;> rfl
  · rw [← State.railsAwaited_iff] at hwaits
    rw [exec_powerRailsInRange]
    exact ⟨fun h => by rw [if_pos (hwaits.mp h)], fun h => by rw [if_neg (mt hwaits.mpr h)], exec_pwrenRetry⟩

end Sys2Proof.Machine
end

section
/-! SUPPORT. The update lock and the writes of page UPD (15 R508). -/

namespace Sys2Proof.Machine

section
variable {s : State} {w : Writer} {wd : Nat} {u : Word} {own : State → State}

/-! ### A write to the page (R508) -/

theorem State.lockRefused_other (h : wd ≠ 16) : s.lockRefused w wd u = false := by
  simp [State.lockRefused, h]

theorem State.lockRefused_release (h : bitOf u 17 = false) : s.lockRefused w wd u = false := by
  simp [State.lockRefused, h]

/-- A request for the lock is refused with the owner's code when another unit holds it. -/
theorem State.lockRefused_take (hc : s.Clear w 14 16 u) (h : bitOf u 17 = true) :
    s.lockRefused w 16 u = ((ulockHandler w u s).state == eLOCKED) := by
  have hd : s.domOn 2 = true := hc.on
  simp [State.lockRefused, h, hc.live, hc.permitted, hc.free, hd]

section
variable (hc : s.Clear w 14 wd u) (hl : s.lockRefused w wd u = false)
include hc hl

theorem done_updGuarded_state {c : Nat} (h1 : (updHandler w wd u s).state = c) (h0 : c ≠ 0) :
    done s (updGuarded w wd u s) = .next (settle s (s.recordRefusal w (some 14) wd c (pageAddr 14 wd))) := by
  have hcode : writeRefusal w 14 wd u (updHandler w wd u s) s = c := by rw [writeRefusal_of_clear _ hc, if_pos (h1 ▸ h0), h1]
  rw [updGuarded, if_neg (by simp [hl]), if_neg fun h => h0 (hcode.symm.trans h.2.2.1), done_guarded_state hc h1 h0]

theorem done_updGuarded_range (h1 : (updHandler w wd u s).state = 0) (h2 : (updHandler w wd u s).range = false) :
    done s (updGuarded w wd u s) = .next (settle s (s.recordRefusal w (some 14) wd eRANGE (pageAddr 14 wd))) := by
  have hcode : writeRefusal w 14 wd u (updHandler w wd u s) s = eRANGE := by
    rw [writeRefusal_of_clear _ hc, if_neg (not_not.mpr h1), if_pos h2]
  rw [updGuarded, if_neg (by simp [hl]), if_neg fun h => absurd (hcode.symm.trans h.2.2.1) (by decide), done_guarded_range hc h1 h2]

/-- An accepted write, and the idle time that the lock's owner restarts with it. -/
theorem done_updGuarded_clear (hown : ∀ t, own t = if s.holdsLock w then t.setReg (updKey 17) 0 else t)
    (h1 : (updHandler w wd u s).state = 0) (h2 : (updHandler w wd u s).range = true) (h3 : (updHandler w wd u s).extra = 0) :
    done s (updGuarded w wd u s) = .next (settle s (own (updHandler w wd u s).result)) := by
  have hd : s.domOn 2 = true := hc.on
  have hcode : writeRefusal w 14 wd u (updHandler w wd u s) s = 0 := by
    rw [writeRefusal_of_clear _ hc, if_neg (not_not.mpr h1), if_neg (by simp [h2]), h3]
  rw [updGuarded, if_neg (by simp [hl]), guarded_clear hc h1 h2 h3, hown, done]
  simp only [hc.live, hd, hcode, true_and]

end

/-! ### ULOCK (R508) -/

theorem updHandler_lock : updHandler w 16 u s = ulockHandler w u s := rfl

theorem ulockHandler_take {n : Nat} (h : bitOf u 17 = true) (hn : writerCode w = some n) : ulockHandler w u s
    = ⟨if s.bit (updKey 16) 17 && !s.lockHeldBy n then eLOCKED else 0, true, 0,
        (s.setReg (updKey 16) (wordOf (131072 + n))).setReg (updKey 17) 0⟩ := by
  rw [ulockHandler, if_pos h, hn]

/-- The test access port has no code, and cannot hold the lock. -/
theorem ulockHandler_take_tap (h : bitOf u 17 = true) (hn : writerCode w = none) : ulockHandler w u s = ⟨eSTATE, true, 0, s⟩ := by
  rw [ulockHandler, if_pos h, hn]

theorem ulockHandler_release (h : bitOf u 17 = false) : ulockHandler w u s
    = if s.bit (updKey 16) 17 = true ∧ s.holdsLock w = false ∧ s.isSupv w = false then ⟨eLOCKED, true, 0, s⟩
      else ⟨0, true, 0, s.freeLock⟩ := by
  rw [ulockHandler, if_neg (by simp [h])]

section
variable (hc : s.Clear w 14 16 u) (hu : bitOf u 17 = true)
include hc hu

theorem done_lock_taken {n : Nat} (hown : ∀ t, own t = if s.holdsLock w then t.setReg (updKey 17) 0 else t) (hn : writerCode w = some n)
    (h : s.bit (updKey 16) 17 = false ∨ s.lockHeldBy n = true) : done s (updGuarded w 16 u s)
      = .next (settle s (own ((s.setReg (updKey 16) (wordOf (131072 + n))).setReg (updKey 17) 0))) := by
  have hx : updHandler w 16 u s = ⟨0, true, 0, (s.setReg (updKey 16) (wordOf (131072 + n))).setReg (updKey 17) 0⟩ := by
    rw [updHandler_lock, ulockHandler_take hu hn, if_neg (by rcases h with h | h <;> simp [h])]
  have hl : s.lockRefused w 16 u = false := by
    rw [State.lockRefused_take hc hu, ← updHandler_lock, hx]
    rfl
  rw [done_updGuarded_clear hc hl hown (by rw [hx]) (by rw [hx]) (by rw [hx]), hx]

theorem done_lock_of_another {n : Nat} (hn : writerCode w = some n) (hb : s.bit (updKey 16) 17 = true) (hh : s.lockHeldBy n = false) :
    done s (updGuarded w 16 u s) = .next (settle s (s.recordRefusal w (some 14) 16 eLOCKED (s.fld (updKey 16) 3 0))) := by
  have hl : s.lockRefused w 16 u = true := by
    rw [State.lockRefused_take hc hu, ulockHandler_take hu hn, if_pos (by simp [hb, hh])]
    rfl
  rw [updGuarded, if_pos hl, done]

theorem done_lock_tap (hn : writerCode w = none) :
    done s (updGuarded w 16 u s) = .next (settle s (s.recordRefusal w (some 14) 16 eSTATE (pageAddr 14 16))) := by
  have hx := ulockHandler_take_tap (s := s) hu hn
  have hl : s.lockRefused w 16 u = false := by
    rw [State.lockRefused_take hc hu, hx]
    rfl
  exact done_updGuarded_state hc hl (by rw [updHandler_lock, hx]) (by decide)

end

theorem exec_updateLockExpiry : exec .updateLockExpiry s
    = .next (settle s (if s.bit (updKey 16) 17 then s.freeLock.raise 14 5 else s)) := rfl

end

/-- Settles O57, by who asks for the lock and who holds it. -/
theorem updateLockCommandsRun : Obligations.UpdateLockCommandsRun := by
  intro s w v own hown
  refine ⟨fun u hu hc => ?_, fun u hu hc => ?_, fun h => by rw [exec_updateLockExpiry, if_pos h]; rfl,
    fun h => by rw [exec_updateLockExpiry, if_neg (by simp [h])]⟩
  · have hb : bitOf u 17 = true := hu ▸ bitOf_forceBit v 17 true (by decide)
    have e : exec (.updateLockTake w v) s = done s (updGuarded w 16 u s) := hu ▸ rfl
    rw [e]
    exact ⟨fun n hn h => done_lock_taken hc hb hown hn h, fun n hn hx hh => done_lock_of_another hc hb hn hx hh, done_lock_tap hc hb⟩
  · have hb : bitOf u 17 = false := hu ▸ bitOf_forceBit v 17 false (by decide)
    have e : exec (.updateLockRelease w v) s = done s (updGuarded w 16 u s) := hu ▸ rfl
    have hl := State.lockRefused_release (s := s) (w := w) (wd := 16) hb
    have hx := ulockHandler_release (s := s) (w := w) hb
    rw [e]
    refine ⟨fun h => ?_, fun h1 h2 h3 => ?_⟩
    · have hfree : updHandler w 16 u s = ⟨0, true, 0, s.freeLock⟩ := by
        rw [updHandler_lock, hx, if_neg]
        rintro ⟨h1, h2, h3⟩
        rcases h with h | h | h
        · simp [h1] at h
        · simp [h2] at h
        · simp [h3] at h
      rw [done_updGuarded_clear hc hl hown (by rw [hfree]) (by rw [hfree]) (by rw [hfree]), hfree]
      rfl
    · exact done_updGuarded_state hc hl (by rw [updHandler_lock, hx, if_pos ⟨h1, h2, h3⟩]) (by decide)

end Sys2Proof.Machine
end

section
/-! SUPPORT. The flash commands of UPD.CTRL (15 R506, R508 to R510, R515, R516). -/

namespace Sys2Proof.Machine

section
variable {s : State} {w : Writer} {u : Word} {b : Nat} {row : Instr}

/-- The first need that an action bit of UPD.CTRL may fail, as a code (checks 3 and 4). -/
def State.flashCode (s : State) (w : Writer) (c : Nat) : Nat :=
  if c = 0 ∨ c = 1 then
    (if s.holdsLock w = false then eLOCKED else if s.bit (updKey 28) 1 = true ∧ s.recovery = false then eSTATE
      else if s.fbusy then eBUSY else 0)
  else if c = 2 then
    (if s.bit (updKey 28) 1 = false ∨ s.bit (updKey 28) 6 = true then eSTATE else if s.fbusy then eBUSY else 0)
  else (if s.fbusy then eBUSY else if s.recovery then eSTATE else 0)

/-! ### What each action bit asks for -/

theorem State.updAct_block : s.updAct w 0 = (s.flashCode w 0, inShram (s.updNum 19) 2048, s.beginBlock) := by
  simp [State.updAct, State.flashCode]

theorem State.updAct_activate : s.updAct w 1 = (s.flashCode w 1, inShram (s.updNum 19) 2048, s.beginFlash .activate) := by
  simp [State.updAct, State.flashCode]

theorem State.updAct_confirm : s.updAct w 2 = (s.flashCode w 2, s.upd.cKey == 0o363636, s.confirm) := rfl

/-- SPWR and SNWR, and the class that each writes. -/
theorem State.updAct_settings {n : Bool} (hb : (b = 3 ∧ n = false) ∨ (b = 4 ∧ n = true)) : s.updAct w b
    = (s.flashCode w b, decide ((s.rdMem (s.setBase n + 1)).toNat ≤ setLimit n), s.beginSettings n) := by
  rcases hb with ⟨rfl, rfl⟩ | ⟨rfl, rfl⟩ <;> rfl

theorem State.updAct_discard (hb : 5 ≤ b) : s.updAct w b = (s.flashCode w b, true, s.beginFlash .discard) := by
  have h0 : b ≠ 0 := by omega
  have h1 : b ≠ 1 := by omega
  have h2 : b ≠ 2 := by omega
  have h3 : b ≠ 3 := by omega
  have h4 : b ≠ 4 := by omega
  simp only [State.updAct, State.flashCode, h0, h1, h2, h3, h4, or_self, if_false]

theorem State.updAct_code (s : State) (w : Writer) (c : Nat) : (s.updAct w c).1 = s.flashCode w c := by
  match c with
  | 0 => rw [State.updAct_block]
  | 1 => rw [State.updAct_activate]
  | 2 => rw [State.updAct_confirm]
  | 3 => rw [State.updAct_settings (.inl ⟨rfl, rfl⟩)]
  | 4 => rw [State.updAct_settings (.inr ⟨rfl, rfl⟩)]
  | c + 5 => rw [State.updAct_discard (by omega)]

/-! ### A write with one action bit, and with more (R506, log 16) -/

theorem updHandler_ctrl_one (hset : setBits u 6 = [b]) :
    updHandler w 2 u s = ⟨s.flashCode w b, (s.updAct w b).2.1, 0, (s.updAct w b).2.2⟩ := by
  have h : updHandler w 2 u s = updCtrl w u s := rfl
  rw [h, updCtrl, hset, ← State.updAct_code]

theorem updHandler_ctrl_more {c d : Nat} {r : List Nat} (hset : setBits u 6 = c :: d :: r) :
    updHandler w 2 u s = ⟨if s.flashCode w c = 0 then eBUSY else s.flashCode w c, true, 0, s⟩ := by
  have h : updHandler w 2 u s = updCtrl w u s := rfl
  rw [h, updCtrl, hset, ← State.updAct_code]
  simp only [ne_eq, ite_not]

/-- The six rows are writes of UPD.CTRL with one bit forced. -/
theorem exec_updCtrl {v : Word} (hrow : (row, b) ∈ [(Instr.blockWrite w v, 0), (.activate w v, 1), (.healthConfirm w v, 2),
      (.classPSettingsWrite w v, 3), (.classNSettingsWrite w v, 4), (.classNDiscard w v, 5)]) :
    exec row s = done s (updGuarded w 2 (forceBit v b true) s) := by
  simp only [List.mem_cons, List.not_mem_nil, or_false, Prod.mk.injEq] at hrow
  rcases hrow with ⟨rfl, rfl⟩ | ⟨rfl, rfl⟩ | ⟨rfl, rfl⟩ | ⟨rfl, rfl⟩ | ⟨rfl, rfl⟩ | ⟨rfl, rfl⟩ <;> rfl

section
variable (hc : s.Clear w 14 2 u)
include hc

theorem done_updCtrl_more {c d : Nat} {r : List Nat} (hset : setBits u 6 = c :: d :: r) : done s (updGuarded w 2 u s)
    = .next (settle s (s.recordRefusal w (some 14) 2 (if s.flashCode w c = 0 then eBUSY else s.flashCode w c) (pageAddr 14 2))) := by
  refine done_updGuarded_state hc (State.lockRefused_other (by decide)) (by rw [updHandler_ctrl_more hset]) ?_
  split
  · decide
  next h => exact h

variable (hset : setBits u 6 = [b])
include hset

theorem done_updCtrl_code (h : s.flashCode w b ≠ 0) :
    done s (updGuarded w 2 u s) = .next (settle s (s.recordRefusal w (some 14) 2 (s.flashCode w b) (pageAddr 14 2))) :=
  done_updGuarded_state hc (State.lockRefused_other (by decide)) (by rw [updHandler_ctrl_one hset]) h

variable (h : s.flashCode w b = 0)
include h

theorem done_updCtrl_range (hr : (s.updAct w b).2.1 = false) :
    done s (updGuarded w 2 u s) = .next (settle s (s.recordRefusal w (some 14) 2 eRANGE (pageAddr 14 2))) :=
  done_updGuarded_range hc (State.lockRefused_other (by decide)) (by rw [updHandler_ctrl_one hset, h]) (by rw [updHandler_ctrl_one hset, hr])

theorem done_updCtrl_clear {own : State → State} (hown : ∀ t, own t = if s.holdsLock w then t.setReg (updKey 17) 0 else t)
    (hr : (s.updAct w b).2.1 = true) : done s (updGuarded w 2 u s) = .next (settle s (own (s.updAct w b).2.2)) := by
  have hx := updHandler_ctrl_one (s := s) (w := w) hset
  rw [done_updGuarded_clear hc (State.lockRefused_other (by decide)) hown (by rw [hx, h]) (by rw [hx, hr]) (by rw [hx]), hx]

end

end

end Sys2Proof.Machine
end

section
/-! SUPPORT. The ends of the flash operations, the trial timer and the rollback fuses (15 R489, R497, R505 to R507, R509, R510, R515,
R516). -/

namespace Sys2Proof.Machine

section
variable {s : State} {ok : Bool} {row : Instr}

/-! ### The operation that ends -/

/-- The end of a flash operation: the flash is free, and a trial that had run out restarts the device. -/
theorem State.finishOp_block {off : Nat} {bytes : List Byte} (h : s.upd.op = some (.block off bytes)) :
    s.finishOp ok = (s.blockDone off bytes ok).endFlash.trialRestart := by
  simp only [State.finishOp, h]

theorem State.finishOp_activate (h : s.upd.op = some .activate) : s.finishOp ok = (s.activateEnd ok).endFlash.trialRestart := by
  simp only [State.finishOp, h]

theorem State.finishOp_confirm (h : s.upd.op = some .confirm) : s.finishOp ok = (s.confirmEnd ok).endFlash.trialRestart := by
  simp only [State.finishOp, h]

theorem State.finishOp_settings {n : Bool} {lver : Nat} {l : List Byte} (h : s.upd.op = some (.settings n lver l)) :
    s.finishOp ok = (s.settingsEnd n lver l ok).endFlash.trialRestart := by
  simp only [State.finishOp, h]

theorem State.finishOp_discard (h : s.upd.op = some .discard) : s.finishOp ok = (s.discardEnd ok).endFlash.trialRestart := by
  simp only [State.finishOp, h]

theorem State.finishOp_none (h : s.upd.op = none) : s.finishOp ok = s := by
  simp only [State.finishOp, h]

/-! ### The rows that end it -/

theorem exec_flashTimeout : exec .flashTimeout s = .next (settle s (s.finishOp false)) := rfl

theorem exec_blockEnds {off : Nat} {bytes : List Byte} (hrow : row = .blockWriteDone ok ∨ (row = .flashTimeout ∧ ok = false))
    (h : s.upd.op = some (.block off bytes)) : exec row s = .next (settle s (s.finishOp ok)) := by
  rcases hrow with rfl | ⟨rfl, rfl⟩
  · change execBlockWriteDone ok s = _
    simp only [execBlockWriteDone, h, done]
  · exact exec_flashTimeout

theorem exec_recordEnds (hrow : row = .activateDone ok ∨ (row = .flashTimeout ∧ ok = false))
    (h : s.upd.op = some .activate ∨ s.upd.op = some .confirm) : exec row s = .next (settle s (s.finishOp ok)) := by
  rcases hrow with rfl | ⟨rfl, rfl⟩
  · change execActivateDone ok s = _
    rw [execActivateDone, if_pos h, done]
  · exact exec_flashTimeout

theorem exec_settingsEnds (hrow : row = .settingsWriteDone ok ∨ (row = .flashTimeout ∧ ok = false))
    (h : (∃ n lver l, s.upd.op = some (.settings n lver l)) ∨ s.upd.op = some .discard) :
    exec row s = .next (settle s (s.finishOp ok)) := by
  rcases hrow with rfl | ⟨rfl, rfl⟩
  · change execSettingsWriteDone ok s = _
    rcases h with ⟨n, lver, l, h⟩ | h <;> simp only [execSettingsWriteDone, h, done]
  · exact exec_flashTimeout

theorem exec_blockWriteDone_idle (h : ∀ off bytes, s.upd.op ≠ some (.block off bytes)) :
    exec (.blockWriteDone ok) s = .next (settle s s) := by
  change execBlockWriteDone ok s = _
  rw [execBlockWriteDone, done]
  split
  next hop => exact absurd hop (h _ _)
  · rfl

theorem exec_activateDone_idle (h1 : s.upd.op ≠ some .activate) (h2 : s.upd.op ≠ some .confirm) :
    exec (.activateDone ok) s = .next (settle s s) := by
  change execActivateDone ok s = _
  rw [execActivateDone, if_neg (not_or.mpr ⟨h1, h2⟩), done]

theorem exec_settingsWriteDone_idle (h1 : ∀ n lver l, s.upd.op ≠ some (.settings n lver l)) (h2 : s.upd.op ≠ some .discard) :
    exec (.settingsWriteDone ok) s = .next (settle s s) := by
  change execSettingsWriteDone ok s = _
  rw [execSettingsWriteDone, done]
  split
  next hop => exact absurd hop (h1 _ _ _)
  next hop => exact absurd hop h2
  · rfl

/-! ### The trial timer and the fuses (R505, R507) -/

theorem exec_trialTimerExpiry : exec .trialTimerExpiry s = .next (settle s (
    if s.reg (updKey 29) ≠ 0 ∧ s.pwr.st ≠ .dormant then (if s.bit (updKey 28) 1 then s.trialOver else s.setReg (updKey 29) 0) else s)) := rfl

theorem exec_rollbackFuseProgram {k n : Nat} {t : State} (hk : k = max 1 (Config.freeNat s.freeCtr)) (hn : n = s.fld (updKey 33) 14 8)
    (ht : t = s.blowFuses (min n (s.fuseCount + k))) : exec .rollbackFuseProgram s = .next (settle s (
      if s.bit (updKey 3) 5 = false ∧ s.recovery = false ∧ s.bit (updKey 3) 3 = false ∧ s.upd.lcsOp = none ∧ s.fuseCount < n then
        (t.setF (updKey 33) 6 0 t.fuseCount).setB (pg 15 3) 5 (decide (t.fuseCount < n))
      else s)) := by
  subst ht hn hk
  rfl

end

/-- Settles O58, by the action bits of the write, by the operation that ends, and by what the fuses are due. -/
theorem flashCommandsRun : Obligations.FlashCommandsRun := by
  refine ⟨fun s w v u b row code own refuse hrow hu hc hown hrefuse hcode => ?_, fun s ok row fail ends hfail hends => ?_,
    fun s => ⟨fun h0 hd h1 => ?_, fun h0 hd h1 => ?_, fun h => ?_, fun k n t due hk hn hdue ht => ?_⟩⟩
  · have e : exec row s = done s (updGuarded w 2 u s) := hu ▸ exec_updCtrl hrow
    have hcode' : ∀ c, code c = s.flashCode w c := hcode
    simp only [hcode']
    rw [e]
    refine ⟨fun c d r hset => ?_, fun hset h => ?_, fun hset h => ⟨fun hb hbuf => ?_, fun hb hbuf r hr => ⟨fun hcrc => ?_, fun hcrc => ?_⟩,
      fun hb hbuf => ?_, fun hb hkey => ?_, fun hb hkey => ?_, fun n len hb hlen => ⟨fun hlong => ?_, fun hfit x r hx hr => ?_⟩, fun hb => ?_⟩⟩
    · rw [done_updCtrl_more hc hset, hrefuse]
    · rw [done_updCtrl_code hc hset h, hrefuse]
    · have hb' : b = 0 ∨ b = 1 := by omega
      rw [hrefuse, done_updCtrl_range hc hset h]
      rcases hb' with rfl | rfl
      · rw [State.updAct_block, hbuf]
      · rw [State.updAct_activate, hbuf]
    · subst hb hr
      rw [done_updCtrl_clear hc hset h hown (by rw [State.updAct_block, hbuf]), State.updAct_block, State.beginBlock, if_pos hcrc]
    · subst hb hr
      rw [done_updCtrl_clear hc hset h hown (by rw [State.updAct_block, hbuf]), State.updAct_block, State.beginBlock, if_neg hcrc]
    · subst hb
      rw [done_updCtrl_clear hc hset h hown (by rw [State.updAct_activate, hbuf]), State.updAct_activate]
    · subst hb
      rw [hrefuse, done_updCtrl_range hc hset h (by rw [State.updAct_confirm]; exact beq_eq_false_iff_ne.mpr hkey)]
    · subst hb
      rw [done_updCtrl_clear hc hset h hown (by rw [State.updAct_confirm, hkey]; rfl), State.updAct_confirm, State.confirm]
    · have hlim : ¬ (s.rdMem (s.setBase n + 1)).toNat ≤ setLimit n := by rw [← hlen, setLimit]; omega
      rw [hrefuse, done_updCtrl_range hc hset h (by rw [State.updAct_settings hb]; exact decide_eq_false hlim)]
    · subst hr hx
      have hlim : (s.rdMem (s.setBase n + 1)).toNat ≤ setLimit n := by rw [← hlen, setLimit]; exact hfit
      rw [done_updCtrl_clear hc hset h hown (by rw [State.updAct_settings hb]; exact decide_eq_true hlim), State.updAct_settings hb,
        State.beginSettings]
    · have hd := State.updAct_discard (s := s) (w := w) (b := b) (by omega)
      rw [done_updCtrl_clear hc hset h hown (by rw [hd]), hd]
  · subst hfail
    refine ⟨fun off bytes hrow h => ?_, fun hrow h => ?_, fun hrow h => ?_, fun n lver l hrow h => ?_, fun hrow h => ?_,
      exec_blockWriteDone_idle, exec_activateDone_idle, exec_settingsWriteDone_idle, fun h => by rw [exec_flashTimeout, State.finishOp_none h]⟩
    · rw [exec_blockEnds hrow h, State.finishOp_block h, hends]
      rfl
    · rw [exec_recordEnds hrow (.inl h), State.finishOp_activate h, hends]
      rfl
    · rw [exec_recordEnds hrow (.inr h), State.finishOp_confirm h, hends]
      rfl
    · rw [exec_settingsEnds hrow (.inl ⟨n, lver, l, h⟩), State.finishOp_settings h, hends]
      rfl
    · rw [exec_settingsEnds hrow (.inr h), State.finishOp_discard h, hends]
      cases ok <;> rfl
  · rw [exec_trialTimerExpiry, if_pos ⟨h0, hd⟩, if_pos h1]
  · rw [exec_trialTimerExpiry, if_pos ⟨h0, hd⟩, if_neg (by simp [h1])]
  · rw [exec_trialTimerExpiry, if_neg (by rintro ⟨h0, hd⟩; rcases h with h | h; exacts [h0 h, hd h])]
  · rw [exec_rollbackFuseProgram hk hn ht]
    exact ⟨fun h => by rw [if_pos (hdue.mp h)], fun h => by rw [if_neg (mt hdue.mpr h)]⟩

end Sys2Proof.Machine
end

section
/-! SUPPORT. The commands of the life cycle and the fuses that decide its state (15 R517 to R520). -/

namespace Sys2Proof.Machine

section
variable {s : State} {w : Writer} {u : Word} {b : Nat} {row : Instr}

/-! ### LCS.CTRL (R518 to R520) -/

/-- The first need that an action bit of LCS.CTRL may fail, as a code (check 4). -/
def State.lcsCode (s : State) (c : Nat) : Nat :=
  if s.lcsBusy then eBUSY
  else if c = 0 then (if otpReach (s.fld (pg 15 17) 6 0) = true ∧ otpRight s.lcst (s.fld (pg 15 17) 6 0) = false then eSTATE else 0)
  else if c = 1 then
    (if 1 ≤ s.fld (pg 15 16) 2 0 ∧ s.fld (pg 15 16) 2 0 ≤ 3 ∧ (s.fld (pg 15 16) 2 0 = s.lcst + 1 ∨ s.fld (pg 15 16) 2 0 = s.lcst) then 0
      else eSTATE)
  else (if s.lcst = 2 ∨ s.lcst = 3 then 0 else eSTATE)

theorem State.lcsAct_otp {r : Nat} {x : BitVec 16} (hr : r = s.fld (pg 15 17) 6 0) (hx : x = BitVec.ofNat 16 (s.fld (pg 15 18) 15 0)) :
    s.lcsAct 0 = ⟨s.lcsCode 0, otpReach r, if r = 48 ∧ s.keysLeft x = false then eCONFIG else 0, s.beginOtp 0 r x⟩ := by
  subst hx hr
  rfl

theorem State.lcsAct_advance {t : Nat} (ht : t = s.fld (pg 15 16) 2 0) : s.lcsAct 1
    = ⟨s.lcsCode 1, true, if s.lcst = 0 ∧ s.keySet 0 = false ∧ s.keySet 1 = false then eCONFIG else 0,
        s.beginOtp 1 (8 + (t - 1) / 2) (if t % 2 = 1 then 0x00ff else 0xff00)⟩ := by
  subst ht
  have hcode : (s.lcsAct 1).state = s.lcsCode 1 := by
    by_cases hb : s.lcsBusy = true
    · simp only [State.lcsAct, State.lcsCode, hb, one_ne_zero, if_false, if_true]
    · simp only [State.lcsAct, State.lcsCode, hb, one_ne_zero, if_false, if_true, ← Bool.not_eq_true, Bool.and_eq_true, Bool.or_eq_true,
        decide_eq_true_eq, beq_iff_eq, ite_not, and_assoc]
  rw [← hcode]
  rfl

theorem State.lcsAct_token {r : List Byte × State} (hb : 2 ≤ b) (hr : r = s.ramBytes s.tokenAddr 96) : s.lcsAct b
    = ⟨s.lcsCode b, inShram s.tokenAddr 48, 0,
        if s.tokenCode r.1 = 0 then r.2.beginOtp 2 9 0xff00 else r.2.beginOtp 3 (s.tokenCode r.1) 0⟩ := by
  subst hr
  have h0 : b ≠ 0 := by omega
  have h1 : b ≠ 1 := by omega
  simp only [State.lcsAct, State.lcsCode, h0, h1, if_false]

theorem State.lcsAct_code (s : State) (c : Nat) : (s.lcsAct c).state = s.lcsCode c := by
  match c with
  | 0 => rw [State.lcsAct_otp rfl rfl]
  | 1 => rw [State.lcsAct_advance rfl]
  | c + 2 => rw [State.lcsAct_token (by omega) rfl]

/-- The three rows are writes of LCS.CTRL with one bit forced. -/
theorem exec_lcsCtrl {v : Word} (hrow : (row, b) ∈ [(Instr.otpWrite w v, 0), (.lifecycleAdvance w v, 1), (.returnToken w v, 2)]) :
    exec row s = done s (guarded w 15 2 (forceBit v b true) (lcsCtrl (forceBit v b true) s) s) := by
  simp only [List.mem_cons, List.not_mem_nil, or_false, Prod.mk.injEq] at hrow
  rcases hrow with ⟨rfl, rfl⟩ | ⟨rfl, rfl⟩ | ⟨rfl, rfl⟩ <;> rfl

theorem lcsCtrl_one (hset : setBits u 3 = [b]) : lcsCtrl u s = s.lcsAct b := by
  rw [lcsCtrl, hset]

/-- A write that asks for more than one action is refused, with the first one's code or BUSY. -/
theorem lcsCtrl_more {c d : Nat} {r : List Nat} (hset : setBits u 3 = c :: d :: r) :
    lcsCtrl u s = ⟨if s.lcsCode c = 0 then eBUSY else s.lcsCode c, true, 0, s⟩ := by
  rw [lcsCtrl, hset, ← State.lcsAct_code]
  simp only [ne_eq, ite_not]

/-! ### The ends (R518 to R520) -/

section
variable {r : Nat} {x : BitVec 16}

theorem exec_otpWriteDone_ends (h : s.upd.lcsOp = some (0, r, x)) :
    exec .otpWriteDone s = .next (settle s ((s.blow r x).endOtp.raise 15 1).trialRestart) := by
  change execOtpWriteDone s = _
  simp only [execOtpWriteDone, h, done]

theorem exec_lifecycleAdvanceDone_ends (h : s.upd.lcsOp = some (1, r, x)) :
    exec .lifecycleAdvanceDone s = .next (settle s ((s.blow r x).endOtp.raise 15 0).trialRestart) := by
  change execLifecycleAdvanceDone s = _
  simp only [execLifecycleAdvanceDone, h, done]

theorem exec_returnTokenDone_valid (h : s.upd.lcsOp = some (2, r, x)) :
    exec .returnTokenDone s = .next (settle s (((s.blow r x).endOtp.raise 15 0).raise 15 2).trialRestart) := by
  change execReturnTokenDone s = _
  simp only [execReturnTokenDone, h, done]

theorem exec_returnTokenDone_invalid (h : s.upd.lcsOp = some (3, r, x)) :
    exec .returnTokenDone s = .next (settle s ((s.pageErr 15 r 2).endOtp.raise 15 3).trialRestart) := by
  change execReturnTokenDone s = _
  simp only [execReturnTokenDone, h, done]

end

/-- An end without its operation does nothing. -/
theorem exec_lcsEnd_idle {kinds : List Nat}
    (hrow : (row, kinds) ∈ [(Instr.otpWriteDone, [0]), (.lifecycleAdvanceDone, [1]), (.returnTokenDone, [2, 3])])
    (h : ∀ k r x, s.upd.lcsOp = some (k, r, x) → k ∉ kinds) : exec row s = .next (settle s s) := by
  simp only [List.mem_cons, List.not_mem_nil, or_false, Prod.mk.injEq] at hrow
  rcases hrow with ⟨rfl, rfl⟩ | ⟨rfl, rfl⟩ | ⟨rfl, rfl⟩
  · change execOtpWriteDone s = _
    rw [execOtpWriteDone, done]
    split
    next hop => exact absurd (List.mem_singleton.mpr rfl) (h _ _ _ hop)
    · rfl
  · change execLifecycleAdvanceDone s = _
    rw [execLifecycleAdvanceDone, done]
    split
    next hop => exact absurd (List.mem_singleton.mpr rfl) (h _ _ _ hop)
    · rfl
  · change execReturnTokenDone s = _
    rw [execReturnTokenDone, done]
    split
    next hop => exact absurd (by simp) (h _ _ _ hop)
    next hop => exact absurd (by simp) (h _ _ _ hop)
    · rfl

/-! ### The state of the life cycle (R517, R519) -/

theorem groupBlown_congr {x y : Nat} (h : ∀ i < 8, x.testBit i = y.testBit i) : groupBlown x = groupBlown y := by
  rw [groupBlown, groupBlown, List.filter_congr fun i hi => h i (List.mem_range.mp hi)]

theorem groupBlown_full {x : Nat} (h : ∀ i < 8, x.testBit i = true) : groupBlown x = true := by
  rw [groupBlown_congr (y := 255) fun i hi => (h i hi).trans (by revert i; decide)]
  decide

/-- The high group of a row. -/
theorem testBit_high (v : BitVec 16) (i : Nat) : (v.toNat / 256).testBit i = v.getLsbD (i + 8) := by
  rw [show (256 : Nat) = 2 ^ 8 from rfl, Nat.testBit_div_two_pow]
  rfl

section
variable (v : BitVec 16)

theorem groupBlown_low_blown : groupBlown (v ||| 0x00ff).toNat = true :=
  groupBlown_full fun i hi => by
    have hbit : (0x00ff : BitVec 16).getLsbD i = true := by revert i; decide
    change (v ||| 0x00ff).getLsbD i = true
    rw [BitVec.getLsbD_or, hbit, Bool.or_true]

theorem groupBlown_high_kept : groupBlown ((v ||| 0x00ff).toNat / 256) = groupBlown (v.toNat / 256) :=
  groupBlown_congr fun i hi => by
    have hbit : (0x00ff : BitVec 16).getLsbD (i + 8) = false := by revert i; decide
    rw [testBit_high, testBit_high, BitVec.getLsbD_or, hbit, Bool.or_false]

theorem groupBlown_high_blown : groupBlown ((v ||| 0xff00).toNat / 256) = true :=
  groupBlown_full fun i hi => by
    have hbit : (0xff00 : BitVec 16).getLsbD (i + 8) = true := by revert i; decide
    rw [testBit_high, BitVec.getLsbD_or, hbit, Bool.or_true]

end

/-- What each state of the life cycle says of the groups above its own. -/
theorem State.lcst_groups (s : State) :
    (s.lcst ≠ 4 → groupBlown ((s.otpRow 9).toNat / 256) = false) ∧ (s.lcst < 3 → groupBlown (s.otpRow 9).toNat = false)
      ∧ (s.lcst < 2 → groupBlown ((s.otpRow 8).toNat / 256) = false) := by
  unfold State.lcst
  split_ifs <;> simp_all

theorem State.lcst_return (h : groupBlown ((s.otpRow 9).toNat / 256) = true) : s.lcst = 4 := if_pos h

theorem State.lcst_sealed (h : groupBlown ((s.otpRow 9).toNat / 256) = false) (h' : groupBlown (s.otpRow 9).toNat = true) : s.lcst = 3 := by
  rw [State.lcst, if_neg (by simp [h]), if_pos h']

section
variable (h : groupBlown ((s.otpRow 9).toNat / 256) = false) (h' : groupBlown (s.otpRow 9).toNat = false)
include h h'

theorem State.lcst_field (h2 : groupBlown ((s.otpRow 8).toNat / 256) = true) : s.lcst = 2 := by
  rw [State.lcst, if_neg (by simp [h]), if_neg (by simp [h']), if_pos h2]

theorem State.lcst_provisioned (h2 : groupBlown ((s.otpRow 8).toNat / 256) = false) (h1 : groupBlown (s.otpRow 8).toNat = true) :
    s.lcst = 1 := by
  rw [State.lcst, if_neg (by simp [h]), if_neg (by simp [h']), if_neg (by simp [h2]), if_pos h1]

end

/-- A row that is blown, and a row beside it. -/
theorem State.otpRow_blow_self (s : State) (r : Nat) (x : BitVec 16) : (s.blow r x).otpRow r = s.otpRow r ||| x := by
  rw [State.otpRow_blow, if_pos rfl]

theorem State.otpRow_blow_ne (s : State) {r k : Nat} (x : BitVec 16) (h : k ≠ r) : (s.blow r x).otpRow k = s.otpRow k := by
  rw [State.otpRow_blow, if_neg h]

/-- The group that an advance blows gives the next state. -/
theorem State.lcst_advanced (s : State) : (s.lcst = 0 → (s.blow 8 0x00ff).lcst = 1) ∧ (s.lcst = 1 → (s.blow 8 0xff00).lcst = 2)
    ∧ (s.lcst = 2 → (s.blow 9 0x00ff).lcst = 3) ∧ (s.lcst = 3 → (s.blow 9 0xff00).lcst = 4) := by
  obtain ⟨h9, h9', h8⟩ := s.lcst_groups
  have n98 : (9 : Nat) ≠ 8 := by decide
  refine ⟨fun h => State.lcst_provisioned ?_ ?_ ?_ ?_, fun h => State.lcst_field ?_ ?_ ?_, fun h => State.lcst_sealed ?_ ?_,
    fun h => State.lcst_return ?_⟩
  · rw [State.otpRow_blow_ne _ _ n98]; exact h9 (by omega)
  · rw [State.otpRow_blow_ne _ _ n98]; exact h9' (by omega)
  · rw [State.otpRow_blow_self, groupBlown_high_kept]; exact h8 (by omega)
  · rw [State.otpRow_blow_self]; exact groupBlown_low_blown _
  · rw [State.otpRow_blow_ne _ _ n98]; exact h9 (by omega)
  · rw [State.otpRow_blow_ne _ _ n98]; exact h9' (by omega)
  · rw [State.otpRow_blow_self]; exact groupBlown_high_blown _
  · rw [State.otpRow_blow_self, groupBlown_high_kept]; exact h9 (by omega)
  · rw [State.otpRow_blow_self]; exact groupBlown_low_blown _
  · rw [State.otpRow_blow_self]; exact groupBlown_high_blown _

end

/-- Settles O59, by the action bits of the write, by the operation that ends, and by the groups that are blown. -/
theorem lifeCycleCommandsRun : Obligations.LifeCycleCommandsRun := by
  refine ⟨fun s => ⟨fun w v u b row code refuse hrow hu hc hrefuse hcode => ?_, fun r b h => exec_otpWriteDone_ends h,
    fun r b h => exec_lifecycleAdvanceDone_ends h, fun r b h => exec_returnTokenDone_valid h,
    fun c b h => exec_returnTokenDone_invalid h, fun row kinds hrow h => exec_lcsEnd_idle hrow h⟩,
    fun s => ⟨State.lcst_return, State.lcst_sealed, s.lcst_advanced⟩⟩
  have e : exec row s = done s (guarded w 15 2 u (lcsCtrl u s) s) := hu ▸ exec_lcsCtrl hrow
  have hcode' : ∀ c, code c = s.lcsCode c := hcode
  simp only [hcode']
  rw [e]
  refine ⟨fun c d r hset => ?_, fun hset h => ?_, fun r x hset h hb hr hx => ⟨fun hreach => ?_, fun hreach h48 hk => ?_,
    fun hreach hk => ?_⟩, fun t hset h hb ht => ⟨fun h0 hk0 hk1 => ?_, fun hok => ?_⟩, fun r hset h hb hr => ⟨fun hbuf => ?_, fun hbuf => ?_⟩⟩
  · rw [lcsCtrl_more hset, hrefuse]
    refine done_guarded_state hc rfl ?_
    split
    · decide
    next h => exact h
  · rw [lcsCtrl_one hset, hrefuse]
    exact done_guarded_state hc (State.lcsAct_code s b) h
  · subst hb
    rw [lcsCtrl_one hset, State.lcsAct_otp hr hx, hrefuse]
    exact done_guarded_range hc h hreach
  · subst hb
    rw [lcsCtrl_one hset, State.lcsAct_otp hr hx, hrefuse]
    exact done_guarded_extra hc h hreach (if_pos ⟨h48, hk⟩) (by decide)
  · subst hb
    rw [lcsCtrl_one hset, State.lcsAct_otp hr hx]
    exact done_guarded_clear hc h hreach (if_neg fun ⟨h48, hno⟩ => by simp [hk h48] at hno)
  · subst hb
    rw [lcsCtrl_one hset, State.lcsAct_advance ht, hrefuse]
    exact done_guarded_extra hc h rfl (if_pos ⟨h0, hk0, hk1⟩) (by decide)
  · subst hb
    rw [lcsCtrl_one hset, State.lcsAct_advance ht]
    refine done_guarded_clear hc h rfl (if_neg ?_)
    rintro ⟨h0, hk0, hk1⟩
    rcases hok with h | h | h
    · exact h h0
    · simp [hk0] at h
    · simp [hk1] at h
  · rw [lcsCtrl_one hset, State.lcsAct_token (hb ▸ Nat.le_refl 2) hr, hrefuse]
    exact done_guarded_range hc h hbuf
  · rw [lcsCtrl_one hset, State.lcsAct_token (hb ▸ Nat.le_refl 2) hr]
    exact done_guarded_clear hc h hbuf rfl

end Sys2Proof.Machine
end

section
/-! SUPPORT. The boot and the checks of a Folio (15 R487 to R489, R497 to R501). -/

namespace Sys2Proof.Machine

section
variable {s t : State} {ms : Word} {mute parts : BitVec 10} {bad : BitVec 4} {k : Nat}

/-! ### The boot source rests on straps and fuses -/

theorem State.bootSrc_congr (hp : t.pins = s.pins) (hu : t.upd = s.upd) : t.bootSrc = s.bootSrc := by
  cases s
  cases t
  cases hp
  cases hu
  rfl

theorem State.showRec_pins (s : State) : s.showRec.pins = s.pins := by simp [State.showRec]

theorem State.showRec_upd (s : State) : s.showRec.upd = s.upd := by simp [State.showRec]

theorem State.muteErr_pins (s : State) (parts : BitVec 10) : (s.muteErr parts).pins = s.pins := by
  unfold State.muteErr
  split <;> simp

theorem State.muteErr_upd (s : State) (parts : BitVec 10) : (s.muteErr parts).upd = s.upd := by
  unfold State.muteErr
  split <;> simp

/-- What step 4 records and shows leaves the boot source. -/
theorem State.bootSrc_showRec_muteErr (s : State) (parts : BitVec 10) : (s.muteErr parts).showRec.bootSrc = s.bootSrc :=
  State.bootSrc_congr ((State.showRec_pins _).trans (State.muteErr_pins s parts))
    ((State.showRec_upd _).trans (State.muteErr_upd s parts))

/-- `muteErr` in the order of the cases that R489 gives. -/
theorem State.muteErr_eq (s : State) (parts : BitVec 10) :
    (if s.upd.mute &&& parts = 0 then s else s.pageErr 14 eTIMEOUT 2) = s.muteErr parts := by
  unfold State.muteErr
  by_cases h : s.upd.mute &&& parts = 0 <;> simp [h]

/-! ### The boot after its clock -/

theorem State.bootFlash_recover (h : (s.muteErr 0b11).showRec.bootSrc = 2) :
    s.bootFlash ms bad = (s.muteErr 0b11).showRec.enterRecovery := by
  rw [State.bootSrc_showRec_muteErr] at h
  rw [State.bootFlash, if_pos h]

theorem State.bootFlash_active (h : (s.muteErr 0b11).showRec.bootSrc ≠ 2) :
    s.bootFlash ms bad = (if ((s.muteErr 0b11).showRec.bootActive ms bad).recovery then (s.muteErr 0b11).showRec.bootActive ms bad
      else ((s.muteErr 0b11).showRec.bootActive ms bad).muteErr 0b111100) := by
  rw [State.bootSrc_showRec_muteErr] at h
  rw [State.bootFlash, if_neg h]

/-! ### The commands -/

theorem State.booting_iff : s.booting = true ↔ s.pins.rstN = true ∧ s.bit (updKey 3) 5 = true := by
  rw [State.booting, Bool.and_eq_true]

theorem exec_bootSequence_run (hb : s.booting = true) (hk : s.bootKhz = some k)
    (ht : t = ({ s.bootClock k with upd := { (s.bootClock k).upd with mute := mute } } : State).bootFlash ms bad) :
    exec (.bootSequence ⟨ms, mute, bad⟩) s = .next (settle s { t with upd := { t.upd with mute := 0 } }) := by
  change execBootSequence ⟨ms, mute, bad⟩ s = _
  rw [execBootSequence, done, hb, hk, ht]

theorem exec_bootSequence_wait (h : s.booting = false ∨ s.bootKhz = none) :
    exec (.bootSequence ⟨ms, mute, bad⟩) s = .next (settle s s) := by
  change execBootSequence ⟨ms, mute, bad⟩ s = _
  rw [execBootSequence, done]
  rcases h with hb | hk
  · rw [hb]
  · rw [hk]
    cases s.booting <;> rfl

theorem exec_refclkMeasureTimeout (s : State) : exec .refclkMeasureTimeout s
    = .next (settle s (if s.booting = true ∧ s.upd.warm = false ∧ s.otpRow 49 = 0 ∧ s.bit (pg 2 3) 4 = false then
      (s.bootFail 0 0 eTIMEOUT).enterRecovery else s)) := rfl

end

/-! ### The checks in their order -/

/-- The first entry of a list whose test failed. -/
def firstFailure : List (Bool × Nat × Nat) → Nat × Nat
  | [] => (0, 0)
  | x :: r => if x.1 = true then x.2 else firstFailure r

theorem firstFailure_of_none {l : List (Bool × Nat × Nat)} (h : ∀ x ∈ l, x.1 = false) : firstFailure l = (0, 0) := by
  induction l with
  | nil => rfl
  | cons x r ih =>
    obtain ⟨hx, hr⟩ := List.forall_mem_cons.1 h
    simp [firstFailure, hx, ih hr]

theorem firstFailure_append {pre post : List (Bool × Nat × Nat)} {c : Nat × Nat} (h : ∀ x ∈ pre, x.1 = false) :
    firstFailure (pre ++ (true, c) :: post) = c := by
  induction pre with
  | nil => simp [firstFailure]
  | cons x r ih =>
    obtain ⟨hx, hr⟩ := List.forall_mem_cons.1 h
    simp [firstFailure, hx, ih hr]

/-- Checks 1 to 10 of Folio f in their order: whether each fails, its number and its code (R499). -/
def State.folioFailures (s : State) (f : Nat) : List (Bool × Nat × Nat) :=
  [(s.muted (6 + f), 1, eTIMEOUT), (!s.check1 f, 1, eCONFIG), (!s.trusts (sha256 (s.pubKey f)), 2, ePERM), (!s.check3 f, 3, ePERM),
    (!s.check4 f, 4, eCONFIG), (!s.check5 f, 5, ePERM), (decide ((s.colophon f).svn < s.fuseCount), 6, eRANGE), (!s.check7 f, 7, eCONFIG),
    (!check8 (s.compTable f), 8, eCONFIG), (!check9 (s.compTable f), 9, eCONFIG),
    (!check10 (s.compTable f) (s.colophon f).msgver, 10, eCONFIG)]

theorem State.bootChecks_eq (s : State) (f : Nat) : s.bootChecks f = firstFailure (s.folioFailures f) := by
  simp only [State.bootChecks, State.folioFailures, firstFailure, Bool.not_eq_true', decide_eq_true_eq]

end Sys2Proof.Machine
end

section
/-! SUPPORT. The boot commands (15 R487 to R489, R497 to R501). -/

namespace Sys2Proof.Machine

/-- Settles O60: a boot with a clock is `bootFlash` from the state with the parts that cannot be read, whose two branches are the two
clauses; the checks of a Folio are the first failure of their list. -/
theorem bootCommandsRun : Obligations.BootCommandsRun := by
  unfold Obligations.BootCommandsRun
  refine ⟨fun s ms mute bad boots hboots => ?_, fun s f l fails hl hfails => ?_⟩
  · rw [← State.booting_iff] at hboots
    refine ⟨fun k t seen ends ht hseen hends hb hk => ?_, fun h => exec_bootSequence_wait ?_, fun hb hw ho hx => ?_, fun h => ?_⟩
    · have hsee : ∀ m x, seen m x = x.muteErr m := fun m x => (hseen m x).trans (State.muteErr_eq x m)
      refine ⟨fun x hx hsrc => ?_, fun x y hx hy hsrc => ?_⟩
      · rw [hsee] at hx
        subst hx
        rw [hends, exec_bootSequence_run (hboots.1 hb) hk rfl, ← ht, State.bootFlash_recover hsrc]
      · rw [hsee] at hx
        subst hx
        rw [hends, exec_bootSequence_run (hboots.1 hb) hk rfl, ← ht, State.bootFlash_active hsrc, ← hy, hsee]
    · exact h.imp_left fun hb => Bool.eq_false_iff.2 (mt hboots.2 hb)
    · rw [exec_refclkMeasureTimeout, if_pos ⟨hboots.1 hb, hw, ho, hx⟩]
    · rw [exec_refclkMeasureTimeout, if_neg]
      rintro ⟨hb, hw, ho, hx⟩
      rcases h with h | h | h | h
      · exact h (hboots.2 hb)
      · simp [hw] at h
      · exact h ho
      · simp [hx] at h
  · have hlist : fails = s.folioFailures f := by rw [hfails, hl, State.folioFailures]
    rw [State.bootChecks_eq, ← hlist]
    exact ⟨fun pre c post hsplit hpre => hsplit ▸ firstFailure_append hpre, firstFailure_of_none⟩

end Sys2Proof.Machine
end
